-- ==== Sys2Proof/Word.lean ====
section
/-!
DEFINITION. The word types of the module: 32-bit register words, bytes, 64-bit ring stamps (R2, R8), and the sparse
table that every store of the model is held in.
-/

namespace Sys2Proof

/-- A register word (R8). -/
abbrev Word := BitVec 32

/-- A byte. -/
abbrev Byte := BitVec 8

/-- A ring stamp: cycle count in bits [63:12], angle in bits [11:0] (R2). -/
abbrev Stamp := BitVec 64

/-- A sparse table: pairs of a key and a value, keys strictly rising, no value equal to what an unlisted key holds. -/
abbrev Tab (α : Type) := List (Nat × α)

end Sys2Proof
end

