-- ==== Sys2Proof/Machine/Bits.lean ====
section
/-!
DEFINITION. Helpers on words: bit fields, two's complement, saturation, byte order, sparse tables, ring stamps and CRC-32.
-/

namespace Sys2Proof.Machine

/-! ### Bit fields -/

/-- Bits [hi:lo] of a word, as a number. -/
def bits (w : Word) (hi lo : Nat) : Nat := w.toNat / 2 ^ lo % 2 ^ (hi + 1 - lo)

/-- Bit `i` of a word. -/
def bit (w : Word) (i : Nat) : Bool := w.toNat / 2 ^ i % 2 = 1

/-- `w` with bits [hi:lo] holding the low bits of `v`. -/
def putBits (w : Word) (hi lo v : Nat) : Word :=
  BitVec.ofNat 32 (w.toNat - bits w hi lo * 2 ^ lo + v % 2 ^ (hi + 1 - lo) * 2 ^ lo)

/-- `w` with bit `i` set or clear. -/
def putBit (w : Word) (i : Nat) (b : Bool) : Word := putBits w i i b.toNat

/-- A number as a word, modulo 2^32. -/
def word (n : Nat) : Word := BitVec.ofNat 32 n

/-- A signed number as a word, two's complement. -/
def iword (x : Int) : Word := BitVec.ofInt 32 x

/-- The number an n-bit two's complement pattern stands for. -/
def signed (n v : Nat) : Int := if v % 2 ^ n < 2 ^ (n - 1) then (v % 2 ^ n : Nat) else ((v % 2 ^ n : Nat) : Int) - 2 ^ n

/-- Bits [hi:lo] of a word, signed. -/
def sbits (w : Word) (hi lo : Nat) : Int := signed (hi + 1 - lo) (bits w hi lo)

/-- The n-bit two's complement pattern of a number. -/
def unsigned (n : Nat) (x : Int) : Nat := (x % 2 ^ n).toNat

/-- A number narrowed to n bits, signed, wrapping. -/
def wrapS (n : Nat) (x : Int) : Int := signed n (unsigned n x)

/-- A number clamped to a range. -/
def clampI (lo hi x : Int) : Int := if x < lo then lo else if hi < x then hi else x

/-- A number clamped to a range. -/
def clampN (lo hi x : Nat) : Nat := if x < lo then lo else if hi < x then hi else x

/-- A count one higher, saturating at `2^n - 1`. -/
def satInc (n v : Nat) : Nat := min (v + 1) (2 ^ n - 1)

/-- The word with the 16-bit count in bits [15:0] one higher, saturating. -/
def incLow (w : Word) : Word := putBits w 15 0 (satInc 16 (bits w 15 0))

/-- The word with the 16-bit count in bits [31:16] one higher, saturating. -/
def incHigh (w : Word) : Word := putBits w 31 16 (satInc 16 (bits w 31 16))

/-- The bits a list of indices names. -/
def bitsOf (l : List Nat) : Nat := (l.eraseDups.map (fun i => 2 ^ i)).sum

/-- The indices below `n` whose bit is set. -/
def setBits (n v : Nat) : List Nat := (List.range n).filter (fun i => v.testBit i)

/-- Floor of the square root, decided bit by bit from bit `k - 1` down; `r` holds the bits found. -/
def isqrtFrom (n : Nat) : Nat → Nat → Nat
  | 0, r => r
  | k + 1, r => isqrtFrom n k (if (r + 2 ^ k) * (r + 2 ^ k) ≤ n then r + 2 ^ k else r)

/-- Floor of the square root. -/
def isqrt (n : Nat) : Nat := isqrtFrom n (n.log2 / 2 + 1) 0

/-! ### Sparse tables -/

/-- What a table holds under a key; `d` gives what an unlisted key holds. -/
def Tab.get {α : Type} (d : Nat → α) : Tab α → Nat → α
  | [], k => d k
  | (a, v) :: t, k => if k = a then v else Tab.get d t k

/-- A pair put in its place by key. -/
def Tab.insert {α : Type} (k : Nat) (v : α) : Tab α → Tab α
  | [] => [(k, v)]
  | (a, w) :: t => if k < a then (k, v) :: (a, w) :: t else (a, w) :: Tab.insert k v t

/-- A table without a key. -/
def Tab.erase {α : Type} (k : Nat) : Tab α → Tab α
  | [] => []
  | (a, w) :: t => if k = a then Tab.erase k t else (a, w) :: Tab.erase k t

/-- A table with `v` under `k`; a value equal to what an unlisted key holds is not listed. -/
def Tab.put {α : Type} [DecidableEq α] (d : Nat → α) (t : Tab α) (k : Nat) (v : α) : Tab α :=
  if v = d k then Tab.erase k t else Tab.insert k v (Tab.erase k t)

/-- The canonical form: keys strictly rising and no value that an unlisted key holds. -/
def Tab.wf {α : Type} [DecidableEq α] (d : Nat → α) : Tab α → Bool
  | [] => true
  | [(k, v)] => decide (v ≠ d k)
  | (k, v) :: (k', v') :: t => decide (v ≠ d k) && decide (k < k') && Tab.wf d ((k', v') :: t)

/-- Values put under consecutive keys. -/
def Tab.putAll {α : Type} [DecidableEq α] (d : Nat → α) : Tab α → Nat → List α → Tab α
  | t, _, [] => t
  | t, k, v :: l => Tab.putAll d (Tab.put d t k v) (k + 1) l

/-- A table without the keys that satisfy a test. -/
def Tab.dropIf {α : Type} (p : Nat → Bool) (t : Tab α) : Tab α := t.filter (fun c => !p c.1)

/-! ### Ring stamps -/

/-- The cycle count of a stamp (R2). -/
def cycleOf (s : Stamp) : Nat := s.toNat / 4096
/-- The angle of a stamp, in ticks (R2). -/
def angleOf (s : Stamp) : Nat := s.toNat % 4096
/-- The stamp `cycle:angle` (R2). -/
def stamp (cycle angle : Nat) : Stamp := BitVec.ofNat 64 (cycle * 4096 + angle)
/-- The short stamp of a stamp (R3). -/
def shortOf (s : Stamp) : Word := BitVec.ofNat 32 s.toNat
/-- The low and high words of a 64-bit value. -/
def lo32 (s : Stamp) : Word := BitVec.ofNat 32 s.toNat
def hi32 (s : Stamp) : Word := BitVec.ofNat 32 (s.toNat / 2 ^ 32)
/-- The 64-bit value of two words. -/
def join64 (hi lo : Word) : Stamp := BitVec.ofNat 64 (hi.toNat * 2 ^ 32 + lo.toNat)
/-- The first stamp at or after `s` whose angle is a multiple of `k` (a frame boundary for k = 8). -/
def roundUp (k : Nat) (s : Stamp) : Stamp := BitVec.ofNat 64 ((s.toNat + k - 1) / k * k)
/-- The first stamp after `s` whose angle is a multiple of `k`. -/
def nextMult (k : Nat) (s : Stamp) : Stamp := BitVec.ofNat 64 ((s.toNat / k + 1) * k)

/-! ### Byte order and CRC -/

/-- The n low bytes of a number, most significant first (R8). -/
def bytesBE : Nat → Nat → List Byte
  | 0, _ => []
  | n + 1, v => BitVec.ofNat 8 (v / 256 ^ n) :: bytesBE n v

/-- The n low bytes of a number, least significant first. -/
def bytesLE : Nat → Nat → List Byte
  | 0, _ => []
  | n + 1, v => BitVec.ofNat 8 v :: bytesLE n (v / 256)

/-- The number a list of bytes spells, most significant first. -/
def natBE (l : List Byte) : Nat := l.foldl (fun a b => a * 256 + b.toNat) 0

/-- The number a list of bytes spells, least significant first. -/
def natLE (l : List Byte) : Nat := l.foldr (fun b a => b.toNat + 256 * a) 0

/-- One bit of the reflected CRC-32 division. -/
def crcBit (c : Nat) : Nat := if c % 2 = 1 then (c / 2) ^^^ 0xEDB88320 else c / 2

/-- The CRC-32 register after one byte. -/
def crcByte (c : Nat) (b : Byte) : Nat :=
  crcBit (crcBit (crcBit (crcBit (crcBit (crcBit (crcBit (crcBit (c ^^^ b.toNat))))))))

/-- The CRC-32 of IEEE 802.3: polynomial 0x04C1_1DB7 reflected, initial value and final inversion all ones. -/
def crc32 (l : List Byte) : Nat := (l.foldl crcByte 0xFFFFFFFF) ^^^ 0xFFFFFFFF

end Sys2Proof.Machine
end

