-- ==== Sys2Proof/Machine/Data.lean ====
section
/-!
DEFINITION. The data commands carry: requesters, lane bits, fault sources, receptions, journal entries.
-/

namespace Sys2Proof

/-- A requester of the register fabric: cores 0 to 3, and 4 for the service-port bridge (R70). -/
abbrev Req := Fin 5

/-- A journal entry of the twin link (R451): kind 0 register, 1 window, 2 module update, 3 wrapped key. -/
structure JournalEntry where
  jseq : Nat
  stamp : Stamp
  kind : Nat
  req : Nat
  addr : Nat
  words : List Word
  deriving DecidableEq, Repr

/-! ### Sense acquisition and protection (spec/04, spec/07) -/

/-- What one sense lane received in the tick that just ended: the groups received after its ACLK edge 0, edge 1 and so on,
with those of the four periods that follow its last edge, which LAG attributes to it, bit m of a group for slot m (R85), and
the measured offset in 1/16 bit time (R86). -/
structure LaneBits where
  lane : Fin 13
  groups : List Byte
  offset : Int
  deriving DecidableEq, Repr

/-- The word that a parity error or an uncorrectable SECDED error touches (R77): a register write on the fabric, the sample
that is formed of an input, an input's sample in its store, or a word whose consumer's own command says what follows. -/
inductive BadWord where
  | write (req : Req) (a v : Word)
  | sample (i : Fin 104)
  | stored (i : Fin 104)
  | queueWord (x : Fin 1048576)
  | other
  deriving DecidableEq, Repr

/-- A SECDED error (R77): corrected, or one that leaves the word in error. -/
inductive EccError where
  | corrected
  | uncorrectable (w : BadWord)
  deriving DecidableEq, Repr

/-- How the write of a log record goes (R390, R394): its write failures at the position, and the corrected errors of its
read-back. -/
structure LogWrite where
  fails : Fin 3
  corrected : Fin 66
  deriving DecidableEq, Repr

/-- A fault source of the axe lines (R153). -/
inductive AxeSource where
  | pin (n : Fin 13)
  | lane (n : Fin 13)
  | fw
  | high (i : Fin 104)
  | low (i : Fin 104)
  deriving DecidableEq, Repr

/-- The source index of a fault source (R153). -/
def AxeSource.index : AxeSource → Nat
  | .pin n => n.val
  | .lane n => 0x010 + n.val
  | .fw => 0x020
  | .high i => 0x100 + i.val
  | .low i => 0x180 + i.val

/-! ### Feeder physical layer (spec/11) -/

/-- What a modem's receiver reports (R233, R235): the end of a preamble, at the frame's reference instant, with the gain
it set; then the frame: its 24 bytes of frame control, the decoded bytes of each codeword with whether its parity checks
passed, and the SNRs of each usable carrier, from 41 on, in 0.25 dB: diversity, stream A, stream B (R240). -/
inductive PhyRx where
  | preamble (gain : Fin 31)
  | frame (fc : List Byte) (blocks : List (List Byte × Bool)) (snr : List (Int × Int × Int))
  deriving DecidableEq, Repr

/-! ### Switch (spec/14) -/

/-- What enters the switch (R316): bytes on an uplink, destination address to FCS, with the block errors its PCS counted on
the way; the oldest upward PAYLOAD element of a feeder; or the turn of the next port to have a frame admitted (R321). -/
inductive SwitchIn where
  | uplink (u : Fin 2) (frame : List Byte) (blockErrors : Nat)
  | feeder (f : Fin 48)
  | turn
  deriving DecidableEq, Repr

/-! ### Segment protocol (spec/22) -/

/-- A client that connects (R466, R467): its TCP port and whether it comes over IPv6; whether its TLS offer has the
properties of R466; the roles of the trust anchor its chain ends at, none where it ends at no anchor; and its identity. -/
structure KspClient where
  port : BitVec 16
  ipv6 : Bool
  tls : Bool
  roles : Option (BitVec 5)
  ident : BitVec 64
  deriving DecidableEq, Repr

/-- What the module reads of a message's header and body before it acts on them (R469, R472): the session it came on, its
TXID, the first 8 bytes of the SHA-384 of its body, and whether it holds an unknown TLV with CRITICAL set. -/
structure KspHead where
  sess : Fin 8
  txid : BitVec 64
  digest : BitVec 64
  critical : Bool
  deriving DecidableEq, Repr

/-- A commit point (R473): none, a ring stamp, or a civil time in TB3 format. -/
inductive CommitPoint where
  | none
  | ring (at_ : Stamp)
  | civil (at_ : BitVec 96)
  deriving DecidableEq, Repr

/-- A message of the bundleable kind (R479): REG_WRITE, WIN_WRITE, BANK_COMMIT (0 CEN, 1 YRD, 2 SCH, 3 MTR correction),
OVERRIDE (slot and the eight words of its content), SCENE_SWITCH, SETPOINT (a channel, or the bus), LEVEL, PATTERN_START,
ENDPOINT_BUDGET (RATE and BURST downward, then upward). -/
inductive KspMember where
  | regWrite (l : List (Word × Word))
  | winWrite (addr : Word) (data : List Word)
  | bankCommit (bank : Fin 4)
  | override (slot : Fin 256) (content : List Word)
  | sceneSwitch (scene : Fin 64) (on : Bool)
  | setpoint (target : Option (Fin 48)) (v : Word)
  | level (ch : Fin 48) (v : Word)
  | patternStart (e : Fin 8)
  | endpointBudget (e : Fin 16384) (rateDn burstDn rateUp burstUp : Word)
  deriving DecidableEq, Repr

/-- A MEMBER of a BUNDLE (R473): the message, and whether it carries a commit point of its own. -/
structure BundleMember where
  msg : KspMember
  stamped : Bool
  deriving DecidableEq, Repr

/-- A TIME_STEP (R479): SNAP, or VALUE with a civil time in TB3 format. -/
inductive TimeStep where
  | snap
  | value (at_ : BitVec 96)
  deriving DecidableEq, Repr

/-- A TZ_LOAD (R348, R479): the words of TZ_CFG and the two rules, and the table entries in order. -/
structure ZoneLoad where
  cfg : Word
  rules : List Word
  table : List (List Word)
  deriving DecidableEq, Repr

/-- A TWIN_CMD (R462, R479): HANDOVER, or DRILL at a ring stamp with RETURN. -/
inductive TwinCmd where
  | handover
  | drill (at_ : Stamp) (ret : BitVec 16)
  deriving DecidableEq, Repr

/-- A configuration record (R423): its TYPE, its SCHEMA and its body. -/
structure ConfigRecord where
  typ : BitVec 16
  schema : BitVec 16
  body : List Byte
  deriving DecidableEq, Repr

end Sys2Proof
end

