-- ==== Sys2Proof/Machine/Blocks.lean ====
section
/-!
DEFINITION. The state of each block beside its registers: what the chapters of spec/ make a block remember.
Registers live in the register file (State.regs, RegMap.lean); a structure here holds the rest. Every field's
default value is its value at reset.
-/

namespace Sys2Proof.Machine

/-! ### SYS and the register fabric (spec/03) -/

/-- What the fabric keeps for one requester: the 64-bit read latch with its tag and the write staging word (R71).
`rdata` is the model's own record of the last value the requester read. -/
structure ReqPort where
  latchTag : Nat := 0
  latchHi : Word := 0
  stageTag : Nat := 0
  stage : Word := 0
  rdata : Word := 0
  deriving DecidableEq, Repr

/-- The kinds of reset (R78). -/
inductive ResetKind where
  | powerOn | warm | system | core
  deriving DecidableEq, Repr

/-- SYS: requester ports and watchdog. -/
structure Sys where
  ports : Tab ReqPort := []
  /-- The TIMEOUT the watchdog took at its last restart, in ms; 0 while it has never started (R80). -/
  wdogTaken : Nat := 0
  /-- Half of the taken timeout has passed since the restart (R80). -/
  wdogWarned : Bool := false
  deriving DecidableEq, Repr

/-! ### Power and housekeeping (spec/02) -/

/-- What a write made while PD4 is off still has to do when PD4 comes up (R72): a set-point, bus set-point, level or
engine armed for a stamp with its staged value, a commit or a table check asked for, records re-armed. -/
inductive Deferred where
  | setPoint (k v : Nat) (at_ : Stamp)
  | busSetPoint (v : Nat) (at_ : Stamp)
  | level (k v : Nat) (at_ : Stamp)
  | engine (e : Nat) (at_ : Stamp)
  | commit (table : Bool)
  | check (withTable : Bool)
  | rearm (mask : Nat)
  deriving DecidableEq, Repr

/-- PWR beside its registers. -/
structure Pwr where
  /-- Domains with power-good, bit k for PDk; PD0 is always powered (R54). -/
  up : Nat := 1
  /-- VIN24 is above the power-fail threshold. -/
  vinOk : Bool := false
  /-- Input loss is declared and the hold runs (R58). -/
  pf : Bool := false
  /-- The last start was warm (R60). -/
  warm : Bool := false
  /-- Load shedding of R58 is complete. -/
  shed : Bool := false
  /-- The final metering commit of the hold is done (R200). -/
  finalDone : Bool := false
  /-- MRAM write protect is asserted (R59). -/
  mramProtect : Bool := false
  /-- A bank test is running, or requested by GO (R61). -/
  testRunning : Bool := false
  testAsked : Bool := false
  /-- Usable energy at full charge from the last bank test, mJ, held in MRAM; none before the first test (R61). -/
  bankMj : Option Nat := none
  holdReady : Bool := false
  holdLow : Bool := false
  cellLow : Bool := false
  vinOv : Bool := false
  tempHigh : Bool := false
  /-- PD3 is out of reset (R482). -/
  pd3Released : Bool := false
  /-- The slot identity sampled at PD3 release: false A, true B (R45). -/
  slotB : Bool := false
  /-- TWIN_PRESENT debounced: a partner module is inserted (R45). -/
  twinPresent : Bool := false
  /-- Boards registered present, bit n for SBn (R41). -/
  boards : Nat := 0
  /-- The levels of HK_IN0 to HK_IN7 as last sampled, before INVERT (R48, R65). -/
  hkRaw : Nat := 0
  /-- PCYCLE_CNT and RLY_CNT, held in MRAM (R64, R65). -/
  pcycle : Word := 0
  rlyCnt : Tab Word := []
  /-- Writes made while PD4 is off that take effect when it comes up, oldest first (R72). -/
  deferred : List Deferred := []
  deriving DecidableEq, Repr

/-! ### Ring count (spec/01) -/

/-- The zero-crossing filter of one phase (R13). Positions are in 1/256 tick, counted in ticks since PD5 power-up,
which the first-lock step does not relabel. -/
structure Phase where
  /-- The last 31 samples, newest first. -/
  hist : List Int := []
  /-- The moving sum of the tick before. -/
  u : Int := 0
  armed : Bool := false
  peak : Nat := 0
  /-- Position of the last valid crossing, and the timeout computed at it (R15). -/
  cross : Option Int := none
  tOut : Nat := 0
  /-- Phase error and position of the last valid crossing of this cycle (R14, R16). -/
  err : Option Int := none
  posn : Option Int := none
  deriving DecidableEq, Repr

/-- One entry of the correspondence table (R32); times in units of 2^-16 ns. -/
structure MapEntry where
  cycle : Nat
  tb3 : Nat
  tb0 : Nat
  deriving DecidableEq, Repr

/-- The RCT block beside its registers. -/
structure Rct where
  /-- Ticks since PD5 power-up, never relabelled. -/
  ticks : Nat := 0
  phases : Tab Phase := []
  /-- The frequency in force on the angle clock (R18), Q8.24 Hz, and the last four before it, newest first, each with the
  tick, counted as `ticks` counts, at which it gave way (R187). -/
  clk : Nat := 838860800
  clkPast : List (Nat × Nat) := []
  integ : Nat := 838860800
  fq : Nat := 838860800
  /-- Consecutive cycles that read positive and negative (R16). -/
  seqPos : Nat := 0
  seqNeg : Nat := 0
  /-- The qualification run: the last valid L1 crossing of it, intervals so far and their sum (R19). -/
  runLast : Option Int := none
  runCount : Nat := 0
  runSum : Nat := 0
  /-- A completed qualification: the position of its last crossing and the tick it was recorded in (R19, R23). -/
  qual : Option (Int × Nat) := none
  /-- Consecutive updates beyond 128 ticks, within 16 ticks in PULLIN, within 8 ticks in LOCKED (R20, R22). -/
  bigCount : Nat := 0
  convCount : Nat := 0
  lockCount : Nat := 0
  /-- Cycles since PULLIN began (R20). -/
  pullCycles : Nat := 0
  /-- A forced flywheel waits for RELEASE (R21). -/
  forced : Bool := false
  /-- The correspondence table, oldest first (R32). -/
  map : List MapEntry := []
  deriving DecidableEq, Repr

/-! ### Time bases and calendar (spec/15) -/

/-- A time base (R335): seconds, nanoseconds and `sub` in units of 2^-48 ns. -/
structure TimeBase where
  s : Nat := 0
  ns : Nat := 0
  sub : Nat := 0
  deriving DecidableEq, Repr

/-- What a PTP domain keeps beside its registers (R340): `integ`, and TB0 at the last MEAS write and the last step. -/
structure PtpDomain where
  integ : Int := 0
  measAt : Nat := 0
  stepAt : Nat := 0
  deriving DecidableEq, Repr

/-- The zone registers and the transition table in force (R348, R349). -/
structure Zone where
  cfg : Word := 0
  start : Word := 0x00780653
  stop : Word := 0x00B4065A
  /-- The entries in use: UTC second and offset in minutes. -/
  table : List (Int × Int) := []
  deriving DecidableEq, Repr

/-- The TIM block beside its registers: the bases, the domains, rate_src of the last update with a source (R344), a SNAP
waiting for the next update with its requester (R346), a load of the RTC waiting for TB3's next whole second (R347), the
zone in force, the converted deadlines of local alarms, and the alarms a step took beyond their deadline (R350). -/
structure Tim where
  tb : Tab TimeBase := []
  doms : Tab PtpDomain := []
  heldRate : Int := 0
  /-- Fabric clocks of the reference oscillator since PD1 came up, and at the last tick strobe (R30, R234). -/
  osc : Nat := 0
  strobe : Nat := 0
  snap : Option Nat := none
  rtcLoad : Bool := false
  zone : Zone := {}
  localAt : Tab Nat := []
  skip : Nat := 0
  /-- What a write of mtime added to its count (R361). -/
  mtimeOff : Nat := 0
  deriving DecidableEq, Repr

/-- The RTC beside its registers: seconds since 2000-01-01, the trim residue and the length of the present second in
crystal edges (R353), whether PD0 was lost before the coming power-up (R355), where the trim window began, in cycles or
in TB3 (R354), and the alarms a load took beyond their value (R356). -/
structure Rtc where
  secs : Nat := 0
  tacc : Int := 0
  len : Nat := 32768
  lost : Bool := true
  winFrom : Nat := 0
  skip : Nat := 0
  deriving DecidableEq, Repr

/-! ### Sense acquisition (spec/04) -/

/-- A released sample: calibrated value and flags (R95, R97). -/
structure Sample where
  value : Int := 0
  valid : Bool := false
  ovr : Bool := false
  settle : Bool := false
  deriving DecidableEq, Repr

/-- The filters and flags of one input (R89 to R97). -/
structure SnsIn where
  i1 : BitVec 32 := 0
  i2 : BitVec 32 := 0
  i3 : BitVec 32 := 0
  d1 : BitVec 32 := 0
  d2 : BitVec 32 := 0
  d3 : BitVec 32 := 0
  /-- Run counter of equal bits, saturating at 255, and the last bit (R95). -/
  run : Nat := 0
  last : Option Bool := none
  /-- Consecutive ticks whose bits kept the run counter below 128, up to 4. -/
  quiet : Nat := 0
  /-- Which of the last three ticks saw the run counter at 32 or above, newest in bit 0 (R96). -/
  hot : Nat := 0
  gPrev : Int := 0
  /-- CFG, OFFSET, GAIN and DLY in force in the present tick (R103). -/
  cfg : Word := 0x00081000
  offset : Nat := 0
  gain : Nat := 0x400000
  dly : Nat := 0x82
  /-- The last sample computed was present (R93). -/
  wasOk : Bool := false
  /-- A parity error touches the sample being formed; the sample in its store cannot be read (R77, R121). -/
  perr : Bool := false
  unread : Bool := false
  /-- A parity error touched g_prev (R95). -/
  gBad : Bool := false
  acc : Int := 0
  /-- Ticks of SETTLE left for a coil input (R93). -/
  settleLeft : Nat := 0
  /-- The sample computed and not yet released. -/
  held : Sample := {}
  /-- The last released sample, and the value of the last present one. -/
  released : Sample := {}
  lastGood : Int := 0
  /-- The sample store, by tick modulo 16 (R30, R97). -/
  store : Tab Sample := []
  /-- The sinc2 path: integrators, combs, run counter, and consecutive delivered quiet bits up to 15 (R90). -/
  j1 : BitVec 16 := 0
  j2 : BitVec 16 := 0
  e1 : BitVec 16 := 0
  e2 : BitVec 16 := 0
  fRun : Nat := 0
  fLast : Option Bool := none
  fGood : Nat := 0
  deriving DecidableEq, Repr

/-- A playback record fetched for a tick (R98): lanes present and valid, and the groups of each lane. -/
structure PbRecord where
  tick : Stamp
  present : Nat
  valid : Nat
  groups : Tab (List Byte)
  deriving DecidableEq, Repr

/-- Sense acquisition beside its registers. -/
structure Sns where
  inputs : Tab SnsIn := []
  /-- Consecutive ticks in which each lane delivered bits without a change of source, up to 4. -/
  laneTicks : Tab Nat := []
  /-- The playback source: whether it is armed for playback, the records fetched, and the stop due at a tick. -/
  play : Bool := false
  fetched : List PbRecord := []
  nextFetch : Stamp := 0
  stopAt : Option (Stamp × Nat) := none
  /-- The source of the lanes changed within the present tick (R95, R101). -/
  mixed : Bool := false
  /-- The lanes that were in DATA for the whole of the tick that ended last, bit n for SBn (R98). -/
  whole : Nat := 0
  /-- Ticks since a playback last ran, up to 4 096 (R450). -/
  sincePlay : Nat := 4096
  /-- The last tick in which a playback was on (R453). -/
  lastPlay : Option Stamp := none
  deriving DecidableEq, Repr

/-! ### Control engine (spec/05) -/

/-- The loop state of a record (R114 to R123). -/
structure Loop where
  u : Int := 0
  o : Int := 0
  i : Int := 0
  io : Int := 0
  ifb : Int := 0
  rs : Int := 0
  yPrev : Int := 0
  dstate : Int := 0
  n11 : Int := 0
  n12 : Int := 0
  n21 : Int := 0
  n22 : Int := 0
  halt : Bool := false
  fb : Bool := false
  auto : Bool := false
  /-- A rearm waits for a frame boundary (R123). -/
  rearm : Bool := false
  deriving DecidableEq, Repr

/-- A commit waiting for its boundary (R125): the boundary, the stamp asked for, late, and with the slot table. -/
structure Commit where
  at_ : Stamp
  asked : Stamp
  late : Bool
  table : Bool
  deriving DecidableEq, Repr

/-- The control engine beside its registers. The slot tables and the coefficient banks are words of W0. -/
structure Cen where
  loops : Tab Loop := []
  /-- The loop states at the last frame boundary, which W0 shows (R129). -/
  snap : Tab Loop := []
  /-- The repetitive memories, leg × 1 024 + index (R118). -/
  rc : Tab Int := []
  /-- Outputs written in the present tick, and those latched at the last strobe (R107). -/
  wrote : Tab Int := []
  latched : Tab Int := []
  /-- Compare values on their way to the carriers: the tick from which each applies, its record and value (R133). -/
  flow : List (Stamp × Nat × Nat) := []
  /-- The engine runs: CTRL bit 0 and a frame boundary since (R127). -/
  run : Bool := false
  bank : Bool := false
  copying : Bool := false
  commit : Option Commit := none
  /-- WITH_TABLE of the check that set TBL_STAT.VALID (R126). -/
  checked : Bool := false
  /-- The last due evaluations of LR51 in a row that left o at OMAX (R139). -/
  omaxRun : Nat := 0
  deriving DecidableEq, Repr

/-! ### Front end and channels (spec/06) -/

/-- The front end beside its registers. -/
structure Mfe where
  /-- HALTED was entered by PRE_TIMEOUT (R136). -/
  byTimeout : Bool := false
  /-- The legs are in gate-off (R134). -/
  legsOff : Bool := true
  /-- CTRL bit 0 was cleared since the last frame boundary (R136). -/
  offDue : Bool := false
  /-- When the present state was entered. -/
  since : Stamp := 0
  /-- Consecutive ticks of PRECHARGE with the bus within 4 V, and settled (R137). -/
  settleRun : Nat := 0
  settled : Bool := false
  /-- Consecutive ticks below SAG_LVL and below BUS_UV, or absent (R139, R141). -/
  sagRun : Nat := 0
  uvRun : Nat := 0
  /-- The sag condition held in the last tick, and since when the clear condition has held (R139). -/
  sag : Bool := false
  clearFrom : Option Stamp := none
  /-- SAG_CFG, SHED_CFG and UV_CFG in force. -/
  sagCfg : Word := 0x00080168
  shedCfg : Word := 0x0A320200
  uvCfg : Word := 0x00C80118
  /-- The first shedding boundary of a sequence, or the last one that has passed with false (R140). -/
  shedAt : Option (Stamp × Bool) := none
  /-- RIDE is entered at the next frame boundary. -/
  ride : Bool := false
  /-- Undervoltage sheds every channel at the next frame boundary (R141). -/
  uvShed : Bool := false
  /-- The cycle of the last class restored (R142). -/
  restored : Nat := 0
  /-- The pending bus set-point and its boundary (R147). -/
  pend : Option (Nat × Stamp) := none
  deriving DecidableEq, Repr

/-- A channel beside its registers. -/
structure Channel where
  /-- MODE and PRIO in force (R144, CHN pages). -/
  mode : Bool := false
  prio : Nat := 3
  /-- The pending set-point and its boundary (R147). -/
  pend : Option (Nat × Stamp) := none
  /-- The boundary at which a restored channel starts (R142). -/
  restoreAt : Option Stamp := none
  /-- Shed by R140 or R141, not at enable. -/
  bySag : Bool := false
  /-- When the present state was entered. -/
  since : Stamp := 0
  /-- A halted channel has reached gate-off (R146). -/
  safeOff : Bool := false
  /-- EN was cleared since the last frame boundary (R145). -/
  offDue : Bool := false
  deriving DecidableEq, Repr

/-! ### Dimming, patterns and diagnostics (spec/10) -/

/-- A string check to come (R220): the start of its dim period, the boundary of the last frame of the burst, and
r_cmd_eff. -/
structure StringCheck where
  start : Stamp
  last : Stamp
  rEff : Int
  deriving DecidableEq, Repr

/-- What dimming keeps for a channel (R209 to R217, R220 to R223). -/
structure LgtCh where
  /-- The pending level and its boundary. -/
  pend : Option (Nat × Stamp) := none
  acc : Int := 0
  dcnt : Nat := 0
  /-- The present and the last burst: first absolute frame and length (R212). -/
  burst : Nat × Nat := (0, 0)
  lastBurst : Nat × Nat := (0, 0)
  /-- r_cmd_eff of the dim period; none while the channel has none, not dimmed or not yet computed (R208, R211). -/
  rEff : Option Int := none
  /-- The member copy of a pattern: its engine, step, elapsed periods, duration, fade start, level, loop count (R215). -/
  engine : Option Nat := none
  step : Nat := 0
  t : Nat := 0
  dur : Nat := 0
  from_ : Nat := 0
  lvl : Nat := 0
  cnt : Nat := 0
  needStep : Bool := true
  ended : Bool := false
  /-- The string checks to come, oldest first (R220). -/
  checks : List StringCheck := []
  /-- The last result of a check; a feeder check's sums of current and voltage over the present cycle, none once it is
  spoilt, and those of the cycle that ended (R222). -/
  result : Option Nat := none
  sums : Option (Int × Int) := none
  ready : Option (Int × Int) := none
  deriving DecidableEq, Repr

/-- What a pattern engine keeps (R216): the pending start boundary, the boundary of its run, and what takes effect at the
next dim-period boundary. -/
structure PatternEngine where
  pend : Option Stamp := none
  began : Stamp := 0
  stop : Bool := false
  /-- The pending start was armed after the STOP that waits. -/
  afterStop : Bool := false
  errorAt : Option Stamp := none
  deriving DecidableEq, Repr

/-- Dimming and diagnostics beside their registers. -/
structure Lgt where
  chs : Tab LgtCh := []
  engines : Tab PatternEngine := []
  /-- ANALOG_MIN of the last dim period. -/
  amin : Nat := 6554
  /-- DIAG_CFG as the last dim-period boundary took it (R226). -/
  diag : Word := 0x00030140
  deriving DecidableEq, Repr

/-! ### Stage link (spec/08) -/

/-- The link to one board (R172, R173): the command frames of the last 32 ticks with SEQ, launch stamp and whether each
is settled (answered or counted missing), the chosen version (0 none), accepted statuses of that version in a row, and the
stamp of the last accepted status. -/
structure StlBoard where
  launches : List (Nat × Stamp × Bool) := []
  ver : Nat := 0
  /-- VER_LIMIT at the entry to NEGOTIATE (R182). -/
  limit : Nat := 2
  good : Nat := 0
  heard : Stamp := 0
  deriving DecidableEq, Repr

/-- The stage link beside its registers: the boards, and the entry bytes launched in the last launch tick (R448). -/
structure Stl where
  boards : Tab StlBoard := []
  launchedAt : Stamp := 0
  launched : List Byte := []
  /-- When each board's LINK_LOST was last raised (R461). -/
  lostAt : Tab Stamp := []
  deriving DecidableEq, Repr

/-! ### Metering (spec/09) -/

/-- One set of accumulators and pulse state (R188, R194, R196): the 106 accumulators in the order of R197, each
count × 2^64 + residue, and pacc, pend and count of PULSE_AC (0) and PULSE_DC (1). -/
structure MtrSet where
  acc : Tab Nat := []
  pacc : Tab Nat := []
  pend : Tab Nat := []
  cnt : Tab Nat := []
  deriving DecidableEq, Repr

/-- An energy gap that is open (R186): its first and last ticks, its length, its cause and PCYCLE_CNT at its start. -/
structure MtrGap where
  first : Stamp
  last : Stamp
  ticks : Nat
  cause : Nat
  pcycle : Nat
  deriving DecidableEq, Repr

/-- What metering keeps for a pair, by sensor index (R183): CHk k, L1 to L3 48 to 50, neutral 51. -/
structure MtrPair where
  /-- p of the last present tick, and absent ticks in a row (R186). -/
  held : Int := 0
  absent : Nat := 0
  gap : Option MtrGap := none
  noload : Bool := false
  /-- Corrected current RMS of the last valid cycle; gain and phase of the cycle (R189, R191). -/
  rms : Nat := 0
  g : Int := 1073741824
  ph : Int := 0
  /-- The sums of the cycle (R190). -/
  vSq : Nat := 0
  iSq : Nat := 0
  vxc : Int := 0
  vxs : Int := 0
  ixc : Int := 0
  ixs : Int := 0
  sp : Int := 0
  invalid : Bool := false
  ovr : Bool := false
  deriving DecidableEq, Repr

/-- An open voltage event of a phase (R193). -/
structure MtrEvent where
  cls : Nat
  start : Stamp
  extreme : Nat
  deriving DecidableEq, Repr

/-- A pulse output (R195): on, the tick of its last edge, and whether the pulse on is of the billing set. -/
structure MtrPulse where
  on : Bool := false
  edge : Nat := 0
  billing : Bool := true
  deriving DecidableEq, Repr

/-- A tick whose samples metering holds (R185): its label, and whether playback was ARMED or RUNNING in it or stopped at most
four ticks before (R196). -/
structure MtrTick where
  at_ : Stamp
  play : Bool := false
  deriving DecidableEq, Repr

/-- A commit that is due (R198): the set and the last tick it includes, and for the commit of an input loss the TRUNCATED
flag (R200). -/
structure MtrCommit where
  set : MtrSet
  last : Stamp
  final : Option Bool := none
  deriving DecidableEq, Repr

/-- A slot being written (R198): its number, its SEQ and its bytes 0 to 2 039. -/
structure MtrWrite where
  slot : Nat
  seq : Nat
  body : List Byte
  deriving DecidableEq, Repr

/-- Metering beside its registers. -/
structure Mtr where
  billing : MtrSet := {}
  test : MtrSet := {}
  /-- The accumulators as last published, of the two sets (R190). -/
  pubBilling : Tab Nat := []
  pubTest : Tab Nat := []
  pairs : Tab MtrPair := []
  /-- The last 65 samples of each input, and the ticks since metering started, at most the last 66, newest first (R185). -/
  hist : Tab (List Sample) := []
  labels : List MtrTick := []
  /-- The metering tick processed last belongs to a playback or to the four ticks after it (R196). -/
  play : Bool := false
  /-- A cycle has ended and waits for its publication: its stamp C:0 (R190). -/
  pubDue : Option Stamp := none
  /-- A metering tick of the cycle was processed outside LOCKED (R190). -/
  unlocked : Bool := false
  events : Tab (Option MtrEvent) := []
  pulses : Tab MtrPulse := []
  corPending : Bool := false
  copying : Bool := false
  /-- The billing set after C:4 095, with the last tick it includes, for the commit of cycle C (R198). -/
  due : Option MtrCommit := none
  /-- The slot being written (R198). -/
  writing : Option MtrWrite := none
  /-- The last slot written, none before the first. -/
  lastSlot : Option Nat := none
  /-- The committed last tick and power-cycle count, from which the first metered tick opens a gap (R201). -/
  resume : Option (Stamp × Nat) := none
  /-- Bytes 8 to 15 of the slot restored at the last PD1 power-up (R445). -/
  restoredLast : Stamp := 0
  /-- The test set after the last tick C:4 095 that precedes a commit, with that tick (R453). -/
  snap : Option (MtrSet × Stamp) := none
  deriving DecidableEq, Repr

/-! ### Axe lines (spec/07) -/

/-- What the axe block keeps for one fault source (R153 to R160). -/
structure AxeSrc where
  /-- The class in force of the source's latch, and whether its history entry carries PLAYBACK. -/
  latch : Option Nat := none
  latchPb : Bool := false
  /-- The stamp of the trip that set the latch. -/
  tripAt : Stamp := 0
  /-- Stamps of the last 15 trips, newest first (R160). -/
  trips : List Stamp := []
  /-- Trips of a pin or lane source. -/
  count : Nat := 0
  /-- Consecutive counted fast outputs, and consecutive valid uncounted ones up to 8 (R158, R159). -/
  run : Nat := 0
  good : Nat := 0
  /-- Since when the source has been healthy. -/
  okSince : Stamp := 0
  deriving DecidableEq, Repr

/-- The axe block beside its registers. -/
structure Axe where
  srcs : Tab AxeSrc := []
  /-- AXE_OUTn drives RUN, bit n (R156, R163). -/
  out : Nat := 0
  fwMask : Nat := 0
  /-- The moment of the first trip within its tick (R161). -/
  firstSlot : Option Nat := none
  /-- The release boundary of each board, for the restart of its channels (R163). -/
  releasedAt : Tab Stamp := []
  /-- Digital trips of the last tick that had one, by source index (R445). -/
  tripped : List Nat := []
  trippedAt : Stamp := 0
  deriving DecidableEq, Repr

/-! ### Tally log (spec/18) -/

/-- A record waiting in the write queue: its code, the stamp of the event and its payload (R386, R387). -/
structure LogEntry where
  code : Nat
  stamp : Stamp
  payload : List Byte
  deriving DecidableEq, Repr

/-- The token bucket of a code (R393): `cfg` is CODE_CFG as written, `force` the one in force. -/
structure Bucket where
  cfg : Word
  force : Word
  tok : Nat
  sup : Nat := 0
  first : Stamp := 0
  last : Stamp := 0
  deriving DecidableEq, Repr

/-- The Tally log beside its registers: the write queue, the buckets, the write position and the bank status.
The banks and the stump buffer themselves are bytes of memory behind W9 and W10. -/
structure Evr where
  queue : List LogEntry := []
  buckets : Tab Bucket := []
  /-- The SEQ of the newest committed record and of the next one. -/
  nextSeq : Word := 1
  headSeq : Word := 0
  headAddr : Nat := 0
  oldestSeq : Word := 0
  oldestAddr : Nat := 0
  /-- Current segment, 0–63 A, 64–127 B, 128–142 stump, the write position in it and its EPOCH (R389). -/
  seg : Nat := 0
  pos : Nat := 16
  epoch : Word := 0
  failA : Bool := false
  failB : Bool := false
  stump : Bool := false
  stumpFailed : Bool := false
  /-- The first segments of banks that BANK_CLR returned, opened next, and the segments that count as empty (R396). -/
  returned : List Nat := []
  void : List Nat := []
  opsec : Word := 0
  /-- Generation of the stump control block and whether the next write goes to the copy at 2 048 (R397). -/
  ctlGen : Nat := 0
  ctlSecond : Bool := false
  /-- The SEQ a SEEK looks for while BUSY (R398). -/
  seeking : Option Word := none
  deriving DecidableEq, Repr

/-! ### Feeder MAC and node table (spec/12) -/

/-- A frame the MAC holds (R255 to R260): the model's number of it, FTYPE, node of FINAL (4 096 for a broadcast), KEY,
whether the receiver is a node not yet joined, the plaintext, E2E, its place in the order of R260, its execution stamp,
for a frame to a node that has not joined its sponsor's entry (4096 the module, R265); the address of its first hop; the
endpoints and sequence numbers its reports name, its FCNT once sent, transmissions so far, the cycle of SENT, and the
tick at which its acknowledgement is due. -/
structure MacFrame where
  tag : Nat := 0
  ftype : Nat := 1
  node : Nat
  key : Nat := 0
  temp : Bool := false
  sponsor : Nat := 4096
  hop1 : Nat := 0
  body : List Byte
  e2e : Bool := false
  prio : Nat := 3
  exec : Nat := 0
  seqs : List (Nat × Nat) := []
  fcnt : Option Nat := none
  tries : Nat := 0
  sent : Option Nat := none
  due : Option Stamp := none
  deriving DecidableEq, Repr

/-- An allocation of the beacon (R257). -/
structure Alloc where
  tx : Nat
  rx : Nat
  flags : Nat
  ackOfs : Nat
  start : Nat
  len : Nat
  deriving DecidableEq, Repr

/-- A join session (R268): EUI-64, node entry, whether the entry was created for it, the bytes of REQ and CHAL after JSTEP,
the node's public key, the module's ephemeral private key, the nonces as salt, the cycle of its last step, the next step expected
from the node (3 AUTH, 5 CONFIRM), and the number of the module's frame that it answers. -/
structure JoinSession where
  eui : Nat
  node : Nat
  created : Bool
  req : List Byte
  chal : List Byte
  peer : List Byte
  priv : List Byte
  salt : List Byte
  at_ : Nat
  step : Nat
  tag : Nat
  deriving DecidableEq, Repr

/-- A cruise (R273, R274): nodes still to probe, the cycle of the last probe, SNR codes of the probes the module received,
the reports received by address (pairs of address, 256 for the module, and SNR code), nodes whose ROUTE is not acknowledged,
the cycle APPLY was written and the effective cycle. -/
structure Cruise where
  probing : List Nat := []
  started : Bool := false
  lastProbe : Nat := 0
  heard : Tab Nat := []
  reports : Tab (List (Nat × Nat)) := []
  reporting : List Nat := []
  routing : List Nat := []
  applyAt : Nat := 0
  effective : Option Nat := none
  deriving DecidableEq, Repr

/-- A mask change under way (R272): the GO cycle, FORCE, nodes yet to acknowledge, and S. -/
structure MaskChange where
  go : Nat
  force : Bool
  waiting : List Nat
  at_ : Option Nat
  committed : Bool := false
  deriving DecidableEq, Repr

/-- The MAC of a feeder beside its registers: the layout in force, the module's frame counter under the group keys, the
next frame number, frames waiting or sent, end-to-end frames whose CMD_ACK is awaited, the allocations of the cycle, the
last endpoint served, join sessions, cruise and mask change, and the REQs of the last 4 cycles without their paths, by which
one that several relays bring is known (R267). -/
structure Mac where
  maxhop : Nat := 8
  bslot : Nat := 8
  cont : Nat := 3552
  fcnt : Nat := 0
  next : Nat := 1
  out : List MacFrame := []
  await : List MacFrame := []
  allocs : List Alloc := []
  served : Nat := 0
  sessions : List JoinSession := []
  cruise : Cruise := {}
  mask : Option MaskChange := none
  reqs : List (Nat × List Byte) := []
  deriving DecidableEq, Repr

/-- What the MAC keeps for a node beside its entry: by KEY, one more than the highest FCNT accepted and the set seen of the
64 below it (R256); the last 16 end-to-end delays (R259); bytes reported queued upward, the cycle of the last grant (R260);
the module's frame counter under the node key; and that FREE waits for C:0 (R280). -/
structure MacNode where
  high : Tab Nat := []
  seen : Tab Nat := []
  delays : List Nat := []
  qrep : Nat := 0
  granted : Nat := 0
  fcnt : Nat := 0
  deriving DecidableEq, Repr

/-- Elements a lantern's endpoint is to receive: endpoint index, class, body (R275). -/
structure HeldElem where
  ep : Nat
  cls : Nat
  body : List Byte
  deriving DecidableEq, Repr

/-- A report of R259: 0 SENT, 1 DELIVERED with the outcome of R264, 2 FAILED, for an endpoint and a sequence number. -/
structure MacReport where
  kind : Nat
  ep : Nat
  seq : Nat
  outcome : Nat := 0
  deriving DecidableEq, Repr

/-- A presence EVENT the MAC accepted (R282, R297): endpoint index, ring stamp of acceptance, body. -/
structure LampEvent where
  ep : Nat
  at_ : Stamp
  body : List Byte
  deriving DecidableEq, Repr

/-- The node and endpoint tables beside W2 and W3: nodes, elements waiting in the MAC, a lookup under way, the node a FREE
waits for, and upward payload frames for the switch with their endpoints. -/
structure Ntb where
  nodes : Tab MacNode := []
  held : List HeldElem := []
  lookup : Bool := false
  freeing : Option Nat := none
  upward : List HeldElem := []
  deriving DecidableEq, Repr

/-! ### The Yarder (spec/13) -/

/-- A change of a lamp head's level (R284): stamp, level, fade, curve, and whether a corridor raise starts or ends there. -/
structure Transition where
  at_ : Nat
  level : Nat
  fade : Nat
  curve : Nat
  spec : Bool
  deriving DecidableEq, Repr

/-- A released command (R298): whether it is a STATE, its CSEQ and content. -/
structure LampCmd where
  isState : Bool
  cseq : Nat
  t : Transition
  deriving DecidableEq, Repr

/-- What the Yarder keeps for a lamp head: LE (0xFFFF unknown), the released commands whose stamp lies ahead, the last
plan, and D(C:0) of the last pass. -/
structure Lamp where
  le : Nat := 0xFFFF
  cmds : List LampCmd := []
  plan : List Transition := []
  d0 : Nat := 0
  deriving DecidableEq, Repr

/-- A corridor track (R290, R291): the rule's fields as copied, the first cycle its raises may take, whether its event came
late, and the delta of its next sensor, that sensor and the deadline. -/
structure Track where
  rule : Nat
  sensor : Nat
  first : Nat
  o : Nat
  dir : Nat
  v : Nat
  p : Nat
  raise : Nat
  ahead : Nat
  behind : Nat
  lookahead : Nat
  hold : Nat
  rise : Nat
  fall : Nat
  curve : Nat
  sees : Option (Nat × Nat × Nat) := none
  confirmed : Bool := false
  refuted : Bool := false
  late : Bool := false
  deriving DecidableEq, Repr

/-- An override as captured at its arming (R294); `start` and `stop` are the stamps it acts from and to (R282), 0 for no
stop. -/
structure Override where
  slot : Nat
  valid : Bool
  kind : Nat
  target : Nat
  level : Nat
  fade : Nat
  curve : Nat
  at_ : Nat
  end_ : Nat
  start : Nat := 0
  stop : Nat := 0
  deriving DecidableEq, Repr

/-- A scene switch (R293) with the stamp it acts from. -/
structure SceneSwitch where
  scene : Nat
  on : Bool
  at_ : Nat
  start : Nat := 0
  deriving DecidableEq, Repr

/-- An override or a scene switch armed and not yet taken, with the cycle of the first pass that sees it (R282). -/
structure ArmedOverride where
  seen : Nat
  input : Override
  deriving DecidableEq, Repr
structure ArmedScene where
  seen : Nat
  input : SceneSwitch
  deriving DecidableEq, Repr

/-- A bank commit that waits: its stamp and the cycle of the first pass that begins after the request (R308). -/
structure BankCommit where
  asked : Nat
  seen : Nat
  deriving DecidableEq, Repr

/-- An item for the transmit queue (R299): endpoint, RETRACT or COMMAND, its number, its stamp, its bytes. -/
structure YardItem where
  ep : Nat
  retract : Bool
  seq : Nat
  exec : Nat
  body : List Byte
  deriving DecidableEq, Repr

/-- The Yarder beside its registers: that passes run, lamps, tracks, scene switches and overrides taken and waiting, lantern
events and MAC reports not yet taken and those since the last Yarder epoch (R453), releases of the last pass, the bank
commit, a copy of each item that may be queued once more (R304), nodes LEAD_WARN was raised for, and the scenes in force
before a commit with the stamp from which the active bank holds. -/
structure Yrd where
  running : Bool := false
  passed : Bool := false
  lamps : Tab Lamp := []
  tracks : List Track := []
  scenes : List SceneSwitch := []
  overrides : List Override := []
  armedScenes : List ArmedScene := []
  armedOverrides : List ArmedOverride := []
  events : List LampEvent := []
  reports : List MacReport := []
  newEvents : List LampEvent := []
  newReports : List MacReport := []
  ready : List YardItem := []
  sent : List YardItem := []
  commit : Option BankCommit := none
  warned : List Nat := []
  oldScenes : Tab Word := []
  bankFrom : Nat := 0
  deriving DecidableEq, Repr

/-- A frozen schedule instant (R286): entry, group, stamp, civil time in seconds, and the entry's level, fade and curve. -/
structure Instant where
  entry : Nat
  grp : Nat
  at_ : Nat
  civil : Int
  prio : Nat
  level : Nat
  fade : Nat
  curve : Nat
  deriving DecidableEq, Repr

/-- The schedule evaluator beside its registers: frozen instants, the latest civil second frozen of each entry (R287), the
bank commit, whether the lookback is due, the civil seconds the lookback spans, the latitude, longitude and DEF_LEVEL in
use, and the UTC minute of the newest solar value in the present minute's place. -/
structure Sch where
  frozen : List Instant := []
  latest : Tab Int := []
  commit : Option BankCommit := none
  lookback : Bool := true
  since : Int := 0
  lookTo : Int := 0
  lat : Int := 0
  lon : Int := 0
  defLevel : Nat := 10000
  minute : Option Nat := none
  deriving DecidableEq, Repr

/-! ### Heartwood key vault (spec/19) -/

/-- A key slot (R402): its descriptor, and its value as two shares whose XOR is the value (R412); for SEAL without
NONCE_EXT the fixed field and the count of uses (R417). PARENT is none without a parent. -/
structure KeySlot where
  st : Nat := 0
  typ : Nat := 0
  usage : Nat := 0
  origin : Nat := 0
  exp : Bool := false
  persist : Bool := false
  nonceExt : Bool := false
  parent : Option Nat := none
  pgen : Nat := 0
  gen : Nat := 0
  depth : Nat := 0
  shareA : List Byte := []
  shareB : List Byte := []
  fixed : List Byte := []
  seals : Nat := 0
  deriving DecidableEq, Repr

/-- A link key store entry, 96 bytes as two shares (R405, R412). -/
structure LinkKey where
  shareA : List Byte := []
  shareB : List Byte := []
  deriving DecidableEq, Repr

/-- A copy of a slot in the persistent store (R414): its epoch, write count and content. -/
structure KeyCopy where
  epoch : Nat
  count : Nat
  slot : KeySlot
  deriving DecidableEq, Repr

/-- A submitted command (R406): its requester, the address of its block and the block's 64 bytes. -/
structure KvtCmd where
  req : Nat
  addr : Nat
  block : List Byte
  deriving DecidableEq, Repr

/-- A command in flight (R407): its engine (0, 1 AES; 2 ECC; 3 ML-DSA; 4 HASH), and what its completion writes: the result
code, the output, a slot to fill, and a slot to store. -/
structure KvtFlight where
  engine : Nat
  cmd : KvtCmd
  code : Nat := 0
  out : List Byte := []
  fill : Option (Nat × KeySlot) := none
  store : Option Nat := none
  deriving DecidableEq, Repr

/-- The vault beside its registers: slots, link key store, persistent copies (two to a slot, keys 2 s and 2 s + 1), the
storage epoch, queued commands in submission order, commands in flight, whether a reseal pass runs, and whether KS0 and
the certificate chain of the factory are there (R404). STATE is the vault's: 0 SELFTEST, 1 READY, 2 ERROR. -/
structure Kvt where
  state : Nat := 0
  slots : Tab KeySlot := []
  links : Tab LinkKey := []
  copies : Tab (Option KeyCopy) := []
  epoch : Nat := 0
  queue : List KvtCmd := []
  flight : List KvtFlight := []
  reseal : Bool := false
  entropyFailed : Bool := false
  factory : Bool := true
  deriving DecidableEq, Repr

/-- The entries of the persistent store that the factory leaves: KS1 to KS4, the verifying slots of images (R425). -/
def factoryCopies : Tab (Option KeyCopy) :=
  [1, 2, 3, 4].map (fun i =>
    (2 * i, some { epoch := 0, count := 1, slot := { st := 1, typ := if i % 2 = 1 then 3 else 4, usage := 1, origin := 5, persist := true } }))

/-! ### Feeder physical layer (spec/11) -/

/-- A constellation point before scaling: I and Q levels and the bits of its label (R239). -/
structure Point where
  i : Int
  q : Int
  width : Nat
  deriving DecidableEq, Repr

/-- The points of a symbol by carrier, on port A and on port B. -/
structure PhySymbol where
  a : List (Nat × Point) := []
  b : List (Nat × Point) := []
  deriving DecidableEq, Repr

/-- What a modem puts on its two ports for a frame (R228, R233 to R239): the sample count of its first sample, frame
control, the phases of SYNCP in steps of 45° by carrier, which periods of the preamble are negated, the cyclic delay of
port B in samples, the signs of CE1 and CE2 by carrier on ports A and B, the points of ports A and B by carrier for each symbol
from the first of frame control on, and P(c) of each active carrier in 0.1 dBm/Hz. -/
structure PhySignal where
  feeder : Nat
  start : Nat
  control : List Byte
  sync : List (Nat × Nat)
  negated : List Bool
  delayB : Nat
  estimation : List (List (Nat × Bool) × List (Nat × Bool))
  symbols : List PhySymbol
  psd : List (Nat × Int)
  deriving DecidableEq, Repr

/-- A transmission the MAC has asked a modem for (R234, R253): the tick whose strobe names its start, the tone-map slot,
bytes 8 to 19 of frame control, the payload, the MAC's number of the frame, 0 for none, and whether it could be sealed. -/
structure TxReq where
  tick : Stamp
  slot : Nat
  mac : List Byte
  body : List Byte
  tag : Nat
  sealed : Bool
  deriving DecidableEq, Repr

/-- A received frame passed to the MAC (R234): sample count and shadow ring stamp of its reference instant, frame control,
MAC bytes, whether each codeword was good (R237), and its mean SNR code. -/
structure RxFrame where
  ref : Nat
  at_ : Stamp
  fc : List Byte
  body : List Byte
  cws : List Bool
  snr : Nat
  deriving DecidableEq, Repr

/-- Every codeword of a received frame was good. -/
def RxFrame.good (r : RxFrame) : Bool := r.cws.all (·)

/-- A computed tone map (R240): the mode byte of frame control, the bits of each usable carrier per stream, and info. -/
structure ToneMap where
  mode : Nat
  bA : List Nat
  bB : List Nat
  info : Nat
  deriving DecidableEq, Repr

/-- A modem beside its registers: requested transmissions, the frame on its ports (first and last sample count, header
symbols of 5 120 samples, payload symbol length), the reception under way with its reference instant, frames for the MAC,
the last 64 codeword results of each link, newest first, payload bytes by cycle and link, and links whose new map has to be
carried to the node (R243). -/
structure Modem where
  queue : List TxReq := []
  txStart : Nat := 0
  txEnd : Nat := 0
  txHead : Nat := 0
  txSym : Nat := 5120
  receiving : Bool := false
  gain : Nat := 0
  ref : Nat := 0
  refAt : Stamp := 0
  rx : List RxFrame := []
  cw : Tab (List Bool) := []
  traffic : List (Nat × Nat × Nat) := []
  maps : List Nat := []
  deriving DecidableEq, Repr

/-! ### Thread scheduler and cores (spec/16) -/

/-- A thread context (R363). `after` is the state a LEAVING thread enters at its core's next TAKE; `deadline` is a ring
stamp for base 4, else a time of that base in units of 2^-16 ns; `cancelAt` is the fabric clock of a CANCEL, with the state
it found (R367). -/
structure Thread where
  state : Nat := 0
  prio : Nat := 0
  aff : Nat := 0
  base : Nat := 0
  cause : Nat := 0
  pend : Bool := false
  leaving : Bool := false
  after : Nat := 0
  core : Nat := 0
  deadline : Nat := 0
  cancelAt : Option (Nat × Nat) := none
  deriving DecidableEq, Repr

/-- The thread scheduler beside its registers: contexts, ready lists by priority (head first), whether a context changed
since the last decision began (R367), and the pages that became pending since their bindings were last looked at (R366). -/
structure Ths where
  threads : Tab Thread := []
  ready : Tab (List Nat) := []
  changed : Bool := false
  edges : Nat := 0
  /-- The machine software interrupt and timer registers of the harts (R360, R361). -/
  msip : Nat := 0
  mtimecmp : Tab Nat := []
  deriving DecidableEq, Repr

/-! ### Telemetry queues (spec/17) -/

/-- An item being written into a queue (R377, R378): its requester (5 for a hardware source), the words still to come,
whether it was admitted, the next queue word, whether a kerf marker goes with it, and its number. -/
structure TqOpen where
  req : Nat
  left : Nat
  admitted : Bool
  next : Word
  marker : Bool
  seq : Nat
  deriving DecidableEq, Repr

/-- A queue beside its registers (R377, R378). -/
structure TqQueue where
  pw : Word := 0
  seq : Nat := 0
  gapSeq : Nat := 0
  gapAt : Word := 0
  item : Option TqOpen := none
  deriving DecidableEq, Repr

/-- An item a hardware source has ready (R376): its source, type and payload words. -/
structure TqItem where
  src : Nat
  typ : Nat
  words : List (BitVec 64)
  deriving DecidableEq, Repr

/-- A copy to DRAM under way (R383): queue, first word, count, destination, and a release it holds back. -/
structure TqCopy where
  queue : Nat
  first : Word
  count : Nat
  dest : Nat
  rel : Option Word := none
  deriving DecidableEq, Repr

/-- The telemetry queues: the queues, the items hardware sources have ready, oldest first, the copy under way, and the words of
queue memory that carry an error (R382). Queue memory is words of W8. -/
structure Tqu where
  queues : Tab TqQueue := []
  waiting : List TqItem := []
  copy : Option TqCopy := none
  bad : List Nat := []
  deriving DecidableEq, Repr

/-! ### Trace unit (spec/03 R82, R83) -/

/-- The trace unit beside its registers: the offset of the next record, 0x10_0000 when the buffer is exactly full,
and whether stop mode has halted capture. The buffer itself is memory behind W11. -/
structure Trc where
  off : Nat := 0
  halted : Bool := false
  deriving DecidableEq, Repr

/-! ### Switch, ordered flows and uplinks (spec/14) -/

/-- Where a frame of the switch stands (R321): in the dispatch queue, in an engine, done with its outcome, in an egress
queue. -/
inductive FrameStage where
  | queued
  | engine (e : Nat)
  | done (forward : Bool)
  | egress
  deriving DecidableEq, Repr

/-- A frame in the buffer (R316, R318, R326): bytes from the destination address to the end of the payload, untagged; its
length in the form it leaves; the time base and value of its receive timestamp; for a frame of HOST, the base and tag of the
timestamp it asks for. -/
structure SwFrame where
  flow : Nat
  cls : Nat
  ingress : Nat
  egress : Nat
  vid : Nat
  ticket : Nat
  len : Nat
  data : List Byte
  stage : FrameStage := .queued
  rxBase : Option Nat := none
  rxTime : Nat := 0
  txReq : Option Nat := none
  tag : Nat := 0
  deriving DecidableEq, Repr

/-- What the switch keeps for a flow: quota where firmware set one, tickets, admitted and refused frames. -/
structure SwFlow where
  quota : Option Nat := none
  ticket : Nat := 0
  release : Nat := 0
  admitted : Nat := 0
  refused : Nat := 0
  deriving DecidableEq, Repr

/-- The switch and its engines beside their registers: frames in admission order, those released in release order, flows,
VID conflicts counted, classes 0 and 1 held away from their primary uplink (R322), the frames in the ingress store of each
port, oldest first, and the port served last (R321, R324). -/
structure Swx where
  frames : List SwFrame := []
  out : List SwFrame := []
  flows : Tab SwFlow := []
  vidDup : Nat := 0
  away0 : Bool := false
  away1 : Bool := false
  store : Tab (List SwFrame) := []
  turn : Nat := 0
  deriving DecidableEq, Repr

/-- A transmit timestamp (R329): tag, base, value. -/
structure TxStamp where
  tag : Nat
  base : Nat
  time : Nat
  deriving DecidableEq, Repr

/-- An uplink beside its registers (R327, R328): Mod_ABS, the fault Tx_Disable is held for, the speed tried (1 for
25 Gbit/s, 2 for 10), the timestamp FIFO, and the management access under way. -/
structure Uplink where
  absent : Bool := true
  hold : Bool := false
  tried : Nat := 1
  fifo : List TxStamp := []
  cmd : Option Word := none
  deriving DecidableEq, Repr

/-! ### Boot and update (spec/20) -/

/-- The boot control record (R428). -/
structure BootRec where
  gen : Nat := 0
  active : Nat := 0
  trial : Nat := 0
  boots : Nat := 0
  flags : Nat := 0
  cfgA : Nat := 0
  cfgB : Nat := 1
  mpSlot : Nat := 0
  landing : Nat := 0
  verA : Nat := 0
  verB : Nat := 0
  mpVer0 : Nat := 0
  mpVer1 : Nat := 0
  landVer : Nat := 0
  deriving DecidableEq, Repr

/-- What the update engine is doing: a transfer of n bytes at an offset, from the page buffer or from a DRAM address; a
verification; an activation, from IDLE or from STAGED (R431). -/
inductive UpdOp where
  | xfer (off n : Nat) (buf : Bool) (src : Nat)
  | verify
  | activate (idle : Bool)
  deriving DecidableEq, Repr

/-- The update engine and the boot beside their registers (R427 to R435): session state 0 IDLE to 5 ACTIVATED, owner,
source, bytes landed, the operation under way, TB0 seconds of the owner's last action; the fused counters; the running
bank, whether the ROM is in RECOVERY, TB0 seconds of the jump to the loader on a trial boot, MIG_DONE accepted, and
WINDOW_WARN raised. -/
structure Upd where
  sess : Nat := 0
  owner : Nat := 0
  src : Nat := 0
  land : Nat := 0
  op : Option UpdOp := none
  lastAct : Nat := 0
  fuse1 : Nat := 0
  fuse2 : Nat := 0
  bank : Nat := 0
  recovery : Bool := false
  window : Option Nat := none
  migDone : Bool := false
  warned : Bool := false
  deriving DecidableEq, Repr

/-! ### Twin operation (spec/21) -/

/-- The role of the module (R441). -/
inductive Role where
  | solo | hunt | pairing | active | standby | suspect | demoted
  deriving DecidableEq, Repr

/-- The code of a role in TWN.STAT (R441). -/
def Role.code : Role → Nat
  | .solo => 0 | .hunt => 1 | .pairing => 2 | .active => 3 | .standby => 4 | .suspect => 5 | .demoted => 6

/-- What a LOOP_EPOCH holds (R448, R452): its boundary; the loop states as W0 shows them; the front end, the channels, the
axe latches and the link states and versions with their status words; the pulse state of metering; and the state of RCT:
its status word, freq, integ and the counters of the loop and of qualification. -/
structure LoopEpoch where
  at_ : Stamp
  loops : Tab Loop := []
  mfe : Mfe := {}
  chs : Tab Channel := []
  latches : Tab AxeSrc := []
  links : Tab Nat := []
  vers : Tab Nat := []
  status : Tab Word := []
  pulses : Tab MtrPulse := []
  pend : Tab Nat := []
  cnt : Tab Nat := []
  pacc : Tab Nat := []
  rctStat : Word := 0
  freq : Nat := 0
  integ : Nat := 0
  bigCount : Nat := 0
  convCount : Nat := 0
  lockCount : Nat := 0
  pullCycles : Nat := 0
  runCount : Nat := 0
  runSum : Nat := 0
  deriving DecidableEq, Repr

/-- What the receiver checks of a twin frame (R444): TSEQ, and whether its tag, or the CRC of a PAIR frame, checks. -/
structure TwinHead where
  seq : Nat
  good : Bool
  deriving DecidableEq, Repr

/-- The body of a HEARTBEAT (R445). -/
structure Heartbeat where
  claim : Word
  role : Nat
  flags : Nat
  digest : Word
  lepoch : Word
  jseq : Word
  mseq : Word
  meterLast : Stamp
  deriving DecidableEq, Repr

/-- A PAIR frame (R446): twin version, serial number, DevID chain, ephemeral public key and nonce, and in a second frame the
signature over both bodies. -/
structure PairFrame where
  ver : Nat
  serial : Nat
  chain : List Byte
  pub : List Byte
  nonce : List Byte
  sig : Option (List Byte)
  deriving DecidableEq, Repr

/-- What a CONTROL frame says (R448, R453, R462): the boundary to align at, the stamp of a handover with the drill's RETURN,
a request for the Yarder's state, an entry of the transaction journal (R472). -/
inductive ControlFrame where
  | align (at_ : Stamp)
  | handover (at_ : Stamp) (ret : Nat)
  | yarderRequest
  | txEntry (entry : List Byte)
  deriving DecidableEq, Repr

/-- The twin block beside its registers (R441 to R463): role; link; recovered reference; TSEQ sent and accepted by lane and
lanes out of step; partner's role and flags, the tick of its last heartbeat, whether one came since the link, ticks lost in
a row; digests of the last ticks; pairing: body sent, the partner's, serial, private key, boundary to align at, aligned;
JSEQ sent and applied, a gap, entries held, the tick of the last entry without a stamp; the last complete loop epoch,
complete and failed epochs in a row, records to load and records that differed; metering epochs seen since pairing and since
the last playback, MSEQ, the last epoch's tick; the Yarder in step and a request waiting; mismatch frames in a row, the last
one and the first tick; the takeover decided with its boundary; pulse outputs held to a stamp; a drill armed, the stamp of a
handover named and whether it was sent, the drill's return, and the boards lost at demotion. -/
structure Twn where
  role : Role := .solo
  link : Bool := false
  ref : Bool := false
  txSeq : Tab Nat := []
  rxSeq : Tab Nat := []
  broken : Nat := 0
  peerRole : Nat := 0
  peerFlags : Nat := 0
  heard : Stamp := 0
  alive : Bool := false
  missed : Nat := 0
  digests : Tab Nat := []
  ownPair : Option PairFrame := none
  peerPair : Option PairFrame := none
  priv : List Byte := []
  keyed : Bool := false
  alignAt : Option Stamp := none
  aligned : Option Stamp := none
  jseqTx : Nat := 0
  jseqRx : Nat := 0
  gap : Bool := false
  held : List JournalEntry := []
  plainAt : Option Stamp := none
  epoch : Option LoopEpoch := none
  whole : Nat := 0
  torn : Nat := 0
  load : List Nat := []
  differed : Nat := 0
  meterSeen : Bool := false
  mseq : Nat := 0
  meterAt : Stamp := 0
  inStep : Bool := false
  yardSeen : Bool := false
  yardAsked : Bool := false
  misRun : Nat := 0
  misFrame : Nat := 0
  misTick : Stamp := 0
  decided : Option (Nat × Stamp) := none
  pulseAt : Option Stamp := none
  feedAt : Stamp := 0
  drill : Bool := false
  handover : Option Stamp := none
  named : Bool := false
  ret : Nat := 0
  returnAt : Option Stamp := none
  deriving DecidableEq, Repr

/-! ### Segment protocol (spec/22) -/

/-- A log stream (R478): the next SEQ and the mask of codes. -/
structure KspStream where
  next : Word
  mask : Nat
  deriving DecidableEq, Repr

/-- A session (R467, R468, R470): OPEN once its HELLO was answered, else in HANDSHAKE; version, roles, client identity, TB0
second of its last record, log stream. -/
structure KspSession where
  opened : Bool := false
  ver : Nat := 0
  roles : Nat
  ident : Nat
  since : Nat
  stream : Option KspStream := none
  deriving DecidableEq, Repr

/-- A pending bundle (R473 to R476): the session, identity and TXID it came with, the code of its message, its members, its
commit point, the frozen stamp, its journal entry; once armed the result of each member and the stamp at which the last one
has taken effect. -/
structure KspBundle where
  sess : Nat
  ident : Nat
  txid : Nat
  msg : Nat
  members : List KspMember
  point : CommitPoint
  at_ : Option Stamp := none
  entry : Nat
  results : List Nat := []
  done : Option Stamp := none
  deriving DecidableEq, Repr

/-- A journal operation under way on the KSP page (R481). -/
inductive TxjOp where
  | put | find | update
  deriving DecidableEq, Repr

/-- The segment protocol beside its registers: sessions, pending bundles oldest first, unacknowledged alarms by SEQ oldest
first, messages answered DENIED (R467), the next journal entry (kept in MRAM), the journal operation under way. -/
structure Ksp where
  sessions : Tab (Option KspSession) := []
  bundles : List KspBundle := []
  alarms : List Word := []
  denied : Nat := 0
  head : Nat := 0
  op : Option TxjOp := none
  deriving DecidableEq, Repr

end Sys2Proof.Machine
end

