-- ==== Sys2Proof/Syntax.lean ====
section
/-!
DEFINITION. The commands the block takes, one constructor per row of spec/opcode_table.json, in the table's order. The
operands are what the rule of the row lets the command carry; a requester comes first where one acts.
-/

namespace Sys2Proof

open Sys2Proof.Machine

/-- The commands. Each constructor names its row and the rule that gives it. -/
inductive Instr where
  /-- POWER_ON (R482). -/
  | powerOn (bad : BitVec 16)
  /-- DOMAIN_POWER_GOOD (R54). -/
  | domainPowerGood (d : Fin 12) (bad : Option (BitVec 8))
  /-- PD3_RELEASE (R482). -/
  | pd3Release (open_ : Bool)
  /-- INPUT_LOSS (R57). -/
  | inputLoss (mv : BitVec 16)
  /-- LOAD_SHED (R58). -/
  | loadShed
  /-- FINAL_COMMIT_DONE (R200). -/
  | finalCommitDone
  /-- HOLD_END (R59). -/
  | holdEnd
  /-- WARM_START (R60). -/
  | warmStart
  /-- DOMAIN_FAULT (R56). -/
  | domainFault (d : Fin 12)
  /-- CORE_DOMAIN_FAULT (R56). -/
  | coreDomainFault (pd5 : Bool)
  /-- ESSENTIAL_DOMAIN_FAULT (R56). -/
  | essentialDomainFault
  /-- DOM_EN_WRITE (R55). -/
  | domEnWrite (req : Req) (v : Word)
  /-- PWR_CLEAR_COUNTS (R64). -/
  | pwrClearCounts (req : Req)
  /-- BANK_TEST_GO (R61). -/
  | bankTestGo (req : Req) (v : Word)
  /-- BANK_TEST_START (R61). -/
  | bankTestStart
  /-- BANK_TEST_DONE (R61). -/
  | bankTestDone (mj : BitVec 16)
  /-- HOLD_EST_UPDATE (R61). -/
  | holdEstUpdate (bankMv : BitVec 16) (vinMv : BitVec 16)
  /-- VIN_OV (R53). -/
  | vinOv (above : Bool) (mv : BitVec 16)
  /-- TEMP_HIGH (R64). -/
  | tempHigh (edge : BitVec 16) (hot : BitVec 16)
  /-- CELL_LOW (R62). -/
  | cellLow (mv : BitVec 12)
  /-- BOARD_PRESENT (R41). -/
  | boardPresent (n : Fin 13)
  /-- BOARD_ABSENT (R41). -/
  | boardAbsent (n : Fin 13)
  /-- TWIN_PRESENT_CHANGE (R45). -/
  | twinPresentChange (present : Bool)
  /-- HK_INPUT_CHANGE (R48). -/
  | hkInputChange (n : Fin 8) (on : Bool)
  /-- RELAY_CTRL_WRITE (R49). -/
  | relayCtrlWrite (req : Req) (v : Word)
  /-- ACCESS_FAULT (R69). -/
  | accessFault (req : Req) (a : BitVec 64) (size : Fin 4) (write : Bool)
  /-- REGISTER_WRITE (R73). -/
  | registerWrite (req : Req) (a : BitVec 64) (v : Word)
  /-- LATCHED_READ (R71). -/
  | latchedRead (req : Req) (a : BitVec 64)
  /-- INT_FLAG_CLEAR (R74). -/
  | intFlagClear (req : Req) (a : Word) (v : Word)
  /-- INT_FORCE (R68). -/
  | intForce (req : Req) (p : Fin 46) (v : Word)
  /-- LOCK_WRITE (R76). -/
  | lockWrite (req : Req) (p : Fin 46) (v : Word)
  /-- PARITY_ERROR (R77). -/
  | parityError (p : Fin 46) (w : BadWord)
  /-- SRAM_ECC_ERROR (R77). -/
  | sramEccError (e : EccError)
  /-- PARITY_CLEAR (R81). -/
  | parityClear (req : Req)
  /-- SYSTEM_RESET (R78). -/
  | systemReset (req : Req) (key : BitVec 16) (core : Bool)
  /-- CORE_RESET (R78). -/
  | coreReset (req : Req) (key : BitVec 16)
  /-- PAGE_SOFT_RESET (R79). -/
  | pageSoftReset (req : Req) (p : Fin 46)
  /-- WDOG_ENABLE (R80). -/
  | wdogEnable (req : Req) (v : Word)
  /-- WDOG_KICK (R80). -/
  | wdogKick (req : Req) (v : Word)
  /-- WDOG_WARN (R80). -/
  | wdogWarn
  /-- WDOG_TIMEOUT (R80). -/
  | wdogTimeout
  /-- RCT_ENABLE (R27). -/
  | rctEnable (req : Req)
  /-- RCT_DISABLE (R27). -/
  | rctDisable (req : Req)
  /-- RCT_SOFT_RESET (R27). -/
  | rctSoftReset (req : Req)
  /-- RING_SET (R26). -/
  | ringSet (req : Req) (hi : Word)
  /-- SAMPLE_RELEASE (R97). -/
  | sampleRelease (live : List LaneBits) (perr : List (Fin 104))
  /-- FIRST_LOCK_STEP (R23). -/
  | firstLockStep
  /-- LOOP_UPDATE (R17). -/
  | loopUpdate
  /-- FREQ_TAKES_EFFECT (R18). -/
  | freqTakesEffect
  /-- PHASE_LOSS (R15). -/
  | phaseLoss (k : Fin 3)
  /-- FORCE_FLY (R20). -/
  | forceFly (req : Req)
  /-- FORCE_RELEASE (R21). -/
  | forceRelease (req : Req)
  /-- PULL_TIMEOUT (R20). -/
  | pullTimeout
  /-- MAP_CAPTURE (R32). -/
  | mapCapture
  /-- CONVERT (R33). -/
  | convert (req : Req) (toCivil : Bool)
  /-- CONVERT_DONE (R33). -/
  | convertDone
  /-- LANE_ENABLE (R87). -/
  | laneEnable (req : Req) (b : Fin 13) (v : Word)
  /-- TRAIN_SUCCESS (R87). -/
  | trainSuccess (b : Fin 13)
  /-- LANE_UP (R87). -/
  | laneUp (b : Fin 13)
  /-- TRAIN_FAIL (R87). -/
  | trainFail (b : Fin 13)
  /-- LANE_LOST (R88). -/
  | laneLost (b : Fin 13)
  /-- FAST_OUTPUT (R90). -/
  | fastOutput (i : Fin 104) (q : Fin 8) (live : BitVec 12) (perr : Bool)
  /-- INTEGRATOR_SETTLED (R93). -/
  | integratorSettled (i : Fin 104)
  /-- PLAYBACK_ARM (R100). -/
  | playbackArm (req : Req) (check : Bool)
  /-- CAPTURE_ARM (R100). -/
  | captureArm (req : Req)
  /-- SOURCE_START (R100). -/
  | sourceStart
  /-- PLAYBACK_FETCH (R101). -/
  | playbackFetch
  /-- CAPTURE_RECORD (R99). -/
  | captureRecord (live : List LaneBits) (bad : List (Fin 13))
  /-- PLAYBACK_COUNT_DONE (R101). -/
  | playbackCountDone
  /-- PLAYBACK_STOP (R101). -/
  | playbackStop (req : Req)
  /-- CEN_TICK_EXEC (R105). -/
  | cenTickExec
  /-- TABLE_CHECK (R111). -/
  | tableCheck (req : Req) (withTable : Bool)
  /-- TABLE_CHECK_DONE (R111). -/
  | tableCheckDone
  /-- CEN_COMMIT_REQ (R125). -/
  | cenCommitReq (req : Req) (table : Bool)
  /-- CEN_COMMIT_CANCEL (R126). -/
  | cenCommitCancel (req : Req)
  /-- CEN_COPY (R126). -/
  | cenCopy (req : Req)
  /-- CEN_COPY_DONE (R126). -/
  | cenCopyDone
  /-- CEN_COMMIT_SWAP (R124). -/
  | cenCommitSwap
  /-- FALLBACK_ENTER (R120). -/
  | fallbackEnter (r : Fin 64)
  /-- FALLBACK_EXIT (R120). -/
  | fallbackExit (r : Fin 64)
  /-- REARM (R123). -/
  | rearm (req : Req) (lo : Word) (hi : Word)
  /-- REARM_APPLY (R123). -/
  | rearmApply (r : Fin 64)
  /-- CEN_ENABLE (R127). -/
  | cenEnable (req : Req)
  /-- CEN_DISABLE (R127). -/
  | cenDisable (req : Req)
  /-- MFE_ENABLE (R136). -/
  | mfeEnable (req : Req)
  /-- MFE_DISABLE (R136). -/
  | mfeDisable (req : Req)
  /-- MAINS_OUT_ENTER (R136). -/
  | mainsOutEnter
  /-- PRECHARGE_ENTER (R137). -/
  | prechargeEnter
  /-- BUS_SETTLED (R137). -/
  | busSettled
  /-- PRECHARGE_TIMEOUT (R136). -/
  | prechargeTimeout
  /-- FE_HALTED (R138). -/
  | feHalted
  /-- FE_GATE_OFF (R138). -/
  | feGateOff
  /-- SAG_DETECT (R140). -/
  | sagDetect
  /-- CLASS_SHED (R140). -/
  | classShed
  /-- BUS_UNDERVOLTAGE (R141). -/
  | busUndervoltage
  /-- RESTORE_BEGIN (R142). -/
  | restoreBegin
  /-- CLASS_RESTORE (R142). -/
  | classRestore
  /-- CHANNEL_RESTORE_START (R142). -/
  | channelRestoreStart (k : Fin 48)
  /-- CHANNEL_ENABLE (R145). -/
  | channelEnable (req : Req) (k : Fin 48) (v : Word)
  /-- CHANNEL_DISABLE (R145). -/
  | channelDisable (req : Req) (k : Fin 48) (v : Word)
  /-- CHANNEL_START (R146). -/
  | channelStart (k : Fin 48)
  /-- START_DONE (R145). -/
  | startDone (k : Fin 48)
  /-- CHANNEL_HALT (R145). -/
  | channelHalt (k : Fin 48)
  /-- CHANNEL_SAFE_OFF (R146). -/
  | channelSafeOff (k : Fin 48)
  /-- SETPOINT_STAGE (R149). -/
  | setpointStage (req : Req) (k : Option (Fin 48)) (v : Word)
  /-- SETPOINT_ARM (R147). -/
  | setpointArm (req : Req) (k : Fin 48) (hi : Word)
  /-- SETPOINT_APPLY (R147). -/
  | setpointApply (k : Fin 48)
  /-- BUS_SETPOINT_ARM (R147). -/
  | busSetpointArm (req : Req) (hi : Word)
  /-- BUS_SETPOINT_APPLY (R147). -/
  | busSetpointApply
  /-- PIN_TRIP (R155). -/
  | pinTrip (n : Fin 13) (clocks : Nat) (held : Bool)
  /-- PIN_ARMED (R154). -/
  | pinArmed (n : Fin 13)
  /-- FORCE_TRIP (R159). -/
  | forceTrip (req : Req) (v : Word)
  /-- AUTO_CLEAR (R159). -/
  | autoClear (src : AxeSource)
  /-- LATCH_CLEAR (R159). -/
  | latchClear (req : Req)
  /-- LOCKOUT_CLEAR (R159). -/
  | lockoutClear (req : Req) (key : BitVec 16) (also : Bool)
  /-- MASK_CLASS_WRITE (R166). -/
  | maskClassWrite (req : Req) (src : AxeSource) (v : Word)
  /-- CHANNEL_TRIPPED (R162). -/
  | channelTripped (k : Fin 48)
  /-- RUN_EN_WRITE (R156). -/
  | runEnWrite (req : Req) (v : Word)
  /-- BOARD_RELEASE (R163). -/
  | boardRelease (n : Fin 13)
  /-- TRIP_RESTART (R163). -/
  | tripRestart (k : Fin 48)
  /-- COMMAND_FRAME_LAUNCH (R168). -/
  | commandFrameLaunch
  /-- STATUS_FRAME_RECEIVE (R172). -/
  | statusFrameReceive (n : Fin 13) (clean : Bool) (f : List Byte)
  /-- ANSWER_MISSING (R172). -/
  | answerMissing (n : Fin 13)
  /-- STL_LINK_LOST (R173). -/
  | stlLinkLost (n : Fin 13)
  /-- STL_ENABLE (R173). -/
  | stlEnable (req : Req)
  /-- STL_DISABLE (R182). -/
  | stlDisable (req : Req)
  /-- VER_LIMIT_WRITE (R182). -/
  | verLimitWrite (req : Req) (v : Word)
  /-- METERING_TICK (R185). -/
  | meteringTick
  /-- CYCLE_PUBLISH (R190). -/
  | cyclePublish
  /-- PULSE_ON (R195). -/
  | pulseOn (x : Fin 2)
  /-- PULSE_OFF (R195). -/
  | pulseOff (x : Fin 2)
  /-- COR_REQ (R192). -/
  | corReq (req : Req)
  /-- COR_SWAP (R192). -/
  | corSwap
  /-- COR_COPY (R192). -/
  | corCopy (req : Req)
  /-- COR_COPY_DONE (R192). -/
  | corCopyDone
  /-- PERIODIC_COMMIT (R198). -/
  | periodicCommit
  /-- COMMIT_WRITE_DONE (R198). -/
  | commitWriteDone (ok : Bool)
  /-- METER_SEAL (R203). -/
  | meterSeal (req : Req)
  /-- ACC_CLEAR_BILLING (R206). -/
  | accClearBilling (req : Req) (key : BitVec 16)
  /-- ACC_CLEAR_TEST (R206). -/
  | accClearTest (req : Req) (key : BitVec 16)
  /-- MTR_ENABLE (R184). -/
  | mtrEnable (req : Req) (on : Bool)
  /-- DIM_PERIOD (R211). -/
  | dimPeriod
  /-- PATTERN_ERROR_IDLE (R216). -/
  | patternErrorIdle (e : Fin 8)
  /-- LEVEL_ARM (R209). -/
  | levelArm (req : Req) (k : Fin 48) (hi : Word)
  /-- LEVEL_APPLY (R209). -/
  | levelApply (k : Fin 48)
  /-- PATTERN_ARM (R216). -/
  | patternArm (req : Req) (e : Fin 8) (hi : Word)
  /-- PATTERN_BEGIN (R216). -/
  | patternBegin (e : Fin 8)
  /-- PATTERN_STOP (R216). -/
  | patternStop (req : Req) (e : Fin 8)
  /-- STRING_CHECK (R220). -/
  | stringCheck (k : Fin 48)
  /-- FEEDER_CHECK (R222). -/
  | feederCheck (k : Fin 48)
  /-- DIAG_CLEAR (R223). -/
  | diagClear (req : Req) (k : Fin 48)
  /-- TX_START (R234). -/
  | txStart (f : Fin 48)
  /-- TX_TRUNCATE (R246). -/
  | txTruncate (f : Fin 48)
  /-- PHY_FRAME_RECEIVE (R235). -/
  | phyFrameReceive (f : Fin 48) (x : PhyRx)
  /-- MASK_COMMIT_REQ (R232). -/
  | maskCommitReq (req : Req) (p : Fin 4) (v : Word)
  /-- MASK_COMMIT_APPLY (R232). -/
  | maskCommitApply (f : Fin 48)
  /-- FPH_ENABLE (R247). -/
  | fphEnable (req : Req) (which : Fin 4 ⊕ Fin 48)
  /-- MAC_CYCLE_START (R260). -/
  | macCycleStart (f : Fin 48)
  /-- BEACON_TRANSMIT (R257). -/
  | beaconTransmit (f : Fin 48)
  /-- MAC_FRAME_RECEIVE (R256). -/
  | macFrameReceive (f : Fin 48)
  /-- ACK_RECEIVE (R258). -/
  | ackReceive (f : Fin 48)
  /-- RETRANSMIT (R259). -/
  | retransmit (f : Fin 48)
  /-- DELIVERY_TIMEOUT (R259). -/
  | deliveryTimeout (f : Fin 48)
  /-- JOIN_REQUEST (R268). -/
  | joinRequest (f : Fin 48)
  /-- JOIN_AUTH (R268). -/
  | joinAuth (f : Fin 48)
  /-- JOIN_CONFIRM (R268). -/
  | joinConfirm (f : Fin 48)
  /-- JOIN_TIMEOUT (R268). -/
  | joinTimeout (f : Fin 48)
  /-- NODE_LOST (R271). -/
  | nodeLost (i : Fin 4096)
  /-- MASK_DIST_GO (R272). -/
  | maskDistGo (req : Req) (f : Fin 48) (force : Bool)
  /-- MASK_DIST_COMMIT (R272). -/
  | maskDistCommit (f : Fin 48)
  /-- MASK_SWITCH (R272). -/
  | maskSwitch (f : Fin 48)
  /-- CRUISE_GO (R273). -/
  | cruiseGo (req : Req) (f : Fin 48)
  /-- PROBE_RECEIVE (R273). -/
  | probeReceive (f : Fin 48)
  /-- CRUISE_DONE (R274). -/
  | cruiseDone (f : Fin 48)
  /-- CRUISE_APPLY (R274). -/
  | cruiseApply (req : Req) (f : Fin 48)
  /-- ROUTE_EFFECTIVE (R274). -/
  | routeEffective (f : Fin 48)
  /-- ROUTE_ABANDON (R274). -/
  | routeAbandon (f : Fin 48)
  /-- BUCKET_REFILL (R275). -/
  | bucketRefill
  /-- NODE_BLOCK (R276). -/
  | nodeBlock (req : Req) (i : Fin 4096)
  /-- NODE_FREE (R280). -/
  | nodeFree (req : Req) (i : Fin 4096)
  /-- NODE_LEAVE (R280). -/
  | nodeLeave (req : Req) (i : Fin 4096)
  /-- EUI_LOOKUP (R280). -/
  | euiLookup (req : Req) (hi : Word)
  /-- EUI_LOOKUP_DONE (R280). -/
  | euiLookupDone
  /-- YARDER_PASS (R281). -/
  | yarderPass
  /-- RELEASE_HANDOFF (R281). -/
  | releaseHandoff
  /-- YRD_ENABLE (R281). -/
  | yrdEnable (req : Req)
  /-- SCENE_ARM (R293). -/
  | sceneArm (req : Req) (hi : Word)
  /-- OVERRIDE_ARM (R294). -/
  | overrideArm (req : Req) (slot : Fin 256)
  /-- YRD_COMMIT_REQ (R308). -/
  | yrdCommitReq (req : Req)
  /-- YRD_COPY (R308). -/
  | yrdCopy (req : Req)
  /-- SCH_COMMIT_REQ (R308). -/
  | schCommitReq (req : Req)
  /-- SCH_COPY (R308). -/
  | schCopy (req : Req)
  /-- SOLAR_MINUTE (R288). -/
  | solarMinute
  /-- SOLAR_RECOMPUTE (R288). -/
  | solarRecompute (req : Req) (lon : Bool) (v : Word)
  /-- FRAME_INGRESS (R316). -/
  | frameIngress (i : SwitchIn)
  /-- ENGINE_DISPATCH (R321). -/
  | engineDispatch
  /-- ENGINE_DONE (R321). -/
  | engineDone (e : Fin 8) (bad : Bool)
  /-- EGRESS_DONE (R320). -/
  | egressDone (port : Fin 4)
  /-- PAYLOAD_HANDOFF (R320). -/
  | payloadHandoff (e : Fin 16384)
  /-- HOST_RX_WRITE (R320). -/
  | hostRxWrite
  /-- HOST_TX_FRAME (R326). -/
  | hostTxFrame
  /-- UPLINK_UP (R328). -/
  | uplinkUp (u : Fin 2)
  /-- UPLINK_DOWN (R328). -/
  | uplinkDown (u : Fin 2) (los : Bool)
  /-- CLASS_REVERT (R322). -/
  | classRevert (k : Fin 2)
  /-- SPEED_TRY (R327). -/
  | speedTry (u : Fin 2)
  /-- SFP_ACCESS (R328). -/
  | sfpAccess (req : Req) (u : Fin 2) (v : Word)
  /-- SFP_DONE (R332). -/
  | sfpDone (u : Fin 2) (nak : Bool) (data : List Byte)
  /-- SFP_MODULE_CHANGE (R332). -/
  | sfpModuleChange (u : Fin 2) (inserted : Option Byte)
  /-- TX_FAULT_CHANGE (R328). -/
  | txFaultChange (u : Fin 2) (fault : Bool)
  /-- TIMESTAMP_POP (R332). -/
  | timestampPop (req : Req) (u : Fin 2)
  /-- PTP_MEASUREMENT (R340). -/
  | ptpMeasurement (req : Req) (k : Fin 2)
  /-- DOMAIN_HOLDOVER (R340). -/
  | domainHoldover (k : Fin 2)
  /-- DOMAIN_ENABLE (R340). -/
  | domainEnable (req : Req) (k : Fin 2) (v : Word)
  /-- DOMAIN_DISABLE (R340). -/
  | domainDisable (req : Req) (k : Fin 2) (v : Word)
  /-- CIVIL_UPDATE (R344). -/
  | civilUpdate
  /-- CIVIL_STEP_SNAP (R346). -/
  | civilStepSnap (req : Req) (key : BitVec 16)
  /-- CIVIL_STEP_VALUE (R346). -/
  | civilStepValue (req : Req) (key : BitVec 16)
  /-- RTC_LOAD_FROM_TB3 (R347). -/
  | rtcLoadFromTb3
  /-- TIME_ALARM (R350). -/
  | timeAlarm (a : Fin 4)
  /-- TIME_SNAP (R357). -/
  | timeSnap (req : Req)
  /-- RTC_SECOND (R353). -/
  | rtcSecond
  /-- RTC_SET (R352). -/
  | rtcSet (req : Req) (v : Word)
  /-- TRIM_WINDOW_DONE (R354). -/
  | trimWindowDone (edges : Nat)
  /-- RTC_ALARM (R356). -/
  | rtcAlarm (n : Fin 2)
  /-- RTC_SNAP (R358). -/
  | rtcSnap (req : Req)
  /-- PD0_LOSS (R355). -/
  | pd0Loss
  /-- THREAD_INIT (R364). -/
  | threadInit (req : Req) (t : Fin 256)
  /-- THREAD_READY (R364). -/
  | threadReady (req : Req) (t : Fin 256)
  /-- THREAD_BLOCK (R364). -/
  | threadBlock (req : Req) (t : Fin 256)
  /-- THREAD_CANCEL (R364). -/
  | threadCancel (req : Req) (t : Fin 256)
  /-- THREAD_SETPRIO (R364). -/
  | threadSetprio (req : Req) (t : Fin 256)
  /-- THREAD_SETAFF (R364). -/
  | threadSetaff (req : Req) (t : Fin 256)
  /-- THREAD_YIELD (R364). -/
  | threadYield (req : Req) (t : Fin 256)
  /-- THREAD_WAIT (R365). -/
  | threadWait (req : Req) (t : Fin 256)
  /-- WAIT_DEADLINE (R365). -/
  | waitDeadline (t : Fin 256)
  /-- BIND_WAKE (R366). -/
  | bindWake (p : Fin 46)
  /-- DISPATCH_DECISION (R368). -/
  | dispatchDecision
  /-- THREAD_TAKE (R369). -/
  | threadTake (req : Req) (c : Fin 4) (t : BitVec 9)
  /-- MEMORY_ERROR (R362). -/
  | memoryError (e : EccError) (hart : Option (Fin 4))
  /-- QUEUE_PUSH (R377). -/
  | queuePush (req : Req) (q : Fin 64) (hi : Word)
  /-- ITEM_OFFER (R378). -/
  | itemOffer
  /-- ITEM_COMMIT (R378). -/
  | itemCommit (q : Fin 64)
  /-- QUEUE_MARK (R379). -/
  | queueMark (req : Req) (q : Fin 64)
  /-- QUEUE_REWIND (R379). -/
  | queueRewind (req : Req) (q : Fin 64)
  /-- QUEUE_FLUSH (R379). -/
  | queueFlush (req : Req) (q : Fin 64)
  /-- QUEUE_ABORT (R377). -/
  | queueAbort (req : Req) (q : Fin 64)
  /-- QUEUE_RD_WRITE (R379). -/
  | queueRdWrite (req : Req) (q : Fin 64) (v : Word)
  /-- QUEUE_RELEASE (R379). -/
  | queueRelease (req : Req) (q : Fin 64) (v : Word)
  /-- QUEUE_COPY (R383). -/
  | queueCopy (req : Req) (q : Fin 64) (words : BitVec 13)
  /-- QUEUE_COPY_DONE (R383). -/
  | queueCopyDone
  /-- QUEUE_ENABLE (R385). -/
  | queueEnable (req : Req) (q : Fin 64) (v : Word)
  /-- QUEUE_DISABLE (R385). -/
  | queueDisable (req : Req) (q : Fin 64)
  /-- LOG_EVENT (R393). -/
  | logEvent (code : BitVec 10) (payload : List Word)
  /-- LOG_RECORD_WRITE (R390). -/
  | logRecordWrite (w : LogWrite)
  /-- LOG_TOKEN_REFILL (R393). -/
  | logTokenRefill
  /-- OPSEC_SECOND (R388). -/
  | opsecSecond
  /-- LOG_SEEK (R398). -/
  | logSeek (req : Req) (seq : Word)
  /-- BANK_CLR (R396). -/
  | bankClr (req : Req) (key : BitVec 16) (a : Bool) (b : Bool)
  /-- FIRMWARE_RECORD (R399). -/
  | firmwareRecord (req : Req) (v : Word)
  /-- GENERATE (R406). -/
  | generate
  /-- IMPORT_PLAIN (R406). -/
  | importPlain
  /-- UNWRAP (R406). -/
  | unwrap
  /-- WRAP (R406). -/
  | wrap
  /-- DERIVE (R406). -/
  | derive
  /-- AGREE (R406). -/
  | agree
  /-- SEAL (R406). -/
  | seal
  /-- OPEN (R406). -/
  | kvtOpen
  /-- SIGN (R406). -/
  | sign
  /-- VERIFY_ECDSA (R406). -/
  | verifyEcdsa
  /-- VERIFY_MLDSA (R406). -/
  | verifyMldsa
  /-- ATTEST (R410). -/
  | attest
  /-- STORE (R406). -/
  | store
  /-- EXPORT_PUBLIC (R406). -/
  | exportPublic
  /-- RANDOM (R406). -/
  | random
  /-- READ_CERT (R406). -/
  | readCert
  /-- KEY_COMMAND_DONE (R407). -/
  | keyCommandDone (engine : Fin 5)
  /-- REVOKE (R408). -/
  | revoke (req : Req) (slot : Fin 512)
  /-- DELETE (R408). -/
  | delete (req : Req) (slot : Fin 512)
  /-- ZEROIZE_VOLATILE (R419). -/
  | zeroizeVolatile (req : Req)
  /-- ZEROIZE_PERSISTENT (R419). -/
  | zeroizePersistent (req : Req)
  /-- ZEROIZE_FACTORY (R419). -/
  | zeroizeFactory (req : Req)
  /-- RESEAL (R416). -/
  | reseal (req : Req)
  /-- RESEAL_DONE (R416). -/
  | resealDone
  /-- MASKING_PASS (R412). -/
  | maskingPass
  /-- ENTROPY_FAIL (R418). -/
  | entropyFail (test : Fin 2)
  /-- ENTROPY_RECOVERED (R418). -/
  | entropyRecovered
  /-- SESSION_OPEN (R431). -/
  | sessionOpen (req : Req) (src : Fin 4)
  /-- SESSION_CLOSE (R431). -/
  | sessionClose (req : Req)
  /-- SESSION_ABORT (R431). -/
  | sessionAbort (req : Req)
  /-- XFER (R431). -/
  | xfer (req : Req) (v : Word)
  /-- XFER_DONE (R431). -/
  | xferDone
  /-- VERIFY (R431). -/
  | verify (req : Req)
  /-- VERIFY_DONE (R431). -/
  | verifyDone
  /-- ACTIVATE (R431). -/
  | activate (req : Req)
  /-- ACTIVATE_DONE (R431). -/
  | activateDone (flashOk : Bool)
  /-- CONFIRM (R434). -/
  | confirm (req : Req) (key : BitVec 16)
  /-- FALLBACK (R434). -/
  | fallback (req : Req) (key : BitVec 16)
  /-- MIG_DONE (R433). -/
  | migDone (req : Req)
  /-- SESSION_TIMEOUT (R431). -/
  | sessionTimeout
  /-- WINDOW_WARN (R435). -/
  | windowWarn
  /-- WINDOW_EXPIRY (R435). -/
  | windowExpiry
  /-- TWIN_ENABLE (R441). -/
  | twinEnable (req : Req)
  /-- HUNT_TIMEOUT (R442). -/
  | huntTimeout
  /-- TWIN_LINK_UP (R443). -/
  | twinLinkUp
  /-- TWIN_LINK_DOWN (R441). -/
  | twinLinkDown
  /-- HEARTBEAT_SEND (R445). -/
  | heartbeatSend
  /-- HEARTBEAT_RECEIVE (R445). -/
  | heartbeatReceive (h : TwinHead) (at_ : Stamp) (b : Heartbeat)
  /-- HEARTBEAT_DUE (R445). -/
  | heartbeatDue
  /-- PAIR_RECEIVE (R446). -/
  | pairReceive (h : TwinHead) (p : PairFrame)
  /-- CONTROL_RECEIVE (R448). -/
  | controlReceive (h : TwinHead) (c : ControlFrame)
  /-- ALIGNMENT_STEP (R448). -/
  | alignmentStep (slip : BitVec 12)
  /-- ACLK_TRIM (R448). -/
  | aclkTrim (lat : BitVec 16) (want : Int)
  /-- REFERENCE_LOSS (R447). -/
  | referenceLoss
  /-- LOOP_EPOCH_SEND (R452). -/
  | loopEpochSend
  /-- LOOP_EPOCH_RECEIVE (R452). -/
  | loopEpochReceive (h : TwinHead) (e : LoopEpoch) (complete : Bool)
  /-- METER_EPOCH_RECEIVE (R453). -/
  | meterEpochReceive (h : TwinHead) (slot : List Byte)
  /-- JOURNAL_RECEIVE (R451). -/
  | journalReceive (h : TwinHead) (e : JournalEntry)
  /-- YARDER_EPOCH_SEND (R453). -/
  | yarderEpochSend
  /-- YARDER_EPOCH_RECEIVE (R453). -/
  | yarderEpochReceive (h : TwinHead) (c : Nat) (events : List LampEvent) (reports : List MacReport) (complete : Bool)
  /-- YARDER_RESYNC (R453). -/
  | yarderResync (h : TwinHead) (y : Yrd) (c : Sch)
  /-- SWITCH_FRAME_RECEIVE (R443). -/
  | switchFrameReceive (h : TwinHead) (b : List Byte)
  /-- IMAGE_RECEIVE (R463). -/
  | imageReceive (h : TwinHead) (off : BitVec 27) (bytes : List Byte)
  /-- TAKEOVER_DECISION (R459). -/
  | takeoverDecision (c : Fin 5)
  /-- TAKEOVER (R460). -/
  | takeover
  /-- PULSE_RESUME (R460). -/
  | pulseResume
  /-- DEMOTE (R461). -/
  | demote
  /-- HANDOVER (R462). -/
  | handover (req : Req) (key : BitVec 16)
  /-- DRILL_ARM (R462). -/
  | drillArm (req : Req) (hi : Word)
  /-- DRILL_CANCEL (R465). -/
  | drillCancel (req : Req) (ret : BitVec 16)
  /-- HANDOVER_EXECUTE (R462). -/
  | handoverExecute
  /-- DRILL_RETURN (R462). -/
  | drillReturn
  /-- TWIN_REARM (R465). -/
  | twinRearm (req : Req)
  /-- KSP_CONNECT (R468). -/
  | kspConnect (c : KspClient)
  /-- HELLO (R470). -/
  | hello (i : Fin 8) (vmin : BitVec 8) (vmax : BitVec 8)
  /-- HELLO_TIMEOUT (R468). -/
  | helloTimeout (i : Fin 8)
  /-- SESSION_IDLE_TIMEOUT (R468). -/
  | sessionIdleTimeout (i : Fin 8)
  /-- PING (R479). -/
  | ping (h : KspHead)
  /-- BUNDLE (R473). -/
  | bundle (h : KspHead) (ms : List BundleMember) (p : CommitPoint)
  /-- BUNDLE_CANCEL (R475). -/
  | bundleCancel (h : KspHead) (txid : BitVec 64)
  /-- TX_QUERY (R477). -/
  | txQuery (h : KspHead) (txids : List (BitVec 64))
  /-- BUNDLE_CONVERT (R474). -/
  | bundleConvert
  /-- BUNDLE_ARM (R474). -/
  | bundleArm
  /-- BUNDLE_COMPLETE (R475). -/
  | bundleComplete
  /-- REG_READ (R479). -/
  | regRead (h : KspHead) (a : Word) (n : BitVec 10)
  /-- REG_WRITE (R479). -/
  | regWrite (h : KspHead) (l : List (Word × Word)) (p : CommitPoint)
  /-- WIN_READ (R479). -/
  | winRead (h : KspHead) (a : Word) (n : BitVec 14)
  /-- WIN_WRITE (R479). -/
  | winWrite (h : KspHead) (a : Word) (d : List Word) (p : CommitPoint)
  /-- CONFIG_GET (R479). -/
  | configGet (h : KspHead) (typ : BitVec 16)
  /-- CONFIG_PUT (R479). -/
  | configPut (h : KspHead) (rs : List ConfigRecord)
  /-- SCHEDULE_LOAD (R479). -/
  | scheduleLoad (h : KspHead) (l : List (Fin 1024 × List Word))
  /-- RULES_LOAD (R479). -/
  | rulesLoad (h : KspHead) (rules : List (Fin 256 × List Word)) (scenes : List (Fin 64 × List Word))
  /-- BANK_COMMIT (R479). -/
  | bankCommit (h : KspHead) (b : Fin 4) (p : CommitPoint)
  /-- OVERRIDE (R479). -/
  | override (h : KspHead) (slot : Fin 256) (content : List Word) (p : CommitPoint)
  /-- SCENE_SWITCH (R479). -/
  | sceneSwitch (h : KspHead) (scene : Fin 64) (on : Bool) (p : CommitPoint)
  /-- SETPOINT (R479). -/
  | setpoint (h : KspHead) (target : Option (Fin 48)) (v : Word) (p : CommitPoint)
  /-- LEVEL (R479). -/
  | level (h : KspHead) (ch : Fin 48) (v : Word) (p : CommitPoint)
  /-- PATTERN_START (R479). -/
  | patternStart (h : KspHead) (e : Fin 8) (p : CommitPoint)
  /-- ENDPOINT_BUDGET (R479). -/
  | endpointBudget (h : KspHead) (e : Fin 16384) (rateDn : Word) (burstDn : Word) (rateUp : Word) (burstUp : Word) (p : CommitPoint)
  /-- METER_READ (R479). -/
  | meterRead (h : KspHead)
  /-- METER_CYCLE (R479). -/
  | meterCycle (h : KspHead)
  /-- METER_SLOT (R479). -/
  | meterSlot (h : KspHead)
  /-- ALARM_ACK (R478). -/
  | alarmAck (h : KspHead) (seqs : List Word)
  /-- ALARM_LIST (R478). -/
  | alarmList (h : KspHead)
  /-- LOG_SUBSCRIBE (R478). -/
  | logSubscribe (h : KspHead) (from_ : Word) (mask : BitVec 1024)
  /-- LOG_STOP (R479). -/
  | logStop (h : KspHead)
  /-- TIME_READ (R479). -/
  | timeRead (h : KspHead)
  /-- TIME_STEP (R479). -/
  | timeStep (h : KspHead) (k : TimeStep)
  /-- TZ_LOAD (R479). -/
  | tzLoad (h : KspHead) (z : ZoneLoad)
  /-- UPD_OPEN (R479). -/
  | updOpen (h : KspHead)
  /-- UPD_DATA (R479). -/
  | updData (h : KspHead) (buf : BitVec 33) (off : Word) (bytes : List Byte)
  /-- UPD_VERIFY (R479). -/
  | updVerify (h : KspHead)
  /-- UPD_ACTIVATE (R479). -/
  | updActivate (h : KspHead)
  /-- UPD_CONFIRM (R479). -/
  | updConfirm (h : KspHead) (fallback : Bool)
  /-- UPD_STATUS (R479). -/
  | updStatus (h : KspHead)
  /-- TWIN_CMD (R479). -/
  | twinCmd (h : KspHead) (c : TwinCmd)
  /-- TXJ_PUT (R481). -/
  | txjPut (req : Req)
  /-- TXJ_FIND (R481). -/
  | txjFind (req : Req)
  /-- TXJ_UPDATE (R481). -/
  | txjUpdate (req : Req)
  /-- SEEK_DONE (R398). -/
  | seekDone
  /-- TXJ_DONE (R481). -/
  | txjDone
  /-- TX_DISABLE_RELEASE (R328). -/
  | txDisableRelease (u : Fin 2)
  /-- BLOCK_LOCK_CHANGE (R327). -/
  | blockLockChange (u : Fin 2) (lock : Bool) (los : Bool)
  /-- VIN_RETURN (R60). -/
  | vinReturn (mv : BitVec 16)
  deriving DecidableEq, Repr

end Sys2Proof
end

