-- ==== Sys2Proof/Config.lean ====
section
/-!
DEFINITION. The free values: what the spec leaves open, as constants without a body. Each is applied to the count of
values drawn so far (State.free), so that nothing is known of any of them; a log entry names each.
-/

namespace Sys2Proof

/-- Crystal edges into the present RTC second (log entry 20). -/
opaque Config.crystalEdges : Nat → Nat

/-- What the calendar holds after a load from a TB3 outside 2000 to 2399 (log entry 21). -/
opaque Config.calendarOutside : Nat → Nat

/-- Fabric clocks a dispatch decision takes, less one, modulo 16 (log entry 22). -/
opaque Config.decideClocks : Nat → Nat

/-- The 1 152 coded bits of frame control, and the codeword of a 4 320-bit block at rate 1/2, 2/3 or 5/6 (0 to 2), by the
recommendation R237 names (log entry 23). -/
opaque Config.ldpcControl : List Bool → List Bool
opaque Config.ldpc : Nat → List Bool → List Bool

/-- Symbols of a frame, and the mean SNR code, when a feeder has no active carrier (log entry 24). -/
opaque Config.noCarriers : Nat → Nat

/-! The algorithms of R417, by the standards it names (log entry 25): the key stream of AES-256-GCM at a position and its
tag, AES-KW and its inverse, HKDF-SHA-384, SHA-384, the public key of a P-384 private key, ECDH with validation of the
peer key, ECDSA P-384 over a digest with the nonce it takes, and the verifications. -/
opaque Config.gcmStream : List Byte → List Byte → Nat → Byte
opaque Config.gcmTag : List Byte → List Byte → List Byte → List Byte → List Byte
opaque Config.kwWrap : List Byte → List Byte → List Byte
opaque Config.kwUnwrap : List Byte → List Byte → Option (List Byte)
opaque Config.hkdf : List Byte → List Byte → List Byte → Nat → List Byte
opaque Config.sha384 : List Byte → List Byte
opaque Config.ecPublic : List Byte → List Byte
opaque Config.ecdh : List Byte → List Byte → Option (List Byte)
opaque Config.ecdsaSign : List Byte → List Byte → List Byte → List Byte
opaque Config.ecdsaVerify : List Byte → List Byte → List Byte → Bool
opaque Config.mldsaVerify : List Byte → List Byte → List Byte → Bool

/-- Byte `i` of a random draw of the vault's DRBG (log entry 26). -/
opaque Config.random : Nat → Nat → Byte

/-- The IDevID key and its certificate chain, put there at the factory (log entry 27). -/
opaque Config.idevKey : List Byte
opaque Config.idevChain : List Byte

/-- The values of KS1 to KS4, put there at the factory (log entry 27). -/
opaque Config.factoryKey : Nat → List Byte

/-- The group key epoch in use on a feeder (log entry 33). -/
opaque Config.keyEpoch : Nat → Nat

/-- The public key a certificate chain certifies under the trust anchors of the configuration store, if it does
(log entry 25). -/
opaque Config.chainKey : List Byte → Option (List Byte)

/-- The mode byte and the coded bits per symbol of the map of a link between two nodes, by feeder, transmitter, receiver and
draw: the nodes keep it among themselves (log entry 34). -/
opaque Config.peerMap : Nat → Nat → Nat → Nat → Nat × Nat

/-- The effective cycle a ROUTE element names before the last ACKNOWLEDGE sets it (log entry 98). -/
opaque Config.routeCycle : Nat → Nat

/-- How far the module's solar elevation lies from the value of this model, plus 1, modulo 3, by latitude, longitude and
minute (log entry 35; R288 bounds it to ±1). -/
opaque Config.solarOffset : Int → Int → Int → Nat

/-- The kind byte of a record INPUT_LATE for presence EVENTs, override armings and scene switches, 0 to 2 (log entry 36). -/
opaque Config.inputKind : Nat → Nat

/-- The flags byte of a record YRD_MARK for the marks RETRACT, LATE, COMPENSATE and NEW (log entry 37). -/
opaque Config.markFlags : Bool → Bool → Bool → Bool → Nat

/-- The command byte of a record UPD_REFUSED: 1 to 5 as CMD.OP, 6 OPEN, 7 CLOSE, 8 ABORT, 9 XFER (log entry 38). -/
opaque Config.updCommand : Nat → Nat

end Sys2Proof
end

