-- ==== Sys2Proof/Machine/RegMap.lean ====
section
/-!
DEFINITION. The register map: every register of every page of spec/ with its offset, access, writable fields,
field ranges and reset value, and the address of each by name (R66, R68, and the register table of each chapter).
The tables follow the register tables of the chapters, one row each.
-/

namespace Sys2Proof.Machine

/-- How a register answers accesses: read and write, read only, write only (reads 0), write one to clear,
or a counter that any write clears. -/
inductive Access where
  | rw | ro | wo | rw1c | counter
  deriving DecidableEq, Repr

/-- What a write of a field stores (the "On clamp" column): the value itself, a clamp to a range (unsigned or
two's complement), a value or span of values that becomes another, low bits cleared, or low bits cleared and a range. -/
inductive Fit where
  | any
  | within (lo hi : Nat)
  | twos (lo hi : Int)
  | become (first last into : Nat)
  | aligned (lowBits : Nat)
  | alignedWithin (lowBits lo hi : Nat)
  deriving DecidableEq, Repr

/-- One writable field, bits [hi:lo]. -/
structure Fld where
  hi : Nat
  lo : Nat
  fit : Fit
  deriving DecidableEq, Repr

/-- Whether a register is one half of a 64-bit register (R71). -/
inductive Half where
  | none | lo | hi
  deriving DecidableEq, Repr

/-- One row of a register table: a register or an array of them at a stride. -/
structure RegDesc where
  name : String
  off : Nat
  acc : Access
  half : Half := .none
  count : Nat := 1
  stride : Nat := 4
  reset : Nat → Nat := fun _ => 0
  flds : List Fld := []

/-- A row with its name, offset and access. -/
def reg (name : String) (off : Nat) (acc : Access) : RegDesc := { name, off, acc }
/-- The row as one half of a 64-bit register. -/
def RegDesc.paired (r : RegDesc) (h : Half) : RegDesc := { r with half := h }
/-- The row repeated `n` times at a stride. -/
def RegDesc.times (r : RegDesc) (n stride : Nat) : RegDesc := { r with count := n, stride := stride }
/-- The row with its reset value. -/
def RegDesc.resets (r : RegDesc) (v : Nat) : RegDesc := { r with reset := fun _ => v }
/-- The row with a reset value that depends on the index. -/
def RegDesc.resetBy (r : RegDesc) (f : Nat → Nat) : RegDesc := { r with reset := f }
/-- The row with its writable fields. -/
def RegDesc.fields (r : RegDesc) (l : List Fld) : RegDesc := { r with flds := l }

/-- The common registers at the start of every page (R68): `cap` and `stat` as the page's chapter gives them,
`fixed` when CTRL bit 0 reads 1 and ignores writes, `ints` the implemented INT_FLAG bits. -/
def commonRegs (p cap stat : Nat) (fixed : Bool) (ints : List Fld) : List RegDesc := [
  reg "ID" 0x000 .ro |>.resets (0x4B000000 + p * 0x10000 + 0x0200),
  reg "CAP" 0x004 .ro |>.resets cap,
  reg "CTRL" 0x008 .rw |>.resets (if fixed then 1 else 0) |>.fields (if fixed then [] else [⟨0, 0, .any⟩]),
  reg "STAT" 0x00C .ro |>.resets stat,
  reg "INT_EN" 0x010 .rw |>.fields ints,
  reg "INT_FLAG" 0x014 .rw1c |>.fields ints,
  reg "INT_FORCE" 0x018 .wo,
  reg "LOCK" 0x01C .rw |>.fields [⟨1, 0, .any⟩],
  reg "CLAMP_CNT" 0x020 .counter,
  reg "PARITY_CNT" 0x024 .counter]

/-! ### SYS -/

def SYS.page : Nat := 0x00
def SYS.INT_SUMMARY_LO : Nat := 0x40000040
def SYS.INT_SUMMARY_HI : Nat := 0x40000044
def SYS.PAR_SUMMARY_LO : Nat := 0x40000048
def SYS.PAR_SUMMARY_HI : Nat := 0x4000004C
def SYS.CLAMP_LAST : Nat := 0x40000050
def SYS.CLAMP_SRC : Nat := 0x40000054
def SYS.ERR_ADDR : Nat := 0x40000058
def SYS.ERR_INFO : Nat := 0x4000005C
def SYS.RST_CAUSE : Nat := 0x40000060
def SYS.RST_CTRL : Nat := 0x40000064
def SYS.WDOG_CFG : Nat := 0x40000068
def SYS.WDOG_KICK : Nat := 0x4000006C
def SYS.SRAM_CE : Nat := 0x40000070
def SYS.SRAM_UE : Nat := 0x40000074
def SYS.SERIAL_LO : Nat := 0x40000080
def SYS.SERIAL_HI : Nat := 0x40000084
def SYS.HW_REV : Nat := 0x40000088
def SYS.INT_ROUTE (i : Nat) : Nat := 0x40000100 + 0x4 * i

/-- The registers of SYS, part 1. -/
def sysRegs1 : List RegDesc := [
  reg "INT_SUMMARY_LO" 0x040 .ro |>.paired .lo,
  reg "INT_SUMMARY_HI" 0x044 .ro |>.paired .hi,
  reg "PAR_SUMMARY_LO" 0x048 .ro |>.paired .lo,
  reg "PAR_SUMMARY_HI" 0x04C .ro |>.paired .hi,
  reg "CLAMP_LAST" 0x050 .ro,
  reg "CLAMP_SRC" 0x054 .ro,
  reg "ERR_ADDR" 0x058 .ro,
  reg "ERR_INFO" 0x05C .ro,
  reg "RST_CAUSE" 0x060 .rw1c |>.resets 0x1 |>.fields [⟨7, 0, .any⟩],
  reg "RST_CTRL" 0x064 .wo,
  reg "WDOG_CFG" 0x068 .rw |>.resets 0x3E8 |>.fields [⟨15, 0, .within 10 60000⟩, ⟨16, 16, .any⟩, ⟨17, 17, .any⟩],
  reg "WDOG_KICK" 0x06C .wo,
  reg "SRAM_CE" 0x070 .counter,
  reg "SRAM_UE" 0x074 .counter,
  reg "SERIAL_LO" 0x080 .ro |>.paired .lo,
  reg "SERIAL_HI" 0x084 .ro |>.paired .hi]


/-- The registers of SYS, part 2. -/
def sysRegs2 : List RegDesc := [
  reg "HW_REV" 0x088 .ro |>.resets 0x2,
  reg "INT_ROUTE" 0x100 .rw |>.times 64 0x4 |>.resets 0x1 |>.fields [⟨3, 0, .any⟩, ⟨8, 8, .any⟩]]

/-- The registers of SYS. -/
def sysRegs : List RegDesc := sysRegs1 ++ sysRegs2

/-! ### PWR -/

def PWR.page : Nat := 0x01
def PWR.DOM_EN : Nat := 0x40001040
def PWR.DOM_PG : Nat := 0x40001044
def PWR.DOM_FAULT : Nat := 0x40001048
def PWR.VIN_MV : Nat := 0x4000104C
def PWR.BANK_MV : Nat := 0x40001050
def PWR.BANK_MJ : Nat := 0x40001054
def PWR.HOLD_EST : Nat := 0x40001058
def PWR.CELL_MV : Nat := 0x4000105C
def PWR.TEMP : Nat := 0x40001060
def PWR.PCYCLE_CNT : Nat := 0x40001064
def PWR.PF_CNT : Nat := 0x40001068
def PWR.BANK_TEST : Nat := 0x4000106C
def PWR.LAST_PF_LO : Nat := 0x40001070
def PWR.LAST_PF_HI : Nat := 0x40001074
def PWR.TEMP_LIM : Nat := 0x40001078

/-- The registers of PWR. -/
def pwrRegs : List RegDesc := [
  reg "DOM_EN" 0x040 .rw |>.resets 0x42F |>.fields [⟨11, 0, .any⟩],
  reg "DOM_PG" 0x044 .ro,
  reg "DOM_FAULT" 0x048 .rw1c |>.fields [⟨11, 0, .any⟩],
  reg "VIN_MV" 0x04C .ro,
  reg "BANK_MV" 0x050 .ro,
  reg "BANK_MJ" 0x054 .ro |>.resets 0x1770,
  reg "HOLD_EST" 0x058 .ro,
  reg "CELL_MV" 0x05C .ro,
  reg "TEMP" 0x060 .ro,
  reg "PCYCLE_CNT" 0x064 .ro,
  reg "PF_CNT" 0x068 .ro,
  reg "BANK_TEST" 0x06C .rw |>.resets 0x1800 |>.fields [⟨15, 8, .within 1 168⟩],
  reg "LAST_PF_LO" 0x070 .ro |>.paired .lo,
  reg "LAST_PF_HI" 0x074 .ro |>.paired .hi,
  reg "TEMP_LIM" 0x078 .rw |>.resets 0x5F |>.fields [⟨7, 0, .within 60 105⟩]]

/-! ### RCT -/

def RCT.page : Nat := 0x02
def RCT.CFG : Nat := 0x40002040
def RCT.SLEW : Nat := 0x40002044
def RCT.PULL : Nat := 0x40002048
def RCT.ZC_CFG : Nat := 0x4000204C
def RCT.VNOM : Nat := 0x40002050
def RCT.FREQ : Nat := 0x40002054
def RCT.PHASE_ERR : Nat := 0x40002058
def RCT.FLY_CNT : Nat := 0x4000205C
def RCT.NOW_LO : Nat := 0x40002060
def RCT.NOW_HI : Nat := 0x40002064
def RCT.RING_SET_LO : Nat := 0x40002068
def RCT.RING_SET_HI : Nat := 0x4000206C
def RCT.FORCE : Nat := 0x40002070
def RCT.SLIP : Nat := 0x40002074
def RCT.CONV_IN0 : Nat := 0x40002080
def RCT.CONV_IN1 : Nat := 0x40002084
def RCT.CONV_IN2 : Nat := 0x40002088
def RCT.CONV_CTRL : Nat := 0x4000208C
def RCT.CONV_OUT0 : Nat := 0x40002090
def RCT.CONV_OUT1 : Nat := 0x40002094
def RCT.CONV_OUT2 : Nat := 0x40002098
def RCT.CONV_STAT : Nat := 0x4000209C
def RCT.MAP (i : Nat) : Nat := 0x40002100 + 0x4 * i

/-- The registers of RCT, part 1. -/
def rctRegs1 : List RegDesc := [
  reg "CFG" 0x040 .rw |>.resets 0x4 |>.fields [⟨0, 0, .any⟩, ⟨2, 1, .any⟩],
  reg "SLEW" 0x044 .rw |>.resets 0x28 |>.fields [⟨7, 0, .within 1 200⟩],
  reg "PULL" 0x048 .rw |>.resets 0x4 |>.fields [⟨3, 0, .within 1 8⟩],
  reg "ZC_CFG" 0x04C .rw |>.resets 0xA14 |>.fields [⟨7, 0, .within 5 80⟩, ⟨15, 8, .within 1 50⟩],
  reg "VNOM" 0x050 .rw |>.fields [⟨30, 0, .any⟩],
  reg "FREQ" 0x054 .ro |>.resets 0x32000000,
  reg "PHASE_ERR" 0x058 .ro,
  reg "FLY_CNT" 0x05C .ro,
  reg "NOW_LO" 0x060 .ro |>.paired .lo,
  reg "NOW_HI" 0x064 .ro |>.paired .hi,
  reg "RING_SET_LO" 0x068 .rw |>.paired .lo |>.fields [⟨31, 0, .any⟩],
  reg "RING_SET_HI" 0x06C .rw |>.paired .hi |>.fields [⟨31, 0, .any⟩],
  reg "FORCE" 0x070 .wo,
  reg "SLIP" 0x074 .ro,
  reg "CONV_IN0" 0x080 .rw |>.fields [⟨31, 0, .any⟩],
  reg "CONV_IN1" 0x084 .rw |>.fields [⟨31, 0, .any⟩]]


/-- The registers of RCT, part 2. -/
def rctRegs2 : List RegDesc := [
  reg "CONV_IN2" 0x088 .rw |>.fields [⟨31, 0, .any⟩],
  reg "CONV_CTRL" 0x08C .rw |>.fields [⟨1, 1, .any⟩],
  reg "CONV_OUT0" 0x090 .ro,
  reg "CONV_OUT1" 0x094 .ro,
  reg "CONV_OUT2" 0x098 .ro,
  reg "CONV_STAT" 0x09C .ro,
  reg "MAP" 0x100 .ro |>.times 128 0x4]

/-- The registers of RCT. -/
def rctRegs : List RegDesc := rctRegs1 ++ rctRegs2

/-! ### TIM -/

def TIM.page : Nat := 0x03
def TIM.TB_S_LO (i : Nat) : Nat := 0x40003100 + 0x10 * i
def TIM.TB_S_HI (i : Nat) : Nat := 0x40003104 + 0x10 * i
def TIM.TB_NS (i : Nat) : Nat := 0x40003108 + 0x10 * i
def TIM.RATE (i : Nat) : Nat := 0x4000310C + 0x10 * i
def TIM.DOM_CFG (i : Nat) : Nat := 0x40003200 + 0x40 * i
def TIM.DOM_STAT (i : Nat) : Nat := 0x40003204 + 0x40 * i
def TIM.OFFS_LO (i : Nat) : Nat := 0x40003208 + 0x40 * i
def TIM.OFFS_HI (i : Nat) : Nat := 0x4000320C + 0x40 * i
def TIM.MEAS (i : Nat) : Nat := 0x40003210 + 0x40 * i
def TIM.UTCOFF (i : Nat) : Nat := 0x40003214 + 0x40 * i
def TIM.THR (i : Nat) : Nat := 0x40003218 + 0x40 * i
def TIM.LAST (i : Nat) : Nat := 0x4000321C + 0x40 * i
def TIM.STEP_AT (i : Nat) : Nat := 0x40003220 + 0x40 * i
def TIM.CNT (i : Nat) : Nat := 0x40003224 + 0x40 * i
def TIM.CIV_CFG : Nat := 0x40003300
def TIM.CIV_STAT : Nat := 0x40003304
def TIM.CIV_ERR : Nat := 0x40003308
def TIM.CIV_AGREE : Nat := 0x4000330C
def TIM.CIV_STEP : Nat := 0x40003310
def TIM.STEP_VAL_S_LO : Nat := 0x40003314
def TIM.STEP_VAL_S_HI : Nat := 0x40003318
def TIM.STEP_VAL_NS : Nat := 0x4000331C
def TIM.CIV_CNT : Nat := 0x40003320
def TIM.TZ_CFG : Nat := 0x40003400
def TIM.DST_START : Nat := 0x40003404
def TIM.DST_END : Nat := 0x40003408
def TIM.TZ_NOW : Nat := 0x4000340C
def TIM.ALM_CFG (i : Nat) : Nat := 0x40003500 + 0x10 * i
def TIM.ALM_S_LO (i : Nat) : Nat := 0x40003504 + 0x10 * i
def TIM.ALM_S_HI (i : Nat) : Nat := 0x40003508 + 0x10 * i
def TIM.ALM_NS (i : Nat) : Nat := 0x4000350C + 0x10 * i
def TIM.TZ_ENT_LO (i : Nat) : Nat := 0x40003800 + 0x8 * i
def TIM.TZ_ENT_HI (i : Nat) : Nat := 0x40003804 + 0x8 * i

/-- The registers of TIM, part 1. -/
def timRegs1 : List RegDesc := [
  reg "TB_S_LO" 0x100 .ro |>.times 4 0x10,
  reg "TB_S_HI" 0x104 .ro |>.times 4 0x10,
  reg "TB_NS" 0x108 .ro |>.times 4 0x10,
  reg "RATE" 0x10C .rw |>.times 4 0x10 |>.fields [⟨31, 0, .twos (-429496) (429496)⟩],
  reg "DOM_CFG" 0x200 .rw |>.times 2 0x40 |>.resetBy (fun k => 0x08730000 + k * 0x100) |>.fields [⟨0, 0, .any⟩, ⟨15, 8, .within 0 127⟩, ⟨19, 16, .any⟩, ⟨23, 20, .any⟩, ⟨31, 24, .within 1 255⟩],
  reg "DOM_STAT" 0x204 .ro |>.times 2 0x40,
  reg "OFFS_LO" 0x208 .rw |>.paired .lo |>.times 2 0x40 |>.fields [⟨31, 0, .any⟩],
  reg "OFFS_HI" 0x20C .rw |>.paired .hi |>.times 2 0x40 |>.fields [⟨31, 0, .any⟩],
  reg "MEAS" 0x210 .wo |>.times 2 0x40,
  reg "UTCOFF" 0x214 .rw |>.times 2 0x40 |>.fields [⟨15, 0, .any⟩],
  reg "THR" 0x218 .rw |>.times 2 0x40 |>.resets 0x3E803E8 |>.fields [⟨15, 0, .within 10 1000⟩, ⟨31, 16, .within 2 65535⟩],
  reg "LAST" 0x21C .ro |>.times 2 0x40,
  reg "STEP_AT" 0x220 .ro |>.times 2 0x40,
  reg "CNT" 0x224 .counter |>.times 2 0x40,
  reg "CIV_CFG" 0x300 .rw |>.resets 0x3C1F440 |>.fields [⟨0, 0, .any⟩, ⟨7, 4, .within 0 12⟩, ⟨17, 8, .within 1 500⟩, ⟨27, 20, .within 10 255⟩],
  reg "CIV_STAT" 0x304 .ro]


/-- The registers of TIM, part 2. -/
def timRegs2 : List RegDesc := [
  reg "CIV_ERR" 0x308 .ro,
  reg "CIV_AGREE" 0x30C .rw |>.resets 0x3E8 |>.fields [⟨15, 0, .within 1 65535⟩],
  reg "CIV_STEP" 0x310 .wo,
  reg "STEP_VAL_S_LO" 0x314 .rw |>.fields [⟨31, 0, .any⟩],
  reg "STEP_VAL_S_HI" 0x318 .rw |>.fields [⟨31, 0, .any⟩],
  reg "STEP_VAL_NS" 0x31C .rw |>.fields [⟨31, 0, .any⟩],
  reg "CIV_CNT" 0x320 .counter,
  reg "TZ_CFG" 0x400 .rw |>.fields [⟨15, 0, .twos (-720) (840)⟩, ⟨23, 16, .within 0 120⟩, ⟨29, 24, .within 0 32⟩, ⟨31, 31, .any⟩],
  reg "DST_START" 0x404 .rw |>.resets 0x780653 |>.fields [⟨3, 0, .within 1 12⟩, ⟨6, 4, .within 1 5⟩, ⟨10, 8, .within 0 6⟩, ⟨26, 16, .within 0 1439⟩],
  reg "DST_END" 0x408 .rw |>.resets 0xB4065A |>.fields [⟨3, 0, .within 1 12⟩, ⟨6, 4, .within 1 5⟩, ⟨10, 8, .within 0 6⟩, ⟨26, 16, .within 0 1439⟩],
  reg "TZ_NOW" 0x40C .ro,
  reg "ALM_CFG" 0x500 .rw |>.times 4 0x10 |>.fields [⟨0, 0, .any⟩, ⟨2, 1, .any⟩, ⟨3, 3, .any⟩],
  reg "ALM_S_LO" 0x504 .rw |>.times 4 0x10 |>.fields [⟨31, 0, .any⟩],
  reg "ALM_S_HI" 0x508 .rw |>.times 4 0x10 |>.fields [⟨31, 0, .any⟩],
  reg "ALM_NS" 0x50C .rw |>.times 4 0x10 |>.fields [⟨31, 0, .any⟩],
  reg "TZ_ENT_LO" 0x800 .rw |>.times 32 0x8 |>.fields [⟨31, 0, .any⟩]]


/-- The registers of TIM, part 3. -/
def timRegs3 : List RegDesc := [
  reg "TZ_ENT_HI" 0x804 .rw |>.times 32 0x8 |>.fields [⟨15, 0, .any⟩, ⟨31, 16, .any⟩]]

/-- The registers of TIM. -/
def timRegs : List RegDesc := timRegs1 ++ timRegs2 ++ timRegs3

/-! ### RTC -/

def RTC.page : Nat := 0x04
def RTC.DATE : Nat := 0x40004040
def RTC.TIME : Nat := 0x40004044
def RTC.PRESC : Nat := 0x40004048
def RTC.SECS_LO : Nat := 0x4000404C
def RTC.SECS_HI : Nat := 0x40004050
def RTC.SET_DATE : Nat := 0x40004054
def RTC.SET_TIME : Nat := 0x40004058
def RTC.TRIM : Nat := 0x4000405C
def RTC.TRIM_CFG : Nat := 0x40004060
def RTC.TRIM_MEAS : Nat := 0x40004064
def RTC.TRIM_PROG : Nat := 0x40004068
def RTC.ALM_LO (i : Nat) : Nat := 0x40004070 + 0x8 * i
def RTC.ALM_HI (i : Nat) : Nat := 0x40004074 + 0x8 * i
def RTC.ALM_CTRL : Nat := 0x40004080

/-- The registers of RTC. -/
def rtcRegs : List RegDesc := [
  reg "DATE" 0x040 .ro,
  reg "TIME" 0x044 .ro,
  reg "PRESC" 0x048 .ro,
  reg "SECS_LO" 0x04C .ro |>.paired .lo,
  reg "SECS_HI" 0x050 .ro |>.paired .hi,
  reg "SET_DATE" 0x054 .rw |>.resets 0x1010000 |>.fields [⟨8, 0, .within 0 399⟩, ⟨19, 16, .within 1 12⟩, ⟨28, 24, .within 1 31⟩],
  reg "SET_TIME" 0x058 .rw |>.fields [⟨5, 0, .within 0 59⟩, ⟨13, 8, .within 0 59⟩, ⟨20, 16, .within 0 23⟩],
  reg "TRIM" 0x05C .rw |>.fields [⟨31, 0, .twos (-200000) (200000)⟩],
  reg "TRIM_CFG" 0x060 .rw |>.resets 0x11 |>.fields [⟨1, 0, .become 3 3 2⟩, ⟨4, 4, .any⟩],
  reg "TRIM_MEAS" 0x064 .ro,
  reg "TRIM_PROG" 0x068 .ro,
  reg "ALM_LO" 0x070 .rw |>.paired .lo |>.times 2 0x8 |>.fields [⟨31, 0, .any⟩],
  reg "ALM_HI" 0x074 .rw |>.paired .hi |>.times 2 0x8 |>.fields [⟨31, 0, .any⟩],
  reg "ALM_CTRL" 0x080 .rw |>.fields [⟨0, 0, .any⟩, ⟨1, 1, .any⟩]]

/-! ### SNS -/

def SNS.page (p : Nat) : Nat := 0x05 + p
def SNS.STUCK_SUM (p : Nat) : Nat := 0x40005040 + 0x1000 * p
def SNS.OVR_SUM (p : Nat) : Nat := 0x40005044 + 0x1000 * p
def SNS.LANE_CFG (i : Nat) : Nat := 0x40005100 + 0x1000 * (i / 4) + 0x20 * (i % 4)
def SNS.LANE_STAT (i : Nat) : Nat := 0x40005104 + 0x1000 * (i / 4) + 0x20 * (i % 4)
def SNS.LOST_CNT (i : Nat) : Nat := 0x40005108 + 0x1000 * (i / 4) + 0x20 * (i % 4)
def SNS.TRAIN_CNT (i : Nat) : Nat := 0x4000510C + 0x1000 * (i / 4) + 0x20 * (i % 4)
def SNS.CFG (i : Nat) : Nat := 0x40005400 + 0x1000 * (i / 32) + 0x20 * (i % 32)
def SNS.OFFSET (i : Nat) : Nat := 0x40005404 + 0x1000 * (i / 32) + 0x20 * (i % 32)
def SNS.GAIN (i : Nat) : Nat := 0x40005408 + 0x1000 * (i / 32) + 0x20 * (i % 32)
def SNS.DLY (i : Nat) : Nat := 0x4000540C + 0x1000 * (i / 32) + 0x20 * (i % 32)
def SNS.SAMPLE (i : Nat) : Nat := 0x40005410 + 0x1000 * (i / 32) + 0x20 * (i % 32)
def SNS.FAST (i : Nat) : Nat := 0x40005414 + 0x1000 * (i / 32) + 0x20 * (i % 32)
def SNS.ISTAT (i : Nat) : Nat := 0x40005418 + 0x1000 * (i / 32) + 0x20 * (i % 32)
def SNS.ABS_CNT (i : Nat) : Nat := 0x4000541C + 0x1000 * (i / 32) + 0x20 * (i % 32)

/-- The registers of SNS. -/
def snsRegs (lanes inputs : Nat) : List RegDesc := [
  reg "STUCK_SUM" 0x040 .ro,
  reg "OVR_SUM" 0x044 .ro,
  reg "LANE_CFG" 0x100 .rw |>.times lanes 0x20 |>.resets 0x20 |>.fields [⟨0, 0, .any⟩, ⟨6, 4, .within 1 4⟩],
  reg "LANE_STAT" 0x104 .ro |>.times lanes 0x20,
  reg "LOST_CNT" 0x108 .counter |>.times lanes 0x20,
  reg "TRAIN_CNT" 0x10C .counter |>.times lanes 0x20,
  reg "CFG" 0x400 .rw |>.times inputs 0x20 |>.resets 0x81000 |>.fields [⟨0, 0, .any⟩, ⟨2, 1, .any⟩, ⟨3, 3, .any⟩, ⟨12, 8, .within 12 20⟩, ⟨19, 16, .any⟩],
  reg "OFFSET" 0x404 .rw |>.times inputs 0x20 |>.fields [⟨23, 0, .any⟩],
  reg "GAIN" 0x408 .rw |>.times inputs 0x20 |>.resets 0x400000 |>.fields [⟨23, 0, .within 2097152 8388607⟩],
  reg "DLY" 0x40C .rw |>.times inputs 0x20 |>.resets 0x82 |>.fields [⟨7, 0, .any⟩],
  reg "SAMPLE" 0x410 .ro |>.times inputs 0x20,
  reg "FAST" 0x414 .ro |>.times inputs 0x20,
  reg "ISTAT" 0x418 .ro |>.times inputs 0x20,
  reg "ABS_CNT" 0x41C .counter |>.times inputs 0x20]

/-! ### PB -/

def PB.PB_CTRL : Nat := 0x40008200
def PB.PB_STAT : Nat := 0x40008204
def PB.PB_BASE_LO : Nat := 0x40008208
def PB.PB_BASE_HI : Nat := 0x4000820C
def PB.PB_SIZE : Nat := 0x40008210
def PB.PB_WR : Nat := 0x40008214
def PB.PB_RD : Nat := 0x40008218
def PB.PB_START_LO : Nat := 0x4000821C
def PB.PB_START_HI : Nat := 0x40008220
def PB.PB_COUNT : Nat := 0x40008224
def PB.PB_DONE : Nat := 0x40008228

/-- The registers of PB. -/
def pbRegs : List RegDesc := [
  reg "PB_CTRL" 0x200 .rw |>.fields [⟨0, 0, .any⟩, ⟨1, 1, .any⟩, ⟨2, 2, .any⟩],
  reg "PB_STAT" 0x204 .ro,
  reg "PB_BASE_LO" 0x208 .rw |>.paired .lo |>.fields [⟨31, 0, .aligned 20⟩],
  reg "PB_BASE_HI" 0x20C .rw |>.paired .hi |>.fields [⟨31, 0, .any⟩],
  reg "PB_SIZE" 0x210 .rw |>.resets 0x400 |>.fields [⟨20, 0, .alignedWithin 10 1024 1048576⟩],
  reg "PB_WR" 0x214 .rw |>.fields [⟨31, 0, .any⟩],
  reg "PB_RD" 0x218 .rw |>.fields [⟨31, 0, .any⟩],
  reg "PB_START_LO" 0x21C .rw |>.paired .lo |>.fields [⟨31, 0, .any⟩],
  reg "PB_START_HI" 0x220 .rw |>.paired .hi |>.fields [⟨31, 0, .any⟩],
  reg "PB_COUNT" 0x224 .rw |>.fields [⟨31, 0, .any⟩],
  reg "PB_DONE" 0x228 .ro]

/-! ### CEN -/

def CEN.page : Nat := 0x09
def CEN.TBL_CHECK : Nat := 0x40009040
def CEN.TBL_STAT : Nat := 0x40009044
def CEN.COMMIT_CTRL : Nat := 0x40009048
def CEN.COMMIT_STAT : Nat := 0x4000904C
def CEN.COMMIT_AT_LO : Nat := 0x40009050
def CEN.COMMIT_AT_HI : Nat := 0x40009054
def CEN.DONE_AT_LO : Nat := 0x40009058
def CEN.DONE_AT_HI : Nat := 0x4000905C
def CEN.FB_SEL_LO : Nat := 0x40009060
def CEN.FB_SEL_HI : Nat := 0x40009064
def CEN.FB_STAT_LO : Nat := 0x40009068
def CEN.FB_STAT_HI : Nat := 0x4000906C
def CEN.HALT_LO : Nat := 0x40009070
def CEN.HALT_HI : Nat := 0x40009074
def CEN.REARM_LO : Nat := 0x40009078
def CEN.REARM_HI : Nat := 0x4000907C
def CEN.OVERRUN_CNT : Nat := 0x40009080
def CEN.EXEC_MARGIN : Nat := 0x40009084
def CEN.MISS (i : Nat) : Nat := 0x40009100 + 0x4 * i

/-- The registers of CEN, part 1. -/
def cenRegs1 : List RegDesc := [
  reg "TBL_CHECK" 0x040 .wo,
  reg "TBL_STAT" 0x044 .ro,
  reg "COMMIT_CTRL" 0x048 .rw |>.fields [⟨2, 2, .any⟩],
  reg "COMMIT_STAT" 0x04C .ro,
  reg "COMMIT_AT_LO" 0x050 .rw |>.paired .lo |>.fields [⟨31, 0, .any⟩],
  reg "COMMIT_AT_HI" 0x054 .rw |>.paired .hi |>.fields [⟨31, 0, .any⟩],
  reg "DONE_AT_LO" 0x058 .ro |>.paired .lo,
  reg "DONE_AT_HI" 0x05C .ro |>.paired .hi,
  reg "FB_SEL_LO" 0x060 .rw |>.paired .lo |>.fields [⟨31, 0, .any⟩],
  reg "FB_SEL_HI" 0x064 .rw |>.paired .hi |>.fields [⟨31, 0, .any⟩],
  reg "FB_STAT_LO" 0x068 .ro |>.paired .lo,
  reg "FB_STAT_HI" 0x06C .ro |>.paired .hi,
  reg "HALT_LO" 0x070 .ro |>.paired .lo,
  reg "HALT_HI" 0x074 .ro |>.paired .hi,
  reg "REARM_LO" 0x078 .wo |>.paired .lo,
  reg "REARM_HI" 0x07C .wo |>.paired .hi]


/-- The registers of CEN, part 2. -/
def cenRegs2 : List RegDesc := [
  reg "OVERRUN_CNT" 0x080 .counter,
  reg "EXEC_MARGIN" 0x084 .counter |>.resets 0xFFFF,
  reg "MISS" 0x100 .counter |>.times 64 0x4]

/-- The registers of CEN. -/
def cenRegs : List RegDesc := cenRegs1 ++ cenRegs2

/-! ### CENW -/

def CENW.page : Nat := 0x0A
/-! ### MFE -/

def MFE.page : Nat := 0x0B
def MFE.BUS_SP_NEXT : Nat := 0x4000B040
def MFE.BUS_SP_AT_LO : Nat := 0x4000B044
def MFE.BUS_SP_AT_HI : Nat := 0x4000B048
def MFE.BUS_SP_CUR : Nat := 0x4000B04C
def MFE.SAG_CFG : Nat := 0x4000B050
def MFE.SHED_CFG : Nat := 0x4000B054
def MFE.UV_CFG : Nat := 0x4000B058
def MFE.BUS_MV : Nat := 0x4000B05C
def MFE.LEG_CMP (i : Nat) : Nat := 0x4000B060 + 0x4 * i
def MFE.CNT : Nat := 0x4000B06C

/-- The registers of MFE. -/
def mfeRegs : List RegDesc := [
  reg "BUS_SP_NEXT" 0x040 .rw |>.resets 0x61A80 |>.fields [⟨18, 0, .within 380000 400000⟩],
  reg "BUS_SP_AT_LO" 0x044 .rw |>.paired .lo |>.fields [⟨31, 0, .any⟩],
  reg "BUS_SP_AT_HI" 0x048 .rw |>.paired .hi |>.fields [⟨31, 0, .any⟩],
  reg "BUS_SP_CUR" 0x04C .ro |>.resets 0x61A80,
  reg "SAG_CFG" 0x050 .rw |>.resets 0x80168 |>.fields [⟨9, 0, .within 300 390⟩, ⟨23, 16, .within 1 64⟩],
  reg "SHED_CFG" 0x054 .rw |>.resets 0xA320200 |>.fields [⟨12, 0, .alignedWithin 3 64 4096⟩, ⟨23, 16, .within 1 250⟩, ⟨31, 24, .within 1 250⟩],
  reg "UV_CFG" 0x058 .rw |>.resets 0xC80118 |>.fields [⟨9, 0, .within 200 360⟩, ⟨23, 16, .within 10 250⟩],
  reg "BUS_MV" 0x05C .ro,
  reg "LEG_CMP" 0x060 .ro |>.times 3 0x4 |>.resets 0x800,
  reg "CNT" 0x06C .counter]

/-! ### CHN -/

def CHN.page (p : Nat) : Nat := 0x0C + p
def CHN.EVT (p : Nat) : Nat := 0x4000C040 + 0x1000 * p
def CHN.CTRL_K (i : Nat) : Nat := 0x4000C100 + 0x1000 * (i / 12) + 0x100 * (i % 12)
def CHN.SP_NEXT (i : Nat) : Nat := 0x4000C104 + 0x1000 * (i / 12) + 0x100 * (i % 12)
def CHN.SP_AT_LO (i : Nat) : Nat := 0x4000C108 + 0x1000 * (i / 12) + 0x100 * (i % 12)
def CHN.SP_AT_HI (i : Nat) : Nat := 0x4000C10C + 0x1000 * (i / 12) + 0x100 * (i % 12)
def CHN.SP_CUR (i : Nat) : Nat := 0x4000C110 + 0x1000 * (i / 12) + 0x100 * (i % 12)
def CHN.CMP_MAX (i : Nat) : Nat := 0x4000C114 + 0x1000 * (i / 12) + 0x100 * (i % 12)
def CHN.STAT_K (i : Nat) : Nat := 0x4000C118 + 0x1000 * (i / 12) + 0x100 * (i % 12)
def CHN.DUTY (i : Nat) : Nat := 0x4000C11C + 0x1000 * (i / 12) + 0x100 * (i % 12)
def CHN.VOUT (i : Nat) : Nat := 0x4000C120 + 0x1000 * (i / 12) + 0x100 * (i % 12)
def CHN.IOUT (i : Nat) : Nat := 0x4000C124 + 0x1000 * (i / 12) + 0x100 * (i % 12)
def CHN.CNT (i : Nat) : Nat := 0x4000C128 + 0x1000 * (i / 12) + 0x100 * (i % 12)

/-- The registers of CHN. -/
def chnRegs : List RegDesc := [
  reg "EVT" 0x040 .rw1c |>.fields [⟨11, 0, .any⟩],
  reg "CTRL_K" 0x100 .rw |>.times 12 0x100 |>.resets 0x30 |>.fields [⟨0, 0, .any⟩, ⟨1, 1, .any⟩, ⟨2, 2, .any⟩, ⟨6, 4, .any⟩],
  reg "SP_NEXT" 0x104 .rw |>.times 12 0x100 |>.fields [⟨18, 0, .any⟩],
  reg "SP_AT_LO" 0x108 .rw |>.paired .lo |>.times 12 0x100 |>.fields [⟨31, 0, .any⟩],
  reg "SP_AT_HI" 0x10C .rw |>.paired .hi |>.times 12 0x100 |>.fields [⟨31, 0, .any⟩],
  reg "SP_CUR" 0x110 .ro |>.times 12 0x100,
  reg "CMP_MAX" 0x114 .rw |>.times 12 0x100 |>.resets 0x79A |>.fields [⟨11, 0, .within 0 2048⟩],
  reg "STAT_K" 0x118 .ro |>.times 12 0x100,
  reg "DUTY" 0x11C .ro |>.times 12 0x100,
  reg "VOUT" 0x120 .ro |>.times 12 0x100,
  reg "IOUT" 0x124 .ro |>.times 12 0x100,
  reg "CNT" 0x128 .counter |>.times 12 0x100]

/-! ### AXE -/

def AXE.page : Nat := 0x10
def AXE.RUN_EN : Nat := 0x40010040
def AXE.PIN_STATE : Nat := 0x40010044
def AXE.PIN_ARMED : Nat := 0x40010048
def AXE.FORCE : Nat := 0x4001004C
def AXE.CLEAR : Nat := 0x40010050
def AXE.FIRST_SRC : Nat := 0x40010054
def AXE.FIRST_AT_LO : Nat := 0x40010058
def AXE.FIRST_AT_HI : Nat := 0x4001005C
def AXE.RESTART_CFG : Nat := 0x40010060
def AXE.ARM_CFG : Nat := 0x40010064
def AXE.HIST_WR : Nat := 0x40010068
def AXE.BRD_CNT (i : Nat) : Nat := 0x40010080 + 0x4 * i
def AXE.PIN_CFG (i : Nat) : Nat := 0x40010100 + 0x4 * i
def AXE.LANE_CFG (i : Nat) : Nat := 0x40010180 + 0x4 * i
def AXE.FW_CNT : Nat := 0x400101C0
def AXE.DT_CFG (i : Nat) : Nat := 0x40010200 + 0x10 * i
def AXE.DT_HI (i : Nat) : Nat := 0x40010204 + 0x10 * i
def AXE.DT_LO (i : Nat) : Nat := 0x40010208 + 0x10 * i
def AXE.DT_CNT (i : Nat) : Nat := 0x4001020C + 0x10 * i
def AXE.LATCH_PIN : Nat := 0x40010900
def AXE.LATCH_LANE : Nat := 0x40010904
def AXE.LATCH_HI (i : Nat) : Nat := 0x40010910 + 0x4 * i
def AXE.LATCH_LO (i : Nat) : Nat := 0x40010920 + 0x4 * i
def AXE.HIST (i : Nat) : Nat := 0x40010A00 + 0x4 * i

/-- The registers of AXE, part 1. -/
def axeRegs1 : List RegDesc := [
  reg "RUN_EN" 0x040 .rw |>.fields [⟨12, 0, .any⟩],
  reg "PIN_STATE" 0x044 .ro |>.resets 0x1FFF,
  reg "PIN_ARMED" 0x048 .ro,
  reg "FORCE" 0x04C .rw |>.fields [⟨12, 0, .any⟩],
  reg "CLEAR" 0x050 .wo,
  reg "FIRST_SRC" 0x054 .ro,
  reg "FIRST_AT_LO" 0x058 .ro |>.paired .lo,
  reg "FIRST_AT_HI" 0x05C .ro |>.paired .hi,
  reg "RESTART_CFG" 0x060 .rw |>.resets 0xC030032 |>.fields [⟨7, 0, .within 1 250⟩, ⟨19, 16, .within 1 15⟩, ⟨31, 24, .within 1 255⟩],
  reg "ARM_CFG" 0x064 .rw |>.resets 0x100 |>.fields [⟨12, 0, .within 64 4096⟩],
  reg "HIST_WR" 0x068 .ro,
  reg "BRD_CNT" 0x080 .counter |>.times 13 0x4,
  reg "PIN_CFG" 0x100 .rw |>.times 13 0x4 |>.resetBy (fun n => 0x00120000 + 2 ^ n) |>.fields [⟨12, 0, .any⟩, ⟨17, 16, .any⟩, ⟨20, 20, .any⟩],
  reg "LANE_CFG" 0x180 .rw |>.times 13 0x4 |>.resetBy (fun n => 0x00020000 + 2 ^ n) |>.fields [⟨12, 0, .any⟩, ⟨17, 16, .any⟩, ⟨20, 20, .any⟩],
  reg "FW_CNT" 0x1C0 .counter,
  reg "DT_CFG" 0x200 .rw |>.times 104 0x10 |>.resetBy (fun i => 0x00010000 + 2 ^ (i / 8)) |>.fields [⟨12, 0, .any⟩, ⟨17, 16, .any⟩, ⟨20, 20, .any⟩, ⟨21, 21, .any⟩, ⟨26, 24, .any⟩]]


/-- The registers of AXE, part 2. -/
def axeRegs2 : List RegDesc := [
  reg "DT_HI" 0x204 .rw |>.times 104 0x10 |>.resets 0x7FFF |>.fields [⟨15, 0, .any⟩],
  reg "DT_LO" 0x208 .rw |>.times 104 0x10 |>.resets 0x8000 |>.fields [⟨15, 0, .any⟩],
  reg "DT_CNT" 0x20C .counter |>.times 104 0x10,
  reg "LATCH_PIN" 0x900 .ro,
  reg "LATCH_LANE" 0x904 .ro,
  reg "LATCH_HI" 0x910 .ro |>.times 4 0x4,
  reg "LATCH_LO" 0x920 .ro |>.times 4 0x4,
  reg "HIST" 0xA00 .ro |>.times 64 0x4]

/-- The registers of AXE. -/
def axeRegs : List RegDesc := axeRegs1 ++ axeRegs2

/-! ### STL -/

def STL.page : Nat := 0x11
def STL.VER_LIMIT : Nat := 0x40011040
def STL.EVT : Nat := 0x40011044
def STL.BRD_STAT (i : Nat) : Nat := 0x40011100 + 0x20 * i
def STL.BRD_INFO (i : Nat) : Nat := 0x40011104 + 0x20 * i
def STL.BRD_ID (i : Nat) : Nat := 0x40011108 + 0x20 * i
def STL.SEQ (i : Nat) : Nat := 0x4001110C + 0x20 * i
def STL.RX_ERR (i : Nat) : Nat := 0x40011110 + 0x20 * i
def STL.BRD_ERR (i : Nat) : Nat := 0x40011114 + 0x20 * i
def STL.LAUNCH (i : Nat) : Nat := 0x40011118 + 0x20 * i
def STL.CLAIM_SEEN (i : Nat) : Nat := 0x4001111C + 0x20 * i

/-- The registers of STL. -/
def stlRegs : List RegDesc := [
  reg "VER_LIMIT" 0x040 .rw |>.resets 0x2 |>.fields [⟨1, 0, .within 1 2⟩],
  reg "EVT" 0x044 .rw1c |>.fields [⟨12, 0, .any⟩],
  reg "BRD_STAT" 0x100 .ro |>.times 13 0x20,
  reg "BRD_INFO" 0x104 .ro |>.times 13 0x20,
  reg "BRD_ID" 0x108 .ro |>.times 13 0x20,
  reg "SEQ" 0x10C .ro |>.times 13 0x20,
  reg "RX_ERR" 0x110 .counter |>.times 13 0x20,
  reg "BRD_ERR" 0x114 .ro |>.times 13 0x20,
  reg "LAUNCH" 0x118 .ro |>.times 13 0x20 |>.resets 0x1,
  reg "CLAIM_SEEN" 0x11C .ro |>.times 13 0x20]

/-! ### MTR -/

def MTR.page : Nat := 0x12
def MTR.CH_EN_LO : Nat := 0x40012040
def MTR.CH_EN_HI : Nat := 0x40012044
def MTR.PULSE_AC : Nat := 0x40012048
def MTR.PULSE_DC : Nat := 0x4001204C
def MTR.PULSE_PW : Nat := 0x40012050
def MTR.VNOM : Nat := 0x40012054
def MTR.EVT_CFG : Nat := 0x40012058
def MTR.COR_CTRL : Nat := 0x4001205C
def MTR.COR_STAT : Nat := 0x40012060
def MTR.SEAL : Nat := 0x40012064
def MTR.LEGAL_EXP : Nat := 0x40012068
def MTR.LEGAL_CRC : Nat := 0x4001206C
def MTR.LEGAL_VER : Nat := 0x40012070
def MTR.VIEW : Nat := 0x40012074
def MTR.PUB_AT_LO : Nat := 0x40012078
def MTR.PUB_AT_HI : Nat := 0x4001207C
def MTR.COMMIT_SEQ : Nat := 0x40012080
def MTR.GAP_CNT : Nat := 0x40012084
def MTR.PULSE_AC_CNT : Nat := 0x40012088
def MTR.PULSE_DC_CNT : Nat := 0x4001208C
def MTR.PULSE_PEND : Nat := 0x40012090
def MTR.ACC_CLEAR : Nat := 0x40012094
def MTR.EVT_STATE : Nat := 0x40012098
def MTR.CYC_FLAGS : Nat := 0x4001209C
def MTR.ACC_LO (i : Nat) : Nat := 0x40012100 + 0x8 * i
def MTR.ACC_HI (i : Nat) : Nat := 0x40012104 + 0x8 * i
def MTR.VRMS (i : Nat) : Nat := 0x40012180 + 0x10 * i
def MTR.IRMS (i : Nat) : Nat := 0x40012184 + 0x10 * i
def MTR.P (i : Nat) : Nat := 0x40012188 + 0x10 * i
def MTR.THD (i : Nat) : Nat := 0x4001218C + 0x10 * i
def MTR.IRMS_N : Nat := 0x400121B0
def MTR.P_TOT : Nat := 0x400121B4
def MTR.CH_IMP_LO (i : Nat) : Nat := 0x40012200 + 0x20 * i
def MTR.CH_IMP_HI (i : Nat) : Nat := 0x40012204 + 0x20 * i
def MTR.CH_EXP_LO (i : Nat) : Nat := 0x40012208 + 0x20 * i
def MTR.CH_EXP_HI (i : Nat) : Nat := 0x4001220C + 0x20 * i
def MTR.CH_VRMS (i : Nat) : Nat := 0x40012210 + 0x20 * i
def MTR.CH_IRMS (i : Nat) : Nat := 0x40012214 + 0x20 * i
def MTR.CH_P (i : Nat) : Nat := 0x40012218 + 0x20 * i
def MTR.CH_FLAGS (i : Nat) : Nat := 0x4001221C + 0x20 * i

/-- The registers of MTR, part 1. -/
def mtrRegs1 : List RegDesc := [
  reg "CH_EN_LO" 0x040 .rw |>.fields [⟨31, 0, .any⟩],
  reg "CH_EN_HI" 0x044 .rw |>.fields [⟨15, 0, .any⟩],
  reg "PULSE_AC" 0x048 .rw |>.resets 0x2710 |>.fields [⟨16, 0, .within 1 100000⟩, ⟨21, 20, .become 3 3 2⟩],
  reg "PULSE_DC" 0x04C .rw |>.resets 0x2710 |>.fields [⟨16, 0, .within 1 100000⟩, ⟨21, 20, .become 3 3 2⟩],
  reg "PULSE_PW" 0x050 .rw |>.resets 0x19A019A |>.fields [⟨15, 0, .within 14 16384⟩, ⟨31, 16, .within 14 16384⟩],
  reg "VNOM" 0x054 .rw |>.resets 0xE6 |>.fields [⟨9, 0, .within 50 300⟩],
  reg "EVT_CFG" 0x058 .rw |>.resets 0x140A6E5A |>.fields [⟨7, 0, .within 50 98⟩, ⟨15, 8, .within 102 150⟩, ⟨23, 16, .within 1 49⟩, ⟨31, 24, .within 5 50⟩],
  reg "COR_CTRL" 0x05C .rw,
  reg "COR_STAT" 0x060 .ro,
  reg "SEAL" 0x064 .rw,
  reg "LEGAL_EXP" 0x068 .rw |>.fields [⟨31, 0, .any⟩],
  reg "LEGAL_CRC" 0x06C .ro,
  reg "LEGAL_VER" 0x070 .rw |>.fields [⟨7, 0, .any⟩, ⟨15, 8, .any⟩, ⟨23, 16, .any⟩],
  reg "VIEW" 0x074 .rw |>.fields [⟨0, 0, .any⟩],
  reg "PUB_AT_LO" 0x078 .ro |>.paired .lo,
  reg "PUB_AT_HI" 0x07C .ro |>.paired .hi]


/-- The registers of MTR, part 2. -/
def mtrRegs2 : List RegDesc := [
  reg "COMMIT_SEQ" 0x080 .ro,
  reg "GAP_CNT" 0x084 .counter,
  reg "PULSE_AC_CNT" 0x088 .ro,
  reg "PULSE_DC_CNT" 0x08C .ro,
  reg "PULSE_PEND" 0x090 .ro,
  reg "ACC_CLEAR" 0x094 .wo,
  reg "EVT_STATE" 0x098 .ro,
  reg "CYC_FLAGS" 0x09C .ro,
  reg "ACC_LO" 0x100 .ro |>.paired .lo |>.times 10 0x8,
  reg "ACC_HI" 0x104 .ro |>.paired .hi |>.times 10 0x8,
  reg "VRMS" 0x180 .ro |>.times 3 0x10,
  reg "IRMS" 0x184 .ro |>.times 3 0x10,
  reg "P" 0x188 .ro |>.times 3 0x10,
  reg "THD" 0x18C .ro |>.times 3 0x10,
  reg "IRMS_N" 0x1B0 .ro,
  reg "P_TOT" 0x1B4 .ro]


/-- The registers of MTR, part 3. -/
def mtrRegs3 : List RegDesc := [
  reg "CH_IMP_LO" 0x200 .ro |>.paired .lo |>.times 48 0x20,
  reg "CH_IMP_HI" 0x204 .ro |>.paired .hi |>.times 48 0x20,
  reg "CH_EXP_LO" 0x208 .ro |>.paired .lo |>.times 48 0x20,
  reg "CH_EXP_HI" 0x20C .ro |>.paired .hi |>.times 48 0x20,
  reg "CH_VRMS" 0x210 .ro |>.times 48 0x20,
  reg "CH_IRMS" 0x214 .ro |>.times 48 0x20,
  reg "CH_P" 0x218 .ro |>.times 48 0x20,
  reg "CH_FLAGS" 0x21C .ro |>.times 48 0x20]

/-- The registers of MTR. -/
def mtrRegs : List RegDesc := mtrRegs1 ++ mtrRegs2 ++ mtrRegs3

/-! ### MTRC -/

def MTRC.page : Nat := 0x13
/-! ### LGT -/

def LGT.page : Nat := 0x14
def LGT.CFG : Nat := 0x40014040
def LGT.PE_SUM : Nat := 0x40014044
def LGT.CH_CFG (i : Nat) : Nat := 0x40014100 + 0x20 * i
def LGT.LVL_NEXT (i : Nat) : Nat := 0x40014104 + 0x20 * i
def LGT.LVL_AT_LO (i : Nat) : Nat := 0x40014108 + 0x20 * i
def LGT.LVL_AT_HI (i : Nat) : Nat := 0x4001410C + 0x20 * i
def LGT.LVL_CUR (i : Nat) : Nat := 0x40014110 + 0x20 * i
def LGT.OUT (i : Nat) : Nat := 0x40014114 + 0x20 * i
def LGT.LEDGER (i : Nat) : Nat := 0x40014118 + 0x20 * i
def LGT.CNT (i : Nat) : Nat := 0x4001411C + 0x20 * i
def LGT.PE_CTRL (i : Nat) : Nat := 0x40014800 + 0x20 * i
def LGT.PE_CFG (i : Nat) : Nat := 0x40014804 + 0x20 * i
def LGT.PE_INIT (i : Nat) : Nat := 0x40014808 + 0x20 * i
def LGT.PE_STAT (i : Nat) : Nat := 0x4001480C + 0x20 * i
def LGT.PE_START_LO (i : Nat) : Nat := 0x40014810 + 0x20 * i
def LGT.PE_START_HI (i : Nat) : Nat := 0x40014814 + 0x20 * i
def LGT.PE_BEGAN_LO (i : Nat) : Nat := 0x40014818 + 0x20 * i
def LGT.PE_BEGAN_HI (i : Nat) : Nat := 0x4001481C + 0x20 * i

/-- The registers of LGT, part 1. -/
def lgtRegs1 : List RegDesc := [
  reg "CFG" 0x040 .rw |>.resets 0x199A |>.fields [⟨16, 0, .within 656 32768⟩],
  reg "PE_SUM" 0x044 .ro,
  reg "CH_CFG" 0x100 .rw |>.times 48 0x20 |>.resetBy (fun k => (k % 8) * 0x10) |>.fields [⟨2, 0, .any⟩, ⟨6, 4, .any⟩, ⟨8, 8, .any⟩, ⟨14, 12, .any⟩, ⟨21, 16, .any⟩],
  reg "LVL_NEXT" 0x104 .rw |>.times 48 0x20 |>.resets 0x10000 |>.fields [⟨16, 0, .within 0 65536⟩],
  reg "LVL_AT_LO" 0x108 .rw |>.paired .lo |>.times 48 0x20 |>.fields [⟨31, 0, .any⟩],
  reg "LVL_AT_HI" 0x10C .rw |>.paired .hi |>.times 48 0x20 |>.fields [⟨31, 0, .any⟩],
  reg "LVL_CUR" 0x110 .ro |>.times 48 0x20 |>.resets 0x10000,
  reg "OUT" 0x114 .ro |>.times 48 0x20 |>.resets 0x10000,
  reg "LEDGER" 0x118 .ro |>.times 48 0x20,
  reg "CNT" 0x11C .counter |>.times 48 0x20,
  reg "PE_CTRL" 0x800 .wo |>.times 8 0x20,
  reg "PE_CFG" 0x804 .rw |>.times 8 0x20 |>.fields [⟨15, 0, .any⟩],
  reg "PE_INIT" 0x808 .rw |>.times 8 0x20 |>.fields [⟨16, 0, .any⟩],
  reg "PE_STAT" 0x80C .ro |>.times 8 0x20,
  reg "PE_START_LO" 0x810 .rw |>.paired .lo |>.times 8 0x20 |>.fields [⟨31, 0, .any⟩],
  reg "PE_START_HI" 0x814 .rw |>.paired .hi |>.times 8 0x20 |>.fields [⟨31, 0, .any⟩]]


/-- The registers of LGT, part 2. -/
def lgtRegs2 : List RegDesc := [
  reg "PE_BEGAN_LO" 0x818 .ro |>.paired .lo |>.times 8 0x20,
  reg "PE_BEGAN_HI" 0x81C .ro |>.paired .hi |>.times 8 0x20]

/-- The registers of LGT. -/
def lgtRegs : List RegDesc := lgtRegs1 ++ lgtRegs2

/-! ### DIA -/

def DIA.page : Nat := 0x15
def DIA.DIAG_CFG : Nat := 0x40015040
def DIA.FOPEN_I : Nat := 0x40015044
def DIA.OPEN_LO : Nat := 0x40015048
def DIA.OPEN_HI : Nat := 0x4001504C
def DIA.SHORT_LO : Nat := 0x40015050
def DIA.SHORT_HI : Nat := 0x40015054
def DIA.V_OPEN (i : Nat) : Nat := 0x40015100 + 0x10 * i
def DIA.V_SHORT (i : Nat) : Nat := 0x40015104 + 0x10 * i
def DIA.D_STAT (i : Nat) : Nat := 0x40015108 + 0x10 * i
def DIA.D_CLR (i : Nat) : Nat := 0x4001510C + 0x10 * i

/-- The registers of DIA. -/
def diaRegs : List RegDesc := [
  reg "DIAG_CFG" 0x040 .rw |>.resets 0x30140 |>.fields [⟨7, 0, .within 8 255⟩, ⟨9, 8, .within 1 3⟩, ⟨19, 16, .within 1 15⟩],
  reg "FOPEN_I" 0x044 .rw |>.resets 0x14 |>.fields [⟨15, 0, .within 1 1000⟩],
  reg "OPEN_LO" 0x048 .ro,
  reg "OPEN_HI" 0x04C .ro,
  reg "SHORT_LO" 0x050 .ro,
  reg "SHORT_HI" 0x054 .ro,
  reg "V_OPEN" 0x100 .rw |>.times 48 0x10 |>.resets 0x57E40 |>.fields [⟨18, 0, .within 10000 400000⟩],
  reg "V_SHORT" 0x104 .rw |>.times 48 0x10 |>.resets 0x4E20 |>.fields [⟨18, 0, .within 0 380000⟩],
  reg "D_STAT" 0x108 .ro |>.times 48 0x10,
  reg "D_CLR" 0x10C .wo |>.times 48 0x10]

/-! ### FPH -/

def FPH.page (p : Nat) : Nat := 0x16 + p
def FPH.SAMPLE_LO (p : Nat) : Nat := 0x40016040 + 0x1000 * p
def FPH.SAMPLE_HI (p : Nat) : Nat := 0x40016044 + 0x1000 * p
def FPH.EVT (p : Nat) : Nat := 0x40016048 + 0x1000 * p
def FPH.MASK_REQ (p : Nat) : Nat := 0x4001604C + 0x1000 * p
def FPH.MASK_STAT (p : Nat) : Nat := 0x40016050 + 0x1000 * p
def FPH.F_CTRL (i : Nat) : Nat := 0x40016100 + 0x1000 * (i / 12) + 0x40 * (i % 12)
def FPH.F_STAT (i : Nat) : Nat := 0x40016104 + 0x1000 * (i / 12) + 0x40 * (i % 12)
def FPH.TX_LVL (i : Nat) : Nat := 0x40016108 + 0x1000 * (i / 12) + 0x40 * (i % 12)
def FPH.CB_GAIN (i : Nat) : Nat := 0x4001610C + 0x1000 * (i / 12) + 0x40 * (i % 12)
def FPH.MARGIN (i : Nat) : Nat := 0x40016110 + 0x1000 * (i / 12) + 0x40 * (i % 12)
def FPH.FC_CNT (i : Nat) : Nat := 0x40016114 + 0x1000 * (i / 12) + 0x40 * (i % 12)
def FPH.CW_CNT (i : Nat) : Nat := 0x40016118 + 0x1000 * (i / 12) + 0x40 * (i % 12)
def FPH.TX_CNT (i : Nat) : Nat := 0x4001611C + 0x1000 * (i / 12) + 0x40 * (i % 12)
def FPH.LATE_CNT (i : Nat) : Nat := 0x40016120 + 0x1000 * (i / 12) + 0x40 * (i % 12)
def FPH.RX_ABORT (i : Nat) : Nat := 0x40016124 + 0x1000 * (i / 12) + 0x40 * (i % 12)
def FPH.SNR_MEAN (i : Nat) : Nat := 0x40016128 + 0x1000 * (i / 12) + 0x40 * (i % 12)

/-- The registers of FPH. -/
def fphRegs : List RegDesc := [
  reg "SAMPLE_LO" 0x040 .ro |>.paired .lo,
  reg "SAMPLE_HI" 0x044 .ro |>.paired .hi,
  reg "EVT" 0x048 .rw1c |>.fields [⟨11, 0, .any⟩],
  reg "MASK_REQ" 0x04C .wo,
  reg "MASK_STAT" 0x050 .ro,
  reg "F_CTRL" 0x100 .rw |>.times 12 0x40 |>.resets 0xC1000 |>.fields [⟨0, 0, .any⟩, ⟨1, 1, .any⟩, ⟨5, 4, .become 3 3 2⟩, ⟨9, 8, .any⟩, ⟨13, 12, .become 3 3 2⟩, ⟨19, 16, .within 1 12⟩],
  reg "F_STAT" 0x104 .ro |>.times 12 0x40,
  reg "TX_LVL" 0x108 .rw |>.times 12 0x40 |>.resets 0xFCEA |>.fields [⟨15, 0, .twos (-1000) (-750)⟩],
  reg "CB_GAIN" 0x10C .rw |>.times 12 0x40 |>.fields [⟨15, 0, .twos (-200) (300)⟩],
  reg "MARGIN" 0x110 .rw |>.times 12 0x40 |>.resets 0xC |>.fields [⟨7, 0, .within 0 80⟩],
  reg "FC_CNT" 0x114 .counter |>.times 12 0x40,
  reg "CW_CNT" 0x118 .counter |>.times 12 0x40,
  reg "TX_CNT" 0x11C .counter |>.times 12 0x40,
  reg "LATE_CNT" 0x120 .counter |>.times 12 0x40,
  reg "RX_ABORT" 0x124 .counter |>.times 12 0x40,
  reg "SNR_MEAN" 0x128 .ro |>.times 12 0x40]

/-! ### FMA -/

def FMA.page (p : Nat) : Nat := 0x1A + p
def FMA.EVT (p : Nat) : Nat := 0x4001A040 + 0x1000 * p
def FMA.VER_LIMIT (p : Nat) : Nat := 0x4001A044 + 0x1000 * p
def FMA.M_CTRL (i : Nat) : Nat := 0x4001A100 + 0x1000 * (i / 12) + 0x40 * (i % 12)
def FMA.LAYOUT (i : Nat) : Nat := 0x4001A104 + 0x1000 * (i / 12) + 0x40 * (i % 12)
def FMA.STAT_F (i : Nat) : Nat := 0x4001A108 + 0x1000 * (i / 12) + 0x40 * (i % 12)
def FMA.JOIN_CFG (i : Nat) : Nat := 0x4001A10C + 0x1000 * (i / 12) + 0x40 * (i % 12)
def FMA.CRUISE_CTRL (i : Nat) : Nat := 0x4001A110 + 0x1000 * (i / 12) + 0x40 * (i % 12)
def FMA.CRUISE_STAT (i : Nat) : Nat := 0x4001A114 + 0x1000 * (i / 12) + 0x40 * (i % 12)
def FMA.MASK_DIST (i : Nat) : Nat := 0x4001A118 + 0x1000 * (i / 12) + 0x40 * (i % 12)
def FMA.MASK_STAT (i : Nat) : Nat := 0x4001A11C + 0x1000 * (i / 12) + 0x40 * (i % 12)
def FMA.CNT_TX (i : Nat) : Nat := 0x4001A120 + 0x1000 * (i / 12) + 0x40 * (i % 12)
def FMA.CNT_RX (i : Nat) : Nat := 0x4001A124 + 0x1000 * (i / 12) + 0x40 * (i % 12)
def FMA.CNT_JOIN (i : Nat) : Nat := 0x4001A128 + 0x1000 * (i / 12) + 0x40 * (i % 12)
def FMA.AIRTIME (i : Nat) : Nat := 0x4001A12C + 0x1000 * (i / 12) + 0x40 * (i % 12)

/-- The registers of FMA. -/
def fmaRegs : List RegDesc := [
  reg "EVT" 0x040 .rw1c |>.fields [⟨11, 0, .any⟩],
  reg "VER_LIMIT" 0x044 .rw |>.resets 0x3 |>.fields [⟨1, 0, .within 1 3⟩],
  reg "M_CTRL" 0x100 .rw |>.times 12 0x40 |>.resets 0x70803 |>.fields [⟨0, 0, .any⟩, ⟨1, 1, .any⟩, ⟨11, 8, .within 1 8⟩, ⟨19, 16, .within 1 15⟩],
  reg "LAYOUT" 0x104 .rw |>.times 12 0x40 |>.resets 0xDE00008 |>.fields [⟨4, 0, .within 6 16⟩, ⟨27, 16, .aligned 3⟩],
  reg "STAT_F" 0x108 .ro |>.times 12 0x40,
  reg "JOIN_CFG" 0x10C .rw |>.times 12 0x40 |>.resets 0x100040 |>.fields [⟨7, 0, .within 16 255⟩, ⟨23, 16, .within 1 255⟩],
  reg "CRUISE_CTRL" 0x110 .rw |>.times 12 0x40 |>.resets 0x281000 |>.fields [⟨13, 8, .within 1 32⟩, ⟨23, 16, .within 0 200⟩],
  reg "CRUISE_STAT" 0x114 .ro |>.times 12 0x40,
  reg "MASK_DIST" 0x118 .rw |>.times 12 0x40 |>.resets 0x2000 |>.fields [⟨15, 8, .within 16 255⟩],
  reg "MASK_STAT" 0x11C .ro |>.times 12 0x40,
  reg "CNT_TX" 0x120 .counter |>.times 12 0x40,
  reg "CNT_RX" 0x124 .counter |>.times 12 0x40,
  reg "CNT_JOIN" 0x128 .counter |>.times 12 0x40,
  reg "AIRTIME" 0x12C .ro |>.times 12 0x40]

/-! ### NTB -/

def NTB.page : Nat := 0x1E
def NTB.NT_USED : Nat := 0x4001E040
def NTB.EP_USED : Nat := 0x4001E044
def NTB.CMD : Nat := 0x4001E048
def NTB.CMD_STAT : Nat := 0x4001E04C
def NTB.EUI_LO : Nat := 0x4001E050
def NTB.EUI_HI : Nat := 0x4001E054
def NTB.EUI_RES : Nat := 0x4001E058

/-- The registers of NTB. -/
def ntbRegs : List RegDesc := [
  reg "NT_USED" 0x040 .ro,
  reg "EP_USED" 0x044 .ro,
  reg "CMD" 0x048 .wo,
  reg "CMD_STAT" 0x04C .ro,
  reg "EUI_LO" 0x050 .rw |>.paired .lo |>.fields [⟨31, 0, .any⟩],
  reg "EUI_HI" 0x054 .rw |>.paired .hi |>.fields [⟨31, 0, .any⟩],
  reg "EUI_RES" 0x058 .ro]

/-! ### YRD -/

def YRD.page : Nat := 0x1F
def YRD.CFG : Nat := 0x4001F040
def YRD.BUDGET : Nat := 0x4001F044
def YRD.REFRESH : Nat := 0x4001F048
def YRD.PASS_LO : Nat := 0x4001F04C
def YRD.PASS_HI : Nat := 0x4001F050
def YRD.SCENE_SEL : Nat := 0x4001F054
def YRD.SCENE_AT_LO : Nat := 0x4001F058
def YRD.SCENE_AT_HI : Nat := 0x4001F05C
def YRD.SCENE_ON_LO : Nat := 0x4001F060
def YRD.SCENE_ON_HI : Nat := 0x4001F064
def YRD.OVR_ARM : Nat := 0x4001F068
def YRD.OVR_STAT : Nat := 0x4001F06C
def YRD.COMMIT_CTRL : Nat := 0x4001F070
def YRD.COMMIT_AT_LO : Nat := 0x4001F074
def YRD.COMMIT_AT_HI : Nat := 0x4001F078
def YRD.COMMIT_STAT : Nat := 0x4001F07C
def YRD.CNT_A : Nat := 0x4001F080
def YRD.CNT_B : Nat := 0x4001F084
def YRD.CNT_C : Nat := 0x4001F088
def YRD.CNT_D : Nat := 0x4001F08C
def YRD.CNT_E : Nat := 0x4001F090
def YRD.CNT_F : Nat := 0x4001F094
def YRD.CNT_G : Nat := 0x4001F098
def YRD.PEEK_EP : Nat := 0x4001F0A0
def YRD.PEEK : Nat := 0x4001F0A4
def YRD.PEEK_NEXT : Nat := 0x4001F0A8
def YRD.PEEK_AT : Nat := 0x4001F0AC

/-- The registers of YRD, part 1. -/
def yrdRegs1 : List RegDesc := [
  reg "CFG" 0x040 .rw |>.resets 0xA040805 |>.fields [⟨3, 0, .within 3 12⟩, ⟨11, 8, .any⟩, ⟨19, 16, .within 2 15⟩, ⟨31, 24, .any⟩],
  reg "BUDGET" 0x044 .rw |>.resets 0x40 |>.fields [⟨10, 0, .within 8 1024⟩],
  reg "REFRESH" 0x048 .rw |>.resets 0xBB8 |>.fields [⟨15, 0, .become 1 255 256⟩],
  reg "PASS_LO" 0x04C .ro |>.paired .lo,
  reg "PASS_HI" 0x050 .ro |>.paired .hi,
  reg "SCENE_SEL" 0x054 .rw |>.fields [⟨5, 0, .any⟩, ⟨8, 8, .any⟩],
  reg "SCENE_AT_LO" 0x058 .rw |>.paired .lo |>.fields [⟨31, 0, .any⟩],
  reg "SCENE_AT_HI" 0x05C .rw |>.paired .hi |>.fields [⟨31, 0, .any⟩],
  reg "SCENE_ON_LO" 0x060 .ro |>.paired .lo,
  reg "SCENE_ON_HI" 0x064 .ro |>.paired .hi,
  reg "OVR_ARM" 0x068 .wo,
  reg "OVR_STAT" 0x06C .ro,
  reg "COMMIT_CTRL" 0x070 .rw,
  reg "COMMIT_AT_LO" 0x074 .rw |>.paired .lo |>.fields [⟨31, 0, .any⟩],
  reg "COMMIT_AT_HI" 0x078 .rw |>.paired .hi |>.fields [⟨31, 0, .any⟩],
  reg "COMMIT_STAT" 0x07C .ro]


/-- The registers of YRD, part 2. -/
def yrdRegs2 : List RegDesc := [
  reg "CNT_A" 0x080 .counter,
  reg "CNT_B" 0x084 .counter,
  reg "CNT_C" 0x088 .counter,
  reg "CNT_D" 0x08C .counter,
  reg "CNT_E" 0x090 .counter,
  reg "CNT_F" 0x094 .counter,
  reg "CNT_G" 0x098 .counter,
  reg "PEEK_EP" 0x0A0 .rw |>.fields [⟨13, 0, .any⟩],
  reg "PEEK" 0x0A4 .ro |>.resets 0xFFFF,
  reg "PEEK_NEXT" 0x0A8 .ro |>.resets 0xFFFF,
  reg "PEEK_AT" 0x0AC .ro]

/-- The registers of YRD. -/
def yrdRegs : List RegDesc := yrdRegs1 ++ yrdRegs2

/-! ### SCH -/

def SCH.page : Nat := 0x20
def SCH.LAT : Nat := 0x40020040
def SCH.LON : Nat := 0x40020044
def SCH.DEF_LEVEL : Nat := 0x40020048
def SCH.COMMIT_CTRL : Nat := 0x4002004C
def SCH.COMMIT_AT_LO : Nat := 0x40020050
def SCH.COMMIT_AT_HI : Nat := 0x40020054
def SCH.COMMIT_STAT : Nat := 0x40020058
def SCH.SOLAR : Nat := 0x4002005C
def SCH.CNT : Nat := 0x40020060
def SCH.GRP_SEL : Nat := 0x40020064
def SCH.GRP_BASE : Nat := 0x40020068

/-- The registers of SCH. -/
def schRegs : List RegDesc := [
  reg "LAT" 0x040 .rw |>.fields [⟨15, 0, .twos (-9000) (9000)⟩],
  reg "LON" 0x044 .rw |>.fields [⟨15, 0, .twos (-18000) (18000)⟩],
  reg "DEF_LEVEL" 0x048 .rw |>.resets 0x2710 |>.fields [⟨13, 0, .within 0 10000⟩],
  reg "COMMIT_CTRL" 0x04C .rw,
  reg "COMMIT_AT_LO" 0x050 .rw |>.paired .lo |>.fields [⟨31, 0, .any⟩],
  reg "COMMIT_AT_HI" 0x054 .rw |>.paired .hi |>.fields [⟨31, 0, .any⟩],
  reg "COMMIT_STAT" 0x058 .ro,
  reg "SOLAR" 0x05C .ro,
  reg "CNT" 0x060 .counter,
  reg "GRP_SEL" 0x064 .rw |>.fields [⟨7, 0, .any⟩],
  reg "GRP_BASE" 0x068 .ro]

/-! ### SWX -/

def SWX.page : Nat := 0x21
def SWX.VID_MGMT : Nat := 0x40021040
def SWX.VID_PTP : Nat := 0x40021044
def SWX.VID_TWIN : Nat := 0x40021048
def SWX.PRIMARY : Nat := 0x4002104C
def SWX.PCP : Nat := 0x40021050
def SWX.RES_MGMT : Nat := 0x40021054
def SWX.RES_PTP : Nat := 0x40021058
def SWX.RES_TWIN : Nat := 0x4002105C
def SWX.POOL_FREE : Nat := 0x40021060
def SWX.POOL_THR : Nat := 0x40021064
def SWX.MAC_LO : Nat := 0x40021068
def SWX.MAC_HI : Nat := 0x4002106C
def SWX.FLOW_SEL : Nat := 0x40021070
def SWX.FLOW_QUOTA : Nat := 0x40021074
def SWX.FLOW_HELD : Nat := 0x40021078
def SWX.FLOW_CNT : Nat := 0x4002107C
def SWX.HRX_BASE_LO : Nat := 0x40021100
def SWX.HRX_BASE_HI : Nat := 0x40021104
def SWX.HRX_SIZE : Nat := 0x40021108
def SWX.HRX_WR : Nat := 0x4002110C
def SWX.HRX_RD : Nat := 0x40021110
def SWX.HTX_BASE_LO : Nat := 0x40021120
def SWX.HTX_BASE_HI : Nat := 0x40021124
def SWX.HTX_SIZE : Nat := 0x40021128
def SWX.HTX_WR : Nat := 0x4002112C
def SWX.HTX_RD : Nat := 0x40021130
def SWX.DROP_CNT : Nat := 0x40021140
def SWX.REFUSE_CNT : Nat := 0x40021144
def SWX.HOST_CNT : Nat := 0x40021148

/-- The registers of SWX, part 1. -/
def swxRegs1 : List RegDesc := [
  reg "VID_MGMT" 0x040 .rw |>.resets 0xFA0 |>.fields [⟨11, 0, .within 1 4094⟩],
  reg "VID_PTP" 0x044 .rw |>.resets 0xFA1 |>.fields [⟨11, 0, .within 1 4094⟩],
  reg "VID_TWIN" 0x048 .rw |>.resets 0xFA2 |>.fields [⟨11, 0, .within 1 4094⟩],
  reg "PRIMARY" 0x04C .rw |>.resets 0x3202 |>.fields [⟨0, 0, .any⟩, ⟨1, 1, .any⟩, ⟨15, 8, .within 1 255⟩],
  reg "PCP" 0x050 .rw |>.resets 0x6750 |>.fields [⟨2, 0, .any⟩, ⟨6, 4, .any⟩, ⟨10, 8, .any⟩, ⟨14, 12, .any⟩],
  reg "RES_MGMT" 0x054 .rw |>.resets 0x800 |>.fields [⟨16, 0, .within 0 16384⟩],
  reg "RES_PTP" 0x058 .rw |>.resets 0x100 |>.fields [⟨16, 0, .within 0 16384⟩],
  reg "RES_TWIN" 0x05C .rw |>.resets 0x1000 |>.fields [⟨16, 0, .within 0 16384⟩],
  reg "POOL_FREE" 0x060 .ro |>.resets 0xE700,
  reg "POOL_THR" 0x064 .rw |>.resets 0x1000 |>.fields [⟨16, 0, .within 0 65536⟩],
  reg "MAC_LO" 0x068 .rw |>.paired .lo |>.fields [⟨31, 0, .any⟩],
  reg "MAC_HI" 0x06C .rw |>.paired .hi |>.fields [⟨15, 0, .any⟩],
  reg "FLOW_SEL" 0x070 .rw |>.fields [⟨15, 0, .within 0 32831⟩],
  reg "FLOW_QUOTA" 0x074 .rw |>.resets 0x40 |>.fields [⟨16, 0, .within 0 65536⟩],
  reg "FLOW_HELD" 0x078 .ro,
  reg "FLOW_CNT" 0x07C .counter]


/-- The registers of SWX, part 2. -/
def swxRegs2 : List RegDesc := [
  reg "HRX_BASE_LO" 0x100 .rw |>.paired .lo |>.fields [⟨31, 0, .aligned 12⟩],
  reg "HRX_BASE_HI" 0x104 .rw |>.paired .hi |>.fields [⟨31, 0, .any⟩],
  reg "HRX_SIZE" 0x108 .rw |>.resets 0x100 |>.fields [⟨16, 0, .within 16 65536⟩],
  reg "HRX_WR" 0x10C .rw |>.fields [⟨31, 0, .any⟩],
  reg "HRX_RD" 0x110 .rw |>.fields [⟨31, 0, .any⟩],
  reg "HTX_BASE_LO" 0x120 .rw |>.paired .lo |>.fields [⟨31, 0, .aligned 12⟩],
  reg "HTX_BASE_HI" 0x124 .rw |>.paired .hi |>.fields [⟨31, 0, .any⟩],
  reg "HTX_SIZE" 0x128 .rw |>.resets 0x100 |>.fields [⟨16, 0, .within 16 65536⟩],
  reg "HTX_WR" 0x12C .rw |>.fields [⟨31, 0, .any⟩],
  reg "HTX_RD" 0x130 .rw |>.fields [⟨31, 0, .any⟩],
  reg "DROP_CNT" 0x140 .counter,
  reg "REFUSE_CNT" 0x144 .counter,
  reg "HOST_CNT" 0x148 .counter]

/-- The registers of SWX. -/
def swxRegs : List RegDesc := swxRegs1 ++ swxRegs2

/-! ### OFS -/

def OFS.page : Nat := 0x22
def OFS.ENG_STAT : Nat := 0x40022040
def OFS.DISP_DEPTH : Nat := 0x40022044
def OFS.REORDER : Nat := 0x40022048
def OFS.ENG_ERR : Nat := 0x4002204C
def OFS.TRACE_LO : Nat := 0x40022050
def OFS.TRACE_HI : Nat := 0x40022054
def OFS.TRACE_EV : Nat := 0x40022058
def OFS.FLOW_SEL : Nat := 0x4002205C
def OFS.TICKET : Nat := 0x40022060
def OFS.RELEASE : Nat := 0x40022064
def OFS.ENG_CNT (i : Nat) : Nat := 0x40022080 + 0x4 * i

/-- The registers of OFS. -/
def ofsRegs : List RegDesc := [
  reg "ENG_STAT" 0x040 .ro,
  reg "DISP_DEPTH" 0x044 .ro,
  reg "REORDER" 0x048 .ro,
  reg "ENG_ERR" 0x04C .counter,
  reg "TRACE_LO" 0x050 .rw |>.fields [⟨15, 0, .within 0 32831⟩],
  reg "TRACE_HI" 0x054 .rw |>.resets 0x803F |>.fields [⟨15, 0, .within 0 32831⟩],
  reg "TRACE_EV" 0x058 .rw |>.fields [⟨7, 1, .any⟩],
  reg "FLOW_SEL" 0x05C .rw |>.fields [⟨15, 0, .within 0 32831⟩],
  reg "TICKET" 0x060 .ro,
  reg "RELEASE" 0x064 .ro,
  reg "ENG_CNT" 0x080 .ro |>.times 8 0x4]

/-! ### UPL -/

def UPL.page : Nat := 0x23
def UPL.P_CTRL (i : Nat) : Nat := 0x40023100 + 0x80 * i
def UPL.P_STAT (i : Nat) : Nat := 0x40023104 + 0x80 * i
def UPL.TS_LAT25 (i : Nat) : Nat := 0x40023108 + 0x80 * i
def UPL.TS_LAT10 (i : Nat) : Nat := 0x4002310C + 0x80 * i
def UPL.SFP_CMD (i : Nat) : Nat := 0x40023110 + 0x80 * i
def UPL.SFP_STAT (i : Nat) : Nat := 0x40023114 + 0x80 * i
def UPL.TSF_0 (i : Nat) : Nat := 0x40023118 + 0x80 * i
def UPL.TSF_1 (i : Nat) : Nat := 0x4002311C + 0x80 * i
def UPL.TSF_2 (i : Nat) : Nat := 0x40023120 + 0x80 * i
def UPL.TSF_3 (i : Nat) : Nat := 0x40023124 + 0x80 * i
def UPL.RX_FRAMES (i : Nat) : Nat := 0x40023128 + 0x80 * i
def UPL.TX_FRAMES (i : Nat) : Nat := 0x4002312C + 0x80 * i
def UPL.RX_ERR (i : Nat) : Nat := 0x40023130 + 0x80 * i
def UPL.LINK_CNT (i : Nat) : Nat := 0x40023134 + 0x80 * i
def UPL.TS_OVF (i : Nat) : Nat := 0x40023138 + 0x80 * i
def UPL.SFP_BUF (i : Nat) : Nat := 0x40023400 + 0x4 * i

/-- The registers of UPL. -/
def uplRegs : List RegDesc := [
  reg "P_CTRL" 0x100 .rw |>.times 2 0x80 |>.fields [⟨0, 0, .any⟩, ⟨2, 1, .become 3 3 2⟩, ⟨4, 4, .any⟩],
  reg "P_STAT" 0x104 .ro |>.times 2 0x80,
  reg "TS_LAT25" 0x108 .rw |>.times 2 0x80 |>.resets 0x2E0026 |>.fields [⟨15, 0, .within 0 1000⟩, ⟨31, 16, .within 0 1000⟩],
  reg "TS_LAT10" 0x10C .rw |>.times 2 0x80 |>.resets 0x68005C |>.fields [⟨15, 0, .within 0 1000⟩, ⟨31, 16, .within 0 1000⟩],
  reg "SFP_CMD" 0x110 .wo |>.times 2 0x80,
  reg "SFP_STAT" 0x114 .ro |>.times 2 0x80,
  reg "TSF_0" 0x118 .ro |>.times 2 0x80,
  reg "TSF_1" 0x11C .ro |>.times 2 0x80,
  reg "TSF_2" 0x120 .ro |>.times 2 0x80,
  reg "TSF_3" 0x124 .ro |>.times 2 0x80,
  reg "RX_FRAMES" 0x128 .ro |>.times 2 0x80,
  reg "TX_FRAMES" 0x12C .ro |>.times 2 0x80,
  reg "RX_ERR" 0x130 .counter |>.times 2 0x80,
  reg "LINK_CNT" 0x134 .counter |>.times 2 0x80,
  reg "TS_OVF" 0x138 .counter |>.times 2 0x80,
  reg "SFP_BUF" 0x400 .rw |>.times 64 0x4 |>.fields [⟨31, 0, .any⟩]]

/-! ### THS -/

def THS.page : Nat := 0x24
def THS.CORE_EN : Nat := 0x40024040
def THS.READY_MAP : Nat := 0x40024044
def THS.IGN_CNT : Nat := 0x40024048
def THS.DECIDE_MAX : Nat := 0x4002404C
def THS.MEM_CE : Nat := 0x40024050
def THS.MEM_UE : Nat := 0x40024054
def THS.TRACE_EV : Nat := 0x40024058
def THS.CMD (i : Nat) : Nat := 0x40024100 + 0x20 * i
def THS.ARG_LO (i : Nat) : Nat := 0x40024104 + 0x20 * i
def THS.ARG_HI (i : Nat) : Nat := 0x40024108 + 0x20 * i
def THS.DL_0 (i : Nat) : Nat := 0x4002410C + 0x20 * i
def THS.DL_1 (i : Nat) : Nat := 0x40024110 + 0x20 * i
def THS.DL_2 (i : Nat) : Nat := 0x40024114 + 0x20 * i
def THS.RESULT (i : Nat) : Nat := 0x40024118 + 0x20 * i
def THS.CUR (i : Nat) : Nat := 0x40024200 + 0x10 * i
def THS.NEXT (i : Nat) : Nat := 0x40024204 + 0x10 * i
def THS.TAKE (i : Nat) : Nat := 0x40024208 + 0x10 * i
def THS.PREV (i : Nat) : Nat := 0x4002420C + 0x10 * i
def THS.CTX_A (i : Nat) : Nat := 0x40024400 + 0x8 * i
def THS.CTX_B (i : Nat) : Nat := 0x40024404 + 0x8 * i
def THS.EVT_BIND (i : Nat) : Nat := 0x40024C00 + 0x4 * i

/-- The registers of THS, part 1. -/
def thsRegs1 : List RegDesc := [
  reg "CORE_EN" 0x040 .rw |>.resets 0xF |>.fields [⟨3, 0, .become 0 0 1⟩],
  reg "READY_MAP" 0x044 .ro,
  reg "IGN_CNT" 0x048 .counter,
  reg "DECIDE_MAX" 0x04C .counter,
  reg "MEM_CE" 0x050 .counter,
  reg "MEM_UE" 0x054 .counter,
  reg "TRACE_EV" 0x058 .rw |>.fields [⟨11, 1, .any⟩],
  reg "CMD" 0x100 .wo |>.times 5 0x20,
  reg "ARG_LO" 0x104 .rw |>.times 5 0x20 |>.fields [⟨31, 0, .any⟩],
  reg "ARG_HI" 0x108 .rw |>.times 5 0x20 |>.fields [⟨30, 28, .become 5 7 4⟩],
  reg "DL_0" 0x10C .rw |>.times 5 0x20 |>.fields [⟨31, 0, .any⟩],
  reg "DL_1" 0x110 .rw |>.times 5 0x20 |>.fields [⟨31, 0, .any⟩],
  reg "DL_2" 0x114 .rw |>.times 5 0x20 |>.fields [⟨31, 0, .any⟩],
  reg "RESULT" 0x118 .ro |>.times 5 0x20,
  reg "CUR" 0x200 .ro |>.times 4 0x10 |>.resets 0x1FF,
  reg "NEXT" 0x204 .ro |>.times 4 0x10 |>.resets 0x1FF]


/-- The registers of THS, part 2. -/
def thsRegs2 : List RegDesc := [
  reg "TAKE" 0x208 .wo |>.times 4 0x10,
  reg "PREV" 0x20C .ro |>.times 4 0x10 |>.resets 0x1FF,
  reg "CTX_A" 0x400 .ro |>.times 256 0x8,
  reg "CTX_B" 0x404 .ro |>.times 256 0x8,
  reg "EVT_BIND" 0xC00 .rw |>.times 46 0x4 |>.fields [⟨7, 0, .any⟩, ⟨8, 8, .any⟩]]

/-- The registers of THS. -/
def thsRegs : List RegDesc := thsRegs1 ++ thsRegs2

/-! ### TQU -/

def TQU.page : Nat := 0x25
def TQU.THR_EVT_LO : Nat := 0x40025040
def TQU.THR_EVT_HI : Nat := 0x40025044
def TQU.GAP_SUM_LO : Nat := 0x40025048
def TQU.GAP_SUM_HI : Nat := 0x4002504C
def TQU.UNASSIGNED : Nat := 0x40025050
def TQU.COPY_CTRL : Nat := 0x40025054
def TQU.COPY_ADDR_LO : Nat := 0x40025058
def TQU.COPY_ADDR_HI : Nat := 0x4002505C
def TQU.COPY_STAT : Nat := 0x40025060
def TQU.CFG (i : Nat) : Nat := 0x40025100 + 0x30 * i
def TQU.BASE (i : Nat) : Nat := 0x40025104 + 0x30 * i
def TQU.THR (i : Nat) : Nat := 0x40025108 + 0x30 * i
def TQU.WR (i : Nat) : Nat := 0x4002510C + 0x30 * i
def TQU.RD (i : Nat) : Nat := 0x40025110 + 0x30 * i
def TQU.MARK (i : Nat) : Nat := 0x40025114 + 0x30 * i
def TQU.REL (i : Nat) : Nat := 0x40025118 + 0x30 * i
def TQU.CMD (i : Nat) : Nat := 0x4002511C + 0x30 * i
def TQU.GAP (i : Nat) : Nat := 0x40025120 + 0x30 * i
def TQU.LOST (i : Nat) : Nat := 0x40025124 + 0x30 * i
def TQU.PUSH_LO (i : Nat) : Nat := 0x40025128 + 0x30 * i
def TQU.PUSH_HI (i : Nat) : Nat := 0x4002512C + 0x30 * i

/-- The registers of TQU, part 1. -/
def tquRegs1 : List RegDesc := [
  reg "THR_EVT_LO" 0x040 .rw1c |>.paired .lo |>.fields [⟨31, 0, .any⟩],
  reg "THR_EVT_HI" 0x044 .rw1c |>.paired .hi |>.fields [⟨31, 0, .any⟩],
  reg "GAP_SUM_LO" 0x048 .ro |>.paired .lo,
  reg "GAP_SUM_HI" 0x04C .ro |>.paired .hi,
  reg "UNASSIGNED" 0x050 .counter,
  reg "COPY_CTRL" 0x054 .rw |>.fields [⟨5, 0, .any⟩, ⟨20, 8, .within 1 4096⟩],
  reg "COPY_ADDR_LO" 0x058 .rw |>.paired .lo |>.fields [⟨31, 0, .aligned 3⟩],
  reg "COPY_ADDR_HI" 0x05C .rw |>.paired .hi |>.fields [⟨31, 0, .any⟩],
  reg "COPY_STAT" 0x060 .ro,
  reg "CFG" 0x100 .rw |>.times 64 0x30 |>.resets 0x90000 |>.fields [⟨0, 0, .any⟩, ⟨10, 8, .any⟩, ⟨20, 16, .within 9 20⟩],
  reg "BASE" 0x104 .rw |>.times 64 0x30 |>.fields [⟨19, 0, .aligned 9⟩],
  reg "THR" 0x108 .rw |>.times 64 0x30 |>.fields [⟨20, 0, .any⟩],
  reg "WR" 0x10C .ro |>.times 64 0x30,
  reg "RD" 0x110 .rw |>.times 64 0x30 |>.fields [⟨31, 0, .any⟩],
  reg "MARK" 0x114 .ro |>.times 64 0x30,
  reg "REL" 0x118 .rw |>.times 64 0x30 |>.fields [⟨31, 0, .any⟩]]


/-- The registers of TQU, part 2. -/
def tquRegs2 : List RegDesc := [
  reg "CMD" 0x11C .wo |>.times 64 0x30,
  reg "GAP" 0x120 .ro |>.times 64 0x30,
  reg "LOST" 0x124 .counter |>.times 64 0x30,
  reg "PUSH_LO" 0x128 .rw |>.paired .lo |>.times 64 0x30 |>.fields [⟨31, 0, .any⟩],
  reg "PUSH_HI" 0x12C .wo |>.paired .hi |>.times 64 0x30]

/-- The registers of TQU. -/
def tquRegs : List RegDesc := tquRegs1 ++ tquRegs2

/-! ### EVR -/

def EVR.page : Nat := 0x26
def EVR.HEAD_SEQ : Nat := 0x40026040
def EVR.HEAD_ADDR : Nat := 0x40026044
def EVR.OLDEST_SEQ : Nat := 0x40026048
def EVR.OLDEST_ADDR : Nat := 0x4002604C
def EVR.OPSEC : Nat := 0x40026050
def EVR.SEEK : Nat := 0x40026054
def EVR.SEEK_RES : Nat := 0x40026058
def EVR.BANK_CLR : Nat := 0x4002605C
def EVR.CNT : Nat := 0x40026060
def EVR.ERR_CNT : Nat := 0x40026064
def EVR.LOST_CNT : Nat := 0x40026068
def EVR.CODE_SEL : Nat := 0x40026070
def EVR.CODE_CFG : Nat := 0x40026074
def EVR.CODE_TOK : Nat := 0x40026078
def EVR.CODE_SUP : Nat := 0x4002607C
def EVR.WR_BUF0 (i : Nat) : Nat := 0x40026100 + 0x4 * i
def EVR.WR_CTRL0 : Nat := 0x400261F0
def EVR.WR_BUF1 (i : Nat) : Nat := 0x40026200 + 0x4 * i
def EVR.WR_CTRL1 : Nat := 0x400262F0
def EVR.WR_BUF2 (i : Nat) : Nat := 0x40026300 + 0x4 * i
def EVR.WR_CTRL2 : Nat := 0x400263F0
def EVR.WR_BUF3 (i : Nat) : Nat := 0x40026400 + 0x4 * i
def EVR.WR_CTRL3 : Nat := 0x400264F0
def EVR.WR_BUF4 (i : Nat) : Nat := 0x40026500 + 0x4 * i
def EVR.WR_CTRL4 : Nat := 0x400265F0

/-- The registers of EVR, part 1. -/
def evrRegs1 : List RegDesc := [
  reg "HEAD_SEQ" 0x040 .ro,
  reg "HEAD_ADDR" 0x044 .ro,
  reg "OLDEST_SEQ" 0x048 .ro,
  reg "OLDEST_ADDR" 0x04C .ro,
  reg "OPSEC" 0x050 .ro,
  reg "SEEK" 0x054 .wo,
  reg "SEEK_RES" 0x058 .ro,
  reg "BANK_CLR" 0x05C .wo,
  reg "CNT" 0x060 .counter,
  reg "ERR_CNT" 0x064 .counter,
  reg "LOST_CNT" 0x068 .counter,
  reg "CODE_SEL" 0x070 .rw |>.fields [⟨9, 0, .any⟩],
  reg "CODE_CFG" 0x074 .rw |>.fields [⟨7, 0, .any⟩, ⟨23, 8, .any⟩, ⟨24, 24, .any⟩, ⟨25, 25, .any⟩],
  reg "CODE_TOK" 0x078 .ro,
  reg "CODE_SUP" 0x07C .ro,
  reg "WR_BUF0" 0x100 .rw |>.times 58 0x4 |>.fields [⟨31, 0, .any⟩]]


/-- The registers of EVR, part 2. -/
def evrRegs2 : List RegDesc := [
  reg "WR_CTRL0" 0x1F0 .rw |>.fields [⟨9, 0, .within 768 1023⟩, ⟨23, 16, .any⟩],
  reg "WR_BUF1" 0x200 .rw |>.times 58 0x4 |>.fields [⟨31, 0, .any⟩],
  reg "WR_CTRL1" 0x2F0 .rw |>.fields [⟨9, 0, .within 768 1023⟩, ⟨23, 16, .any⟩],
  reg "WR_BUF2" 0x300 .rw |>.times 58 0x4 |>.fields [⟨31, 0, .any⟩],
  reg "WR_CTRL2" 0x3F0 .rw |>.fields [⟨9, 0, .within 768 1023⟩, ⟨23, 16, .any⟩],
  reg "WR_BUF3" 0x400 .rw |>.times 58 0x4 |>.fields [⟨31, 0, .any⟩],
  reg "WR_CTRL3" 0x4F0 .rw |>.fields [⟨9, 0, .within 768 1023⟩, ⟨23, 16, .any⟩],
  reg "WR_BUF4" 0x500 .rw |>.times 58 0x4 |>.fields [⟨31, 0, .any⟩],
  reg "WR_CTRL4" 0x5F0 .rw |>.fields [⟨9, 0, .within 768 1023⟩, ⟨23, 16, .any⟩]]

/-- The registers of EVR. -/
def evrRegs : List RegDesc := evrRegs1 ++ evrRegs2

/-! ### KVT -/

def KVT.page : Nat := 0x27
def KVT.SLOT_SEL : Nat := 0x40027040
def KVT.DESC (i : Nat) : Nat := 0x40027044 + 0x4 * i
def KVT.REVOKE : Nat := 0x40027054
def KVT.DELETE : Nat := 0x40027058
def KVT.ZEROIZE : Nat := 0x4002705C
def KVT.RESEAL : Nat := 0x40027060
def KVT.SLOT_USED : Nat := 0x40027064
def KVT.MASK_CNT : Nat := 0x40027068
def KVT.ERR_CNT : Nat := 0x4002706C
def KVT.SUBMIT_LO (i : Nat) : Nat := 0x40027100 + 0x10 * i
def KVT.SUBMIT_HI (i : Nat) : Nat := 0x40027104 + 0x10 * i
def KVT.QDEPTH (i : Nat) : Nat := 0x40027108 + 0x10 * i
def KVT.DONE_CNT (i : Nat) : Nat := 0x4002710C + 0x10 * i

/-- The registers of KVT. -/
def kvtRegs : List RegDesc := [
  reg "SLOT_SEL" 0x040 .rw |>.fields [⟨9, 0, .within 0 511⟩],
  reg "DESC" 0x044 .ro |>.times 4 0x4,
  reg "REVOKE" 0x054 .wo,
  reg "DELETE" 0x058 .wo,
  reg "ZEROIZE" 0x05C .wo,
  reg "RESEAL" 0x060 .wo,
  reg "SLOT_USED" 0x064 .ro,
  reg "MASK_CNT" 0x068 .ro,
  reg "ERR_CNT" 0x06C .counter,
  reg "SUBMIT_LO" 0x100 .rw |>.paired .lo |>.times 5 0x10 |>.fields [⟨31, 0, .aligned 6⟩],
  reg "SUBMIT_HI" 0x104 .rw |>.paired .hi |>.times 5 0x10 |>.fields [⟨31, 0, .any⟩],
  reg "QDEPTH" 0x108 .ro |>.times 5 0x10,
  reg "DONE_CNT" 0x10C .ro |>.times 5 0x10]

/-! ### UPD -/

def UPD.page : Nat := 0x28
def UPD.SESSION : Nat := 0x40028040
def UPD.XFER_SRC_LO : Nat := 0x40028044
def UPD.XFER_SRC_HI : Nat := 0x40028048
def UPD.XFER_OFF : Nat := 0x4002804C
def UPD.XFER_CTRL : Nat := 0x40028050
def UPD.LAND : Nat := 0x40028054
def UPD.CMD : Nat := 0x40028058
def UPD.RESULT : Nat := 0x4002805C
def UPD.BOOT : Nat := 0x40028060
def UPD.WINDOW : Nat := 0x40028064
def UPD.RUN_VER : Nat := 0x40028068
def UPD.LAND_VER : Nat := 0x4002806C
def UPD.MP_VER : Nat := 0x40028070
def UPD.MIN_SVN : Nat := 0x40028074
def UPD.PROGRESS : Nat := 0x40028078
def UPD.SESS_TO : Nat := 0x4002807C
def UPD.BUF (i : Nat) : Nat := 0x40028800 + 0x4 * i

/-- The registers of UPD, part 1. -/
def updRegs1 : List RegDesc := [
  reg "SESSION" 0x040 .wo,
  reg "XFER_SRC_LO" 0x044 .rw |>.paired .lo |>.fields [⟨31, 0, .any⟩],
  reg "XFER_SRC_HI" 0x048 .rw |>.paired .hi |>.fields [⟨31, 0, .any⟩],
  reg "XFER_OFF" 0x04C .rw |>.fields [⟨26, 0, .aligned 2⟩],
  reg "XFER_CTRL" 0x050 .rw |>.fields [⟨22, 0, .any⟩, ⟨30, 30, .any⟩],
  reg "LAND" 0x054 .ro,
  reg "CMD" 0x058 .wo,
  reg "RESULT" 0x05C .ro,
  reg "BOOT" 0x060 .ro,
  reg "WINDOW" 0x064 .ro,
  reg "RUN_VER" 0x068 .ro,
  reg "LAND_VER" 0x06C .ro,
  reg "MP_VER" 0x070 .ro,
  reg "MIN_SVN" 0x074 .ro,
  reg "PROGRESS" 0x078 .ro,
  reg "SESS_TO" 0x07C .rw |>.resets 0x258 |>.fields [⟨11, 0, .within 30 3600⟩]]


/-- The registers of UPD, part 2. -/
def updRegs2 : List RegDesc := [
  reg "BUF" 0x800 .rw |>.times 512 0x4 |>.fields [⟨31, 0, .any⟩]]

/-- The registers of UPD. -/
def updRegs : List RegDesc := updRegs1 ++ updRegs2

/-! ### TWN -/

def TWN.page : Nat := 0x29
def TWN.CFG : Nat := 0x40029040
def TWN.CLAIM : Nat := 0x40029044
def TWN.PEER_CLAIM : Nat := 0x40029048
def TWN.DRILL_AT_LO : Nat := 0x4002904C
def TWN.DRILL_AT_HI : Nat := 0x40029050
def TWN.DRILL_CTRL : Nat := 0x40029054
def TWN.HANDOVER : Nat := 0x40029058
def TWN.REARM : Nat := 0x4002905C
def TWN.LEPOCH : Nat := 0x40029060
def TWN.JSEQ : Nat := 0x40029064
def TWN.LAT : Nat := 0x40029068
def TWN.CNT_A : Nat := 0x4002906C
def TWN.CNT_B : Nat := 0x40029070
def TWN.LAST_TO_LO : Nat := 0x40029074
def TWN.LAST_TO_HI : Nat := 0x40029078

/-- The registers of TWN. -/
def twnRegs : List RegDesc := [
  reg "CFG" 0x040 .rw |>.resets 0x10308 |>.fields [⟨3, 0, .within 4 12⟩, ⟨11, 8, .within 1 15⟩, ⟨16, 16, .any⟩],
  reg "CLAIM" 0x044 .ro,
  reg "PEER_CLAIM" 0x048 .ro,
  reg "DRILL_AT_LO" 0x04C .rw |>.paired .lo |>.fields [⟨31, 0, .any⟩],
  reg "DRILL_AT_HI" 0x050 .rw |>.paired .hi |>.fields [⟨31, 0, .any⟩],
  reg "DRILL_CTRL" 0x054 .rw |>.fields [⟨15, 0, .any⟩],
  reg "HANDOVER" 0x058 .wo,
  reg "REARM" 0x05C .wo,
  reg "LEPOCH" 0x060 .ro,
  reg "JSEQ" 0x064 .ro,
  reg "LAT" 0x068 .ro,
  reg "CNT_A" 0x06C .counter,
  reg "CNT_B" 0x070 .counter,
  reg "LAST_TO_LO" 0x074 .ro |>.paired .lo,
  reg "LAST_TO_HI" 0x078 .ro |>.paired .hi]

/-! ### KSP -/

def KSP.page : Nat := 0x2A
def KSP.LISTEN : Nat := 0x4002A040
def KSP.REFUSED_CNT : Nat := 0x4002A044
def KSP.TXJ_HEAD : Nat := 0x4002A048
def KSP.TXJ_CTRL : Nat := 0x4002A04C
def KSP.TXJ_RES : Nat := 0x4002A050
def KSP.TXJ_BUF (i : Nat) : Nat := 0x4002A060 + 0x4 * i
def KSP.S_STAT (i : Nat) : Nat := 0x4002A100 + 0x20 * i
def KSP.S_ID_LO (i : Nat) : Nat := 0x4002A104 + 0x20 * i
def KSP.S_ID_HI (i : Nat) : Nat := 0x4002A108 + 0x20 * i
def KSP.S_RX (i : Nat) : Nat := 0x4002A10C + 0x20 * i
def KSP.S_TX (i : Nat) : Nat := 0x4002A110 + 0x20 * i

/-- The registers of KSP. -/
def kspRegs : List RegDesc := [
  reg "LISTEN" 0x040 .rw |>.resets 0x3316CA |>.fields [⟨15, 0, .within 1024 65535⟩, ⟨16, 16, .any⟩, ⟨17, 17, .any⟩, ⟨21, 20, .within 1 3⟩],
  reg "REFUSED_CNT" 0x044 .counter,
  reg "TXJ_HEAD" 0x048 .ro,
  reg "TXJ_CTRL" 0x04C .wo,
  reg "TXJ_RES" 0x050 .ro,
  reg "TXJ_BUF" 0x060 .rw |>.times 8 0x4 |>.fields [⟨31, 0, .any⟩],
  reg "S_STAT" 0x100 .rw |>.times 8 0x20 |>.fields [⟨1, 0, .any⟩, ⟨5, 4, .any⟩, ⟨12, 8, .any⟩],
  reg "S_ID_LO" 0x104 .rw |>.paired .lo |>.times 8 0x20 |>.fields [⟨31, 0, .any⟩],
  reg "S_ID_HI" 0x108 .rw |>.paired .hi |>.times 8 0x20 |>.fields [⟨31, 0, .any⟩],
  reg "S_RX" 0x10C .rw |>.times 8 0x20 |>.fields [⟨31, 0, .any⟩],
  reg "S_TX" 0x110 .rw |>.times 8 0x20 |>.fields [⟨31, 0, .any⟩]]

/-! ### HKP -/

def HKP.page : Nat := 0x2B
def HKP.IN_STATE : Nat := 0x4002B040
def HKP.IN_RAW : Nat := 0x4002B044
def HKP.RLY_CTRL : Nat := 0x4002B048
def HKP.RLY_STATE : Nat := 0x4002B04C
def HKP.IN_CFG (i : Nat) : Nat := 0x4002B060 + 0x4 * i
def HKP.IN_CNT (i : Nat) : Nat := 0x4002B080 + 0x4 * i
def HKP.RLY_CNT (i : Nat) : Nat := 0x4002B0A0 + 0x4 * i

/-- The registers of HKP. -/
def hkpRegs : List RegDesc := [
  reg "IN_STATE" 0x040 .ro,
  reg "IN_RAW" 0x044 .ro,
  reg "RLY_CTRL" 0x048 .rw |>.fields [⟨3, 0, .any⟩],
  reg "RLY_STATE" 0x04C .ro,
  reg "IN_CFG" 0x060 .rw |>.times 8 0x4 |>.resets 0x14 |>.fields [⟨7, 0, .within 1 250⟩, ⟨8, 8, .any⟩, ⟨9, 9, .any⟩, ⟨14, 12, .any⟩],
  reg "IN_CNT" 0x080 .ro |>.times 8 0x4,
  reg "RLY_CNT" 0x0A0 .ro |>.times 4 0x4]

/-! ### SVC -/

def SVC.page : Nat := 0x2C
/-! ### TRC -/

def TRC.page : Nat := 0x2D
def TRC.SRC_EN : Nat := 0x4002D040
def TRC.MODE : Nat := 0x4002D044
def TRC.WR_OFF : Nat := 0x4002D048
def TRC.WRAP_CNT : Nat := 0x4002D04C
def TRC.LOST_CNT : Nat := 0x4002D050
def TRC.FAB_BASE : Nat := 0x4002D054
def TRC.FAB_MASK : Nat := 0x4002D058
def TRC.SEQ : Nat := 0x4002D05C

/-- The registers of TRC. -/
def trcRegs : List RegDesc := [
  reg "SRC_EN" 0x040 .rw |>.fields [⟨3, 0, .any⟩],
  reg "MODE" 0x044 .rw |>.fields [⟨0, 0, .any⟩, ⟨1, 1, .any⟩],
  reg "WR_OFF" 0x048 .ro,
  reg "WRAP_CNT" 0x04C .ro,
  reg "LOST_CNT" 0x050 .counter,
  reg "FAB_BASE" 0x054 .rw |>.fields [⟨31, 0, .any⟩],
  reg "FAB_MASK" 0x058 .rw |>.fields [⟨31, 0, .any⟩],
  reg "SEQ" 0x05C .ro]

/-- Every register of page `p`; an unmapped page has none (R66). -/
def pageRegs : Nat → List RegDesc
  | 0x00 => commonRegs 0x00 0x0 0x0 true [⟨3, 0, .any⟩] ++ sysRegs
  | 0x01 => commonRegs 0x01 0x0 0x0 true [⟨6, 0, .any⟩] ++ pwrRegs
  | 0x02 => commonRegs 0x02 0x0 0x700 false [⟨6, 0, .any⟩] ++ rctRegs
  | 0x03 => commonRegs 0x03 0x404 0x0 true [⟨12, 0, .any⟩] ++ timRegs
  | 0x04 => commonRegs 0x04 0x0 0x0 true [⟨6, 0, .any⟩] ++ rtcRegs
  | 0x05 => commonRegs 0x05 0x4 0x0 false [⟨4, 0, .any⟩] ++ snsRegs 4 32
  | 0x06 => commonRegs 0x06 0x4 0x0 false [⟨4, 0, .any⟩] ++ snsRegs 4 32
  | 0x07 => commonRegs 0x07 0x4 0x0 false [⟨4, 0, .any⟩] ++ snsRegs 4 32
  | 0x08 => commonRegs 0x08 0x101 0x0 false [⟨4, 0, .any⟩, ⟨9, 8, .any⟩] ++ (snsRegs 1 8 ++ pbRegs)
  | 0x09 => commonRegs 0x09 0x1840 0x0 false [⟨5, 0, .any⟩] ++ cenRegs
  | 0x0A => commonRegs 0x0A 0x0 0x0 true [] ++ []
  | 0x0B => commonRegs 0x0B 0x0 0x0 false [⟨8, 0, .any⟩] ++ mfeRegs
  | 0x0C => commonRegs 0x0C 0xC 0x0 true [⟨5, 0, .any⟩] ++ chnRegs
  | 0x0D => commonRegs 0x0D 0xC 0x0 true [⟨5, 0, .any⟩] ++ chnRegs
  | 0x0E => commonRegs 0x0E 0xC 0x0 true [⟨5, 0, .any⟩] ++ chnRegs
  | 0x0F => commonRegs 0x0F 0xC 0x0 true [⟨5, 0, .any⟩] ++ chnRegs
  | 0x10 => commonRegs 0x10 0xD 0x1FFF true [⟨5, 0, .any⟩] ++ axeRegs
  | 0x11 => commonRegs 0x11 0xD 0x0 false [⟨6, 0, .any⟩] ++ stlRegs
  | 0x12 => commonRegs 0x12 0x234 0x0 false [⟨11, 0, .any⟩] ++ mtrRegs
  | 0x13 => commonRegs 0x13 0x0 0x0 true [] ++ []
  | 0x14 => commonRegs 0x14 0x830 0x0 false [⟨4, 0, .any⟩] ++ lgtRegs
  | 0x15 => commonRegs 0x15 0x30 0x0 false [⟨2, 0, .any⟩] ++ diaRegs
  | 0x16 => commonRegs 0x16 0xC 0x0 false [⟨5, 0, .any⟩] ++ fphRegs
  | 0x17 => commonRegs 0x17 0xC 0x0 false [⟨5, 0, .any⟩] ++ fphRegs
  | 0x18 => commonRegs 0x18 0xC 0x0 false [⟨5, 0, .any⟩] ++ fphRegs
  | 0x19 => commonRegs 0x19 0xC 0x0 false [⟨5, 0, .any⟩] ++ fphRegs
  | 0x1A => commonRegs 0x1A 0xC 0x0 false [⟨7, 0, .any⟩] ++ fmaRegs
  | 0x1B => commonRegs 0x1B 0xC 0x0 false [⟨7, 0, .any⟩] ++ fmaRegs
  | 0x1C => commonRegs 0x1C 0xC 0x0 false [⟨7, 0, .any⟩] ++ fmaRegs
  | 0x1D => commonRegs 0x1D 0xC 0x0 false [⟨7, 0, .any⟩] ++ fmaRegs
  | 0x1E => commonRegs 0x1E 0x40001000 0x0 true [⟨3, 0, .any⟩] ++ ntbRegs
  | 0x1F => commonRegs 0x1F 0x400100 0x0 false [⟨9, 0, .any⟩] ++ yrdRegs
  | 0x20 => commonRegs 0x20 0x400 0x0 true [⟨4, 0, .any⟩] ++ schRegs
  | 0x21 => commonRegs 0x21 0x34 0x0 false [⟨3, 0, .any⟩] ++ swxRegs
  | 0x22 => commonRegs 0x22 0x8 0x0 true [⟨0, 0, .any⟩] ++ ofsRegs
  | 0x23 => commonRegs 0x23 0x2 0x0 false [⟨6, 0, .any⟩] ++ uplRegs
  | 0x24 => commonRegs 0x24 0x200100 0x0 false [⟨2, 0, .any⟩] ++ thsRegs
  | 0x25 => commonRegs 0x25 0x40 0x0 false [⟨4, 0, .any⟩] ++ tquRegs
  | 0x26 => commonRegs 0x26 0x400 0x0 true [⟨4, 0, .any⟩] ++ evrRegs
  | 0x27 => commonRegs 0x27 0x10000200 0x0 true [⟨5, 0, .any⟩] ++ kvtRegs
  | 0x28 => commonRegs 0x28 0x3 0x0 true [⟨7, 0, .any⟩] ++ updRegs
  | 0x29 => commonRegs 0x29 0x102 0x0 false [⟨8, 0, .any⟩] ++ twnRegs
  | 0x2A => commonRegs 0x2A 0x8 0x0 false [⟨2, 0, .any⟩] ++ kspRegs
  | 0x2B => commonRegs 0x2B 0x0 0x0 false [⟨7, 0, .any⟩] ++ hkpRegs
  | 0x2C => commonRegs 0x2C 0x0 0x0 false [] ++ []
  | 0x2D => commonRegs 0x2D 0x0 0x0 false [⟨1, 0, .any⟩] ++ trcRegs
  | _ => []

/-- The base address of page `p` (R66). -/
def pageBase (p : Nat) : Nat := 0x40000000 + p * 0x1000
/-- The common registers of page `p` by name (R68). -/
def regCAP (p : Nat) : Nat := pageBase p + 0x004
def regCTRL (p : Nat) : Nat := pageBase p + 0x008
def regSTAT (p : Nat) : Nat := pageBase p + 0x00C
def regINT_EN (p : Nat) : Nat := pageBase p + 0x010
def regINT_FLAG (p : Nat) : Nat := pageBase p + 0x014
def regINT_FORCE (p : Nat) : Nat := pageBase p + 0x018
def regLOCK (p : Nat) : Nat := pageBase p + 0x01C
def regCLAMP_CNT (p : Nat) : Nat := pageBase p + 0x020
def regPARITY_CNT (p : Nat) : Nat := pageBase p + 0x024

/-- The page number of an address of the register space. -/
def pageOf (a : Nat) : Nat := (a - 0x40000000) / 0x1000
/-- Whether an address lies in the pages 0x00 to 0x2D (R66). -/
def isPageAddr (a : Nat) : Bool := 0x40000000 ≤ a && a < 0x4002E000

/-- The row that describes offset `off`, with the index of the register in its array. -/
def findReg (l : List RegDesc) (off : Nat) : Option (RegDesc × Nat) :=
  match l with
  | [] => none
  | r :: t =>
    if r.off ≤ off ∧ (off - r.off) % r.stride = 0 ∧ (off - r.off) / r.stride < r.count
    then some (r, (off - r.off) / r.stride) else findReg t off

/-- The register at an address; none at a reserved offset or outside the pages. -/
def lookupReg (a : Nat) : Option (RegDesc × Nat) :=
  if isPageAddr a then findReg (pageRegs (pageOf a)) (a % 0x1000) else none

/-- What an unlisted address of the register file holds: the reset value of the register tables, 0 at a reserved
offset (R9, R69). A register whose table gives no number holds 0 (log entry 1). -/
def regReset (a : Nat) : Word :=
  match lookupReg a with
  | some (r, i) => BitVec.ofNat 32 (r.reset i)
  | none => 0

end Sys2Proof.Machine
end

