-- ==== Sys2Proof/Machine/State.lean ====
section
/-!
DEFINITION. The state of the block, its stops, and the state after reset.
-/

namespace Sys2Proof.Machine

/-- Why the block stops with a fault. No meaning of this model stops with one; the constructor is there for a state
that no command sequence reaches. -/
inductive Fault where
  | unreachable
  deriving DecidableEq, Repr

/-- Why a command is turned away. `notModelled`: the command has no meaning yet (safe: nothing is claimed of it). -/
inductive Refusal where
  | notModelled (mnemonic : String)
  deriving DecidableEq, Repr

/-- What a command's meaning answers. -/
abbrev Res (σ : Type) := Host.Outcome σ Fault Refusal

/-- What the module puts on a link, a bus or a session. -/
inductive Output where
  | busFault (req addr : Nat) (write : Bool)
  /-- A frame on a feeder's coupling ports (R233). -/
  | feederFrame (f : PhySignal)
  /-- An access fault to a hart on an uncorrectable memory error (R362). -/
  | memoryFault (hart : Nat)
  /-- A command frame to board SBn on its stage link (R169). -/
  | stageFrame (board : Nat) (frame : List Byte)
  /-- A frame on an uplink, FCS included (R315). -/
  | uplinkFrame (port : Nat) (frame : List Byte)
  /-- A management access to an SFP28 module: the command word and the bytes of a write (R328). -/
  | sfpAccess (port : Nat) (cmd : Word) (data : List Byte)
  /-- A twin frame (R444): its lane and its bytes, tag included. -/
  | twinFrame (lane : Nat) (frame : List Byte)
  /-- Twin frames whose bodies the spec gives no bytes of: PAIR, CONTROL, LOOP_EPOCH, YARDER_EPOCH, and the copy of the Yarder
  state that a partner asks for (R446, R448, R452, R453). -/
  | pairFrame (seq : Nat) (p : PairFrame)
  | controlFrame (seq : Nat) (c : ControlFrame)
  | loopEpoch (seq : Nat) (e : LoopEpoch)
  | yarderEpoch (seq cycle : Nat) (events : List LampEvent) (reports : List MacReport)
  | yarderState (seq : Nat) (y : Yrd) (h : Sch)
  /-- A segment protocol message the module sends (R469): its session and its bytes, header and TLVs. -/
  | ksp (sess : Nat) (message : List Byte)
  deriving DecidableEq, Repr

/-- The state of the module. -/
structure State where
  /-- The register file, keyed by address; an unlisted register holds its reset value (R66, R72). -/
  regs : Tab Word
  /-- The table windows W0 to W7, one word per address (R67). -/
  win : Tab Word
  /-- Addressed bytes: DRAM, MRAM configuration store, flash, Tally log banks, stump buffer, trace buffer. -/
  mem : Tab Byte
  /-- The ring stamp (R2, R25). -/
  now : Stamp
  sys : Sys
  pwr : Pwr
  rct : Rct
  tim : Tim
  rtc : Rtc
  sns : Sns
  cen : Cen
  mfe : Mfe
  chs : Tab Channel
  lgt : Lgt
  mtr : Mtr
  stl : Stl
  axe : Axe
  modems : Tab Modem
  macs : Tab Mac
  ntb : Ntb
  yrd : Yrd
  sch : Sch
  ths : Ths
  tqu : Tqu
  swx : Swx
  uplinks : Tab Uplink
  evr : Evr
  kvt : Kvt
  upd : Upd
  trc : Trc
  twn : Twn
  ksp : Ksp
  /-- The model's own record of what the module has sent, oldest first. -/
  sent : List Output
  /-- The model's own count of free values drawn. -/
  free : Nat
  /-- The commands waiting, first in, first out. -/
  pending : List Instr
  deriving DecidableEq, Repr

/-- The module right after reset: only PD0 powered, before VIN24 has held its start threshold (R482). Every register at its
reset value, every store empty, what the factory leaves in Heartwood, nothing waiting. -/
def State.reset : State :=
  { regs := [], win := [], mem := [], now := 0, sys := {}, pwr := {}, rct := {}, tim := {}, rtc := {}, sns := {}, cen := {}, mfe := {},
    chs := [], lgt := {}, mtr := {}, stl := {}, axe := {}, modems := [], macs := [], ntb := {}, yrd := {}, sch := {}, ths := {},
    tqu := {}, swx := {}, uplinks := [], evr := {}, kvt := { copies := factoryCopies }, upd := {}, trc := {}, twn := {}, ksp := {},
    sent := [], free := 0, pending := [] }

end Sys2Proof.Machine
end

