-- ==== Sys2Proof/Machine/Ops.lean ====
section
/-!
DEFINITION. The operations every block shares: reading and writing the register file and the windows, clamping,
counting refused writes, locks, the 64-bit latch and staging word, interrupts, the trace unit, the journal, memory
bytes, free values, and the entry of an event into the Tally log's write queue.
-/

namespace Sys2Proof.Machine

/-! ### The register file -/

/-- The stored word of a register. -/
def State.reg (s : State) (a : Nat) : Word := Tab.get regReset s.regs a

/-- The state with a register holding `w`. -/
def State.setReg (s : State) (a : Nat) (w : Word) : State := { s with regs := Tab.put regReset s.regs a w }

/-- The state with a register changed by `f`. -/
def State.modReg (s : State) (a : Nat) (f : Word → Word) : State := s.setReg a (f (s.reg a))

/-- Bits [hi:lo] of a register. -/
def State.fld (s : State) (a hi lo : Nat) : Nat := bits (s.reg a) hi lo

/-- One bit of a register. -/
def State.rbit (s : State) (a i : Nat) : Bool := bit (s.reg a) i

/-- The state with bits [hi:lo] of a register holding `v`. -/
def State.setFld (s : State) (a hi lo v : Nat) : State := s.modReg a (fun w => putBits w hi lo v)

/-- The state with one bit of a register set or clear. -/
def State.setRbit (s : State) (a i : Nat) (b : Bool) : State := s.modReg a (fun w => putBit w i b)

/-- The 64-bit value held in two registers. -/
def State.reg64 (s : State) (lo hi : Nat) : Stamp := join64 (s.reg hi) (s.reg lo)

/-- The state with a 64-bit value in two registers. -/
def State.setReg64 (s : State) (lo hi : Nat) (v : Stamp) : State := (s.setReg lo (lo32 v)).setReg hi (hi32 v)

/-- A saturating count in bits [15:0] of a register, one higher. -/
def State.incLo (s : State) (a : Nat) : State := s.modReg a incLow

/-- A saturating count in bits [31:16] of a register, one higher. -/
def State.incHi (s : State) (a : Nat) : State := s.modReg a incHigh

/-- A wrapping 32-bit count, one higher. -/
def State.incReg (s : State) (a : Nat) : State := s.modReg a (· + 1)

/-! ### Windows and memory bytes -/

/-- A word of a correction table at reset (R207): NOLOAD 2 048, I_j = j × 1 048 576, G_j = 0x4000_0000, P_j = 0. -/
def corReset (o : Nat) : Word :=
  if o = 0 then 2048
  else if o < 0x10 ∨ 0x7C ≤ o then 0
  else if (o - 0x10) % 12 = 0 then word ((o - 0x10) / 12 * 1048576)
  else if (o - 0x10) % 12 = 4 then 0x40000000
  else 0

/-- The notch entries at reset (R230): start and end carriers of N0 to N10; N11 to N63 are empty. -/
def notchReset : List (Nat × Nat) :=
  [(41, 43), (69, 80), (107, 112), (141, 150), (204, 210), (284, 296), (368, 375), (428, 442), (507, 514), (571, 611),
    (1022, 1067)]

/-- A byte of the robust map (R238, R249) of a feeder with `n` active carriers: VALID, diversity at rate 1/2 with the
prefix of 5.12 µs, 2 bits on every active carrier. -/
def robustByte (active : Nat → Bool) (n b : Nat) : Byte :=
  if b = 0 then 1
  else if b = 1 then 8
  else if b = 4 ∨ b = 5 then (bytesBE 2 (2 * n)).getD (b - 4) 0
  else if b = 8 ∨ b = 9 then (bytesBE 2 n).getD (b - 8) 0
  else if 16 ≤ b ∧ b ≤ 876 then
    let q := 2 * (b - 16)
    BitVec.ofNat 8 ((if active (41 + q) then 32 else 0) + (if q < 1720 && active (42 + q) then 2 else 0))
  else 0

/-- A word of a feeder's W7 region at reset (R230, R231, R249). -/
def phyReset (o : Nat) : Word :=
  if o < 0x800 then
    let act := fun c => !notchReset.any (fun e => e.1 ≤ c && c ≤ e.2)
    word (natBE ((List.range 4).map (fun i => robustByte act 1552 (o + i))))
  else if 0xA000 ≤ o ∧ o < 0xA400 then
    (if o % 8 = 0 then
      let e := notchReset.getD (o % 0x200 / 8) (0xFFFF, 41)
      word (e.1 * 65536 + e.2)
    else 0)
  else if 0xA400 ≤ o ∧ o < 0xA600 then
    (if o % 0x100 = 0 then word (41 * 65536 + unsigned 16 (-550)) else if o % 8 = 0 then 0xFFFF0000 else 0)
  else 0

/-- What an unlisted word of a table window holds: the reset contents the spec gives (R129, R207, R225, R230, R231,
R249, R278, R285, R289), else
0 (log entry 2). -/
def winReset (a : Nat) : Word :=
  if a = 0x50000000 ∨ a = 0x50000400 then 0x30
  else if 0x50100000 ≤ a ∧ a < 0x50101A00 then corReset ((a - 0x50100000) % 0x80)
  else if 0x50110000 ≤ a ∧ a < 0x50111A00 then corReset ((a - 0x50110000) % 0x80)
  else if 0x50400000 ≤ a ∧ a < 0x50500000 then (if a % 0x40 = 4 then 0xFFFF0000 else 0)
  else if 0x50A00000 ≤ a ∧ a < 0x50C00000 ∧ a % 0x80000 < 0x7E000 then phyReset (a % 0x80000 % 0xA800)
  else if (0x50800000 ≤ a ∧ a < 0x50808000) ∨ (0x50810000 ≤ a ∧ a < 0x50818000) then
    (if a % 0x20 = 20 then 0xFFFFFFFF else 0)
  else if (0x50840000 ≤ a ∧ a < 0x50844000) ∨ (0x50850000 ≤ a ∧ a < 0x50854000) then
    (if a % 0x40 = 16 then 0x00010000 else if a % 0x40 = 20 ∨ a % 0x40 = 24 then 0x000E000E else 0)
  else if 0x50900000 ≤ a ∧ a < 0x50904000 ∧ a % 0x800 ≤ 0x400 then word (256 * (a % 0x800 / 4))
  else 0

/-- A word of a table window. -/
def State.winWord (s : State) (a : Nat) : Word := Tab.get winReset s.win a

/-- The state with a word of a table window written. -/
def State.setWin (s : State) (a : Nat) (w : Word) : State := { s with win := Tab.put winReset s.win a w }

/-- A word address of one region of a window moved to the same place of another, and back. -/
def swapAddr (a b n k : Nat) : Nat := if a ≤ k ∧ k < a + n then k - a + b else if b ≤ k ∧ k < b + n then k - b + a else k

/-- Two regions of the windows of `n` bytes exchanged. -/
def State.swapWin (s : State) (a b n : Nat) : State :=
  { s with win := s.win.foldl (fun t c => Tab.put winReset t (swapAddr a b n c.1) c.2) [] }

/-- A region of the windows of `n` bytes from `a` copied to `b`. -/
def State.copyWin (s : State) (a b n : Nat) : State :=
  let src := s.win.filter (fun c => a ≤ c.1 && c.1 < a + n)
  let rest := Tab.dropIf (fun k => b ≤ k && k < b + n) s.win
  { s with win := src.foldl (fun t c => Tab.put winReset t (c.1 - a + b) c.2) rest }

/-- What an unlisted byte of memory reads as: erased flash 0xFF (log entry 6), every other store 0 (log entry 2). -/
def memReset (a : Nat) : Byte := if 0x20000000 ≤ a ∧ a < 0x38000000 then 0xFF else 0

/-- A byte of memory. -/
def State.byte (s : State) (a : Nat) : Byte := Tab.get memReset s.mem a

/-- The state with a byte of memory written. -/
def State.setByte (s : State) (a : Nat) (b : Byte) : State := { s with mem := Tab.put memReset s.mem a b }

/-- `n` bytes of memory from an address. -/
def State.bytes (s : State) (a n : Nat) : List Byte := (List.range n).map (fun i => s.byte (a + i))

/-- The state with bytes written from an address. -/
def State.setBytes (s : State) (a : Nat) (l : List Byte) : State := { s with mem := Tab.putAll memReset s.mem a l }

/-- A number spelled by `n` bytes of memory, most significant first. -/
def State.memBE (s : State) (a n : Nat) : Nat := natBE (s.bytes a n)

/-- A number spelled by `n` bytes of memory, least significant first. -/
def State.memLE (s : State) (a n : Nat) : Nat := natLE (s.bytes a n)

/-- The words of a list of bytes, most significant byte first. -/
def wordsOf (l : List Byte) : List Word := (List.range (l.length / 4)).map (fun i => word (natBE ((l.drop (4 * i)).take 4)))

/-- Fields one after another, each a width in bytes and a value, most significant byte first (R8). -/
def fields (l : List (Nat × Nat)) : List Byte := l.flatMap (fun p => bytesBE p.1 p.2)

/-! ### The value of a key, and AES-256-GCM (R404, R412, R417) -/

/-- Two lists of bytes combined by XOR. -/
def xorBytes (a b : List Byte) : List Byte := List.zipWith (· ^^^ ·) a b

/-- A slot. KS0 holds the factory's key (R404). -/
def State.key (s : State) (i : Nat) : KeySlot :=
  Tab.get (fun i => if i = 0 ∧ s.kvt.factory then { st := 1, typ := 2, origin := 5, persist := true } else {}) s.kvt.slots i

/-- The value a slot holds: the XOR of its shares; the factory's value for KS0 and for a slot of ORIGIN FACTORY (R404,
R425). -/
def State.keyValue (s : State) (i : Nat) : List Byte :=
  if i = 0 then Config.idevKey
  else if (s.key i).origin = 5 then Config.factoryKey i
  else xorBytes (s.key i).shareA (s.key i).shareB

/-- Data under AES-256-GCM, and its tag (R417). -/
def gcm (key iv : List Byte) (l : List Byte) : List Byte :=
  (l.zip (List.range l.length)).map (fun p => p.1 ^^^ Config.gcmStream key iv p.2)

/-! ### Free values, outputs, interrupts -/

/-- The state with one more free value drawn. -/
def State.draw (s : State) : State := { s with free := s.free + 1 }

/-- The state with an output put on its link. -/
def State.emit (s : State) (o : Output) : State := { s with sent := s.sent ++ [o] }

/-- Whether a page's interrupt is pending (R74). -/
def State.pendingInt (s : State) (page : Nat) : Bool :=
  (s.reg (regINT_FLAG page)).toNat &&& (s.reg (regINT_EN page)).toNat ≠ 0

/-- A change of a page's interrupt registers, noted for the scheduler when the page becomes pending (R74, R366). -/
def State.noteEdge (s t : State) (page : Nat) : State :=
  if t.pendingInt page && !s.pendingInt page then { t with ths := { t.ths with edges := t.ths.edges ||| 2 ^ page } } else t

/-- The state with bit `b` of a page's INT_FLAG set (R74). -/
def State.raise (s : State) (page b : Nat) : State := s.noteEdge (s.setRbit (regINT_FLAG page) b true) page

/-- An item a hardware source hands to the telemetry queues (R376). -/
def State.telemetry (s : State) (src typ : Nat) (words : List (BitVec 64)) : State :=
  { s with tqu := { s.tqu with waiting := s.tqu.waiting ++ [{ src, typ, words }] } }

/-- A 64-bit word of fields, each a position and a value. -/
def dword (l : List (Nat × Nat)) : BitVec 64 := BitVec.ofNat 64 ((l.map (fun p => p.2 * 2 ^ p.1)).sum)

/-! ### Power domains -/

/-- The power domain of the block behind a page (R54). The pages R54 does not name lie as log entry 7 says. -/
def domainOf (page : Nat) : Nat :=
  if page = 0x04 then 0
  else if page = 0x03 ∨ page = 0x12 ∨ page = 0x13 ∨ page = 0x26 then 1
  else if page = 0x27 then 2
  else if page = 0x02 ∨ (0x05 ≤ page ∧ page ≤ 0x08) then 5
  else if (0x09 ≤ page ∧ page ≤ 0x11) ∨ page = 0x14 ∨ page = 0x15 then 4
  else if page = 0x16 ∨ page = 0x17 ∨ page = 0x1A ∨ page = 0x1B then 6
  else if page = 0x18 ∨ page = 0x19 ∨ page = 0x1C ∨ page = 0x1D then 7
  else if 0x21 ≤ page ∧ page ≤ 0x23 then 8
  else if page = 0x29 then 9
  else if page = 0x2C then 10
  else if page = 0x2B then 11
  else 3

/-- Whether a domain has power-good. -/
def State.domainUp (s : State) (d : Nat) : Bool := s.pwr.up.testBit d

/-- An effect that waits for PD4 to come up (R72). -/
def State.defer (s : State) (d : Deferred) : State := { s with pwr := { s.pwr with deferred := s.pwr.deferred ++ [d] } }

/-! ### The trace unit (R82, R83) -/

/-- A trace record: source, length, sequence number, stamp and payload, padded to a multiple of 16 bytes. -/
def traceRecord (src seq : Nat) (at_ : Stamp) (payload : List Byte) : List Byte :=
  let n := (12 + payload.length + 15) / 16
  bytesBE 1 src ++ bytesBE 1 n ++ bytesBE 2 seq ++ bytesBE 8 at_.toNat ++ payload
    ++ List.replicate (n * 16 - 12 - payload.length) 0

/-- The bytes of the trace buffer behind W11. -/
def traceSize : Nat := 0x100000

/-- A lost record (R82): LOST is raised at the first one after LOST_CNT was cleared. -/
def State.traceLost (s : State) : State :=
  let t := if s.fld TRC.LOST_CNT 15 0 = 0 then s.raise TRC.page 1 else s
  t.incLo TRC.LOST_CNT

/-- The record of a fitting length written at the record offset. -/
def State.tracePut (s : State) (off : Nat) (r : List Byte) : State :=
  let t := s.setBytes (0x53000000 + off) r
  let t := { t with trc := { t.trc with off := off + r.length } }
  let t := t.setReg TRC.WR_OFF (word ((off + r.length) % traceSize))
  t.setReg TRC.SEQ (word ((t.fld TRC.SEQ 15 0 + 1) % 65536))

/-- A source offers a record (R82): written if the unit (CTRL bit 0, R68) and its source are enabled and there
is space, else lost. In wrap mode a
record that does not fit before the end goes to offset 0 and the tail reads as zeros. -/
def State.trace (s : State) (src : Nat) (payload : List Byte) : State :=
  if !s.rbit (regCTRL TRC.page) 0 || !s.rbit TRC.SRC_EN src then s
  else if s.rbit TRC.MODE 1 || s.trc.halted then s.traceLost
  else
    let r := traceRecord src (s.fld TRC.SEQ 15 0) s.now payload
    let off := s.trc.off
    if off + r.length ≤ traceSize then s.tracePut off r
    else if s.rbit TRC.MODE 0 then
      State.traceLost ({ s with trc := { s.trc with halted := true } }.raise TRC.page 0)
    else
      let t := s.setBytes (0x53000000 + off) (List.replicate (traceSize - off) 0)
      (t.incLo TRC.WRAP_CNT).tracePut 0 r

/-! ### Counting writes, locks, journal -/

/-- How a write on the fabric ended: stored as written, stored after a clamp, refused, or without effect and not
counted (a reserved offset, a clearing write of CLAMP_CNT). -/
inductive WriteResult where
  | done | clamped | refused | ignored
  deriving DecidableEq, Repr

/-- The page whose CLAMP_CNT counts writes to an address: its own page, the control page of its window (R67),
or UPD for the configuration store (R423). -/
def countPage (a : Nat) : Nat :=
  if a < 0x50000000 then pageOf a
  else if a < 0x50100000 then 0x0A
  else if a < 0x50140000 then 0x13
  else if a < 0x50800000 then 0x1E
  else if a < 0x50840000 then 0x20
  else if a < 0x50880000 then 0x1F
  else if a < 0x50940000 then 0x14
  else if a < 0x50C00000 then 0x16 + (a - 0x50A00000) / 0x80000
  else if a < 0x51800000 then 0x25
  else if a < 0x52810000 then 0x26
  else if a < 0x53100000 then 0x2D
  else 0x28

/-- A counted write (R73): the page's CLAMP_CNT, CLAMP_LAST, CLAMP_SRC and SYS's CLAMP interrupt. -/
def State.countClamp (s : State) (req a : Nat) : State :=
  let t := s.incLo (regCLAMP_CNT (countPage a))
  let t := t.setReg SYS.CLAMP_LAST (word (a / 4 * 4))
  let t := t.setReg SYS.CLAMP_SRC (word req)
  t.raise SYS.page 1

/-- Whether an address belongs to a journalled page or window (R451). -/
def journalled (a : Nat) : Bool :=
  if a < 0x50000000 then
    let p := pageOf a
    p = 0x02 || (0x05 ≤ p && p ≤ 0x09) || (0x0B ≤ p && p ≤ 0x12) || (0x14 ≤ p && p ≤ 0x22) || p = 0x2B
  else a < 0x50C00000

/-- The kind of a journal entry for a write at an address: 0 register, 1 window (R451). -/
def journalKind (a : Nat) : Nat := if a < 0x50000000 then 0 else 1

/-- TSEQ of the next frame on a lane, and the count moved on (R444). -/
def State.twinSeq (s : State) (lane : Nat) : Nat := Tab.get (fun _ => 0) s.twn.txSeq lane
def State.bumpTwin (s : State) (lane : Nat) : State :=
  { s with twn := { s.twn with txSeq := Tab.put (fun _ => 0) s.twn.txSeq lane ((s.twinSeq lane + 1) % 2 ^ 32) } }

/-- Bytes 0 to 15 of a twin frame (R444): TTYPE, TVER 1, LEN, TSEQ and STAMP. -/
def twinHeader (ttype len seq : Nat) (at_ : Stamp) : List Byte := fields [(1, ttype), (1, 1), (2, len), (4, seq), (8, at_.toNat)]

/-- A twin frame (R8, R444): its header, its body under AES-256-GCM with KS9, and the tag; the nonce is the slot bit, the lane,
TTYPE, a zero byte and TSEQ, padded to 12 bytes, the additional data the header (log entry 101). -/
def State.twinBytes (s : State) (lane ttype : Nat) (at_ : Stamp) (body : List Byte) : List Byte :=
  let head := twinHeader ttype body.length (s.twinSeq lane) at_
  let iv := fields [(1, s.pwr.slotB.toNat), (1, lane), (1, ttype), (1, 0), (4, s.twinSeq lane), (4, 0)]
  let ct := gcm (s.keyValue 9) iv body
  head ++ ct ++ Config.gcmTag (s.keyValue 9) iv head ct

/-- A twin frame sent (R444). -/
def State.sendTwin (s : State) (lane ttype : Nat) (at_ : Stamp) (body : List Byte) : State :=
  (s.emit (.twinFrame lane (s.twinBytes lane ttype at_ body))).bumpTwin lane

/-- A stored copy of 64 bytes of the form of R428 is valid. -/
def State.copyValid (s : State) (b : Nat) : Bool :=
  s.memBE b 4 = 0x42435201 && s.memBE (b + 60) 4 = crc32 (s.bytes b 60)

/-- Of two alternating copies, the one in force: valid, with the higher GEN (R428). -/
def State.copyInForce (s : State) (b0 b1 : Nat) : Option Nat :=
  match s.copyValid b0, s.copyValid b1 with
  | true, true => if s.memBE (b0 + 4) 4 < s.memBE (b1 + 4) 4 then some b1 else some b0
  | true, false => some b0
  | false, true => some b1
  | false, false => none

/-- CNT of the claim counter, and the claim (R457). -/
def State.claimCnt (s : State) : Nat :=
  match s.copyInForce 0x60001000 0x60001800 with | some b => s.memBE (b + 8) 4 | none => 0
def State.claim (s : State) : Nat := s.claimCnt * 2 + s.pwr.slotB.toNat

/-- CNT stored in the copy that is not in force (R457). -/
def State.storeClaim (s : State) (n : Nat) : State :=
  let f := s.copyInForce 0x60001000 0x60001800
  let b := if f = some 0x60001000 then 0x60001800 else 0x60001000
  let gen := match f with | some c => s.memBE (c + 4) 4 + 1 | none => 1
  let l := bytesBE 4 0x42435201 ++ bytesBE 4 gen ++ bytesBE 4 n ++ List.replicate 48 0
  s.setBytes b (l ++ bytesBE 4 (crc32 l))

/-- A journal entry as bytes (R8, R451). -/
def journalBytes (e : JournalEntry) : List Byte :=
  fields ([(4, e.jseq), (8, e.stamp.toNat), (1, e.kind), (1, e.req), (2, e.words.length), (4, e.addr)] ++ e.words.map (fun w => (4, w.toNat)))

/-- A journal entry sent on lane 1 (R451). -/
def State.sendJournal (s : State) (kind req a : Nat) (ws : List Word) : State :=
  let n := s.twn.jseqTx + 1
  let t := { s with twn := { s.twn with jseqTx := n } }
  (t.setReg TWN.JSEQ (word n)).sendTwin 1 4 s.now (journalBytes { jseq := n, stamp := s.now, kind, req, addr := a, words := ws })

/-- An accepted write to a journalled page is sent by the active (R451). -/
def State.journalWrite (s : State) (req a : Nat) (w : Word) : State :=
  if s.twn.role = .active ∧ journalled a then s.sendJournal (journalKind a) req a [w] else s

/-- An update the module itself makes to W2, W3 or a W7 map slot, sent by the active (R451). -/
def State.journalUpdate (s : State) (a : Nat) (ws : List Word) : State :=
  if s.twn.role = .active then s.sendJournal 2 0 a ws else s

/-- The payload of a source 0 trace record: word address, value before clamping, requester and flags (R82). -/
def fabricTrace (req a : Nat) (v : Word) (flags : Nat) : List Byte :=
  bytesBE 4 (a / 4 * 4) ++ bytesBE 4 v.toNat ++ bytesBE 1 req ++ bytesBE 1 flags ++ List.replicate 10 0

/-- A fabric write offered to the trace unit when it matches FAB_BASE under FAB_MASK (R82). -/
def State.traceWrite (s : State) (req a : Nat) (v : Word) (flags : Nat) : State :=
  if a &&& (s.reg TRC.FAB_MASK).toNat = (s.reg TRC.FAB_BASE).toNat then s.trace 0 (fabricTrace req a v flags) else s

/-- The end of a write on the fabric: the count of R73, the trace record of R82 and the journal entry of R451.
`stored` is the value after clamping. -/
def State.finishWrite (s : State) (req a : Nat) (v stored : Word) (r : WriteResult) : State :=
  match r with
  | .done => (s.traceWrite req a v 0).journalWrite req a stored
  | .ignored => s.traceWrite req a v 0
  | .clamped => ((s.countClamp req a).traceWrite req a v 1).journalWrite req a stored
  | .refused => (s.countClamp req a).traceWrite req a v 2

/-- Whether a page's LOCK makes a register read-only (R76). -/
def State.lockedOut (s : State) (a : Nat) : Bool :=
  if a < 0x50000000 then
    let off := a % 0x1000
    let lock := s.reg (regLOCK (pageOf a))
    match lookupReg a with
    | none => false
    | some (r, _) =>
      let rw := r.acc = .rw || r.acc = .counter
      (bit lock 0 && decide (0x40 ≤ off) && rw) || (bit lock 1 && (off = 0x008 || off = 0x010 || off = 0x01C))
  else false

/-- Whether the twin role makes the module refuse its own requesters' writes to an address (R451). -/
def State.roleRefuses (s : State) (a : Nat) : Bool :=
  journalled a && !(s.twn.role = .solo || s.twn.role = .active)

/-! ### Storing a register write -/

/-- A value clamped by a field's rule. -/
def Fit.apply (f : Fit) (n v : Nat) : Nat :=
  match f with
  | .any => v
  | .within lo hi => clampN lo hi v
  | .twos lo hi => unsigned n (clampI lo hi (signed n v))
  | .become a b c => if a ≤ v ∧ v ≤ b then c else v
  | .aligned k => v / 2 ^ k * 2 ^ k
  | .alignedWithin k lo hi => clampN lo hi v / 2 ^ k * 2 ^ k

/-- The value a write gives a field. A register whose only field starts at bit 0 and has an unsigned range is
compared as a whole word, as the example of R73 shows (log entry 8). -/
def fieldValue (single : Bool) (f : Fld) (v : Word) : Nat :=
  match single, f.lo, f.fit with
  | true, 0, .within .. => v.toNat
  | true, 0, .alignedWithin .. => v.toNat
  | _, _, _ => bits v f.hi f.lo

/-- The word a write stores: each field clamped on its own, the other bits as they were, and whether a clamp acted. -/
def fitWord (flds : List Fld) (old v : Word) : Word × Bool :=
  let single := flds.length = 1
  flds.foldl (fun acc f =>
    let x := fieldValue single f v
    let y := f.fit.apply (f.hi + 1 - f.lo) x
    (putBits acc.1 f.hi f.lo y, acc.2 || decide (y ≠ x))) (old, false)

/-- The value a write of a register stores, by its row of the register table. -/
def State.fitted (s : State) (a : Nat) (v : Word) : Word × Bool :=
  match lookupReg a with
  | some (r, _) => fitWord r.flds (s.reg a) v
  | none => (s.reg a, false)

/-- A clamp as a write's end. -/
def WriteResult.ofClamp (b : Bool) : WriteResult := if b then .clamped else .done

/-- The value of a write after clamping, as the journal sends it (R451). -/
def clampedValue (a : Nat) (v : Word) : Word :=
  match lookupReg a with
  | some (r, _) => if r.acc = .rw then (fitWord r.flds v v).1 else v
  | none => v

/-- A write on the fabric and how it ended: refused under the twin role or a LOCK, else given to `eff`, which answers the
state and how the write ended. -/
def State.busWriteR (s : State) (req a : Nat) (v : Word) (eff : State → State × WriteResult) : State × WriteResult :=
  if s.roleRefuses a || s.lockedOut a then (s.finishWrite req a v v .refused, .refused)
  else ((eff s).1.finishWrite req a v (clampedValue a v) (eff s).2, (eff s).2)

/-- A write on the fabric. -/
def State.busWrite (s : State) (req a : Nat) (v : Word) (eff : State → State × WriteResult) : State :=
  (s.busWriteR req a v eff).1

/-- The state with a fitted register write stored. -/
def State.store (s : State) (a : Nat) (v : Word) : State × WriteResult :=
  let (w, c) := s.fitted a v
  (s.setReg a w, .ofClamp c)

/-- The fabric's port of a requester. -/
def State.port (s : State) (r : Nat) : ReqPort := Tab.get (fun _ => {}) s.sys.ports r

/-- The state with a requester's port changed. -/
def State.setPort (s : State) (r : Nat) (p : ReqPort) : State :=
  { s with sys := { s.sys with ports := Tab.put (fun _ => {}) s.sys.ports r p } }

/-- A write of the low word of a writable 64-bit register goes to the staging word (R71). -/
def State.stageLow (s : State) (req a : Nat) (v : Word) : State :=
  s.setPort req { s.port req with stageTag := a, stage := v }

/-- The low word a high-word write loads: the staged one of the same register, else 0 (R71). -/
def State.stagedLow (s : State) (req lowAddr : Nat) : Word :=
  if (s.port req).stageTag = lowAddr then (s.port req).stage else 0

/-- A write of the high word loads both halves, clamped, and empties the staging word (R71). -/
def State.loadPair (s : State) (req a : Nat) (v : Word) : State × WriteResult :=
  let lo := a - 4
  let (w0, c0) := s.fitted lo (s.stagedLow req lo)
  let (w1, c1) := s.fitted a v
  let t := s.setPort req { s.port req with stageTag := 0, stage := 0 }
  ((t.setReg lo w0).setReg a w1, .ofClamp (c0 || c1))

/-- What a write does to a register of the register table when its block adds nothing of its own: RO writes are
refused (R73), RW1C bits clear, counters clear, halves of a 64-bit register stage and load (R71), fields clamp. -/
def State.plainWrite (s : State) (req a : Nat) (v : Word) : State × WriteResult :=
  match lookupReg a with
  | none => (s, .ignored)
  | some (r, i) =>
    match r.acc, r.half with
    | .ro, _ => (s, .refused)
    | .wo, .lo => (s.stageLow req a v, .done)
    | .wo, _ => (s, .done)
    | .rw1c, _ => (s.setReg a (BitVec.ofNat 32 ((s.reg a).toNat &&& (v.toNat ^^^ 0xFFFFFFFF))), .done)
    | .counter, _ =>
      (s.setReg a (word (r.reset i)), if a % 0x1000 = 0x020 then .ignored else .done)
    | .rw, .lo => (s.stageLow req a v, .done)
    | .rw, .hi => s.loadPair req a v
    | .rw, .none => s.store a v

/-! ### Entering an event in the Tally log (R387, R393) -/

/-- The codes that are never limited or disabled (R393): PF and the log's own. -/
def neverLimited (code : Nat) : Bool := code = 0x010 || (0x260 ≤ code && code ≤ 0x26F)

/-- CODE_CFG of a code at reset (R401). -/
def codeCfgReset (code : Nat) : Word := if neverLimited code then word (256 * 256) else word (16 + 256 * 256)

/-- The bucket of a code as PD1 power-up leaves it (R393). -/
def bucketReset (code : Nat) : Bucket :=
  { cfg := codeCfgReset code, force := codeCfgReset code, tok := bits (codeCfgReset code) 7 0 * 65536 }

/-- The bucket of a code. -/
def State.bucket (s : State) (code : Nat) : Bucket := Tab.get bucketReset s.evr.buckets code

/-- The state with a code's bucket changed. -/
def State.setBucket (s : State) (code : Nat) (b : Bucket) : State :=
  { s with evr := { s.evr with buckets := Tab.put bucketReset s.evr.buckets code b } }

/-- A record put at the end of the write queue. -/
def State.queueLog (s : State) (e : LogEntry) : State := { s with evr := { s.evr with queue := s.evr.queue ++ [e] } }

/-- An event suppressed by its bucket or a full queue (R393). -/
def State.suppressLog (s : State) (code : Nat) (at_ : Stamp) : State :=
  let b := s.bucket code
  let b := { b with first := if b.sup = 0 then at_ else b.first, last := at_, sup := min (b.sup + 1) (2 ^ 32 - 1) }
  (s.setBucket code b).incHi EVR.CNT

/-- An event of a code, at a stamp, with its payload: discarded, suppressed or queued by its bucket (R393). -/
def State.logAt (s : State) (code : Nat) (at_ : Stamp) (payload : List Byte) : State :=
  let b := s.bucket code
  let burst := bits b.force 7 0
  if bit b.force 25 then s.incHi EVR.LOST_CNT
  else if burst ≠ 0 ∧ b.tok < 65536 then s.suppressLog code at_
  else if 64 ≤ s.evr.queue.length then s.suppressLog code at_
  else
    let t := if burst ≠ 0 then s.setBucket code { b with tok := b.tok - 65536 } else s
    t.queueLog { code, stamp := at_, payload }

/-- An event raised now (R386: the stamp is the shadow ring stamp of the clock it is raised in). -/
def State.log (s : State) (code : Nat) (payload : List Byte) : State := s.logAt code s.now payload

end Sys2Proof.Machine
end

