-- ==== Sys2Proof/Machine/Txj.lean ====
section
/-!
DEFINITION. The transaction journal of the Segment Protocol (R472) and the KSP offload page (R481).
-/

namespace Sys2Proof.Machine

/-- The state with the segment protocol changed. -/
def State.modKsp (s : State) (f : Ksp → Ksp) : State := { s with ksp := f s.ksp }

/-- STATE of a transaction (R469). -/
def TX.DONE : Nat := 0
def TX.PENDING : Nat := 1
def TX.ARMED : Nat := 2
def TX.CANCELLED : Nat := 3
def TX.LOST : Nat := 4

/-- Where journal entry `i` lies in the configuration store. -/
def txjAddr (i : Nat) : Nat := 0x60008000 + 32 * i

/-- The 28 bytes of an entry before its CRC. -/
def txjBody (ident txid digest code index st : Nat) : List Byte :=
  bytesBE 8 ident ++ bytesBE 8 txid ++ bytesBE 8 digest ++ bytesBE 1 code ++ bytesBE 2 index ++ bytesBE 1 st

/-- An entry written, with its CRC. -/
def State.txjWrite (s : State) (i : Nat) (body : List Byte) : State :=
  s.setBytes (txjAddr i) (body ++ bytesBE 4 (crc32 body))

/-- An entry holds data: its CRC checks. -/
def State.txjValid (s : State) (i : Nat) : Bool := s.memBE (txjAddr i + 28) 4 = crc32 (s.bytes (txjAddr i) 28)

/-- The entries from the newest to the oldest. -/
def State.txjOrder (s : State) : List Nat := (List.range 1024).map (fun k => (s.ksp.head + 1023 - k) % 1024)

/-- The newest entry of a client identity and TXID. -/
def State.txjFind (s : State) (ident txid : Nat) : Option Nat :=
  s.txjOrder.find? (fun i => s.memBE (txjAddr i) 8 = ident && s.memBE (txjAddr i + 8) 8 = txid && s.txjValid i)

/-- Fields of an entry. -/
def State.txjDigest (s : State) (i : Nat) : Nat := s.memBE (txjAddr i + 16) 8
def State.txjCode (s : State) (i : Nat) : Nat := s.memBE (txjAddr i + 24) 1
def State.txjIndex (s : State) (i : Nat) : Nat := s.memBE (txjAddr i + 25) 2
def State.txjState (s : State) (i : Nat) : Nat := s.memBE (txjAddr i + 27) 1

/-- An entry sent to the partner (R472). -/
def State.txjSend (s : State) (i : Nat) : State :=
  let link := s.twn.link && s.twn.role = .active && s.twn.peerRole = 4
  if link then (s.emit (.controlFrame (s.twinSeq 1) (.txEntry (s.bytes (txjAddr i) 32)))).bumpTwin 1 else s

/-- An entry appended at TXJ_HEAD. -/
def State.txjAppend (s : State) (body : List Byte) : State :=
  let i := s.ksp.head
  ((s.txjWrite i body).modKsp (fun k => { k with head := (i + 1) % 1024 })).txjSend i

/-- An entry's STATE rewritten. -/
def State.txjMark (s : State) (i st : Nat) : State :=
  (s.txjWrite i (s.bytes (txjAddr i) 27 ++ bytesBE 1 st)).txjSend i

/-- At PD1 power-up every entry PENDING or ARMED becomes LOST (R472). -/
def State.txjPowerUp (s : State) : State :=
  let used := (s.mem.filter (fun c => 0x60008000 ≤ c.1 && c.1 < 0x60010000)).map (fun c => (c.1 - 0x60008000) / 32)
  used.foldl (fun t i =>
    if t.txjValid i && (t.txjState i = TX.PENDING || t.txjState i = TX.ARMED) then
      t.txjWrite i (t.bytes (txjAddr i) 27 ++ bytesBE 1 TX.LOST)
    else t) s

/-- An entry of the partner's journal stored (R472): in the place of the one it renews, else at the head. -/
def State.txjReceive (s : State) (e : List Byte) : State :=
  if e.length ≠ 32 then s
  else
    match s.txjFind (natBE (e.take 8)) (natBE ((e.drop 8).take 8)) with
    | some i => s.setBytes (txjAddr i) e
    | none => (s.setBytes (txjAddr s.ksp.head) e).modKsp (fun k => { k with head := (s.ksp.head + 1) % 1024 })

/-! ### Messages the module sends -/

/-- A TLV: TYPE, LENGTH and value (R469). -/
def tlv (typ : Nat) (v : List Byte) : List Byte := fields [(2, typ), (2, v.length)] ++ v

/-- The TLVs the module sends (R469). -/
def tlvResult (code index : Nat) : List Byte := tlv 1 (fields [(2, code), (2, index)])
def tlvStamp (n : Stamp) : List Byte := tlv 2 (fields [(8, n.toNat)])
def tlvAddrVal (a v : Word) : List Byte := tlv 5 (fields [(4, a.toNat), (4, v.toNat)])
def tlvRecord (b : List Byte) : List Byte := tlv 6 b
def tlvState (st : Nat) : List Byte := tlv 8 (fields [(1, st)])
def tlvData (b : List Byte) : List Byte := tlv 9 b

/-- DATA of words, each most significant byte first (R8). -/
def tlvWords (ws : List Word) : List Byte := tlvData (fields (ws.map (fun w => (4, w.toNat))))

/-- A message (R8, R469): its 16-byte header, then its body. -/
def kspMessage (ver flags msg txid : Nat) (body : List Byte) : List Byte :=
  fields [(1, ver), (1, flags), (2, msg), (4, body.length), (8, txid)] ++ body

/-- A session that is there. -/
def State.kspSession (s : State) (i : Nat) : Option KspSession := Tab.get (fun _ => none) s.ksp.sessions i

/-- The version of a session, 0 before it has one. -/
def State.kspVer (s : State) (i : Nat) : Nat := ((s.kspSession i).map (·.ver)).getD 0

/-- A message sent on a session in its version (R469, R471), counted in S_TX. -/
def State.kspSend (s : State) (sess flags msg txid : Nat) (body : List Byte) : State :=
  (s.incReg (KSP.S_TX sess)).emit (.ksp sess (kspMessage (s.kspVer sess) flags msg txid body))

/-- The state with a session replaced. -/
def State.setSession (s : State) (i : Nat) (x : Option KspSession) : State :=
  s.modKsp (fun k => { k with sessions := Tab.put (fun _ => none) k.sessions i x })

/-- An event to every open session with VIEW but `but` (R478). -/
def State.kspEvent (s : State) (msg : Nat) (but : Option Nat) (body : List Byte) : State :=
  (List.range 8).foldl (fun (t : State) i =>
    match t.kspSession i with
    | some x => if x.opened && x.roles.testBit 0 && but ≠ some i then t.kspSend i 2 msg 0 body else t
    | none => t) s

/-- A committed record whose code notifies: an alarm (R478). -/
def State.kspAlarm (s : State) (seq : Word) (record : List Byte) : State :=
  (s.modKsp (fun k => { k with alarms := k.alarms ++ [seq] })).kspEvent 0x0400 none (tlvRecord record)

/-- A committed record on the log streams that have reached it (R478). -/
def State.kspStream (s : State) (seq : Word) (code : Nat) (record : List Byte) : State :=
  (List.range 8).foldl (fun (t : State) i =>
    match t.kspSession i with
    | some x =>
      match x.stream with
      | some r =>
        if r.next = seq then
          let t := t.setSession i (some { x with stream := some { r with next := seq + 1 } })
          if r.mask.testBit code then t.kspSend i 2 0x0501 0 (tlvRecord record) else t
        else t
      | none => t
    | none => t) s

/-! ### The page -/

/-- The 28 bytes of TXJ_BUF that an entry takes. -/
def State.txjBuf (s : State) : List Byte := (List.range 7).flatMap (fun w => bytesBE 4 (s.reg (KSP.TXJ_BUF w)).toNat)

/-- A write of TXJ_CTRL starts an operation: refused while BUSY, and of several bits the lowest counts (R481). -/
def txjCtrlEff (v : Word) (s : State) : State × WriteResult :=
  if s.ksp.op.isSome then (s, .refused)
  else
    let op := if bit v 0 then some TxjOp.put else if bit v 1 then some .find else if bit v 2 then some .update else none
    match op with
    | some o => ((s.modKsp (fun k => { k with op := some o })).setRbit KSP.TXJ_RES 31 true, .done)
    | none => (s, .done)

/-- The operation under way completes (R481). -/
def State.txjDone (s : State) : State :=
  match s.ksp.op with
  | none => s
  | some o =>
    let t := s.modKsp (fun k => { k with op := none })
    let t := match o with
      | .put => (t.setReg KSP.TXJ_RES (word t.ksp.head)).txjAppend t.txjBuf
      | .find =>
        let b := t.txjBuf
        t.setReg KSP.TXJ_RES (match t.txjFind (natBE (b.take 8)) (natBE ((b.drop 8).take 8)) with
          | some i => word (i + 2 ^ 30) | none => 0)
      | .update =>
        let i := t.fld KSP.TXJ_RES 9 0
        ((t.setRbit KSP.TXJ_RES 31 false).txjWrite i t.txjBuf).txjSend i
    t.raise KSP.page 2

/-- The effect of a write on the KSP page. Soft reset ends the sessions and drops the bundles (R79, R481). -/
def kspEff (req a : Nat) (v : Word) (s : State) : State × WriteResult :=
  if a = regCTRL KSP.page then
    if bit v 1 then
      let b := pageBase KSP.page
      let keep := fun x => !((b + 0x040 ≤ x && x < b + 0x1000) || x = b + 0x008 || x = b + 0x00C || x = b + 0x014)
      (({ s with regs := Tab.dropIf (fun x => !keep x) s.regs }).modKsp (fun k =>
        { k with sessions := [], bundles := [], op := none }), .done)
    else (s.setReg a (word (bits v 0 0)), .done)
  else if a = KSP.TXJ_CTRL then txjCtrlEff v s
  else s.plainWrite req a v

/-- The computed register of the KSP page. -/
def State.kspView (s : State) (a : Nat) : Option Word := if a = KSP.TXJ_HEAD then some (word s.ksp.head) else none

/-! ### The commands -/

/-- TXJ_PUT (R481). -/
def execTxjPut (req : Req) (s : State) : Res State := .next (s.busWrite req KSP.TXJ_CTRL 1 (txjCtrlEff 1))

/-- TXJ_FIND (R481). -/
def execTxjFind (req : Req) (s : State) : Res State := .next (s.busWrite req KSP.TXJ_CTRL 2 (txjCtrlEff 2))

/-- TXJ_UPDATE (R481). -/
def execTxjUpdate (req : Req) (s : State) : Res State := .next (s.busWrite req KSP.TXJ_CTRL 4 (txjCtrlEff 4))

/-- TXJ_DONE (R481). -/
def execTxjDone (s : State) : Res State := .next s.txjDone

end Sys2Proof.Machine
end

