-- ==== Sys2Proof/Machine/Axe.lean ====
section
/-!
DEFINITION. Axe lines and protection (spec/07): fault sources, the kill matrix, latching and clearing, release.
-/

namespace Sys2Proof.Machine

/-- The module drives the cabinet outputs (R441). -/
def State.driving (s : State) : Bool := s.twn.role = .solo || s.twn.role = .active

/-- STATE of the playback source: 0 IDLE, 1 ARMED, 2 RUNNING, 3 STOPPED (R104). -/
def State.pbState (s : State) : Nat := s.fld PB.PB_STAT 1 0

/-- Playback, not capture, is ARMED or RUNNING (R102). -/
def State.playbackOn (s : State) : Bool := s.sns.play && (s.pbState = 1 || s.pbState = 2)

/-- Playback is RUNNING. -/
def State.playbackRunning (s : State) : Bool := s.sns.play && s.pbState = 2

/-- What the axe block keeps for a source index. -/
def State.axeSrc (s : State) (k : Nat) : AxeSrc := Tab.get (fun _ => {}) s.axe.srcs k

/-- The state with a source's record changed. -/
def State.modAxe (s : State) (k : Nat) (f : AxeSrc → AxeSrc) : State :=
  { s with axe := { s.axe with srcs := Tab.put (fun _ => {}) s.axe.srcs k (f (s.axeSrc k)) } }

/-- The configuration register of a source index; the FW source has none. -/
def axeCfgAddr (k : Nat) : Nat :=
  if k < 0x010 then AXE.PIN_CFG k
  else if k < 0x020 then AXE.LANE_CFG (k - 0x010)
  else if k < 0x180 then AXE.DT_CFG (k - 0x100)
  else AXE.DT_CFG (k - 0x180)

/-- The MASK of a source (R155); the FW source's is the OR of the values written to FORCE (R159). -/
def State.axeMask (s : State) (k : Nat) : Nat := if k = 0x020 then s.axe.fwMask else s.fld (axeCfgAddr k) 12 0

/-- The CLASS of a source; the FW source is of class 1. -/
def State.axeClass (s : State) (k : Nat) : Nat := if k = 0x020 then 1 else s.fld (axeCfgAddr k) 17 16

/-- Whether a source is healthy (R159). -/
def State.axeHealthy (s : State) (k : Nat) : Bool :=
  if k < 0x010 then !s.rbit AXE.PIN_STATE k
  else if k < 0x020 then
    if s.playbackRunning then decide (0 < Tab.get (fun _ => 0) s.sns.laneTicks (k - 0x010))
    else s.fld (SNS.LANE_STAT (k - 0x010)) 2 0 = 3
  else if k = 0x020 then s.fld AXE.FORCE 12 0 = 0
  else (s.axeSrc k).good = 8

/-- The source indices with a latch set. -/
def State.latched (s : State) : List Nat := (s.axe.srcs.filter (fun c => c.2.latch.isSome)).map (·.1)

/-- Whether a condition of R155 kills board `n`: an armed pin of class 0 to 2 reading TRIP, or a latch of those classes,
whose MASK has bit n. -/
def State.killed (s : State) (n : Nat) : Bool :=
  (s.latched.any (fun k => (s.axeMask k).testBit n)) ||
  (List.range 13).any (fun p => s.rbit AXE.PIN_ARMED p && s.rbit AXE.PIN_STATE p && s.axeClass p ≠ 3
    && (s.axeMask p).testBit n)

/-- Whether AXE_OUTn must drive KILL whatever it drove before (R155, R156). -/
def State.mustKill (s : State) (n : Nat) : Bool :=
  s.killed n || !s.rbit AXE.RUN_EN n || s.playbackOn || !s.driving || !s.domainUp 4

/-- The state with every AXE_OUT that must drive KILL driving it. -/
def State.axeRefresh (s : State) : State :=
  { s with axe := { s.axe with out := bitsOf ((List.range 13).filter (fun n => s.axe.out.testBit n && !s.mustKill n)) } }

/-- The state with the trip counted: the source's own count and BRD_CNT of every board in its MASK (R159). -/
def State.axeCount (s : State) (k : Nat) (boards : Bool) : State :=
  let t := if k = 0x020 then s.incLo AXE.FW_CNT
    else if k < 0x020 then s.modAxe k (fun a => { a with count := a.count + 1 })
    else if k < 0x180 then s.incLo (AXE.DT_CNT (k - 0x100))
    else s.incHi (AXE.DT_CNT (k - 0x180))
  if boards then (setBits 13 (s.axeMask k)).foldl (fun t n => t.incLo (AXE.BRD_CNT n)) t else t

/-- Word 2 of a history entry (R165). -/
def histWord2 (k cls q : Nat) (pb : Bool) (boards : Nat) : Nat :=
  k % 512 + cls * 2 ^ 9 + q * 2 ^ 11 + pb.toNat * 2 ^ 15 + boards * 2 ^ 16

/-- The history entry and the AXE_TRIP record of a trip (R165). -/
def State.axeHistory (s : State) (k cls q : Nat) (at_ : Stamp) (w3 boards : Nat) : State :=
  let j := s.fld AXE.HIST_WR 3 0
  let w2 := histWord2 k cls q s.playbackRunning boards
  let t := s.setReg (AXE.HIST (4 * j)) (lo32 at_)
  let t := t.setReg (AXE.HIST (4 * j + 1)) (hi32 at_)
  let t := t.setReg (AXE.HIST (4 * j + 2)) (word w2)
  let t := t.setReg (AXE.HIST (4 * j + 3)) (word w3)
  let t := t.incHi AXE.HIST_WR
  let t := t.setFld AXE.HIST_WR 3 0 (j + 1)
  let t := t.logAt 0x100 at_ (fields [(4, w2), (4, w3)])
  t.telemetry 5 16 [at_, dword [(0, w2 % 2 ^ 32), (32, w3 % 2 ^ 32)]]

/-- The moment of a trip within its tick (R161): the fast-output slot of a digital source, the fabric clock of a pin
source; a lane or FW trip shares its clock with no other. -/
def tripSlot (k q w3 : Nat) : Option Nat := if k < 0x010 then some (8 + w3) else if k < 0x100 then none else some q

/-- FIRST_SRC names the lowest source index among the earliest trips (R161). -/
def State.axeFirst (s : State) (k q w3 : Nat) (at_ : Stamp) : State :=
  let sameSlot := s.reg64 AXE.FIRST_AT_LO AXE.FIRST_AT_HI = at_ && s.axe.firstSlot.isSome && s.axe.firstSlot = tripSlot k q w3
    && k < s.fld AXE.FIRST_SRC 8 0
  if !s.rbit AXE.FIRST_SRC 31 || sameSlot then
    let t := s.setReg AXE.FIRST_SRC (word (k % 512 + 2 ^ 31))
    let t := t.setReg64 AXE.FIRST_AT_LO AXE.FIRST_AT_HI at_
    { t with axe := { t.axe with firstSlot := tripSlot k q w3 } }
  else s

/-- Whether a trip of a class-0 source escalates its latch (R160): the trips fewer than RETRY_WIN × 256 cycles before
this one, this one included, reach RETRY_MAX. -/
def State.axeEscalates (s : State) (k : Nat) (at_ : Stamp) : Bool :=
  let win := s.fld AXE.RESTART_CFG 31 24 * 256 * 4096
  let recent := ((s.axeSrc k).trips.filter (fun t => at_.toNat - t.toNat < win)).length + 1
  s.fld AXE.RESTART_CFG 19 16 ≤ recent

/-- A trip of a source at a stamp, with its fast-output index and the third history word (R159 to R161, R165). -/
def State.axeTrip (s : State) (k : Nat) (at_ : Stamp) (q w3 : Nat) : State :=
  let cls := s.axeClass k
  let s := if k < 0x100 then s
    else { s with axe := { s.axe with tripped := if s.axe.trippedAt = at_ then s.axe.tripped ++ [k] else [k], trippedAt := at_ } }
  if cls = 3 then
    ((s.axeCount k false).axeHistory k 3 q at_ w3 0).raise AXE.page 5
  else
    let src := s.axeSrc k
    let esc := cls = 0 && s.axeEscalates k at_
    let t := s.axeCount k true
    let t := if cls = 0 then t.modAxe k (fun a => { a with trips := (at_ :: a.trips).take 15 }) else t
    let t := match src.latch with
      | some old =>
        if esc && old = 0 then (t.modAxe k (fun a => { a with latch := some 1 })).raise AXE.page 3 else t
      | none =>
        let c := if esc then 1 else cls
        let t := t.modAxe k (fun a => { a with latch := some c, latchPb := s.playbackRunning, tripAt := at_ })
        let t := t.axeHistory k c q at_ w3 (s.axeMask k)
        let t := (t.axeFirst k q w3 at_).raise AXE.page 0
        let t := if c = 2 then t.raise AXE.page 4 else t
        if esc then t.raise AXE.page 3 else t
    t.axeRefresh

/-- A lane source trips when its lane leaves DATA, while it is enabled (R153). -/
def State.laneTrip (s : State) (n : Nat) : State :=
  if s.rbit (AXE.LANE_CFG n) 20 then s.axeTrip (0x010 + n) s.now 0 0 else s

/-- A stamp's first whole cycle: the first cycle that begins at or after it. -/
def firstWholeCycle (st : Stamp) : Nat := (st.toNat + 4095) / 4096

/-- A class-0 latch may clear by itself: healthy for HOLDOFF whole cycles without interruption (R159). -/
def State.autoClearable (s : State) (k : Nat) : Bool :=
  let a := s.axeSrc k
  a.latch = some 0 && s.axeHealthy k && s.fld AXE.RESTART_CFG 7 0 + firstWholeCycle a.okSince ≤ cycleOf s.now

/-- A latch may be cleared by a CLEAR write: healthy, and its trip at least HOLDOFF cycles back (R159). -/
def State.writeClearable (s : State) (k : Nat) : Bool :=
  s.axeHealthy k && (s.axeSrc k).tripAt.toNat + s.fld AXE.RESTART_CFG 7 0 * 4096 ≤ s.now.toNat

/-- The state with one latch cleared; the FW source's MASK goes with its latch (R159). -/
def State.clearLatch (s : State) (k : Nat) : State :=
  let t := s.modAxe k (fun a => { a with latch := none, latchPb := false })
  if k = 0x020 then { t with axe := { t.axe with fwMask := 0 } } else t

/-- The latches of a list cleared, with CLEARED raised when there is one. -/
def State.clearLatches (s : State) (ks : List Nat) : State :=
  if ks.isEmpty then s else ((ks.foldl State.clearLatch s).raise AXE.page 1).axeRefresh

/-- A write of CLEAR (R159): bit 0 addresses class-0 and class-1 latches, bit 1 with the key class-2 ones; what stays
latched among the addressed, or a bit 1 without the key, is counted once. -/
def axeClearEff (v : Word) (s : State) : State × WriteResult :=
  let key := bits v 31 16 = 0xD1E5
  let badKey := bit v 1 && !key
  let addressed := s.latched.filter (fun k =>
    match (s.axeSrc k).latch with
    | some 2 => bit v 1 && key
    | some _ => bit v 0
    | none => false)
  let t := s.clearLatches (addressed.filter s.writeClearable)
  let left := addressed.any (fun k => !s.writeClearable k)
  let t := if t.latched.isEmpty then t.setReg AXE.FIRST_SRC 0 else t
  (t, if left || badKey then (if addressed.any s.writeClearable then .clamped else .refused) else .done)

/-- A write of FORCE (R159): a non-zero value joins the FW source's MASK and trips it; 0 makes the source healthy. -/
def axeForceEff (v : Word) (s : State) : State × WriteResult :=
  let m := bits v 12 0
  let t := s.setReg AXE.FORCE (word m)
  if m = 0 then (t.modAxe 0x020 (fun a => { a with okSince := s.now }), .done)
  else (State.axeTrip { t with axe := { t.axe with fwMask := t.axe.fwMask ||| m } } 0x020 s.now 0 0, .done)

/-- The strength order of the classes: 2, 1, 0, 3 (R166). -/
def strength (cls : Nat) : Nat := if cls = 3 then 0 else cls + 1

/-- A write of a source's MASK, CLASS and enables (R166): the new values act at once on new trips and latches; a
weaker class waits for the latch to clear and is counted; an armed pin that reads TRIP and leaves class 3 trips, because its
reading then kills (R157); HI_EN and LO_EN cannot be set while FAST_EN is 0 (R158). -/
def axeCfgEff (a : Nat) (srcs : List Nat) (digital : Option Nat) (v : Word) (s : State) : State × WriteResult :=
  let (w, _) := s.fitted a v
  let (w, cut) := match digital with
    | none => (w, false)
    | some i =>
      if s.rbit (SNS.CFG i) 3 then (w, false)
      else
        let keep := fun (x : Word) b => if bit x b && !s.rbit a b then putBit x b false else x
        let w' := keep (keep w 20) 21
        (w', decide (w' ≠ w))
  let t := s.setReg a w
  let new := bits w 17 16
  let weaker := srcs.any (fun k =>
    match (s.axeSrc k).latch with | some c => strength new < strength c | none => false)
  let t := srcs.foldl (fun t k =>
    match (t.axeSrc k).latch with
    | some c => if strength c < strength new then t.modAxe k (fun r => { r with latch := some new }) else t
    | none => t) t
  let t := match srcs with
    | [k] => if k < 0x010 && !bit w 20 then t.setRbit AXE.PIN_ARMED k false else t
    | _ => t
  let t := srcs.foldl (fun t k =>
    if k < 0x010 && s.axeClass k = 3 && new ≠ 3 && t.rbit AXE.PIN_ARMED k && t.rbit AXE.PIN_STATE k then t.axeTrip k s.now 0 0
    else t) t
  (t.axeRefresh, if weaker || cut then .clamped else .done)

/-- The effect of a write to the configuration register of a source. -/
def axeSourceEff (src : AxeSource) (v : Word) (s : State) : State × WriteResult :=
  match src with
  | .pin n => axeCfgEff (AXE.PIN_CFG n) [src.index] none v s
  | .lane n => axeCfgEff (AXE.LANE_CFG n) [src.index] none v s
  | .fw => (s, .ignored)
  | .high i => axeCfgEff (AXE.DT_CFG i) [0x100 + i.val, 0x180 + i.val] (some i) v s
  | .low i => axeCfgEff (AXE.DT_CFG i) [0x100 + i.val, 0x180 + i.val] (some i) v s

/-- A write of RUN_EN: a board whose bit is 0 is at KILL (R156). -/
def axeRunEnEff (v : Word) (s : State) : State × WriteResult :=
  let (t, r) := s.store AXE.RUN_EN v
  (t.axeRefresh, r)

/-- The release conditions of R163 for board `n` at a frame boundary. -/
def State.releasable (s : State) (n : Nat) : Bool :=
  s.domainUp 4 && s.now.toNat % 8 = 0
  && (!s.rbit (AXE.PIN_CFG n) 20 || (s.pwr.boards.testBit n && s.rbit AXE.PIN_ARMED n))
  && !s.mustKill n && !s.axe.out.testBit n

/-- Digital comparison of one fast output (R158): the source trips when its run of counted outputs reaches COUNT + 1. -/
def State.axeFast (s : State) (k : Nat) (enabled valid counted : Bool) (at_ : Stamp) (q w3 : Nat) : State :=
  let a := s.axeSrc k
  let hit := enabled && valid && counted
  let run := if hit then a.run + 1 else 0
  let good := if valid && !hit then min (a.good + 1) 8 else 0
  let since := if good = 8 && a.good ≠ 8 then at_ else a.okSince
  let t := s.modAxe k (fun r => { r with run := run, good := good, okSince := since })
  if hit && run = s.fld (axeCfgAddr k) 26 24 + 1 then t.axeTrip k at_ q w3 else t

/-- Every latch set during a playback, class 2 included, cleared when the source stops (R164). -/
def State.clearPlaybackLatches (s : State) : State :=
  s.clearLatches (s.latched.filter (fun k => (s.axeSrc k).latchPb))

/-! ### The commands -/

/-- PIN_TRIP (R154, R155, R159): AXE_INn reads TRIP; `clocks` fabric clocks after the strobe, `held` while it still
reads TRIP afterwards. A source that is not armed ignores the input. -/
def execPinTrip (n : Fin 13) (clocks : Nat) (held : Bool) (s : State) : Res State :=
  let t := s.setRbit AXE.PIN_STATE n held
  .next (if s.rbit AXE.PIN_ARMED n && s.domainUp 4 then
      (t.modAxe n (fun a => { a with okSince := s.now })).axeTrip n s.now 0 (min clocks 65535)
    else t)

/-- PIN_ARMED (R154): AXE_INn has read HEALTHY for ARM_TICKS on a present board with its source enabled; an absent
board's pair never reads HEALTHY. -/
def execPinArmed (n : Fin 13) (s : State) : Res State :=
  let wasTrip := s.rbit AXE.PIN_STATE n
  let t := s.setRbit AXE.PIN_STATE n false
  let since := s.now - BitVec.ofNat 64 (s.fld AXE.ARM_CFG 12 0)
  let t := if wasTrip then t.modAxe n (fun a => { a with okSince := since }) else t
  .next (if !s.pwr.boards.testBit n then s
    else if s.rbit (AXE.PIN_CFG n) 20 && s.domainUp 4 then (t.setRbit AXE.PIN_ARMED n true).axeRefresh else t)

/-- FORCE_TRIP (R159): a write of AXE.FORCE. -/
def execForceTrip (req : Req) (v : Word) (s : State) : Res State := .next (s.busWrite req AXE.FORCE v (axeForceEff v))

/-- AUTO_CLEAR (R159): a class-0 source healthy for HOLDOFF whole cycles has its latch cleared at a frame boundary. -/
def execAutoClear (src : AxeSource) (s : State) : Res State :=
  .next (if s.autoClearable src.index && s.now.toNat % 8 = 0 then s.clearLatches [src.index] else s)

/-- LATCH_CLEAR (R159): a CLEAR write with bit 0. -/
def execLatchClear (req : Req) (s : State) : Res State := .next (s.busWrite req AXE.CLEAR 1 (axeClearEff 1))

/-- LOCKOUT_CLEAR (R159): a CLEAR write with bit 1, whose [31:16] is `key`; `also` is bit 0. -/
def execLockoutClear (req : Req) (key : BitVec 16) (also : Bool) (s : State) : Res State :=
  let v := word (key.toNat * 65536 + 2 + also.toNat)
  .next (s.busWrite req AXE.CLEAR v (axeClearEff v))

/-- MASK_CLASS_WRITE (R166): a write to a source's configuration register. -/
def execMaskClassWrite (req : Req) (src : AxeSource) (v : Word) (s : State) : Res State :=
  .next (match src with
    | .fw => s
    | _ => s.busWrite req (axeCfgAddr src.index) v (axeSourceEff src v))

/-- RUN_EN_WRITE (R156): permission to release is granted or withdrawn. -/
def execRunEnWrite (req : Req) (v : Word) (s : State) : Res State := .next (s.busWrite req AXE.RUN_EN v (axeRunEnEff v))

/-- BOARD_RELEASE (R163): at the first frame boundary where every release condition holds, AXE_OUTn drives RUN. -/
def execBoardRelease (n : Fin 13) (s : State) : Res State :=
  .next (if s.releasable n then
      let t := { s with axe := { s.axe with out := s.axe.out ||| 2 ^ n.val,
                                             releasedAt := Tab.put (fun _ => 0) s.axe.releasedAt n s.now } }
      t.raise AXE.page 2
    else s)

end Sys2Proof.Machine
end

