-- ==== Sys2Proof/Machine/Rct.lean ====
section
/-!
DEFINITION. Ring count and the angle clock (spec/01): zero crossings, qualification, the loop update, states, stamps,
and the correspondence between ring stamps and civil time.
-/

namespace Sys2Proof.Machine

/-! ### States and constants -/

/-- The state codes of RCT.STAT (spec/01, states). -/
def RCT.IDLE : Nat := 0
def RCT.ACQUIRE : Nat := 1
def RCT.LOCKED : Nat := 2
def RCT.FLYWHEEL : Nat := 3
def RCT.PULLIN : Nat := 4

/-- The flywheel causes of RCT.STAT (R20). -/
def RCT.MAINS_LOST : Nat := 1
def RCT.RANGE : Nat := 2
def RCT.UNLOCK : Nat := 3
def RCT.FORCED : Nat := 4
def RCT.PULL_TIMEOUT : Nat := 5

/-- RCT.STAT. -/
def rctSTAT : Nat := regSTAT RCT.page

/-- The state code of the RCT block. -/
def State.rctState (s : State) : Nat := s.fld rctSTAT 2 0

/-- RCT.STAT.FIRST_LOCK (R23). -/
def State.firstLock (s : State) : Bool := s.rbit rctSTAT 17

/-- The nominal frequency in Q8.24 Hz (R17). -/
def State.fNom (s : State) : Nat := if s.rbit RCT.CFG 0 then 1006632960 else 838860800

/-- The limits of the loop frequency: 45.0 and 66.0 Hz (R17). -/
def fMin : Nat := 754974720
def fMax : Nat := 1107296256

/-- The loop frequency (R17). -/
def State.freq (s : State) : Nat := (s.reg RCT.FREQ).toNat

/-- The state with the loop frequency set. -/
def State.setFreq (s : State) (f : Nat) : State := s.setReg RCT.FREQ (word f)

/-- The loop shifts kp and ki (R17). -/
def loopShifts (bw : Nat) : Nat × Nat :=
  if bw = 0 then (5, 12) else if bw = 1 then (4, 10) else if bw = 2 then (3, 8) else (2, 6)

/-- The state with the RCT block's own record changed. -/
def State.modRct (s : State) (f : Rct → Rct) : State := { s with rct := f s.rct }

/-- The phase record of phase `k` = 0 to 2. -/
def State.phase (s : State) (k : Nat) : Phase := Tab.get (fun _ => {}) s.rct.phases k

/-- The state with a phase record changed. -/
def State.modPhase (s : State) (k : Nat) (f : Phase → Phase) : State :=
  s.modRct (fun r => { r with phases := Tab.put (fun _ => {}) r.phases k (f (s.phase k)) })

/-- wrap() of R14: into −524 288 to 524 287 by multiples of 2^20. -/
def wrapAngle (x : Int) : Int := wrapS 20 x

/-- The expected position of each phase in the cycle, in 1/256 tick (R14). -/
def phaseOffset (k : Nat) : Int := if k = 0 then 0 else if k = 1 then 349525 else 699051

/-- Division rounded to nearest, halves away from zero. -/
def roundAway (num : Int) (den : Nat) : Int :=
  if 0 ≤ num then (2 * num + den) / (2 * den) else -((2 * -num + den) / (2 * den))

/-- Division of naturals rounded to nearest, halves up. -/
def roundUpDiv (num den : Nat) : Nat := (2 * num + den) / (2 * den)

/-! ### Crossing to civil time (R32 to R34) -/

/-- The table cleared, with MAP_RESET raised (R34). -/
def State.mapReset (s : State) : State := (s.modRct (fun r => { r with map := [] })).raise RCT.page 5

/-- The pair of entries a conversion uses (R33), by a key of the entries: the two newest when `t` is at or after the
newest, else the first entry beyond `t` with the one before it. -/
def mapPair (key : MapEntry → Nat) (t : Nat) : List MapEntry → Option (MapEntry × MapEntry)
  | a :: b :: l => if t < key b ∨ l = [] then some (a, b) else mapPair key t (b :: l)
  | _ => none

/-- The outcome of a conversion: a value, or 1 NO_MAP, 2 OUT_OF_WINDOW (RCT.CONV_STAT). -/
inductive Converted where
  | value (v : Nat)
  | failed (code : Nat)
  deriving DecidableEq, Repr

/-- From a civil time, in 2^-16 ns, to a ring stamp (R33). -/
def civilToRing (m : List MapEntry) (t : Nat) : Converted :=
  match m with
  | a0 :: _ :: _ =>
    if t < a0.tb3 then .failed 2
    else match mapPair (·.tb3) t m with
      | some (a, b) =>
        .value (a.cycle * 4096 + roundUpDiv ((t - a.tb3) * ((b.cycle - a.cycle) * 4096)) (b.tb3 - a.tb3))
      | none => .failed 1
  | _ => .failed 1

/-- From a ring stamp to a civil time (R33). -/
def ringToCivil (m : List MapEntry) (t : Nat) : Converted :=
  match m with
  | a0 :: _ :: _ =>
    if t < a0.cycle * 4096 then .failed 2
    else match mapPair (fun e => e.cycle * 4096) t m with
      | some (a, b) =>
        .value (a.tb3 + roundUpDiv ((t - a.cycle * 4096) * (b.tb3 - a.tb3)) ((b.cycle - a.cycle) * 4096))
      | none => .failed 1
  | _ => .failed 1

/-- A 96-bit time in TB3 format: seconds [95:48], nanoseconds [47:16], fraction [15:0] (R334), in 2^-16 ns. -/
def tbNat (s ns frac : Nat) : Nat := (s * 1000000000 + ns) * 65536 + frac

/-- The TB3 format of a time in 2^-16 ns. -/
def tbFormat (t : Nat) : Nat :=
  t / 65536 / 1000000000 * 2 ^ 48 + t / 65536 % 1000000000 * 2 ^ 16 + t % 65536

/-- The time in 2^-16 ns that a 96-bit TB3-format value stands for. -/
def tbParse (v : Nat) : Nat := tbNat (v / 2 ^ 48) (v / 2 ^ 16 % 2 ^ 32) (v % 2 ^ 16)

/-- Extension of a short stamp to the ring stamp nearest to now (R28). -/
def State.extend (s : State) (short : Word) : Stamp :=
  let cyc := cycleOf s.now
  let d := signed 20 (short.toNat / 4096 + 2 ^ 20 - cyc % 2 ^ 20)
  BitVec.ofInt 64 ((cyc + d) * 4096 + short.toNat % 4096)

/-! ### Zero crossings and qualification (R13 to R15, R19) -/

/-- The offset from unrelabelled positions to positions of ring stamps, in 1/256 tick. -/
def State.relabel (s : State) : Int := ((s.now.toNat : Int) - s.rct.ticks) * 256

/-- The qualification run broken, with nothing left to open the next one (R19). -/
def State.runEnd (s : State) : State := s.modRct (fun r => { r with runLast := none, runCount := 0, runSum := 0 })

/-- A valid L1 crossing at `p` in the qualification run (R19). Qualification runs in ACQUIRE and FLYWHEEL, and in a
forced flywheel only after RELEASE (R21). DESIGN CHOICE (log entry 83), unsafe: f_m is truncated, and a crossing recorded in
IDLE opens the run of ACQUIRE. -/
def State.qualify (s : State) (p : Int) : State :=
  if !(s.rctState = RCT.ACQUIRE || (s.rctState = RCT.FLYWHEEL && !s.rct.forced)) then
    s.modRct (fun r => { r with runLast := some p, runCount := 0, runSum := 0 })
  else match s.rct.runLast with
    | none => s.modRct (fun r => { r with runLast := some p, runCount := 0, runSum := 0 })
    | some q =>
      let fm := s.freq * 2 ^ 20 / (p - q).toNat
      if 45 * 2 ^ 24 + 2 ^ 23 ≤ fm ∧ fm ≤ 65 * 2 ^ 24 + 2 ^ 23 then
        let n := s.rct.runCount + 1
        let sum := s.rct.runSum + fm
        if n = 16 then
          s.modRct (fun r => { r with runLast := some p, runCount := 0, runSum := 0, fq := sum / 16,
                                      qual := some (p, r.ticks) })
        else s.modRct (fun r => { r with runLast := some p, runCount := n, runSum := sum })
      else s.modRct (fun r => { r with runLast := some p, runCount := 0, runSum := 0 })

/-- A valid crossing of phase `k` at `p` (R14, R15): its error enters the cycle, it restarts the timeout and clears
PH_LOST. -/
def State.crossing (s : State) (k : Nat) (p : Int) : State :=
  let e := wrapAngle (p + s.relabel - phaseOffset k)
  let tOut := (6144 * s.fNom + s.freq - 1) / s.freq
  let t := s.modPhase k (fun r => { r with cross := some p, tOut := tOut, err := some e, posn := some p })
  let t := t.setRbit rctSTAT (8 + k) false
  if k = 0 then t.qualify p else t

/-- One tick of a phase's zero-crossing filter on sample `v` of tick number `n` (R13). -/
def State.zcTick (s : State) (k : Nat) (n : Nat) (v : Int) : State :=
  let ph := s.phase k
  let vnom := s.fld RCT.VNOM 30 0
  let hyst : Int := (vnom * s.fld RCT.ZC_CFG 15 8 / 1000 : Nat)
  let minU := vnom * s.fld RCT.ZC_CFG 7 0 / 100
  let u := v + ph.hist.foldl (· + ·) 0
  let armed := ph.armed || decide (u < -hyst)
  let peak := max ph.peak u.natAbs
  let hist := (v :: ph.hist).take 31
  if armed ∧ ph.u < 0 ∧ 0 ≤ u then
    let frac := (256 * -ph.u) / (u - ph.u)
    let p : Int := ((n : Int) - 1) * 256 + frac - 3968
    let t := s.modPhase k (fun r => { r with hist := hist, u := u, armed := false, peak := 0 })
    if 0 < vnom ∧ minU ≤ peak then t.crossing k p else t
  else s.modPhase k (fun r => { r with hist := hist, u := u, armed := armed, peak := peak })

/-! ### State changes -/

/-- Entry into FLYWHEEL with its cause (R20, R22): LOCK clears, FLY_ENTER is raised and logged; the qualification of
this flywheel starts afresh, opened by the last valid L1 crossing unless L1 is lost or the flywheel is forced. -/
def State.flyEnter (s : State) (cause : Nat) : State :=
  let t := s.setFld rctSTAT 2 0 RCT.FLYWHEEL
  let t := t.setFld rctSTAT 6 4 cause
  let t := t.setRbit rctSTAT 16 false
  let open1 := if cause = RCT.FORCED ∨ s.rbit rctSTAT 8 then none else (s.phase 0).cross
  let t := t.modRct (fun r => { r with runLast := open1, runCount := 0, runSum := 0, qual := none, bigCount := 0,
                                       convCount := 0, lockCount := 0, forced := cause = RCT.FORCED })
  let t := (t.incLo RCT.FLY_CNT).raise RCT.page 1
  t.log 0x020 (fields [(1, cause), (3, 0), (4, s.freq)])

/-- The angle clock takes a frequency at the present tick (R18). -/
def Rct.setClk (r : Rct) (f : Nat) : Rct := { r with clk := f, clkPast := (r.ticks, r.clk) :: r.clkPast.take 3 }

/-- The frequency of the angle clock in the tick counted `n` (R187). -/
def Rct.clkAt (r : Rct) (n : Nat) : Nat := (((r.clkPast.filter (fun p => n < p.1)).getLast?).map (·.2)).getD r.clk

/-- The loop frequency and everything that follows it back at nominal, as in IDLE (spec/01, states). DESIGN CHOICE (log entry
82), unsafe: the angle clock takes f_nom at once, and LOCK clears with the return to IDLE. -/
def State.rctIdle (s : State) : State :=
  let t := s.setFld rctSTAT 2 0 RCT.IDLE
  let t := t.setRbit rctSTAT 16 false
  let t := t.setFreq s.fNom
  t.modRct (fun r => { (r.setClk s.fNom) with
    integ := s.fNom, runLast := none, runCount := 0, runSum := 0, qual := none, bigCount := 0, convCount := 0, lockCount := 0, pullCycles := 0, forced := false })

/-- Whether something still schedules against the ring stamp (R27). -/
def State.rctHeld (s : State) : Bool :=
  s.rbit (regCTRL CEN.page) 0 || s.rbit (regCTRL MFE.page) 0
  || (List.range 48).any (fun k => s.rbit (CHN.CTRL_K k) 0)
  || (List.range 4).any (fun p => s.rbit (regCTRL (FPH.page p)) 0)
  || (List.range 8).any (fun e => s.fld (LGT.PE_STAT e) 1 0 ≠ 0)
  || s.rbit (regCTRL YRD.page) 0 || s.rbit (regCTRL MTR.page) 0
  || s.pbState = 1 || s.pbState = 2
  || !(s.twn.role = .solo || s.twn.role = .hunt)

/-- The registers of a page at 0x040 and above, its INT_FLAG, CTRL and STAT back at reset values (R79). -/
def State.resetPageRegs (s : State) (p : Nat) : State :=
  let b := pageBase p
  { s with regs := Tab.dropIf (fun a => (b + 0x040 ≤ a && a < b + 0x1000) || a = b + 0x008 || a = b + 0x00C
                                        || a = b + 0x014) s.regs }

/-- A write of RCT.CTRL (R27, R79). -/
def rctCtrlEff (v : Word) (s : State) : State × WriteResult :=
  if bit v 1 then
    if s.rctHeld then (s, .refused)
    else ({ s.resetPageRegs RCT.page with rct := { ({} : Rct) with ticks := s.rct.ticks }, now := 0 }, .done)
  else if bit v 0 then
    if s.rctState = RCT.IDLE then
      ((s.setReg (regCTRL RCT.page) 1).setFld rctSTAT 2 0 RCT.ACQUIRE, .done)
    else (s, .done)
  else if s.rbit (regCTRL RCT.page) 0 then
    if s.rctHeld then (s, .refused) else ((s.setReg (regCTRL RCT.page) 0).rctIdle, .done)
  else (s, .done)

/-- A write of RING_SET_HI (R26): loads the starting stamp in IDLE, else sets SET_REJ. -/
def ringSetEff (req : Nat) (v : Word) (s : State) : State × WriteResult :=
  if s.rctState = RCT.IDLE then
    let (t, r) := s.loadPair req RCT.RING_SET_HI v
    ({ t with now := t.reg64 RCT.RING_SET_LO RCT.RING_SET_HI }, r)
  else ((s.setRbit rctSTAT 18 true).raise RCT.page 6, .ignored)

/-- A write of RCT.CFG: NOM only in IDLE, else ignored and counted (RCT page); in IDLE the loop stands at f_nom. -/
def rctCfgEff (v : Word) (s : State) : State × WriteResult :=
  if s.rctState = RCT.IDLE then
    let t := (s.store RCT.CFG v).1
    (t.rctIdle, .done)
  else
    let w := putBit v 0 (s.rbit RCT.CFG 0)
    ((s.store RCT.CFG w).1, if bit v 0 = s.rbit RCT.CFG 0 then .done else .refused)

/-- A write of RCT.FORCE (R20, R21): bit 0 FLY, bit 1 RELEASE, from which qualification begins with the next crossing. -/
def rctForceEff (v : Word) (s : State) : State × WriteResult :=
  let t := if bit v 0 && (s.rctState = RCT.LOCKED || s.rctState = RCT.PULLIN) then s.flyEnter RCT.FORCED else s
  let t := if bit v 1 && t.rct.forced then (t.runEnd).modRct (fun r => { r with forced := false }) else t
  (t, .done)

/-- A write of CONV_CTRL: GO starts a conversion, which CONV_STAT shows as BUSY (R33). -/
def convCtrlEff (v : Word) (s : State) : State × WriteResult :=
  let t := s.setFld RCT.CONV_CTRL 1 1 (bits v 1 1)
  (if bit v 0 then t.setRbit RCT.CONV_STAT 8 true else t, .done)

/-! ### The trim window against the mains (R354) -/

/-- The window in progress discarded, with TRIM_ABORT (R354). -/
def State.trimAbort (s : State) : State :=
  if s.rbit (regSTAT RTC.page) 2 then
    ((s.setRbit (regSTAT RTC.page) 2 false).setReg RTC.TRIM_PROG 0).raise RTC.page 4
  else s

/-- A window opened at `from_`, in cycles for the mains and in TB3 for civil time. -/
def State.trimOpen (s : State) (from_ : Nat) : State :=
  ({ s with rtc := { s.rtc with winFrom := from_ } }.setRbit (regSTAT RTC.page) 2 true).setReg RTC.TRIM_PROG 0

/-- Cycles in a nominal second: N of R198. -/
def State.cyclesPerSecond (s : State) : Nat := if s.rbit RCT.CFG 0 then 60 else 50

/-- At angle 0: the mains window goes on if the cycle that ended was LOCKED, is discarded if not, and opens at the first
strobe of a LOCKED cycle (R354). -/
def State.trimCycle (s : State) (locked : Bool) : State :=
  if s.fld RTC.TRIM_CFG 1 0 ≠ 1 then s
  else if s.rbit (regSTAT RTC.page) 2 then
    if locked then
      s.setReg RTC.TRIM_PROG (word (min 86400 ((cycleOf s.now - s.rtc.winFrom) / s.cyclesPerSecond)))
    else s.trimAbort
  else if s.rctState = RCT.LOCKED then s.trimOpen (cycleOf s.now) else s

/-! ### The loop update (R16, R17, R20 to R22) -/

/-- The judgement of the phase sequence at angle 0 (R16). -/
def State.judgeSequence (s : State) : State :=
  let reading : Int := match (s.phase 0).posn, (s.phase 1).posn, (s.phase 2).posn with
    | some p1, some p2, some p3 =>
      let a := (p2 - p1) % 2 ^ 20
      let b := (p3 - p1) % 2 ^ 20
      if a < b then 1 else if b < a then -1 else 0
    | _, _, _ => 0
  if reading = 1 then
    let n := s.rct.seqPos + 1
    let t := s.modRct (fun r => { r with seqPos := n, seqNeg := 0 })
    if n = 4 then t.setFld rctSTAT 13 12 1 else t
  else if reading = -1 then
    let n := s.rct.seqNeg + 1
    let t := s.modRct (fun r => { r with seqPos := 0, seqNeg := n })
    if n = 4 then (t.setFld rctSTAT 13 12 2).raise RCT.page 4 else t
  else s.modRct (fun r => { r with seqPos := 0, seqNeg := 0 })

/-- The errors that enter the update: of L1 alone while SEQ is 2 (R16, R17). -/
def State.cycleErrors (s : State) : List Int :=
  let ks := if s.fld rctSTAT 13 12 = 2 then [0] else [0, 1, 2]
  ks.filterMap (fun k => (s.phase k).err)

/-- The slew limit and the pull-in offset in Q8.24 Hz (R17). -/
def State.slew (s : State) : Int := (s.fld RCT.SLEW 7 0 * 2 ^ 24 / 1000 : Nat)
def State.pull (s : State) : Int := (s.fNom * s.fld RCT.PULL 3 0 / 400 : Nat)

/-- The loop arithmetic of R17 on the averaged error `e`: the new freq and integ. -/
def State.loopStep (s : State) (e : Int) : Nat × Nat :=
  let (kp, ki) := loopShifts (s.fld RCT.CFG 2 1)
  let f : Int := s.freq
  let c := e * f / 2 ^ 20
  let move := fun (target : Int) => (clampI fMin fMax (f + clampI (-s.slew) s.slew (target - f))).toNat
  if s.rctState = RCT.PULLIN then
    (move ((s.rct.fq : Int) - clampI (-s.pull) s.pull (c / 2 ^ kp)), s.rct.integ)
  else
    let integ := clampI fMin fMax ((s.rct.integ : Int) - c / 2 ^ ki)
    (move (integ - c / 2 ^ kp), integ.toNat)

/-- What follows an update in PULLIN with error `e`: convergence after two within 16 ticks (R22). -/
def State.afterPullin (s : State) (e : Int) : State :=
  let n := if e.natAbs < 4096 then s.rct.convCount + 1 else 0
  if n = 2 then
    let t := s.setFld rctSTAT 2 0 RCT.LOCKED
    t.modRct (fun r => { r with integ := r.fq, convCount := 0, lockCount := 0, bigCount := 0 })
  else s.modRct (fun r => { r with convCount := n })

/-- What follows an update in LOCKED with error `e`: LOCK after eight within 8 ticks (R22), the flywheel after four
beyond 128 ticks, RANGE at a frequency limit and UNLOCK between the limits (R20). -/
def State.afterLocked (s : State) (e : Int) : State :=
  let n := if e.natAbs < 2048 then s.rct.lockCount + 1 else 0
  let big := if 32768 < e.natAbs then s.rct.bigCount + 1 else 0
  let t := s.modRct (fun r => { r with lockCount := min n 8, bigCount := big })
  let t := if n = 8 ∧ !s.rbit rctSTAT 16 then (t.setRbit rctSTAT 16 true).raise RCT.page 0 else t
  if big = 4 then
    t.flyEnter (if s.freq = fMin ∨ s.freq = fMax then RCT.RANGE else RCT.UNLOCK)
  else t

/-- The update over the cycle's errors in LOCKED or PULLIN (R17); without a valid error freq and integ are held. -/
def State.trackCycle (s : State) : State :=
  match s.cycleErrors with
  | [] => s
  | es =>
    let e := roundAway (es.foldl (· + ·) 0) es.length
    let (f, i) := s.loopStep e
    let t := (s.setFreq f).modRct (fun r => { r with integ := i })
    let t := t.setReg RCT.PHASE_ERR (iword e)
    if s.rctState = RCT.PULLIN then t.afterPullin e else t.afterLocked e

/-- The errors and crossings of the cycle that ended, forgotten. -/
def State.clearCycle (s : State) : State :=
  (List.range 3).foldl (fun t k => t.modPhase k (fun r => { r with err := none, posn := none })) s

/-- The flywheel's move toward f_nom (R21). -/
def State.flywheelMove (s : State) : State :=
  s.setFreq ((s.freq : Int) + clampI (-s.slew) s.slew ((s.fNom : Int) - s.freq)).toNat

/-- The whole work of the RCT block at angle 0: R16, then by state R21 with the exit of R22, or R17. -/
def State.loopUpdate (s : State) : State :=
  let t := s.judgeSequence
  let t :=
    if t.rctState = RCT.FLYWHEEL then
      if t.rct.qual.isSome then
        let t := (t.setFld rctSTAT 2 0 RCT.PULLIN).raise RCT.page 2
        (t.modRct (fun r => { r with qual := none, pullCycles := 0, convCount := 0 })).trackCycle
      else t.flywheelMove
    else if t.rctState = RCT.LOCKED then t.trackCycle
    else if t.rctState = RCT.PULLIN then
      (t.modRct (fun r => { r with pullCycles := r.pullCycles + 1 })).trackCycle
    else t
  t.clearCycle.trimCycle (s.rctState = RCT.LOCKED)

/-! ### First lock (R23) -/

/-- The ticks the first-lock step skips, from the crossing at `p` and the start `q` of tick m + 1, both in 1/256 tick,
and the angle `a1` that tick would have had (R23). -/
def slipTicks (p q : Int) (fq freq a1 : Nat) : Nat :=
  let el := (2 * ((q - p) * fq) + 256 * freq) / (2 * (256 * freq))
  let r := 4096 - el
  ((4096 - ((a1 : Int) + r) % 4096) % 4096).toNat

/-- The angle clock takes a new frequency at the present tick (R18). -/
def State.takeFreq (s : State) : State :=
  s.modRct (fun r => r.setClk s.freq)

/-! ### The commands -/

/-- RCT_ENABLE (R27): a write of RCT.CTRL with bit 0 set. -/
def execRctEnable (req : Req) (s : State) : Res State := .next (s.busWrite req (regCTRL RCT.page) 1 (rctCtrlEff 1))

/-- RCT_DISABLE (R27): a write of RCT.CTRL with bits 0 and 1 clear. -/
def execRctDisable (req : Req) (s : State) : Res State := .next (s.busWrite req (regCTRL RCT.page) 0 (rctCtrlEff 0))

/-- RCT_SOFT_RESET (R27): a write of RCT.CTRL bit 1. -/
def execRctSoftReset (req : Req) (s : State) : Res State := .next (s.busWrite req (regCTRL RCT.page) 2 (rctCtrlEff 2))

/-- RING_SET (R26): a write of RING_SET_HI. -/
def execRingSet (req : Req) (hi : Word) (s : State) : Res State :=
  .next (s.busWrite req RCT.RING_SET_HI hi (ringSetEff req hi))

/-- FIRST_LOCK_STEP (R23): at the strobe after the qualifying crossing in ACQUIRE. A step into the next cycle leaves what the
cut-off cycle recorded out of the cycle that ends next (R16, R17). -/
def execFirstLockStep (s : State) : Res State :=
  .next (match s.rct.qual with
    | some (p, m) =>
      if s.rctState = RCT.ACQUIRE ∧ s.rct.ticks = m + 1 ∧ s.twn.role ≠ .pairing then
        let sl := slipTicks p ((m + 1 : Nat) * 256) s.rct.fq s.freq (angleOf s.now)
        let t := { s with now := s.now + BitVec.ofNat 64 sl }
        let t := (t.setReg RCT.SLIP (word sl)).setFreq s.rct.fq
        let t := t.modRct (fun r => { r with integ := r.fq, qual := none, lockCount := 0, bigCount := 0 })
        let t := t.takeFreq
        let t := if 4096 < angleOf s.now + sl then t.clearCycle else t
        let t := (t.setFld rctSTAT 2 0 RCT.LOCKED).setRbit rctSTAT 17 true
        t.mapReset
      else s
    | none => s)

/-- LOOP_UPDATE (R17): the loop update at angle 0. -/
def execLoopUpdate (s : State) : Res State :=
  .next (if s.domainUp 5 ∧ s.rctState ≠ RCT.IDLE ∧ angleOf s.now = 0 then s.loopUpdate else s)

/-- FREQ_TAKES_EFFECT (R18): at tick 1 the angle clock takes the new freq, which kq (R93) and the metering energy
factors (R187) follow. -/
def execFreqTakesEffect (s : State) : Res State :=
  .next (if s.domainUp 5 ∧ s.rctState ≠ RCT.IDLE ∧ angleOf s.now = 1 then s.takeFreq else s)

/-- Whether T_out ticks have passed since the last valid crossing of phase `k` (R15). -/
def State.phaseTimedOut (s : State) (k : Nat) : Bool :=
  match (s.phase k).cross with
  | some p => p + (s.phase k).tOut * 256 ≤ (s.rct.ticks : Int) * 256 + 255
  | none => false

/-- PHASE_LOSS (R15): a phase is lost; the loss of L1 ends the qualification run (R19); the loss of all three ends
LOCKED or PULLIN (R20). -/
def execPhaseLoss (k : Fin 3) (s : State) : Res State :=
  .next (if s.domainUp 5 ∧ s.phaseTimedOut k ∧ !s.rbit rctSTAT (8 + k.val) then
      let t := (s.setRbit rctSTAT (8 + k.val) true).raise RCT.page 3
      let t := if k.val = 0 then t.runEnd else t
      if t.fld rctSTAT 10 8 = 7 ∧ (s.rctState = RCT.LOCKED ∨ s.rctState = RCT.PULLIN)
      then t.flyEnter RCT.MAINS_LOST else t
    else s)

/-- FORCE_FLY (R20): a write of FORCE.FLY. -/
def execForceFly (req : Req) (s : State) : Res State := .next (s.busWrite req RCT.FORCE 1 (rctForceEff 1))

/-- FORCE_RELEASE (R21): a write of FORCE.RELEASE. -/
def execForceRelease (req : Req) (s : State) : Res State := .next (s.busWrite req RCT.FORCE 2 (rctForceEff 2))

/-- PULL_TIMEOUT (R20): PULLIN has not converged 256 cycles after it began. -/
def execPullTimeout (s : State) : Res State :=
  .next (if s.rctState = RCT.PULLIN ∧ 256 ≤ s.rct.pullCycles then s.flyEnter RCT.PULL_TIMEOUT else s)

/-- CONVERT (R33): a write of CONV_CTRL.GO; `toCivil` is the direction bit. -/
def execConvert (req : Req) (toCivil : Bool) (s : State) : Res State :=
  let v := word (1 + 2 * toCivil.toNat)
  .next (s.busWrite req RCT.CONV_CTRL v (convCtrlEff v))

/-- CONVERT_DONE (R33): the conversion in progress writes its result and status. DESIGN CHOICE (log entry 84), unsafe: the
operands, the direction and the table are read here, not at GO. -/
def execConvertDone (s : State) : Res State :=
  .next (if s.rbit RCT.CONV_STAT 8 then
      let toCivil := s.rbit RCT.CONV_CTRL 1
      let inp := (s.reg RCT.CONV_IN0).toNat + (s.reg RCT.CONV_IN1).toNat * 2 ^ 32
      let civ := inp + (s.reg RCT.CONV_IN2).toNat * 2 ^ 64
      let r := if toCivil then ringToCivil s.rct.map inp else civilToRing s.rct.map (tbParse civ)
      match r with
      | .failed c => s.setReg RCT.CONV_STAT (word c)
      | .value x =>
        let y := if toCivil then tbFormat x else x
        let t := s.setReg RCT.CONV_OUT0 (word y)
        let t := t.setReg RCT.CONV_OUT1 (word (y / 2 ^ 32))
        let t := if toCivil then t.setReg RCT.CONV_OUT2 (word (y / 2 ^ 64)) else t
        t.setReg RCT.CONV_STAT 0
    else s)

end Sys2Proof.Machine
end

