-- ==== Sys2Proof/Machine/Sense.lean ====
section
/-!
DEFINITION. Sense acquisition (spec/04): lanes, sinc filters, calibration, validity and release of samples, fast
outputs, playback and capture.
-/

namespace Sys2Proof.Machine

/-! ### Inputs, lanes and their registers -/

/-- The SNS page that serves lane `b` (R103). -/
def snsPage (b : Nat) : Nat := 0x05 + b / 4

/-- LANE_STAT state codes (R103). -/
def LANE.OFF : Nat := 0
def LANE.TRAIN : Nat := 1
def LANE.SETTLE : Nat := 2
def LANE.DATA : Nat := 3

/-- The state of lane `b`. -/
def State.laneState (s : State) (b : Nat) : Nat := s.fld (SNS.LANE_STAT b) 2 0

/-- The record of input `i` = 8b + m. -/
def State.snsIn (s : State) (i : Nat) : SnsIn := Tab.get (fun _ => {}) s.sns.inputs i

/-- The state with sense acquisition's own record changed. -/
def State.modSns (s : State) (f : Sns → Sns) : State := { s with sns := f s.sns }

/-- The state with the record of an input replaced. -/
def State.setIn (s : State) (i : Nat) (x : SnsIn) : State :=
  s.modSns (fun r => { r with inputs := Tab.put (fun _ => {}) r.inputs i x })

/-- Consecutive ticks in which lane `b`'s source delivered, up to 4 (R95). -/
def State.laneTicks (s : State) (b : Nat) : Nat := Tab.get (fun _ => 0) s.sns.laneTicks b

/-- The state with that count of a lane. -/
def State.setLaneTicks (s : State) (b n : Nat) : State :=
  s.modSns (fun r => { r with laneTicks := Tab.put (fun _ => 0) r.laneTicks b n })

/-- An input is enabled: its EN in force and the page's CTRL bit 0 (R103). -/
def State.inputOn (s : State) (i : Nat) : Bool := bit (s.snsIn i).cfg 0 && s.rbit (regCTRL (snsPage (i / 8))) 0

/-- Only SB12 slots 3, 4, 5 and 7 may be air-cored coils (R91). -/
def coilLegal (i : Nat) : Bool := i = 99 || i = 100 || i = 101 || i = 103

/-- A lane's state set, with the STAT bit of its page (R103). Command frames to its board carry the sense-training flag
while it is in TRAIN (R87). -/
def State.setLane (s : State) (b st : Nat) : State :=
  (s.setFld (SNS.LANE_STAT b) 2 0 st).setRbit (regSTAT (snsPage b)) (b % 4) (st = LANE.DATA)

/-- A live lane's count of ticks at 0, unless the records of a playback count (R95, R102). -/
def State.dropLaneTicks (s : State) (b : Nat) : State := if s.playbackOn then s else s.setLaneTicks b 0

/-- A live lane leaves DATA: LANEn trips, unless the lane sources act on the records of a running playback (R153, R164). -/
def State.liveLaneTrip (s : State) (b : Nat) : State := if s.playbackRunning then s else s.laneTrip b

/-- ACLKn is driven: ENABLE set and PD4 on, in every lane state (R36, R88). -/
def State.aclkOn (s : State) (b : Nat) : Bool := s.rbit (SNS.LANE_CFG b) 0 && s.domainUp 4

/-- Whether a lane should run: ENABLE, the page's enable, and its board present (R87, R88). -/
def State.laneWanted (s : State) (b : Nat) : Bool :=
  s.rbit (SNS.LANE_CFG b) 0 && s.rbit (regCTRL (snsPage b)) 0 && s.pwr.boards.testBit b && s.domainUp 5

/-- A lane follows its enable and its board: OFF to TRAIN, any state to OFF (R87, R88); leaving DATA trips LANEn (R153). -/
def State.refreshLane (s : State) (b : Nat) : State :=
  if s.laneWanted b then
    if s.laneState b = LANE.OFF then s.setLane b LANE.TRAIN else s
  else if s.laneState b = LANE.OFF then s
  else
    let t := (s.setLane b LANE.OFF).dropLaneTicks b
    if s.laneState b = LANE.DATA then t.liveLaneTrip b else t

/-- A write of LANE_CFG (R87, R88). -/
def laneCfgEff (b : Nat) (v : Word) (s : State) : State × WriteResult :=
  let (t, r) := s.store (SNS.LANE_CFG b) v
  (t.refreshLane b, r)

/-- Every filter, delay and integrator state reset to zero, and the source of every lane changed (R95, R100, R101). What was
released stays in its store. -/
def State.resetFilters (s : State) : State :=
  s.modSns (fun r => { r with
    inputs := r.inputs.map (fun c => (c.1, { ({} : SnsIn) with
      store := c.2.store, released := c.2.released, lastGood := c.2.lastGood, unread := c.2.unread,
      cfg := c.2.cfg, offset := c.2.offset, gain := c.2.gain, dly := c.2.dly })),
    laneTicks := [] })

/-- The source goes: nothing is fetched or due any more. A playback returns to the live lanes with its filters reset, within
the tick unless `strobe`, and its axe latches clear (R101, R164). -/
def State.endSource (s : State) (strobe : Bool) : State :=
  let t := s.modSns (fun r => { r with play := false, fetched := [], stopAt := none })
  if s.playbackOn then (t.resetFilters.modSns (fun r => { r with mixed := !strobe })).clearPlaybackLatches else t

/-- A write of an SNS page's CTRL (R79, R103): bit 0 enables lanes and inputs, bit 1 resets the page, on
SNS3 with the playback source. -/
def snsCtrlEff (p : Nat) (v : Word) (s : State) : State × WriteResult :=
  let lanes := (List.range 4).map (fun j => 4 * p + j) |>.filter (· < 13)
  if bit v 1 then
    let t := lanes.foldl (fun t b => (t.setReg (SNS.LANE_CFG b) 0).refreshLane b) (if p = 3 then s.endSource false else s)
    let t := (t.resetPageRegs (0x05 + p)).axeRefresh
    (t.modSns (fun r => { r with inputs := Tab.dropIf (fun i => i / 32 = p) r.inputs }), .done)
  else
    let t := s.setReg (regCTRL (0x05 + p)) (word (bits v 0 0))
    (lanes.foldl (fun t b => t.refreshLane b) t, .done)

/-- A write of an input's CFG (R91): TYPE 3 becomes 2 where illegal. It acts from the next tick (R103). -/
def inputCfgEff (i : Nat) (v : Word) (s : State) : State × WriteResult :=
  let illegal := bits v 2 1 = 3 && !coilLegal i
  let (t, r) := s.store (SNS.CFG i) (if illegal then putBits v 2 1 2 else v)
  (t, if illegal then .clamped else r)

/-- The ticks of SETTLE for a CFG: 2^(LEAK + 2) (R93). -/
def settleTicks (w : Word) : Nat := 2 ^ (bits w 12 8 + 2)

/-- The calibration set of an input taken for the next tick, whole (R103); a change of TYPE, LEAK or ISHIFT clears the
integrator and starts SETTLE, and an input that is no coil or is off does not settle. -/
def State.takeCal (s : State) (i : Nat) : State :=
  let x := s.snsIn i
  let w := s.reg (SNS.CFG i)
  let changed := bits w 2 1 ≠ bits x.cfg 2 1 || bits w 12 8 ≠ bits x.cfg 12 8 || bits w 19 16 ≠ bits x.cfg 19 16
  let y := { x with cfg := w, offset := s.fld (SNS.OFFSET i) 23 0, gain := s.fld (SNS.GAIN i) 23 0, dly := s.fld (SNS.DLY i) 7 0 }
  let t := s.setIn i (if changed then { y with acc := 0, settleLeft := settleTicks w } else y)
  if bits w 2 1 ≠ 3 || !bit w 0 then t.setRbit (SNS.ISTAT i) 1 false
  else if changed then t.setRbit (SNS.ISTAT i) 1 true else t

/-! ### Filters (R89, R90) -/

/-- One bit into the sinc3 integrators (R89). -/
def SnsIn.bit3 (x : SnsIn) (b : Bool) : SnsIn :=
  let d : BitVec 32 := if b then 1 else -1
  let i1 := x.i1 + d
  let i2 := x.i2 + i1
  { x with i1 := i1, i2 := i2, i3 := x.i3 + i2 }

/-- One bit into the run counter (R95). -/
def SnsIn.runBit (x : SnsIn) (b : Bool) : SnsIn :=
  { x with run := if x.last = some b then min (x.run + 1) 255 else 1, last := some b }

/-- The comb sections and the raw sample after the bit of period 63 (R89). -/
def SnsIn.comb3 (x : SnsIn) : SnsIn × Int :=
  let c1 := x.i3 - x.d1
  let c2 := c1 - x.d2
  let c3 := c2 - x.d3
  ({ x with d1 := x.i3, d2 := c1, d3 := c2 }, min (c3.toInt * 32) 8388607)

/-- The 64 bits of a tick into the main path. -/
def SnsIn.bits64 (x : SnsIn) (l : List Bool) : SnsIn := l.foldl SnsIn.bit3 x

/-- The 64 bits of a tick into the run counter, with the largest count seen and whether it entered STUCK (R95, R96). -/
def SnsIn.runBits (x : SnsIn) : List Bool → SnsIn × Nat × Bool
  | [] => (x, 0, false)
  | b :: l =>
    let y := x.runBit b
    let (z, m, h) := SnsIn.runBits y l
    (z, max y.run m, h || decide (y.run = 128))

/-- One bit into the sinc2 integrators and the fast path's run counter (R90). -/
def SnsIn.bit2 (x : SnsIn) (b : Bool) : SnsIn :=
  let d : BitVec 16 := if b then 1 else -1
  let j1 := x.j1 + d
  let run := if x.fLast = some b then min (x.fRun + 1) 255 else 1
  { x with j1 := j1, j2 := x.j2 + j1, fRun := run, fLast := some b,
           fGood := if run < 128 then min (x.fGood + 1) 15 else 0 }

/-- The comb sections of the fast path and its output for a calibration offset (R90). -/
def SnsIn.comb2 (x : SnsIn) (offset : Int) : SnsIn × Int :=
  let k1 := x.j2 - x.e1
  let k2 := k1 - x.e2
  ({ x with e1 := x.j2, e2 := k1 }, clampI (-32768) 32767 (k2.toInt * 512 - offset / 256))

/-- The bits of one slot from a list of groups (R85). -/
def slotBits (m : Nat) (groups : List Byte) : List Bool := groups.map (fun g => g.toNat.testBit m)

/-! ### Calibration (R92, R93) -/

/-- The factor kq of R93 for the frequency in force. -/
def State.kq (s : State) : Nat := s.fNom * 2 ^ 15 / s.rct.clk

/-- One tick of a coil's integrator (R93): the new acc and the integrated value. -/
def coilStep (acc a : Int) (kq lk sh : Nat) : Int × Int :=
  let xs := a * kq / 2 ^ 15
  let acc := wrapS 48 (acc + xs - (acc + 2 ^ (lk - 1)) / 2 ^ lk)
  (acc, clampI (-8388608) 8388607 (acc / 2 ^ sh))

/-- The gain and delay of R92: the new g and the calibrated sample z. -/
def gainDelay (a gPrev : Int) (gain dly : Nat) : Int × Int :=
  let g := clampI (-8388608) 8388607 (roundAway (a * gain) (2 ^ 22))
  (g, g - (g - gPrev) * dly / 256)

/-- The run counter's part of a tick, on every input whose slot delivered bits (R95, R96): the counter and what its history
says, STUCK, and the counter the fast path goes on from (R90). -/
def State.slotRun (s : State) (i : Nat) (bs : List Bool) : State :=
  let x0 := s.snsIn i
  let (x1, maxRun, entered) := x0.runBits bs
  let stuck := decide (128 ≤ x1.run)
  let t := s.setIn i { x1 with quiet := if bs.isEmpty then 0 else if maxRun < 128 then min (x0.quiet + 1) 4 else 0,
                               hot := (x0.hot * 2 + (decide (32 ≤ maxRun)).toNat) % 8, fRun := x1.run, fLast := x1.last }
  let t := if entered then t.raise (snsPage (i / 8)) 2 else t
  (t.setRbit (SNS.ISTAT i) 0 stuck).setRbit (SNS.STUCK_SUM (i / 32)) (i % 32) stuck

/-- The integrated value of a tick (R93): of a coil whose source delivered, the integrator's; of a coil whose source did not, 0
(log entry 91); of every other type the raw sample less its offset. -/
def SnsIn.integrate (x : SnsIn) (okBits : Bool) (kq : Nat) (a0 : Int) : Int × Int :=
  if bits x.cfg 2 1 ≠ 3 then (x.acc, a0)
  else if okBits then coilStep x.acc a0 kq (bits x.cfg 12 8) (bits x.cfg 19 16) else (0, 0)

/-- The work of one tick on an enabled input after its run counter (R89, R92, R93, R95, R96): the filters take the bits, and
the sample of the next tick is computed and held. `delivered` counts the ticks in which its source delivered, this one
included; `perr` says that a parity error touched the sample. -/
def State.inputTick (s : State) (i : Nat) (bs : List Bool) (delivered : Nat) (perr : Bool) : State :=
  let x0 := s.snsIn i
  let bad := perr || x0.perr
  let (x2, y) := (x0.bits64 bs).comb3
  let a0 := clampI (-8388608) 8388607 (y - signed 24 x0.offset)
  let okBits := delivered = 4 && x0.quiet = 4
  let coil := bits x0.cfg 2 1 = 3
  let (acc, a) := x0.integrate okBits s.kq a0
  let (g, z) := gainDelay a x0.gPrev x0.gain x0.dly
  let ok := okBits && !bad && !x0.gBad
  let starts := coil && ok && !x0.wasOk
  let smp : Sample := if ok then
      { value := z, valid := true, ovr := decide (x0.hot ≠ 0), settle := starts || (coil && s.rbit (SNS.ISTAT i) 1) }
    else {}
  let t := s.setIn i { x2 with gPrev := g, gBad := bad, perr := false, acc := if ok then acc else 0, wasOk := ok, held := smp,
                               settleLeft := if !coil then 0 else if starts then settleTicks x0.cfg - 1 else x0.settleLeft - 1 }
  if starts then t.setRbit (SNS.ISTAT i) 1 true else if coil && !ok then t.setRbit (SNS.ISTAT i) 1 false else t

/-- An input that is not enabled keeps what its slot's run counter and its registers say, and what was released (R95). -/
def SnsIn.idle (x : SnsIn) : SnsIn :=
  { ({} : SnsIn) with run := x.run, last := x.last, quiet := x.quiet, hot := x.hot, fRun := x.fRun, fLast := x.fLast, cfg := x.cfg,
                      offset := x.offset, gain := x.gain, dly := x.dly, store := x.store, released := x.released, lastGood := x.lastGood }

/-- The sample store of an input at a tick (R30, R97). -/
def State.sampleAt (s : State) (i : Nat) (tick : Stamp) : Sample :=
  Tab.get (fun _ => {}) (s.snsIn i).store (tick.toNat % 16)

/-- The last released sample of an input, as its store gives it; one that cannot be read is absent (R77, R121). -/
def State.lastSample (s : State) (i : Nat) : Sample := if (s.snsIn i).unread then {} else (s.snsIn i).released

/-- SAMPLE register layout: value, VALID, OVR, SETTLE (R103). -/
def Sample.word (x : Sample) : Word :=
  Sys2Proof.Machine.word (unsigned 24 x.value + x.valid.toNat * 2 ^ 24 + x.ovr.toNat * 2 ^ 25 + x.settle.toNat * 2 ^ 26)

/-- Release of an input's sample of tick `n` to its store slot and SAMPLE (R95 to R97). -/
def State.releaseSample (s : State) (i : Nat) (n : Stamp) : State :=
  let x := s.snsIn i
  let smp := if s.inputOn i then x.held else {}
  let before := s.rbit (SNS.SAMPLE i) 25
  let t := s.setIn i { x with store := Tab.put (fun _ => {}) x.store (n.toNat % 16) smp,
                              released := smp, unread := false, lastGood := if smp.valid then smp.value else x.lastGood }
  let t := t.setReg (SNS.SAMPLE i) smp.word
  let t := t.setRbit (SNS.OVR_SUM (i / 32)) (i % 32) smp.ovr
  let t := if smp.ovr && !before then t.raise (snsPage (i / 8)) 3 else t
  if !s.inputOn i then t
  else if !smp.valid then t.incLo (SNS.ABS_CNT i)
  else if smp.ovr then t.incHi (SNS.ABS_CNT i) else t

/-! ### Playback and capture (R98 to R101) -/

/-- The source's state code set in PB_STAT. -/
def State.setPb (s : State) (st : Nat) : State := s.setFld PB.PB_STAT 1 0 st

/-- The source stops with a cause (R101, R104): PB_STOP is raised and the source goes. -/
def State.stopSource (s : State) (cause : Nat) (strobe : Bool) : State :=
  let t := s.endSource strobe
  let t := (t.setPb 3).setFld PB.PB_STAT 7 4 cause
  ((t.setFld PB.PB_CTRL 1 0 0).raise 0x08 9).axeRefresh

/-- The address of a record in the ring (R99). -/
def State.pbAddr (s : State) (r : Nat) : Nat :=
  (s.reg64 PB.PB_BASE_LO PB.PB_BASE_HI).toNat + r % (s.fld PB.PB_SIZE 20 0) * 1024

/-- Whether a block of memory lies in DRAM (R361). -/
def inDram (a n : Nat) : Bool := 0x80000000 ≤ a && a + n ≤ 0x160000000

/-- Records in the ring (R99). -/
def State.pbHeld (s : State) : Nat := (s.reg PB.PB_WR - s.reg PB.PB_RD).toNat

/-- The record of 1 024 bytes for a tick (R98). -/
def pbEncode (tick : Stamp) (present valid : Nat) (lanes : Nat → List Byte) : List Byte :=
  let body := bytesBE 8 tick.toNat ++ bytesBE 2 present ++ bytesBE 2 valid ++ List.replicate 4 0
    ++ (List.range 13).flatMap (fun n => if valid.testBit n then lanes n else List.replicate 64 0)
    ++ List.replicate 172 0
  body ++ bytesBE 4 (crc32 body)

/-- Both pulse outputs opened; a pulse that was on returns to pend of its set (R195). -/
def State.openPulses (s : State) : State :=
  (List.range 2).foldl (fun t x =>
    let p := Tab.get (fun _ => ({} : MtrPulse)) t.mtr.pulses x
    if p.on then
      let back := fun (m : MtrSet) =>
        { m with pend := Tab.put (fun _ => 0) m.pend x (min (Tab.get (fun _ => 0) m.pend x + 1) 65535) }
      let mtr := if p.billing then { t.mtr with billing := back t.mtr.billing } else { t.mtr with test := back t.mtr.test }
      { t with mtr := { mtr with
        pulses := Tab.put (fun _ => ({} : MtrPulse)) mtr.pulses x { p with on := false, edge := t.rct.ticks } } }
    else t) s

/-- Metering as playback is armed: the outputs open and the test set is zeroed (R196). -/
def State.mtrPlayback (s : State) : State :=
  let t := s.openPulses
  { t with mtr := { t.mtr with test := {} } }

/-- A write of PB_CTRL (R100, R104): STOP stops the source; PLAY or CAPTURE arms it for PB_START, refused in the cases
of R100. -/
def pbCtrlEff (v : Word) (s : State) : State × WriteResult :=
  let busy := s.pbState = 1 || s.pbState = 2
  let s0 := s.setFld PB.PB_CTRL 2 2 (bits v 2 2)
  if bit v 3 then ((if busy then s0.stopSource 1 false else s0), .done)
  else if busy || bits v 1 0 = 0 then (s0, .done)
  else
    let start := s.reg64 PB.PB_START_LO PB.PB_START_HI
    if bits v 1 0 = 3 || start.toNat < s.now.toNat + 32 || (bit v 1 && s.twn.role = .active) then
      (s.setFld PB.PB_STAT 1 0 0, .refused)
    else
      let t := ((s0.setFld PB.PB_CTRL 1 0 (bits v 1 0)).setReg PB.PB_STAT 1).setReg PB.PB_DONE 0
      let t := t.modSns (fun r => { r with play := bit v 1, fetched := [], nextFetch := start, stopAt := none })
      ((if bit v 1 then t.mtrPlayback else t).axeRefresh, .done)

/-- A write of a playback register that is fixed while the source is ARMED or RUNNING (R99, R104): PB_BASE, PB_SIZE,
PB_START and PB_COUNT always, of the two counters the one the module owns. -/
def pbRegEff (req a : Nat) (v : Word) (s : State) : State × WriteResult :=
  let busy := s.pbState = 1 || s.pbState = 2
  let owned := if a = PB.PB_WR then !s.sns.play else if a = PB.PB_RD then s.sns.play else true
  if busy && owned then (s, .refused) else s.plainWrite req a v

/-- The playback record of the present tick, when the source plays (R98). -/
def State.playRecord (s : State) : Option PbRecord :=
  if s.playbackRunning then s.sns.fetched.find? (fun r => r.tick = s.now) else none

/-- The 64 groups that LAG attributes to the tick that ends (R85): the group received after edge k + LAG carries the decisions
of edge k, whatever lag the board uses. -/
def State.attributed (s : State) (l : LaneBits) : List Byte := (l.groups.drop (s.fld (SNS.LANE_CFG l.lane) 6 4)).take 64

/-- The groups of lane `b` for the tick that ends, and whether its source delivered them (R95): the played record in playback,
nothing while a playback is ARMED, else the live lane while it is in DATA (R102). -/
def State.laneGroups (s : State) (live : List LaneBits) (b : Nat) : List Byte × Bool :=
  if s.playbackRunning then
    match s.playRecord with
    | some r => if r.present.testBit b && r.valid.testBit b then (Tab.get (fun _ => []) r.groups b, true) else ([], false)
    | none => ([], false)
  else if s.playbackOn then ([], false)
  else match live.find? (fun l => l.lane.val = b) with
    | some l => (s.attributed l, s.laneState b = LANE.DATA)
    | none => ([], false)

/-- The work of one input in the tick that ends. -/
def State.slotTick (s : State) (i : Nat) (bs : List Bool) (delivered : Nat) (perr : Bool) : State :=
  let t := if bs.isEmpty && !s.inputOn i then s else s.slotRun i bs
  let t := if s.inputOn i then t.inputTick i bs delivered perr else t.setIn i (t.snsIn i).idle
  t.takeCal i

/-- The work of one lane in the tick that ends: its inputs, and the count of ticks delivered. A played lane that is no longer
delivered trips LANEn (R164). -/
def State.laneTick (s : State) (live : List LaneBits) (perr : List (Fin 104)) (b : Nat) : State :=
  let (gs, ok) := s.laneGroups live b
  let n := if ok && !s.sns.mixed then min (s.laneTicks b + 1) 4 else 0
  let t := if s.playbackRunning && !ok && decide (0 < s.laneTicks b) then s.laneTrip b else s
  let t := t.setLaneTicks b n
  let t := match live.find? (fun l => l.lane.val = b) with
    | some l => t.setFld (SNS.LANE_STAT b) 15 8 (unsigned 8 l.offset)
    | none => t
  (List.range 8).foldl (fun t m => t.slotTick (8 * b + m) (slotBits m gs) n (perr.any (fun k => k.val = 8 * b + m))) t

/-- The zero-crossing filters take the three phase voltages of tick `n` (R13); an absent sample reads 0. -/
def State.zcTicks (s : State) (n : Stamp) (tickNo : Nat) : State :=
  (List.range 3).foldl (fun t k => t.zcTick k tickNo (t.sampleAt (96 + k) n).value) s

/-- The playback source at the strobe that ends a tick: the record played is done, and a stop due at the new tick
takes place (R101). -/
def State.pbTick (s : State) : State :=
  let t := if s.playbackRunning && s.playRecord.isSome then
      (s.incReg PB.PB_DONE).modSns (fun r => { r with fetched := r.fetched.filter (fun p => s.now.toNat < p.tick.toNat) })
    else s
  let on := s.playbackOn || s.sns.mixed
  t.modSns (fun r => { r with
    sincePlay := if on then 0 else min (r.sincePlay + 1) 4096, lastPlay := if on then some s.now else r.lastPlay })

/-- The stop that falls due at the present tick (R101). -/
def State.pbDue (s : State) : State :=
  match s.sns.stopAt with
  | some (t, c) => if t.toNat ≤ s.now.toNat ∧ (s.pbState = 1 ∨ s.pbState = 2) then s.stopSource c true else s
  | none => s

/-- The strobe of a tick: sample n is released (R97), the zero-crossing filters take it (R13), the bits of the tick that
ended enter the filters (R89), and the ring stamp advances unless the RCT block is in IDLE (R25). -/
def State.tickStrobe (s : State) (live : List LaneBits) (perr : List (Fin 104)) : State :=
  let n := s.now
  let t := (List.range 104).foldl (fun t i => t.releaseSample i n) s
  let whole := bitsOf ((List.range 13).filter (fun b => (s.laneGroups live b).2 && !s.sns.mixed))
  let t := (List.range 13).foldl (fun t b => t.laneTick live perr b) t
  let t := t.pbTick.modSns (fun r => { r with mixed := false, whole := whole })
  let t := { t with tim := { t.tim with strobe := t.tim.osc } }
  let t := { t with now := if s.rctState = RCT.IDLE then s.now else s.now + 1,
                    rct := { t.rct with ticks := t.rct.ticks + 1 } }
  (t.zcTicks n s.rct.ticks).pbDue

/-! ### The commands -/

/-- SAMPLE_RELEASE (R97): the strobe of a tick. `live` is what each lane received in the tick that ended; `perr` names
the inputs whose sample a parity or SECDED error touched. -/
def execSampleRelease (live : List LaneBits) (perr : List (Fin 104)) (s : State) : Res State :=
  .next (if s.domainUp 5 then s.tickStrobe live perr else s)

/-- LANE_ENABLE (R87): a write of LANE_CFG. -/
def execLaneEnable (req : Req) (b : Fin 13) (v : Word) (s : State) : Res State :=
  .next (s.busWrite req (SNS.LANE_CFG b) v (laneCfgEff b v))

/-- TRAIN_SUCCESS (R87): 64 consecutive training groups inside the window; the lane enters SETTLE and its training flag
clears. -/
def execTrainSuccess (b : Fin 13) (s : State) : Res State :=
  .next (if s.laneState b = LANE.TRAIN then s.setLane b LANE.SETTLE else s)

/-- LANE_UP (R87): sixteen ticks after SETTLE the lane enters DATA. -/
def execLaneUp (b : Fin 13) (s : State) : Res State :=
  .next (if s.laneState b = LANE.SETTLE then
      (((s.setLane b LANE.DATA).dropLaneTicks b).modAxe (0x010 + b) (fun a => { a with okSince := s.now })).raise
        (snsPage b) 0
    else s)

/-- TRAIN_FAIL (R87): 4 096 ticks in TRAIN without success. -/
def execTrainFail (b : Fin 13) (s : State) : Res State :=
  .next (if s.laneState b = LANE.TRAIN then (s.incLo (SNS.TRAIN_CNT b)).raise (snsPage b) 4 else s)

/-- LANE_LOST (R88): a lane in DATA returns to TRAIN; an enabled LANEn source trips (R153). -/
def execLaneLost (b : Fin 13) (s : State) : Res State :=
  .next (if s.laneState b = LANE.DATA then
      let t := (s.setLane b LANE.TRAIN).dropLaneTicks b
      ((t.incLo (SNS.LOST_CNT b)).raise (snsPage b) 1).liveLaneTrip b
    else s)

/-- The eight bits of fast output `q` of input `i`: from the played record, else of those received from period 8q on the ones
that LAG attributes to it (R85); and whether the source delivered them (R90, R95). -/
def State.fastBits (s : State) (i q : Nat) (live : BitVec 12) (perr : Bool) : List Bool × Bool :=
  if s.playbackRunning then
    match s.playRecord with
    | some r =>
      if r.present.testBit (i / 8) && r.valid.testBit (i / 8) then
        (((slotBits (i % 8) (Tab.get (fun _ => []) r.groups (i / 8))).drop (8 * q)).take 8, !perr)
      else ([], false)
    | none => ([], false)
  else if s.playbackOn then ([], false)
  else
    let lag := s.fld (SNS.LANE_CFG (i / 8)) 6 4
    ((List.range 8).map (fun k => live.toNat.testBit (k + lag)), s.laneState (i / 8) = LANE.DATA && !s.sns.mixed && !perr)

/-- The digital sources of an input take one fast output (R158). -/
def State.fastCompare (s : State) (i q : Nat) (valid : Bool) (f : Int) : State :=
  let w3 := unsigned 16 f
  let t := s.axeFast (0x100 + i) (s.rbit (AXE.DT_CFG i) 20) valid (signed 16 (s.fld (AXE.DT_HI i) 15 0) < f) s.now q w3
  t.axeFast (0x180 + i) (s.rbit (AXE.DT_CFG i) 21) valid (f < signed 16 (s.fld (AXE.DT_LO i) 15 0)) s.now q w3

/-- FAST_OUTPUT (R90, R158): fast output `q` of input `i` in the present tick; `live` holds the slot's bits as received from
period 8q on, bit k for period 8q + k. The digital sources compare it. An input that is off, without FAST_EN or of TYPE 3
produces none, and its VALID reads 0. -/
def execFastOutput (i : Fin 104) (q : Fin 8) (live : BitVec 12) (perr : Bool) (s : State) : Res State :=
  .next (if !s.domainUp 5 then s
    else if !s.inputOn i || !bit (s.snsIn i).cfg 3 || bits (s.snsIn i).cfg 2 1 = 3 then
      (s.setIn i { s.snsIn i with fGood := 0 }).setRbit (SNS.FAST i) 16 false
    else
      let (bs, ok) := s.fastBits i q live perr
      let x := bs.foldl SnsIn.bit2 (s.snsIn i)
      let x := if ok then x else { x with fGood := 0 }
      let (x, f) := x.comb2 (signed 24 x.offset)
      let valid := x.fGood = 15
      ((s.setIn i x).setReg (SNS.FAST i) (word (unsigned 16 f + (if valid then 65536 else 0)))).fastCompare i q valid f)

/-- INTEGRATOR_SETTLED (R93): the SETTLE period of a coil input ends. -/
def execIntegratorSettled (i : Fin 104) (s : State) : Res State :=
  .next (if s.rbit (SNS.ISTAT i) 1 ∧ (s.snsIn i).settleLeft = 0 then s.setRbit (SNS.ISTAT i) 1 false else s)

/-- PLAYBACK_ARM (R100): a write of PB_CTRL with PLAY set; `check` is STAMP_CHECK. -/
def execPlaybackArm (req : Req) (check : Bool) (s : State) : Res State :=
  let v := word (2 + 4 * check.toNat)
  .next (s.busWrite req PB.PB_CTRL v (pbCtrlEff v))

/-- CAPTURE_ARM (R100): a write of PB_CTRL with CAPTURE set. -/
def execCaptureArm (req : Req) (s : State) : Res State := .next (s.busWrite req PB.PB_CTRL 1 (pbCtrlEff 1))

/-- SOURCE_START (R100): at the first bit of tick START, or of the first tick after a step that skips it (R23), the armed source
becomes RUNNING; playback resets the filters. -/
def execSourceStart (s : State) : Res State :=
  .next (if s.pbState = 1 ∧ (s.reg64 PB.PB_START_LO PB.PB_START_HI).toNat ≤ s.now.toNat then
      let t := (s.setPb 2).raise 0x08 8
      (if s.sns.play then t.resetFilters else t).axeRefresh
    else s)

/-- PLAYBACK_FETCH (R98, R99, R101): 16 ticks ahead, the record of the next tick to play is fetched. An empty ring, a bad
CRC, a wrong stamp under STAMP_CHECK or an address outside DRAM stops the source at that tick; of several causes the first in
the order empty, address, CRC, stamp stands (log entry 92). -/
def execPlaybackFetch (s : State) : Res State :=
  let t := s.sns.nextFetch
  let due := s.sns.play && (s.pbState = 1 || s.pbState = 2) && s.sns.stopAt.isNone
    && decide (t.toNat ≤ s.now.toNat + 16)
  let count := (s.reg PB.PB_COUNT).toNat
  let start := (s.reg64 PB.PB_START_LO PB.PB_START_HI).toNat
  .next (if !due || (count ≠ 0 && start + count ≤ t.toNat) then s
    else
      let stop := fun (c : Nat) => s.modSns (fun r => { r with stopAt := some (t, c) })
      let a := s.pbAddr (s.reg PB.PB_RD).toNat
      if s.pbHeld = 0 then stop 2
      else if !inDram a 1024 then stop 7
      else
        let b := s.bytes a 1024
        if natBE (b.drop 1020) ≠ crc32 (b.take 1020) then stop 3
        else if s.rbit PB.PB_CTRL 2 ∧ natBE (b.take 8) ≠ t.toNat then stop 4
        else
          let rec_ : PbRecord := { tick := t, present := natBE ((b.drop 8).take 2), valid := natBE ((b.drop 10).take 2),
                                   groups := (List.range 13).map (fun n => (n, (b.drop (16 + 64 * n)).take 64)) }
          (s.incReg PB.PB_RD).modSns (fun r => { r with fetched := r.fetched ++ [rec_], nextFetch := t + 1 }))

/-- CAPTURE_RECORD (R98, R99, R101): the record of one tick of capture, from what the live lanes received; a full ring
stops the source with cause 5. A lane is valid when it was in DATA for the whole tick and its word is not in error: `bad`
names the lanes whose word a parity or SECDED error touched (R77). The present mask takes ENABLE alone (log entry 92). -/
def execCaptureRecord (live : List LaneBits) (bad : List (Fin 13)) (s : State) : Res State :=
  .next (if s.sns.play || s.pbState ≠ 2 then s
    else
      let a := s.pbAddr (s.reg PB.PB_WR).toNat
      if s.fld PB.PB_SIZE 20 0 ≤ s.pbHeld then s.stopSource 5 true
      else if !inDram a 1024 then s.stopSource 7 true
      else
        let tick := s.reg64 PB.PB_START_LO PB.PB_START_HI + BitVec.ofNat 64 (s.reg PB.PB_DONE).toNat
        let present := bitsOf ((List.range 13).filter (fun b => s.rbit (SNS.LANE_CFG b) 0))
        let lanes := fun n => match live.find? (fun l => l.lane.val = n) with
          | some l => s.attributed l
          | none => List.replicate 64 0
        let valid := bitsOf ((List.range 13).filter (fun b => s.sns.whole.testBit b && !bad.any (fun x => x.val = b)))
        let t := s.setBytes a (pbEncode tick present valid lanes)
        (t.incReg PB.PB_WR).incReg PB.PB_DONE)

/-- PLAYBACK_COUNT_DONE (R101): PB_COUNT records are done and the source stops with cause 6. -/
def execPlaybackCountDone (s : State) : Res State :=
  .next (if s.pbState = 2 ∧ s.reg PB.PB_COUNT ≠ 0 ∧ s.reg PB.PB_DONE = s.reg PB.PB_COUNT then s.stopSource 6 true else s)

/-- PLAYBACK_STOP (R101): a write of PB_CTRL.STOP. -/
def execPlaybackStop (req : Req) (s : State) : Res State := .next (s.busWrite req PB.PB_CTRL 8 (pbCtrlEff 8))

end Sys2Proof.Machine
end

