-- ==== Sys2Proof/Machine/Time.lean ====
section
/-!
DEFINITION. Time bases, PTP domains, civil time, local time, alarms and the battery-backed calendar (spec/15), and the
capture of the correspondence table (R32).
-/

namespace Sys2Proof.Machine

/-! ### The bases (R333 to R335) -/

/-- Units of 2^-16 ns in a second. -/
def tbSecond : Nat := 1000000000 * 65536

/-- The state with the TIM block's own record changed. -/
def State.modTim (s : State) (f : Tim → Tim) : State := { s with tim := f s.tim }

/-- Base `k` of TB0 to TB3. -/
def State.tbase (s : State) (k : Nat) : TimeBase := Tab.get (fun _ => {}) s.tim.tb k

/-- The state with base `k` set. -/
def State.setTbase (s : State) (k : Nat) (b : TimeBase) : State :=
  s.modTim (fun t => { t with tb := Tab.put (fun _ => {}) t.tb k b })

/-- The fraction of a base in units of 2^-16 ns (R335). -/
def TimeBase.frac (b : TimeBase) : Nat := b.sub / 2 ^ 32

/-- A base in units of 2^-16 ns. -/
def TimeBase.value (b : TimeBase) : Nat := tbNat b.s b.ns b.frac

/-- Base `k` in units of 2^-16 ns. -/
def State.tb (s : State) (k : Nat) : Nat := (s.tbase k).value

/-- Whole seconds of TB0. -/
def State.tb0s (s : State) : Nat := (s.tbase 0).s

/-- The rate of base `k` (R334). -/
def State.tbRate (s : State) (k : Nat) : Int := (s.reg (TIM.RATE k)).toInt

/-- A base one fabric clock later at rate `r` (R335). -/
def TimeBase.tick (r : Int) (b : TimeBase) : TimeBase :=
  let x : Int := (b.sub : Int) + 2 ^ 49 + r * 2 ^ 17
  let ns := ((b.ns : Int) + x / 2 ^ 48).toNat
  let sub := (x % 2 ^ 48).toNat
  if 1000000000 ≤ ns then { s := (b.s + 1) % 2 ^ 48, ns := ns - 1000000000, sub := sub }
  else { s := b.s, ns := ns, sub := sub }

/-- Every base one fabric clock later (R335), and the count of the oscillator's clocks. -/
def State.tickBases (s : State) : State :=
  let t := { s with tim := { s.tim with osc := s.tim.osc + 1 } }
  (List.range 4).foldl (fun t k => t.setTbase k ((t.tbase k).tick (t.tbRate k))) t

/-- A step replaces seconds, nanoseconds and fraction and leaves sub[31:0] (R335). -/
def TimeBase.stepTo (b : TimeBase) (sec ns frac : Nat) : TimeBase :=
  { s := sec, ns := ns, sub := frac * 2 ^ 32 + b.sub % 2 ^ 32 }

/-! ### Alarms (R350) -/

/-- The base of alarm `a`. -/
def State.almBase (s : State) (a : Nat) : Nat := s.fld (TIM.ALM_CFG a) 2 1

/-- Alarm `a` is local: LOCAL counts on TB3 only. -/
def State.almLocal (s : State) (a : Nat) : Bool := s.rbit (TIM.ALM_CFG a) 3 && s.almBase a = 3

/-- The deadline written for alarm `a`, in units of 2^-16 ns. -/
def State.almWritten (s : State) (a : Nat) : Nat :=
  tbNat (s.fld (TIM.ALM_S_HI a) 15 0 * 2 ^ 32 + (s.reg (TIM.ALM_S_LO a)).toNat) (s.reg (TIM.ALM_NS a)).toNat
    (s.fld (TIM.ALM_S_HI a) 31 16)

/-- The deadline alarm `a` compares with its base. -/
def State.almDeadline (s : State) (a : Nat) : Nat :=
  if s.almLocal a then Tab.get (fun _ => 0) s.tim.localAt a else s.almWritten a

/-- A base stepped; an armed alarm whose deadline the step passed over will carry SKIPPED (R350). -/
def State.stepBase (s : State) (k sec ns frac : Nat) : State :=
  let old := s.tb k
  let t := s.setTbase k ((s.tbase k).stepTo sec ns frac)
  let passed := (List.range 4).filter (fun a =>
    s.rbit (TIM.ALM_CFG a) 0 && s.almBase a = k && decide (old < s.almDeadline a) && decide (s.almDeadline a ≤ t.tb k))
  t.modTim (fun m => { m with skip := m.skip ||| bitsOf passed })

/-- A base stepped to a time in units of 2^-16 ns. -/
def State.stepBaseTo (s : State) (k : Nat) (v : Int) : State :=
  let n := (v % ((2 ^ 48 * tbSecond : Nat) : Int)).toNat
  s.stepBase k (n / tbSecond) (n / 65536 % 1000000000) (n % 65536)

/-! ### Calendar arithmetic (R348, R351) -/

/-- Days from 1970-01-01 to a date of the proleptic Gregorian calendar, counted in years that begin on 1 March. -/
def daysFromCivil (y m d : Int) : Int :=
  let y' := if m ≤ 2 then y - 1 else y
  let era := y' / 400
  let yoe := y' - era * 400
  let doy := (153 * (if 2 < m then m - 3 else m + 9) + 2) / 5 + d - 1
  era * 146097 + (yoe * 365 + yoe / 4 - yoe / 100 + doy) - 719468

/-- Year, month and day of a day number counted from 1970-01-01. -/
def civilFromDays (z0 : Int) : Int × Int × Int :=
  let z := z0 + 719468
  let era := z / 146097
  let doe := z - era * 146097
  let yoe := (doe - doe / 1460 + doe / 36524 - doe / 146096) / 365
  let doy := doe - (365 * yoe + yoe / 4 - yoe / 100)
  let mp := (5 * doy + 2) / 153
  let m := if mp < 10 then mp + 3 else mp - 9
  let y := yoe + era * 400 + (if m ≤ 2 then 1 else 0)
  (y, m, doy - (153 * mp + 2) / 5 + 1)

/-- A leap year (R351). -/
def leapYear (y : Int) : Bool := y % 4 = 0 && (y % 100 ≠ 0 || y % 400 = 0)

/-- The length of a month. -/
def monthDays (y m : Int) : Int :=
  if m = 2 then (if leapYear y then 29 else 28) else if m = 4 ∨ m = 6 ∨ m = 9 ∨ m = 11 then 30 else 31

/-- The weekday of a day number counted from 1970-01-01, 0 Monday. -/
def weekdayOf (days : Int) : Int := (days + 3) % 7

/-- The day number of the WEEK-th WDAY of a month; WEEK 5 is the last (R348). -/
def ruleDay (y m week wday : Int) : Int :=
  let first := daysFromCivil y m 1
  let d := first + (wday - weekdayOf first) % 7
  if week = 5 then
    let last := first + monthDays y m - 1
    last - (weekdayOf last - wday) % 7
  else d + (week - 1) * 7

/-! ### Local time (R348, R349) -/

/-- STD, DST and DST_EN of a zone. -/
def Zone.std (z : Zone) : Int := sbits z.cfg 15 0
def Zone.dst (z : Zone) : Int := bits z.cfg 23 16
def Zone.dstEn (z : Zone) : Bool := bit z.cfg 31

/-- The local second a rule register names in year `y`, as if local time were UTC. -/
def ruleSecond (r : Word) (y : Int) : Int :=
  ruleDay y (bits r 3 0) (bits r 6 4) (bits r 10 8) * 86400 + (bits r 26 16 : Int) * 60

/-- The UTC seconds at which daylight time starts and ends in year `y` (R348). -/
def Zone.startOf (z : Zone) (y : Int) : Int := ruleSecond z.start y - z.std * 60
def Zone.endOf (z : Zone) (y : Int) : Int := ruleSecond z.stop y - (z.std + z.dst) * 60

/-- Daylight time is in force by the rule at UTC second `t` (R348). -/
def Zone.daylight (z : Zone) (t : Int) : Bool :=
  let (y, _, _) := civilFromDays ((t + z.std * 60) / 86400)
  z.dstEn && (if z.startOf y < z.endOf y then decide (z.startOf y ≤ t) && decide (t < z.endOf y)
    else decide (t < z.endOf y) || decide (z.startOf y ≤ t))

/-- The index and offset of the entry with the latest instant at or before `t` (R348). -/
def Zone.entry (z : Zone) (t : Int) : Option (Nat × Int) :=
  (z.table.zipIdx.foldl (fun (best : Option (Nat × Int × Int)) (e, j) =>
    if t < e.1 then best
    else match best with
      | some (_, i, _) => if i ≤ e.1 then some (j, e.1, e.2) else best
      | none => some (j, e.1, e.2)) none).map (fun b => (b.1, b.2.2))

/-- The offset of local time at UTC second `t`, in minutes (R348). -/
def Zone.offset (z : Zone) (t : Int) : Int :=
  let rule := z.std + (if z.daylight t then z.dst else 0)
  match z.entry t with
  | some (_, o) => if o = -32768 then rule else o
  | none => rule

/-- TZ_NOW at UTC second `t`: the offset, whether daylight time by the rule, the deciding entry, and whether the table
decides (TIM page). -/
def Zone.report (z : Zone) (t : Int) : Word :=
  match z.entry t with
  | some (j, o) =>
    if o = -32768 then word (unsigned 16 (z.offset t) + (z.daylight t).toNat * 2 ^ 16)
    else word (unsigned 16 o + j * 2 ^ 24 + 2 ^ 31)
  | none => word (unsigned 16 (z.offset t) + (z.daylight t).toNat * 2 ^ 16)

/-- The UTC second of a local second (R287, R349): the first UTC second whose local time is at or beyond it, which is
its first occurrence, or the first second after the gap. Every such second is a local second less an offset in use, or
an instant at which the offset changes. -/
def Zone.toUtc (z : Zone) (l : Int) : Int :=
  let (y, _, _) := civilFromDays (l / 86400)
  let offs := z.std :: (z.std + z.dst) :: z.table.map (·.2)
  let rules := if z.dstEn then [y - 1, y, y + 1].flatMap (fun q => [z.startOf q, z.endOf q]) else []
  let years := [y - 1, y, y + 1, y + 2].map (fun q => daysFromCivil q 1 1 * 86400 - z.std * 60)
  let cands := offs.map (fun o => l - o * 60) ++ rules ++ years ++ z.table.map (·.1)
  match cands.filter (fun t => decide (l ≤ t + z.offset t * 60)) with
  | t :: ts => ts.foldl min t
  | [] => l - z.std * 60

/-- The zone registers and the first TBL_N entries, as they are written. -/
def State.zoneWritten (s : State) : Zone :=
  { cfg := s.reg TIM.TZ_CFG, start := s.reg TIM.DST_START, stop := s.reg TIM.DST_END,
    table := (List.range (s.fld TIM.TZ_CFG 29 24)).map (fun j =>
      (((s.fld (TIM.TZ_ENT_HI j) 15 0 * 2 ^ 32 + (s.reg (TIM.TZ_ENT_LO j)).toNat : Nat) : Int),
        sbits (s.reg (TIM.TZ_ENT_HI j)) 31 16)) }

/-- The deadline of a local alarm converted under the zone in force (R350); in a gap it is the whole second after it. -/
def State.convertAlarm (s : State) (a : Nat) : State :=
  let w := s.almWritten a
  let l : Int := (w / tbSecond : Nat)
  let t := s.tim.zone.toUtc l
  let rest := if t + s.tim.zone.offset t * 60 = l then w % tbSecond else 0
  s.modTim (fun m => { m with localAt := Tab.put (fun _ => 0) m.localAt a (t.toNat * tbSecond + rest) })

/-- The written zone comes into force, and every armed local alarm is converted again (R349, R350). -/
def State.zoneUpdate (s : State) : State :=
  if s.zoneWritten = s.tim.zone then s
  else
    let t := s.modTim (fun m => { m with zone := s.zoneWritten })
    (List.range 4).foldl (fun t a => if t.rbit (TIM.ALM_CFG a) 0 && t.almLocal a then t.convertAlarm a else t) t

/-! ### Tracking a domain (R340, R341) -/

def DOM.DISABLED : Nat := 0
def DOM.UNLOCKED : Nat := 1
def DOM.LOCKING : Nat := 2
def DOM.LOCKED : Nat := 3
def DOM.HOLDOVER : Nat := 4

/-- What domain `k` = 0, 1 keeps; it disciplines TB(k + 1). -/
def State.dom (s : State) (k : Nat) : PtpDomain := Tab.get (fun _ => {}) s.tim.doms k

/-- The state with a domain's record changed. -/
def State.modDom (s : State) (k : Nat) (f : PtpDomain → PtpDomain) : State :=
  s.modTim (fun t => { t with doms := Tab.put (fun _ => {}) t.doms k (f (s.dom k)) })

/-- The state code of domain `k`. -/
def State.domState (s : State) (k : Nat) : Nat := s.fld (TIM.DOM_STAT k) 2 0

/-- The state with domain `k` in a state, with n and out (R340). -/
def State.setDom (s : State) (k st n out : Nat) : State :=
  s.setReg (TIM.DOM_STAT k) (word (st + min n 15 * 2 ^ 8 + min out 3 * 2 ^ 12))

/-- A domain is eligible while LOCKED and QUAL_S seconds of TB0 past its last step (R341). -/
def State.eligible (s : State) (k : Nat) : Bool :=
  s.domState k = DOM.LOCKED && decide ((s.dom k).stepAt + s.fld TIM.CIV_CFG 27 20 ≤ s.tb0s)

/-- RMAX, 500 ppm (R340). -/
def rMax : Int := 2147483

/-- A step of the base of domain `k` by −off (R340). -/
def State.domStep (s : State) (k : Nat) (off : Int) : State :=
  let t := s.stepBaseTo (k + 1) ((s.tb (k + 1) : Int) - off)
  let t := t.modDom k (fun d => { d with stepAt := s.tb0s })
  let t := t.setReg (TIM.STEP_AT k) (word s.tb0s)
  (t.incHi (TIM.CNT k)).setDom k DOM.LOCKING 0 0

/-- The servo of domain `k` at a measurement (R340). -/
def State.servo (s : State) (k : Nat) : State :=
  let off : Int := (s.reg64 (TIM.OFFS_LO k) (TIM.OFFS_HI k)).toInt
  let e := off * 65536 / 1000000000
  let stepU := s.fld (TIM.THR k) 31 16 * 1000 * 65536
  let lockU := s.fld (TIM.THR k) 15 0 * 65536
  let n := s.fld (TIM.DOM_STAT k) 11 8
  let out := s.fld (TIM.DOM_STAT k) 13 12
  let t := s.modDom k (fun d => { d with measAt := s.tb 0 })
  let t := t.setReg (TIM.LAST k) (iword (clampI (-2147483648) 2147483647 (off / 65536)))
  if s.domState k = DOM.UNLOCKED then t.domStep k off
  else if stepU < off.natAbs then
    let t := (t.incLo (TIM.CNT k)).raise TIM.page 6
    if out + 1 = 3 then (t.domStep k off).raise TIM.page (2 + k) else t.setDom k (s.domState k) n (out + 1)
  else
    let integ := clampI (-rMax) rMax ((s.dom k).integ - e / 2 ^ s.fld (TIM.DOM_CFG k) 23 20)
    let rate := clampI (-rMax) rMax (integ - e / 2 ^ s.fld (TIM.DOM_CFG k) 19 16)
    let n := if off.natAbs < lockU then n + 1 else 0
    let st := if s.domState k = DOM.HOLDOVER then DOM.LOCKING else s.domState k
    let t := (t.modDom k (fun d => { d with integ := integ })).setReg (TIM.RATE (k + 1)) (iword rate)
    if st = DOM.LOCKING ∧ 8 ≤ n then (t.setDom k DOM.LOCKED n 0).raise TIM.page k else t.setDom k st n 0

/-- A write of MEAS (R340). -/
def measEff (k : Nat) (v : Word) (s : State) : State × WriteResult :=
  if !bit v 0 then (s, .done)
  else if s.domState k = DOM.DISABLED then (s, .refused)
  else (s.servo k, .done)

/-- A write of DOM_CFG (R340): EN enables and disables; a DOMAIN equal to the other domain's is refused and counted,
the other fields stored. -/
def domCfgEff (k : Nat) (v : Word) (s : State) : State × WriteResult :=
  let a := TIM.DOM_CFG k
  let (w, c) := s.fitted a v
  let same := bits w 15 8 = s.fld (TIM.DOM_CFG (1 - k)) 15 8
  let w := if same then putBits w 15 8 (s.fld a 15 8) else w
  let t := s.setReg a w
  let t :=
    if bit w 0 && s.domState k = DOM.DISABLED then
      ((t.setDom k DOM.UNLOCKED 0 0).modDom k (fun d => { d with integ := 0, measAt := s.tb 0 })).setReg
        (TIM.RATE (k + 1)) 0
    else if !bit w 0 then t.setDom k DOM.DISABLED 0 0
    else t
  (t, if same then .refused else .ofClamp c)

/-! ### Civil time (R342 to R347) -/

def CIV.FREE : Nat := 0
def CIV.TRACKING : Nat := 1
def CIV.HOLDOVER : Nat := 2

/-- TB3 as the 96-bit value of R334. -/
def TimeBase.format (b : TimeBase) : Nat := b.s * 2 ^ 48 + b.ns * 2 ^ 16 + b.frac

/-- A step of TB3 of a kind: 0 first lock, 1 SNAP, 2 VALUE (R347). -/
def State.stepCivil (s : State) (kind sec ns frac : Nat) : State :=
  let old := (s.tbase 3).format
  let t := (s.stepBase 3 sec ns frac).mapReset
  let t := t.modTim (fun m => { m with rtcLoad := true })
  let t := if t.fld RTC.TRIM_CFG 1 0 = 2 then t.trimAbort else t
  let t := t.log 0x031 (fields [(1, kind), (3, 0), (12, old), (12, (t.tbase 3).format)])
  if kind = 0 then t else (t.incHi TIM.CIV_CNT).raise TIM.page 11

/-- The target of domain `k` (R341), in units of 2^-16 ns. -/
def State.tgt (s : State) (k : Nat) : Int := (s.tb (k + 1) : Int) - sbits (s.reg (TIM.UTCOFF k)) 15 0 * tbSecond

/-- TB3 stepped to a target. -/
def State.stepCivilTo (s : State) (kind : Nat) (v : Int) : State :=
  let n := (v % ((2 ^ 48 * tbSecond : Nat) : Int)).toNat
  s.stepCivil kind (n / tbSecond) (n / 65536 % 1000000000) (n % 65536)

/-- AGREE in units of 2^-16 ns. -/
def State.agree (s : State) : Nat := s.fld TIM.CIV_AGREE 15 0 * 1000 * 65536

/-- The source an update selects (R343): codes of CIV_STAT, 0 none, 2 TB1, 3 TB2. -/
def State.civSource (s : State) : Nat :=
  let cur := s.fld TIM.CIV_STAT 3 2
  let pref := s.fld TIM.CIV_CFG 0 0
  if 2 ≤ cur ∧ s.eligible (cur - 2) then
    if cur - 2 ≠ pref ∧ s.eligible pref ∧ (s.tgt pref - s.tgt (cur - 2)).natAbs ≤ s.agree then pref + 2 else cur
  else if s.eligible pref then pref + 2
  else if s.eligible (1 - pref) then (1 - pref) + 2
  else 0

/-- The civil state set. -/
def State.setCiv (s : State) (st : Nat) : State := s.setFld TIM.CIV_STAT 1 0 st

/-- A condition bit of CIV_STAT that raises its interrupt as it begins. -/
def State.civFlag (s : State) (b int : Nat) (now_ : Bool) : State :=
  let t := s.setRbit TIM.CIV_STAT b now_
  if now_ && !s.rbit TIM.CIV_STAT b then t.raise TIM.page int else t

/-- The change of source and the comparison of the two domains at an update (R343). -/
def State.civSelect (s : State) : State :=
  let cur := s.fld TIM.CIV_STAT 3 2
  let src := s.civSource
  let t :=
    if src = cur then s
    else
      let t := (s.setFld TIM.CIV_STAT 3 2 src).raise TIM.page 8
      (t.incLo TIM.CIV_CNT).log 0x030 (fields [(1, cur), (1, src), (2, 0)])
  t.civFlag 6 9 (s.eligible 0 && s.eligible 1 && decide (s.agree < (s.tgt 0 - s.tgt 1).natAbs))

/-- CMAXR (R344). -/
def State.cMaxR (s : State) : Int := (s.fld TIM.CIV_CFG 17 8 * 2 ^ 32 / 1000000 : Nat)

/-- The discipline of TB3 at an update with source `src` (R344). -/
def State.civDiscipline (s : State) (src : Nat) : State :=
  if 2 ≤ src then
    let k := src - 2
    let t :=
      if !s.rbit TIM.CIV_STAT 5 then
        let t := (s.stepCivilTo 0 (s.tgt k)).setCiv CIV.TRACKING
        let t := ((t.setRbit TIM.CIV_STAT 5 true).setRbit TIM.CIV_STAT 4 true).setReg TIM.CIV_ERR 0
        (t.civFlag 7 10 false).raise TIM.page 7
      else
        let d := (s.tb 3 : Int) - s.tgt k
        let e3 := d * 65536 / 1000000000
        let rate := clampI (-s.cMaxR) s.cMaxR (s.tbRate (k + 1) - e3 / 2 ^ s.fld TIM.CIV_CFG 7 4)
        let t := (s.setReg (TIM.RATE 3) (iword rate)).setCiv CIV.TRACKING
        let t := t.setReg TIM.CIV_ERR (iword (clampI (-2147483648) 2147483647 (d / 65536)))
        t.civFlag 7 10 (decide (s.agree < d.natAbs))
    t.modTim (fun m => { m with heldRate := s.tbRate (k + 1) })
  else if s.fld TIM.CIV_STAT 1 0 = CIV.TRACKING ∨ s.fld TIM.CIV_STAT 1 0 = CIV.HOLDOVER then
    (s.setCiv CIV.HOLDOVER).setReg (TIM.RATE 3) (iword s.tim.heldRate)
  else s.setReg (TIM.RATE 3) (s.reg (TIM.RATE 0))

/-- A waiting SNAP at an update: TB3 steps to the source's target, or without a source the write is refused and counted
(R346). -/
def State.civSnap (s : State) (src : Nat) : State :=
  match s.tim.snap with
  | none => s
  | some req =>
    let t := s.modTim (fun m => { m with snap := none })
    if 2 ≤ src then t.stepCivilTo 1 (s.tgt (src - 2)) else t.countClamp req TIM.CIV_STEP

/-- The trim window against civil time at an update (R354). -/
def State.trimCivil (s : State) : State :=
  if s.fld RTC.TRIM_CFG 1 0 ≠ 2 then s
  else if s.rbit (regSTAT RTC.page) 2 then
    if s.fld TIM.CIV_STAT 1 0 = CIV.TRACKING then
      s.setReg RTC.TRIM_PROG (word (min 86400 ((s.tb 3 - s.rtc.winFrom) / tbSecond)))
    else s.trimAbort
  else if s.fld TIM.CIV_STAT 1 0 = CIV.TRACKING then s.trimOpen (s.tb 3) else s

/-- A civil update (R343, R344, R346). -/
def State.civilUpdate (s : State) : State :=
  let t := s.zoneUpdate.civSelect
  let src := t.fld TIM.CIV_STAT 3 2
  (((t.civSnap src).civDiscipline src)).trimCivil

/-- A write of CIV_STEP (R346). -/
def civStepEff (req : Nat) (v : Word) (s : State) : State × WriteResult :=
  if bits v 31 16 ≠ 0x57E9 ∨ (bit v 0 && bit v 1) then (s, .refused)
  else if bit v 0 then (s.modTim (fun m => { m with snap := some req }), .done)
  else if bit v 1 then
    let sec := s.fld TIM.STEP_VAL_S_HI 15 0 * 2 ^ 32 + (s.reg TIM.STEP_VAL_S_LO).toNat
    let t := s.stepCivil 2 sec (s.reg TIM.STEP_VAL_NS).toNat (s.fld TIM.STEP_VAL_S_HI 31 16)
    (t.setRbit TIM.CIV_STAT 4 true, .done)
  else (s, .done)

/-! ### Other writes of the TIM page -/

/-- Whether the first `n` table entries stand in strictly ascending order (R349). -/
def ascending : List (Int × Int) → Bool
  | a :: b :: l => decide (a.1 < b.1) && ascending (b :: l)
  | _ => true

/-- A write of TZ_CFG: raising TBL_N over entries that are not ascending is refused (R349). -/
def tzCfgEff (v : Word) (s : State) : State × WriteResult :=
  let (t, r) := s.store TIM.TZ_CFG v
  if s.fld TIM.TZ_CFG 29 24 < t.fld TIM.TZ_CFG 29 24 ∧ !ascending t.zoneWritten.table then (s, .refused) else (t, r)

/-- A write of ALM_CFG: arming clears FIRED and SKIPPED and converts a local deadline (R350). -/
def almCfgEff (a : Nat) (v : Word) (s : State) : State × WriteResult :=
  let (t, r) := s.store (TIM.ALM_CFG a) v
  if bit v 0 then
    let t := (t.setRbit (TIM.ALM_CFG a) 8 false).setRbit (TIM.ALM_CFG a) 9 false
    let t := t.modTim (fun m => { m with skip := bitsOf ((setBits 4 m.skip).filter (· ≠ a)) })
    (if t.almLocal a then t.convertAlarm a else t, r)
  else (t, r)

/-- Registers of the TIM page at their reset values, with what R337 leaves untouched kept: TB[0].RATE and the civil
FIRST and VALID flags; both domains DISABLED. -/
def State.timSoftReset (s : State) : State :=
  let t := s.resetPageRegs TIM.page
  let t := t.setReg (TIM.RATE 0) (s.reg (TIM.RATE 0))
  let t := (t.setRbit TIM.CIV_STAT 4 (s.rbit TIM.CIV_STAT 4)).setRbit TIM.CIV_STAT 5 (s.rbit TIM.CIV_STAT 5)
  t.modTim (fun m => { m with doms := [], heldRate := 0, snap := none, zone := {}, localAt := [], skip := 0 })

/-- The four bases copied into their registers (R357). -/
def State.timSnap (s : State) : State :=
  (List.range 4).foldl (fun t k =>
    let b := t.tbase k
    let t := t.setReg (TIM.TB_S_LO k) (word b.s)
    let t := t.setReg (TIM.TB_S_HI k) (word (b.s / 2 ^ 32 % 65536 + b.frac * 65536))
    t.setReg (TIM.TB_NS k) (word b.ns)) s

/-- A write of TIM.CTRL (R357). -/
def timCtrlEff (v : Word) (s : State) : State × WriteResult :=
  let t := if bit v 1 then s.timSoftReset else s
  (if bit v 2 then t.timSnap else t, .done)

/-- The effect of a write on the TIM page. -/
def timEff (req a : Nat) (v : Word) (s : State) : State × WriteResult :=
  let off := a % 0x1000
  if a = regCTRL TIM.page then timCtrlEff v s
  else if a = TIM.MEAS 0 then measEff 0 v s
  else if a = TIM.MEAS 1 then measEff 1 v s
  else if a = TIM.DOM_CFG 0 then domCfgEff 0 v s
  else if a = TIM.DOM_CFG 1 then domCfgEff 1 v s
  else if a = TIM.CIV_STEP then civStepEff req v s
  else if a = TIM.TZ_CFG then tzCfgEff v s
  else if 0x500 ≤ off ∧ off < 0x540 then
    let i := (off - 0x500) / 0x10
    if a = TIM.ALM_CFG i then almCfgEff i v s
    else if s.rbit (TIM.ALM_CFG i) 0 then (s, .refused) else s.plainWrite req a v
  else s.plainWrite req a v

/-! ### The calendar (R351 to R356) -/

/-- RTC.STAT. -/
def rtcSTAT : Nat := regSTAT RTC.page

/-- The last second of the calendar, 2399-12-31 23:59:59, counted from 2000-01-01. -/
def calendarEnd : Nat := 12622780799

/-- Seconds from 1970-01-01 to 2000-01-01 (R342). -/
def epoch2000 : Nat := 946684800

/-- The state with the RTC's own record changed. -/
def State.modRtc (s : State) (f : Rtc → Rtc) : State := { s with rtc := f s.rtc }

/-- The value of RTC alarm `n`. -/
def State.rtcAlarm (s : State) (n : Nat) : Nat := (s.reg64 (RTC.ALM_LO n) (RTC.ALM_HI n)).toNat

/-- A load of the calendar (R352): prescaler and trim residue 0, VALID, SET; the trim window is discarded (R354); an
armed alarm whose value the load passed over will carry SKIPPED (R356). -/
def State.rtcLoad (s : State) (secs : Nat) : State :=
  let passed := (List.range 2).filter (fun n =>
    s.rbit RTC.ALM_CTRL n && decide (s.rtc.secs < s.rtcAlarm n) && decide (s.rtcAlarm n ≤ secs))
  let t := s.modRtc (fun r => { r with secs := secs, tacc := 0, len := 32768, skip := r.skip ||| bitsOf passed })
  ((((t.setRbit rtcSTAT 0 true).setRbit rtcSTAT 1 false)).raise RTC.page 2).trimAbort

/-- DATE of a second count: year − 2000, month, day and weekday (RTC page). -/
def rtcDate (secs : Nat) : Word :=
  let days : Int := (secs / 86400 : Nat) + 10957
  let (y, m, d) := civilFromDays days
  word ((y - 2000).toNat + m.toNat * 2 ^ 16 + d.toNat * 2 ^ 24 + (weekdayOf days).toNat * 2 ^ 29)

/-- TIME of a second count: hour, minute and second. -/
def rtcTime (secs : Nat) : Word :=
  word (secs % 86400 / 3600 * 2 ^ 16 + secs % 3600 / 60 * 2 ^ 8 + secs % 60)

/-- A write of SET_TIME loads the calendar from SET_DATE and SET_TIME, clamped (R352). -/
def setTimeEff (v : Word) (s : State) : State × WriteResult :=
  let y := min (s.fld RTC.SET_DATE 8 0) 399
  let m := clampN 1 12 (s.fld RTC.SET_DATE 19 16)
  let d := clampN 1 (monthDays (y + 2000) m).toNat (s.fld RTC.SET_DATE 28 24)
  let (w, c) := s.fitted RTC.SET_TIME v
  let date := putBits (putBits (putBits (s.reg RTC.SET_DATE) 8 0 y) 19 16 m) 28 24 d
  let cut := decide (date ≠ s.reg RTC.SET_DATE)
  let t := (s.setReg RTC.SET_DATE date).setReg RTC.SET_TIME w
  let days := (daysFromCivil (y + 2000) m d - 10957).toNat
  (t.rtcLoad (days * 86400 + bits w 20 16 * 3600 + bits w 13 8 * 60 + bits w 5 0), .ofClamp (c || cut))

/-- The crystal edges into the present second: a free value below the second's length (log entry 20). -/
def State.prescaler (s : State) : Nat := Config.crystalEdges s.free % s.rtc.len

/-- The calendar copied into its snapshot registers (R358). -/
def State.rtcSnap (s : State) : State :=
  let t := (s.setReg RTC.DATE (rtcDate s.rtc.secs)).setReg RTC.TIME (rtcTime s.rtc.secs)
  let t := (t.setReg RTC.PRESC (word s.prescaler)).draw
  t.setReg64 RTC.SECS_LO RTC.SECS_HI (BitVec.ofNat 64 s.rtc.secs)

/-- A write of RTC.CTRL (R79, R358): bit 1 returns the trim window, TRIM_CFG and the alarms to reset and clears INT_FLAG; bit 2
is SNAP. -/
def rtcCtrlEff (v : Word) (s : State) : State × WriteResult :=
  let t :=
    if bit v 1 then
      let t := s.setRbit rtcSTAT 2 false
      let regs := [RTC.TRIM_CFG, RTC.TRIM_PROG, RTC.ALM_LO 0, RTC.ALM_HI 0, RTC.ALM_LO 1, RTC.ALM_HI 1, RTC.ALM_CTRL]
      let t := regs.foldl (fun t a => t.setReg a (regReset a)) t
      (t.setReg (regINT_FLAG RTC.page) 0).modRtc (fun r => { r with skip := 0 })
    else s
  (if bit v 2 then t.rtcSnap else t, .done)

/-- A write of TRIM_CFG: a change of REF discards the window in progress (RTC page). -/
def trimCfgEff (v : Word) (s : State) : State × WriteResult :=
  let (t, r) := s.store RTC.TRIM_CFG v
  (if t.fld RTC.TRIM_CFG 1 0 ≠ s.fld RTC.TRIM_CFG 1 0 then t.trimAbort else t, r)

/-- A write of ALM_CTRL: arming an alarm clears its FIRED and SKIPPED. -/
def almCtrlEff (v : Word) (s : State) : State × WriteResult :=
  let (t, r) := s.store RTC.ALM_CTRL v
  ((List.range 2).foldl (fun t n =>
    if bit v n then
      ((t.setRbit RTC.ALM_CTRL (8 + n) false).setRbit RTC.ALM_CTRL (16 + n) false).modRtc
        (fun q => { q with skip := bitsOf ((setBits 2 q.skip).filter (· ≠ n)) })
    else t) t, r)

/-- The effect of a write on the RTC page. -/
def rtcEff (req a : Nat) (v : Word) (s : State) : State × WriteResult :=
  if a = regCTRL RTC.page then rtcCtrlEff v s
  else if a = RTC.SET_TIME then setTimeEff v s
  else if a = RTC.TRIM_CFG then trimCfgEff v s
  else if a = RTC.ALM_CTRL then almCtrlEff v s
  else s.plainWrite req a v

/-! ### Power-up (R337, R342, R355) -/

/-- The time engine at PD1 power-up: every domain DISABLED, TB3 from a valid calendar or at 2000-01-01. -/
def State.timPowerUp (s : State) : State :=
  let valid := s.rbit rtcSTAT 0
  let ns := s.prescaler * 1000000000 / 32768
  let b : TimeBase := if valid then { s := s.rtc.secs + epoch2000, ns := ns } else { s := epoch2000 }
  let t := { s with tim := {} }.setTbase 3 b
  let t := if valid then t.draw.setReg TIM.CIV_STAT (word (1 * 4 + 16)) else t.setReg TIM.CIV_STAT 0
  let t := if s.rtc.lost then t.raise RTC.page 5 else t
  t.modRtc (fun r => { r with lost := false })

/-! ### The commands -/

/-- PTP_MEASUREMENT (R340): a write of DOM[k].MEAS with GO. -/
def execPtpMeasurement (req : Req) (k : Fin 2) (s : State) : Res State :=
  .next (s.busWrite req (TIM.MEAS k) 1 (measEff k 1))

/-- DOMAIN_HOLDOVER (R340): no MEAS write for HOLD_TO seconds of TB0 while LOCKING or LOCKED. -/
def execDomainHoldover (k : Fin 2) (s : State) : Res State :=
  .next (if (s.domState k = DOM.LOCKING ∨ s.domState k = DOM.LOCKED)
      ∧ (s.dom k).measAt + s.fld (TIM.DOM_CFG k) 31 24 * tbSecond ≤ s.tb 0 then
      ((s.setFld (TIM.DOM_STAT k) 2 0 DOM.HOLDOVER).setReg (TIM.RATE (k + 1)) (iword (s.dom k).integ)).raise
        TIM.page (4 + k)
    else s)

/-- DOMAIN_ENABLE (R340): a write of DOM_CFG with EN set; `v` gives the other fields. -/
def execDomainEnable (req : Req) (k : Fin 2) (v : Word) (s : State) : Res State :=
  .next (s.busWrite req (TIM.DOM_CFG k) (putBit v 0 true) (domCfgEff k (putBit v 0 true)))

/-- DOMAIN_DISABLE (R340): a write of DOM_CFG with EN clear; `v` gives the other fields. -/
def execDomainDisable (req : Req) (k : Fin 2) (v : Word) (s : State) : Res State :=
  .next (s.busWrite req (TIM.DOM_CFG k) (putBit v 0 false) (domCfgEff k (putBit v 0 false)))

/-- CIVIL_UPDATE (R343, R344): TB0's nanoseconds cross a multiple of 125 000 000. -/
def execCivilUpdate (s : State) : Res State := .next (if s.domainUp 1 then s.civilUpdate else s)

/-- CIVIL_STEP_SNAP (R346): a write of CIV_STEP with a key and bit 0; the step takes place at the next update. -/
def execCivilStepSnap (req : Req) (key : BitVec 16) (s : State) : Res State :=
  let v := word (key.toNat * 65536 + 1)
  .next (s.busWrite req TIM.CIV_STEP v (civStepEff req v))

/-- CIVIL_STEP_VALUE (R346): a write of CIV_STEP with a key and bit 1, and the step of the next fabric clock. -/
def execCivilStepValue (req : Req) (key : BitVec 16) (s : State) : Res State :=
  let v := word (key.toNat * 65536 + 2)
  .next (s.busWrite req TIM.CIV_STEP v (civStepEff req v))

/-- RTC_LOAD_FROM_TB3 (R347): at TB3's next whole second after a step, or while a source is present and the calendar is
invalid. Outside 2000 to 2399 the value loaded is free (log entry 21). -/
def execRtcLoadFromTb3 (s : State) : Res State :=
  .next (if s.domainUp 1 ∧ (s.tim.rtcLoad ∨ (2 ≤ s.fld TIM.CIV_STAT 3 2 ∧ !s.rbit rtcSTAT 0)) then
      let sec := (s.tbase 3).s
      let t := s.modTim (fun m => { m with rtcLoad := false })
      if epoch2000 ≤ sec ∧ sec - epoch2000 ≤ calendarEnd then t.rtcLoad (sec - epoch2000)
      else t.draw.rtcLoad (Config.calendarOutside s.free % (calendarEnd + 1))
    else s)

/-- TIME_ALARM (R350): the base of an armed alarm stands at or beyond its deadline. -/
def execTimeAlarm (a : Fin 4) (s : State) : Res State :=
  .next (if s.rbit (TIM.ALM_CFG a) 0 ∧ s.almDeadline a ≤ s.tb (s.almBase a) then
      let t := (s.setRbit (TIM.ALM_CFG a) 0 false).setRbit (TIM.ALM_CFG a) 8 true
      let t := t.setRbit (TIM.ALM_CFG a) 9 (s.tim.skip.testBit a)
      let t := t.modTim (fun m => { m with skip := bitsOf ((setBits 4 m.skip).filter (· ≠ a.val)) })
      t.raise TIM.page 12
    else s)

/-- TIME_SNAP (R357): TIM.CTRL bit 2. -/
def execTimeSnap (req : Req) (s : State) : Res State := .next (s.busWrite req (regCTRL TIM.page) 4 (timCtrlEff 4))

/-- RTC_SECOND (R351, R353): the end of an RTC second: the trim is applied and the calendar advances, or stops at its
end. -/
def execRtcSecond (s : State) : Res State :=
  .next (
    let tacc := s.rtc.tacc + 32768 * (s.reg RTC.TRIM).toInt
    let k := tacc / 1000000000
    let t := s.modRtc (fun r => { r with tacc := tacc - k * 1000000000, len := (32768 + k).toNat })
    if s.rbit rtcSTAT 1 then t
    else if calendarEnd ≤ s.rtc.secs then ((t.setRbit rtcSTAT 0 false).setRbit rtcSTAT 1 true).raise RTC.page 6
    else t.modRtc (fun r => { r with secs := r.secs + 1 }))

/-- RTC_SET (R352): a write of SET_TIME. -/
def execRtcSet (req : Req) (v : Word) (s : State) : Res State := .next (s.busWrite req RTC.SET_TIME v (setTimeEff v))

/-- Whether the trim window in progress has lasted 86 400 reference seconds (R354). -/
def State.trimDone (s : State) : Bool :=
  s.rbit rtcSTAT 2 &&
  (if s.fld RTC.TRIM_CFG 1 0 = 1 then
    decide (s.rtc.winFrom + 86400 * s.cyclesPerSecond ≤ cycleOf s.now) && angleOf s.now = 0
  else decide (s.rtc.winFrom + 86400 * tbSecond ≤ s.tb 3))

/-- TRIM_WINDOW_DONE (R354): the window completes with `edges` raw crystal edges counted. -/
def execTrimWindowDone (edges : Nat) (s : State) : Res State :=
  .next (if s.trimDone then
      let m := roundAway (((edges : Int) - 2831155200) * 1000000000) 2831155200
      let t := s.setReg RTC.TRIM_MEAS (iword m)
      let t := if s.rbit RTC.TRIM_CFG 4 then t.setReg RTC.TRIM (iword (clampI (-200000) 200000 m)) else t
      ((t.setRbit rtcSTAT 2 false).setReg RTC.TRIM_PROG 86400).raise RTC.page 3
    else s)

/-- RTC_ALARM (R356): the second count of an armed RTC alarm is at or beyond its value. -/
def execRtcAlarm (n : Fin 2) (s : State) : Res State :=
  .next (if s.rbit RTC.ALM_CTRL n ∧ s.rtcAlarm n ≤ s.rtc.secs then
      let t := (s.setRbit RTC.ALM_CTRL n false).setRbit RTC.ALM_CTRL (8 + n) true
      let t := t.setRbit RTC.ALM_CTRL (16 + n) (s.rtc.skip.testBit n)
      (t.modRtc (fun r => { r with skip := bitsOf ((setBits 2 r.skip).filter (· ≠ n.val)) })).raise RTC.page n
    else s)

/-- RTC_SNAP (R358): RTC.CTRL bit 2. -/
def execRtcSnap (req : Req) (s : State) : Res State := .next (s.busWrite req (regCTRL RTC.page) 4 (rtcCtrlEff 4))

/-- PD0_LOSS (R355): the cell, VIN24 and the bank are all absent beyond the hold of R62; everything PD0 holds is lost. -/
def execPd0Loss (s : State) : Res State :=
  .next (if !s.pwr.vinOk ∧ s.pwr.up = 1 then
      ({ s with regs := Tab.dropIf (fun a => pageOf a = RTC.page && a < 0x50000000) s.regs }).modRtc (fun _ => {})
    else s)

/-- MAP_CAPTURE (R32): at angle 0 of a cycle whose count is a multiple of 256, TB0 and TB3 enter the correspondence
table, which holds the 16 newest entries. -/
def execMapCapture (s : State) : Res State :=
  .next (if s.domainUp 5 ∧ s.rctState ≠ RCT.IDLE ∧ angleOf s.now = 0 ∧ cycleOf s.now % 256 = 0 then
      let e : MapEntry := { cycle := cycleOf s.now, tb3 := s.tb 3, tb0 := s.tb 0 }
      s.modRct (fun r => { r with map := (r.map ++ [e]).drop (r.map.length - 15) })
    else s)

end Sys2Proof.Machine
end

