-- ==== Sys2Proof/Machine/Control.lean ====
section
/-!
DEFINITION. The control engine (spec/05): loop records, the slot table and its check, evaluations, fall-back, rearm,
commits, and the compare values of R131 to R133.
-/

namespace Sys2Proof.Machine

/-! ### Words of W0 and records -/

/-- Addresses of W0: shadow and active slot table, shadow and active coefficient bank (R129). -/
def W0.tableShadow : Nat := 0x50000000
def W0.tableActive : Nat := 0x50000400
def W0.bankShadow : Nat := 0x50010000
def W0.bankActive : Nat := 0x50020000

/-- The state with the engine's own record changed. -/
def State.modCen (s : State) (f : Cen → Cen) : State := { s with cen := f s.cen }

/-- The loop state of record `r`. -/
def State.loop (s : State) (r : Nat) : Loop := Tab.get (fun _ => {}) s.cen.loops r

/-- The state with the loop state of a record changed. -/
def State.modLoop (s : State) (r : Nat) (f : Loop → Loop) : State :=
  s.modCen (fun c => { c with loops := Tab.put (fun _ => {}) c.loops r (f (s.loop r)) })

/-- A coefficient word of record `r` in a bank, by its offset (R109). -/
def State.coefW (s : State) (bank r off : Nat) : Word := s.winWord (bank + r * 0x100 + off)

/-- A coefficient of the active bank, signed. -/
def State.coef (s : State) (r off : Nat) : Int := (s.coefW W0.bankActive r off).toInt

/-- FLAGS of a record in a bank and its fields (R109). -/
def State.recFlags (s : State) (bank r : Nat) : Word := s.coefW bank r 0
def flINNER (w : Word) : Nat := bits w 1 0
def flOUTER_EN (w : Word) : Bool := bit w 2
def flNOTCHES (w : Word) : Nat := bits w 4 3
def flNOTCH_POS (w : Word) : Bool := bit w 5
def flRC_EN (w : Word) : Bool := bit w 6
def flNORM (w : Word) : Bool := bit w 7
def flAUTO_FB (w : Word) : Bool := bit w 8
/-- D of R109: 4 to 64. -/
def flD (w : Word) : Nat := 4 * 2 ^ bits w 11 9
def flPHASE (w : Word) : Nat := bits w 17 12
def flREF_SRC (w : Word) : Nat := bits w 19 18

/-- Input references of a record in a bank (R109). -/
def State.innerIn (s : State) (bank r : Nat) : Nat := bits (s.coefW bank r 4) 6 0
def State.outerIn (s : State) (bank r : Nat) : Nat := bits (s.coefW bank r 4) 14 8
def State.ff1In (s : State) (bank r : Nat) : Nat := bits (s.coefW bank r 4) 22 16
def State.ff2In (s : State) (bank r : Nat) : Nat := bits (s.coefW bank r 4) 30 24
def State.busIn (s : State) (bank r : Nat) : Nat := bits (s.coefW bank r 8) 6 0
def State.tplIn (s : State) (bank r : Nat) : Nat := bits (s.coefW bank r 8) 14 8
def State.refRec (s : State) (bank r : Nat) : Nat := bits (s.coefW bank r 8) 21 16

/-- P of a record: 8 ticks for a channel, 4 for a leg and the bus (R108). -/
def recP (r : Nat) : Nat := if 48 ≤ r ∧ r ≤ 51 then 4 else 8

/-- A frame begins: PD4 up, the ring stamp advancing, and an angle that is a multiple of 8 (R106). -/
def State.frameStart (s : State) : Bool := s.domainUp 4 && s.rctState ≠ RCT.IDLE && s.now.toNat % 8 = 0

/-- The first frame boundary whose preceding tick begins after a write of the present tick (R125). -/
def State.boundW (s : State) : Stamp := roundUp 8 (s.now + 2)

/-- The boundary of a write for stamp `st`, and whether it is late (R125, R147): a stamp of 0 asks for the first possible
boundary and is never late. -/
def State.boundFor (s : State) (k : Nat) (st : Stamp) : Stamp × Bool :=
  let bw := roundUp k (s.now + 2)
  let bs := roundUp k st
  if st = 0 then (bw, false) else if bs.toNat < bw.toNat then (bw, true) else (bs, false)

/-! ### Slot table entries (R110) -/

def entTICK (w : Word) : Nat := bits w 2 0
def entKIND (w : Word) : Nat := bits w 5 4
def entRECORD (w : Word) : Nat := bits w 13 8
def entLEN (w : Word) : Nat := bits w 18 16

/-- Kinds of entry. -/
def KIND.INNER : Nat := 0
def KIND.OUTER : Nat := 1
def KIND.IDLE : Nat := 2
def KIND.STOP : Nat := 3

/-- The entries before the first STOP with their indices, and whether a STOP ends them. -/
def untilStop : List (Nat × Word) → List (Nat × Word) × Bool
  | [] => ([], false)
  | e :: l => if entKIND e.2 = KIND.STOP then ([], true) else ((e :: (untilStop l).1), (untilStop l).2)

/-- The entries of a slot table (R110). -/
def State.slotTable (s : State) (base : Nat) : List (Nat × Word) × Bool :=
  untilStop ((List.range 256).map (fun i => (i, s.winWord (base + 4 * i))))

/-- The cost of an entry in slots, by the FLAGS of its record (R110); an IDLE entry occupies LEN slots. -/
def entryCost (fl : Nat → Word) (w : Word) : Nat :=
  if entKIND w = KIND.IDLE then entLEN w
  else if entKIND w = KIND.OUTER then 1
  else
    let f := fl (entRECORD w)
    1 + (flINNER f = 2 : Bool).toNat + (flNOTCHES f = 2 : Bool).toNat + (flRC_EN f).toNat

/-! ### The check of a slot table (R111) -/

/-- The first index a test holds for. -/
def firstWhere {α : Type} (p : α → Bool) (key : α → Nat) (l : List α) : Option Nat := (l.find? p).map key

/-- Reason 1: TICK decreases. -/
def orderFault : List (Nat × Word) → Option Nat
  | a :: b :: l => if entTICK b.2 < entTICK a.2 then some b.1 else orderFault (b :: l)
  | _ => none

/-- The running cost of each tick's entries: the entry with the cost of its tick up to it. -/
def tickCosts (fl : Nat → Word) (l : List (Nat × Word)) : List (Nat × Nat) :=
  (l.foldl (fun (acc : Tab Nat × List (Nat × Nat)) e =>
    let k := entTICK e.2
    let c := Tab.get (fun _ => 0) acc.1 k + entryCost fl e.2
    (Tab.put (fun _ => 0) acc.1 k c, acc.2 ++ [(e.1, c)])) ([], [])).2

/-- An entry with a wrong LEN (reason 3). -/
def lenFault (fl : Nat → Word) (w : Word) : Bool :=
  entLEN w < 1 || 4 < entLEN w || (entKIND w ≠ KIND.IDLE && entLEN w ≠ entryCost fl w)

/-- An entry that names a wrong record (reason 4). -/
def recordFault (fl : Nat → Word) (w : Word) : Bool :=
  let r := entRECORD w
  entKIND w ≠ KIND.IDLE &&
    (52 ≤ r || (entKIND w = KIND.OUTER && !flOUTER_EN (fl r))
      || (entKIND w = KIND.INNER && (r = 51 || flINNER (fl r) = 0)))

/-- The TICKs of the entries of a kind for a record. -/
def ticksOf (l : List (Nat × Word)) (kind r : Nat) : List Nat :=
  (l.filter (fun e => entKIND e.2 = kind && entRECORD e.2 = r)).map (fun e => entTICK e.2)

/-- A record evaluated at a wrong rate (reason 5). -/
def rateFault (fl : Nat → Word) (l : List (Nat × Word)) (r : Nat) : Bool :=
  let inner := ticksOf l KIND.INNER r
  (r < 48 && flINNER (fl r) ≠ 0 && inner.length ≠ 1)
  || (48 ≤ r && r ≤ 50 && flINNER (fl r) ≠ 0 &&
      !(match inner with | [a, b] => a + 4 = b || b + 4 = a | _ => false))
  || (flOUTER_EN (fl r) && (ticksOf l KIND.OUTER r).length ≠ 1)

/-- A required input missing (reason 6). -/
def State.inputFault (s : State) (r : Nat) : Bool :=
  let b := W0.bankShadow
  let f := s.recFlags b r
  let bad := fun i => 103 < i
  (flINNER f ≠ 0 && bad (s.innerIn b r)) || (flOUTER_EN f && bad (s.outerIn b r))
  || (flNORM f && bad (s.busIn b r)) || (flREF_SRC f = 2 && bad (s.tplIn b r))

/-- A combination that is refused (reason 7). -/
def State.comboFault (s : State) (r : Nat) : Bool :=
  let b := W0.bankShadow
  let f := s.recFlags b r
  let leg := 48 ≤ r && r ≤ 50
  let c := fun o => (s.coefW b r o).toInt
  (flREF_SRC f = 1 && !flOUTER_EN f) || (flREF_SRC f = 2 && (!leg || s.refRec b r ≠ 51)) || (flRC_EN f && !leg)
  || (flAUTO_FB f && !flOUTER_EN f) || c 0x24 < c 0x20 || c 0x44 < c 0x40 || flD f * recP r / 8 ≤ flPHASE f
  || (52 ≤ r && f ≠ 0)

/-- An enabled channel or leg without its entries (reason 8), by record. -/
def State.sinkFault (s : State) (l : List (Nat × Word)) (r : Nat) : Bool :=
  let inner := (ticksOf l KIND.INNER r).isEmpty
  if r < 48 then s.rbit (CHN.CTRL_K r) 0 && inner
  else if r ≤ 50 then
    s.rbit (regCTRL MFE.page) 0 && (inner || !flOUTER_EN (s.recFlags W0.bankShadow 51)
      || (ticksOf l KIND.OUTER 51).isEmpty)
  else false

/-- The reason and the faulting entry or record of a check of the slot table at `base` against the shadow bank; reason 0
is a pass (R111). -/
def State.tableCheck (s : State) (base : Nat) : Nat × Nat :=
  let (l, ended) := s.slotTable base
  let fl := s.recFlags W0.bankShadow
  let recs := List.range 64
  match orderFault l with
  | some i => (1, i)
  | none => match firstWhere (fun c => 24 < c.2) (·.1) (tickCosts fl l) with
  | some i => (2, i)
  | none => match firstWhere (fun e => lenFault fl e.2) (·.1) l with
  | some i => (3, i)
  | none => match firstWhere (fun e => recordFault fl e.2) (·.1) l with
  | some i => (4, i)
  | none => match recs.find? (rateFault fl l) with
  | some r => (5, r)
  | none => match recs.find? s.inputFault with
  | some r => (6, r)
  | none => match recs.find? s.comboFault with
  | some r => (7, r)
  | none => match recs.find? (s.sinkFault l) with
  | some r => (8, r)
  | none => if ended then (0, 0) else (9, 255)

/-- The table a check names: the shadow table, or the active one (TBL_CHECK.WITH_TABLE). -/
def checkBase (withTable : Bool) : Nat := if withTable then W0.tableShadow else W0.tableActive

/-- TBL_STAT.VALID cleared (R112). -/
def State.tblInvalid (s : State) : State := s.setRbit CEN.TBL_STAT 0 false

/-- A check of the shadow table asked for, with or without the order words (R111). -/
def State.askCheck (s : State) (withTable : Bool) : State := (s.setRbit CEN.TBL_STAT 1 true).setRbit CEN.TBL_STAT 2 withTable

/-- A write of TBL_CHECK (R111). -/
def tblCheckEff (v : Word) (s : State) : State × WriteResult :=
  if s.rbit CEN.TBL_STAT 1 then (s, .refused)
  else if bit v 0 then (if s.domainUp 4 then s.askCheck (bit v 1) else s.defer (.check (bit v 1)), .done)
  else (s, .done)

/-! ### Arithmetic (R113) -/

def mul28 (c x : Int) : Int := (c * x + 2 ^ 27) / 2 ^ 28
def mul30 (a b : Int) : Int := (a * b + 2 ^ 29) / 2 ^ 30
def sat32 (v : Int) : Int := clampI (-2147483648) 2147483647 v

/-- in(k): the calibrated sample of the last tick, 2^23 raw being 1.0; none when it is absent, and 0 for the reference
0x7F, which is not read (R113, R121). -/
def State.sense (s : State) (k : Nat) : Option Int :=
  let x := s.lastSample k
  if x.valid then some (128 * x.value) else none

/-- A feed-forward input: 0x7F contributes 0. -/
def State.senseFf (s : State) (k : Nat) : Option Int := if k = 0x7F then some 0 else s.sense k

/-- R114: r_s moved toward r_cmd by at most one step of a section with period `t` ticks. -/
def slewTo (slew rs rcmd : Int) (t : Nat) : Int :=
  let step := sat32 (slew * t / 8)
  sat32 (rs + clampI (-step) step (rcmd - rs))

/-- A biquad at coefficient offset `off`: its output and its two states (R117). -/
def State.biquad (s : State) (r off : Nat) (s1 s2 x : Int) : Int × Int × Int :=
  let out := sat32 (mul28 (s.coef r off) x + s1)
  (out, sat32 (mul28 (s.coef r (off + 4)) x - mul28 (s.coef r (off + 12)) out + s2),
    sat32 (mul28 (s.coef r (off + 8)) x - mul28 (s.coef r (off + 16)) out))

/-- chain(x) of R117 with the record's loop state after it. -/
def State.chain (s : State) (r : Nat) (l : Loop) (x : Int) : Int × Loop :=
  let (a, s1, s2) := s.biquad r 0x60 l.n11 l.n12 x
  let l := { l with n11 := s1, n12 := s2 }
  if flNOTCHES (s.recFlags W0.bankActive r) = 2 then
    let (b, t1, t2) := s.biquad r 0x74 l.n21 l.n22 a
    (b, { l with n21 := t1, n22 := t2 })
  else (a, l)

/-- The inverse of the bus voltage (R116); the division truncates. -/
def binvOf (vref vmin bus : Int) : Int := min (Int.tdiv (vref * 2 ^ 28) (max bus vmin)) 2147483647

/-- An index of leg `r`'s repetitive memory in the table. -/
def rcKey (r idx : Nat) : Nat := (r - 48) * 1024 + idx % 1024

/-- rc_step(e) of R118: the memory's contribution and the memory after it. -/
def State.rcStep (s : State) (r : Nat) (e : Int) : Int × Tab Int :=
  let idx := angleOf s.now / 4
  let m := fun k => Tab.get (fun _ => 0) s.cen.rc (rcKey r k)
  if s.rctState = RCT.LOCKED then
    let out := m (idx + (s.coefW W0.bankActive r 0x98).toNat)
    let w := mul28 (s.coef r 0x88) (m (idx + 1023)) + mul28 (s.coef r 0x8C) (m idx)
      + mul28 (s.coef r 0x88) (m (idx + 1))
    let rcmax := s.coef r 0x94
    (out, Tab.put (fun _ => 0) s.cen.rc (rcKey r idx) (clampI (-rcmax) rcmax (w + mul28 (s.coef r 0x90) e)))
  else (0, s.cen.rc)

/-! ### Set-points and gates -/

/-- The record of channel `k`. -/
def State.chan (s : State) (k : Nat) : Channel := Tab.get (fun _ => {}) s.chs k

/-- The state with a channel's record changed. -/
def State.modChan (s : State) (k : Nat) (f : Channel → Channel) : State :=
  { s with chs := Tab.put (fun _ => {}) s.chs k (f (s.chan k)) }

/-- What dimming keeps for channel `k`. -/
def State.lgtCh (s : State) (k : Nat) : LgtCh := Tab.get (fun _ => {}) s.lgt.chs k

/-- The state with a channel's dimming record changed. -/
def State.modLgtCh (s : State) (k : Nat) (f : LgtCh → LgtCh) : State :=
  { s with lgt := { s.lgt with chs := Tab.put (fun _ => {}) s.lgt.chs k (f (s.lgtCh k)) } }

/-- States of a channel (R145) and of the front end (R136). -/
def CH.OFF : Nat := 0
def CH.START : Nat := 1
def CH.RUN : Nat := 2
def CH.SHED : Nat := 3
def CH.HALTED : Nat := 4
def CH.TRIPPED : Nat := 5
def FE.OFF : Nat := 0
def FE.MAINS_OUT : Nat := 1
def FE.PRECHARGE : Nat := 2
def FE.RUN : Nat := 3
def FE.RIDE : Nat := 4
def FE.HALTED : Nat := 5

/-- The state code of channel `k`. -/
def State.chState (s : State) (k : Nat) : Nat := s.fld (CHN.STAT_K k) 2 0

/-- MFE.STAT and its state code. -/
def mfeSTAT : Nat := regSTAT MFE.page
def State.feState (s : State) : Nat := s.fld mfeSTAT 2 0

/-- A channel is dimmed (R208). -/
def State.dimmed (s : State) (k : Nat) : Bool :=
  (s.chan k).mode && s.rbit (CHN.CTRL_K k) 2 && s.rbit (regCTRL LGT.page) 0

/-- A frame lies in a burst (R212). -/
def inBurst (f : Nat) (b : Nat × Nat) : Bool := b.1 ≤ f && f < b.1 + b.2

/-- Switching is permitted on channel `k` in the present frame (R134, R145, R212). -/
def State.chGate (s : State) (k : Nat) : Bool :=
  if s.chState k = CH.START ∨ s.chState k = CH.RUN then
    !s.dimmed k || inBurst (s.now.toNat / 8) (s.lgtCh k).burst || inBurst (s.now.toNat / 8) (s.lgtCh k).lastBurst
  else s.chState k = CH.HALTED && !(s.chan k).safeOff

/-- The set-point in force as r_cmd, before dimming (R148); a set-point still at 0 is the lower end of the mode's range while EN
is set (R152). -/
def State.rCmdFull (s : State) (k : Nat) : Int :=
  let v := s.fld (CHN.SP_CUR k) 18 0
  let v := if v = 0 ∧ s.rbit (CHN.CTRL_K k) 0 then (if (s.chan k).mode then 100 else 120000) else v
  if (s.chan k).mode then ((v * 2 ^ 30 + 16000) / 32000 : Nat) else ((v * 2 ^ 30 + 256000) / 512000 : Nat)

/-- r_cmd of a record (R108, R148, R211). -/
def State.rCmd (s : State) (r : Nat) : Int :=
  if r < 48 then (if s.dimmed r then (s.lgtCh r).rEff.getD (s.rCmdFull r) else s.rCmdFull r)
  else if r = 51 then ((s.fld MFE.BUS_SP_CUR 18 0 * 2 ^ 30 + 256000) / 512000 : Nat)
  else 0

/-- The engine skips the entries of a record whose frames carry gate-off (R134). -/
def State.skipped (s : State) (r : Nat) : Bool :=
  if r < 48 then !s.chGate r else if r ≤ 50 then s.mfe.legsOff else false

/-! ### Evaluations (R115 to R122) -/

/-- The two sections of a record, as the payload of CEN_HALT numbers them (R400). -/
inductive Section where
  | inner | outer
  deriving DecidableEq, Repr

/-- The consecutive-miss field of MISS of a section. -/
def Section.field : Section → Nat
  | .inner => 16 | .outer => 18

/-- A missed evaluation: counts, MISS, the automatic latch, and HALT at the third in a row (R120 to R122). -/
def State.missed (s : State) (r : Nat) (sec : Section) (autoFb : Bool) : State :=
  let run := s.fld (CEN.MISS r) (sec.field + 1) sec.field + 1
  let t := ((s.incLo (CEN.MISS r)).setFld (CEN.MISS r) (sec.field + 1) sec.field (min run 3)).incLo CEN.OVERRUN_CNT
  let t := t.raise CEN.page 3
  let t := if autoFb then t.modLoop r (fun l => { l with auto := true }) else t
  if run = 3 then
    let t := (t.modLoop r (fun l => { l with halt := true })).raise CEN.page 4
    t.log 0x090 (fields [(1, r), (1, if sec = .inner then 0 else 1), (2, 0)])
  else t

/-- The consecutive-miss count of a section back at 0. -/
def State.evaluated (s : State) (r : Nat) (sec : Section) : State :=
  s.setFld (CEN.MISS r) (sec.field + 1) sec.field 0

/-- One step of the safe ramp (R122). -/
def State.safeRamp (s : State) (r : Nat) (x : Int) : Int :=
  let st := s.coef r 0x58
  sat32 (x + clampI (-st) st (s.coef r 0x54 - x))

/-- The state with record `r`'s output written. -/
def State.output (s : State) (r : Nat) (l : Loop) : State :=
  (s.modLoop r (fun _ => l)).modCen (fun c => { c with wrote := Tab.insert r l.u (Tab.erase r c.wrote) })

/-- The end of an inner evaluation, shared by R116 and R119: normalisation, the output notch and the limits. Answers u,
the loop state, and whether the integrator is held. -/
def State.drive (s : State) (r : Nat) (l : Loop) (v e bus : Int) : Loop × Bool :=
  let fl := s.recFlags W0.bankActive r
  let v := if flNORM fl then mul28 (binvOf (s.coef r 0x30) (s.coef r 0x34) bus) (sat32 v) else v
  let (v, l) := if flNOTCHES fl > 0 && flNOTCH_POS fl then s.chain r l (sat32 v) else (v, l)
  let umin := s.coef r 0x20
  let umax := s.coef r 0x24
  ({ l with u := clampI umin umax v }, (decide (umax < v) && decide (0 < e)) || (decide (v < umin) && decide (e < 0)))

/-- The bus sample a NORM record reads; a record without NORM reads none. -/
def State.busSense (s : State) (r : Nat) : Option Int :=
  if flNORM (s.recFlags W0.bankActive r) then s.sense (s.busIn W0.bankActive r) else some 0

/-- The reference of an inner section: r and r_s after it; none when the template sample is absent (R116). -/
def State.innerRef (s : State) (r : Nat) (l : Loop) : Option (Int × Int) :=
  let fl := s.recFlags W0.bankActive r
  if flREF_SRC fl = 0 then
    let rs := if flOUTER_EN fl then l.rs else slewTo (s.coef r 0x48) l.rs (s.rCmd r) (recP r)
    some (rs, rs)
  else if flREF_SRC fl = 1 then some (l.o, l.rs)
  else (s.sense (s.tplIn W0.bankActive r)).map (fun v => (sat32 (mul30 (s.loop 51).o v), l.rs))

/-- The inner section of R116 on present samples: measurement `y`, reference `(ref, rs)`, feed-forward `ff`, bus `bus`. -/
def State.innerEval (s : State) (r : Nat) (y ref rs ff bus : Int) : State :=
  let fl := s.recFlags W0.bankActive r
  let l := { s.loop r with rs := rs }
  let e := sat32 (ref - y)
  let (en, l) := if flNOTCHES fl > 0 && !flNOTCH_POS fl then s.chain r l e else (e, l)
  let p := mul28 (s.coef r 0x10) en
  let i1 := clampI (s.coef r 0x20) (s.coef r 0x24) (l.i + mul28 (s.coef r 0x14) en)
  let ds := sat32 (mul28 (s.coef r 0x1C) l.dstate + mul28 (s.coef r 0x18) (sat32 (l.yPrev - y)))
  let pid := flINNER fl = 2
  let l := if pid then { l with dstate := ds, yPrev := y } else l
  let d := if pid then ds else 0
  let (rc, mem) := if flRC_EN fl then s.rcStep r e else (0, s.cen.rc)
  let (l', hold) := s.drive r l (p + i1 + d + ff + rc) e bus
  let l' := { l' with i := if hold then l.i else i1 }
  ((s.modCen (fun c => { c with rc := mem })).output r l').evaluated r .inner

/-- The fall-back loop of R119 on present samples. -/
def State.fallbackEval (s : State) (r : Nat) (yo ff bus : Int) : State :=
  let l := s.loop r
  let l := { l with rs := slewTo (s.coef r 0x48) l.rs (s.rCmd r) (recP r) }
  let eo := sat32 (l.rs - yo)
  let f1 := clampI (s.coef r 0x20) (s.coef r 0x24) (l.ifb + mul28 (s.coef r 0x50) eo)
  let (l', hold) := s.drive r l (mul28 (s.coef r 0x4C) eo + f1 + ff) eo bus
  (s.output r { l' with ifb := if hold then l.ifb else f1 }).evaluated r .inner

/-- The feed-forward sum of a record. -/
def State.feedForward (s : State) (r : Nat) : Option Int :=
  match s.senseFf (s.ff1In W0.bankActive r), s.senseFf (s.ff2In W0.bankActive r) with
  | some a, some b => some (mul28 (s.coef r 0x28) a + mul28 (s.coef r 0x2C) b)
  | _, _ => none

/-- A leg computes only the safe ramp while the front end is HALTED, its own record halted or not (R138). -/
def State.legRamps (s : State) (r : Nat) : Bool := 48 ≤ r && r ≤ 50 && s.feState = FE.HALTED

/-- A missed inner evaluation; the miss that halts the record computes the first step of its safe ramp (R121, R122). -/
def State.innerMissed (s : State) (r : Nat) (auto : Bool) : State :=
  let t := s.missed r .inner auto
  let l := t.loop r
  if l.halt then t.output r { l with u := t.safeRamp r l.u } else t

/-- An INNER entry (R116, R119, R121, R122, R138). -/
def State.innerEntry (s : State) (r : Nat) : State :=
  if s.skipped r then s
  else
    let l := s.loop r
    if l.halt || s.legRamps r then s.output r { l with u := s.safeRamp r l.u }
    else if l.fb then
      match s.sense (s.outerIn W0.bankActive r), s.feedForward r, s.busSense r with
      | some yo, some ff, some bus => s.fallbackEval r yo ff bus
      | _, _, _ => s.innerMissed r false
    else
      match s.sense (s.innerIn W0.bankActive r), s.innerRef r l, s.feedForward r, s.busSense r with
      | some y, some (ref, rs), some ff, some bus => s.innerEval r y ref rs ff bus
      | y, _, _, _ =>
        let auto := flAUTO_FB (s.recFlags W0.bankActive r) && y.isNone
          && (s.sense (s.outerIn W0.bankActive r)).isSome
        s.innerMissed r auto

/-- An outer section is due (R115). -/
def State.outerDue (s : State) (r : Nat) : Bool :=
  let fl := s.recFlags W0.bankActive r
  angleOf s.now / 8 % (flD fl * recP r / 8) = flPHASE fl

/-- After a due evaluation of LR51: consecutive evaluations that left o at OMAX (R139). -/
def State.omaxSeen (s : State) (r : Nat) : State :=
  if r = 51 then
    s.modCen (fun c => { c with omaxRun := if (s.loop 51).o = s.coef 51 0x44 then min (c.omaxRun + 1) 4 else 0 })
  else s

/-- A missed outer evaluation; LR51's o takes the first step of the safe ramp in the miss that halts it (R121, R122). -/
def State.outerMissed (s : State) (r : Nat) : State :=
  let t := s.missed r .outer false
  if (t.loop r).halt && r = 51 then (t.modLoop r (fun l => { l with o := t.safeRamp r l.o })).omaxSeen r else t

/-- An OUTER entry (R115, R119, R121, R122). -/
def State.outerEntry (s : State) (r : Nat) : State :=
  let l := s.loop r
  if s.skipped r || !s.outerDue r then s
  else if l.halt then
    (if r = 51 then (s.modLoop r (fun l => { l with o := s.safeRamp r l.o })).omaxSeen r else s)
  else if l.fb then s
  else match s.sense (s.outerIn W0.bankActive r) with
    | none => s.outerMissed r
    | some yo =>
      let fl := s.recFlags W0.bankActive r
      let rs := slewTo (s.coef r 0x48) l.rs (s.rCmd r) (flD fl * recP r)
      let eo := sat32 (rs - yo)
      let omin := s.coef r 0x40
      let omax := s.coef r 0x44
      let io1 := clampI omin omax (l.io + mul28 (s.coef r 0x3C) eo)
      let vo := mul28 (s.coef r 0x38) eo + io1
      let hold := (decide (omax < vo) && decide (0 < eo)) || (decide (vo < omin) && decide (eo < 0))
      let t := s.modLoop r (fun l =>
        { l with rs := rs, o := clampI omin omax vo, io := if hold then l.io else io1 })
      (t.evaluated r .outer).omaxSeen r

/-- One entry of the active slot table. -/
def State.runEntry (s : State) (w : Word) : State :=
  if entKIND w = KIND.INNER then s.innerEntry (entRECORD w)
  else if entKIND w = KIND.OUTER then s.outerEntry (entRECORD w)
  else s

/-- The entries of the active table that belong to the tick, in index order (R105). -/
def State.runTick (s : State) : State :=
  let pos := angleOf s.now % 8
  ((s.slotTable W0.tableActive).1.filter (fun e => entTICK e.2 = pos)).foldl (fun t e => t.runEntry e.2) s

/-! ### Compare values (R131 to R133) -/

/-- The compare value of a record's output: a leg's (R131) or a channel's (R132). -/
def State.compareOf (s : State) (r : Nat) (u : Int) : Nat :=
  let x := (u + 2 ^ 18) / 2 ^ 19
  if r < 48 then (clampI 0 (s.fld (CHN.CMP_MAX r) 11 0) x).toNat else (clampI 0 4096 (2048 + x)).toNat

/-- φ_k in counts (R132). -/
def phaseCounts (k : Nat) : Nat := k * 2048 / 48

/-- A carrier period of a channel, or a valley or peak of the legs, begins in the present tick. -/
def State.carrierBegins (s : State) (r : Nat) : Bool :=
  if r < 48 then (s.now.toNat + phaseCounts r / 1024) % 2 = 0 else s.now.toNat % 4 = 0

/-- The outputs of the last tick latched at the strobe (R107). -/
def State.latchOutputs (s : State) : State :=
  let ws := s.cen.wrote.filter (fun c => c.1 < 51)
  let t := s.modCen (fun c => { c with
    wrote := [], latched := ws.foldl (fun m p => Tab.insert p.1 p.2 (Tab.erase p.1 m)) c.latched })
  t.modCen (fun c => { c with flow := c.flow ++ ws.map (fun p => (s.now + 2, p.1, s.compareOf p.1 p.2)) })

/-- Compare values whose carrier begins take over (R133): DUTY and LEG_CMP. -/
def State.applyCompares (s : State) : State :=
  let due := s.cen.flow.filter (fun c => decide (c.1.toNat ≤ s.now.toNat) && s.carrierBegins c.2.1)
  let t := due.foldl (fun t c =>
    if c.2.1 < 48 then t.setFld (CHN.DUTY c.2.1) 11 0 c.2.2 else t.setFld (MFE.LEG_CMP (c.2.1 - 48)) 12 0 c.2.2) s
  t.modCen (fun c => { c with flow := c.flow.filter (fun c => !(decide (c.1.toNat ≤ s.now.toNat) && s.carrierBegins c.2.1)) })

/-- The fabric clocks left between slot 23 and the next strobe, from the frequency on the angle clock (R105). -/
def State.execMargin (s : State) : Nat := 500000000 * 2 ^ 24 / (s.rct.clk * 4096) - 1568

/-! ### Commits (R124 to R127) -/

/-- Notch and derivative states that a new bank enables begin at rest (R124). -/
def State.bankChange (s old : State) (r : Nat) : State :=
  let f0 := old.recFlags W0.bankActive r
  let f1 := s.recFlags W0.bankActive r
  s.modLoop r (fun l =>
    let l := if flNOTCHES f0 < 1 ∧ 1 ≤ flNOTCHES f1 then { l with n11 := 0, n12 := 0 } else l
    let l := if flNOTCHES f0 < 2 ∧ 2 ≤ flNOTCHES f1 then { l with n21 := 0, n22 := 0 } else l
    if flINNER f0 = 1 ∧ flINNER f1 = 2 then
      { l with dstate := 0, yPrev := (s.sense (s.innerIn W0.bankActive r)).getD l.yPrev }
    else l)

/-- The swap of the banks, and of the slot tables with them if asked (R124). -/
def State.swapBanks (s : State) (table : Bool) : State :=
  let t := s.swapWin W0.bankShadow W0.bankActive 0x4000
  let t := if table then t.swapWin W0.tableShadow W0.tableActive 0x400 else t
  let t := (List.range 52).foldl (fun u r => u.bankChange s r) t
  (t.modCen (fun c => { c with bank := !c.bank, commit := none })).tblInvalid

/-- The end of a commit: DONE_AT, COMMIT_CNT, COMMIT_DONE, and LATE with its record (R125). -/
def State.commitDone (s : State) (c : Commit) : State :=
  let t := s.setRbit CEN.COMMIT_CTRL 0 false
  let t := if c.asked = 0 then t else t.setRbit CEN.COMMIT_STAT 0 c.late
  let t := t.modReg CEN.COMMIT_STAT (fun w => putBits w 15 8 (satInc 8 (bits w 15 8)))
  let t := (t.setReg64 CEN.DONE_AT_LO CEN.DONE_AT_HI c.at_).raise CEN.page 0
  if c.late then
    ((t.incHi CEN.COMMIT_STAT).raise CEN.page 1).log 0x091 (fields [(8, c.asked.toNat), (8, c.at_.toNat)])
  else t

/-- Why a REQ write is refused (R126). -/
def State.commitRefused (s : State) (table : Bool) : Bool :=
  s.cen.commit.isSome || s.cen.copying || !s.rbit CEN.TBL_STAT 0 || s.cen.checked ≠ table
  || (List.range 64).any (s.sinkFault (s.slotTable (checkBase table)).1)

/-- A REQ write that is accepted: pending for its boundary, or while CTRL bit 0 is 0 swapped at once (R125, R127). -/
def State.commitReq (s : State) (table : Bool) : State :=
  let st := s.reg64 CEN.COMMIT_AT_LO CEN.COMMIT_AT_HI
  if s.rbit (regCTRL CEN.page) 0 then
    let b := s.boundFor 8 st
    (s.modCen (fun c => { c with commit := some { at_ := b.1, asked := st, late := b.2, table := table } })).setRbit
      CEN.COMMIT_CTRL 0 true
  else (s.swapBanks table).commitDone { at_ := s.now, asked := st, late := false, table := table }

/-- Until when CANCEL is honoured: the strobe of tick B_s − 1 (R126). -/
def State.cancelOk (s : State) : Bool :=
  match s.cen.commit with
  | some c => s.now.toNat + 1 < (roundUp 8 c.asked).toNat
  | none => false

/-- A write of COMMIT_CTRL (R125, R126): REQ, CANCEL, TABLE and COPY. -/
def commitCtrlEff (v : Word) (s : State) : State × WriteResult :=
  if bit v 1 then
    if s.cancelOk then
      ((s.modCen (fun c => { c with commit := none })).setRbit CEN.COMMIT_CTRL 0 false, .done)
    else (s, .refused)
  else if bit v 3 then
    if s.cen.commit.isSome then (s, .refused) else ((s.modCen (fun c => { c with copying := true })).tblInvalid, .done)
  else if bit v 0 then
    if s.commitRefused (bit v 2) then (s, .refused)
    else
      let t := s.setRbit CEN.COMMIT_CTRL 2 (bit v 2)
      (if s.domainUp 4 then t.commitReq (bit v 2) else t.defer (.commit (bit v 2)), .done)
  else (s.setRbit CEN.COMMIT_CTRL 2 (bit v 2), .done)

/-- A write into W0 (R109, R110, R126, R129): shadow table and shadow bank only, refused while a commit is pending or a
COPY runs; a coefficient clamps to its range, and reserved words of a record are ignored. -/
def coefFit (off : Nat) : Option (List Fld) :=
  let any := [({ hi := 31, lo := 0, fit := .any } : Fld)]
  if off = 0 then some [{ hi := 1, lo := 0, fit := .become 3 3 2 }, { hi := 2, lo := 2, fit := .any },
    { hi := 4, lo := 3, fit := .become 3 3 2 }, { hi := 8, lo := 5, fit := .any }, { hi := 11, lo := 9, fit := .become 5 7 4 },
    { hi := 17, lo := 12, fit := .any }, { hi := 19, lo := 18, fit := .become 3 3 2 }]
  else if off = 4 then some [{ hi := 6, lo := 0, fit := .any }, { hi := 14, lo := 8, fit := .any },
    { hi := 22, lo := 16, fit := .any }, { hi := 30, lo := 24, fit := .any }]
  else if off = 8 then some [{ hi := 6, lo := 0, fit := .any }, { hi := 14, lo := 8, fit := .any },
    { hi := 21, lo := 16, fit := .any }]
  else if off = 0x0C ∨ off = 0x5C ∨ 0x9C ≤ off then none
  else if off = 0x30 ∨ off = 0x48 then some [{ hi := 31, lo := 0, fit := .twos 0 2147483647 }]
  else if off = 0x34 then some [{ hi := 31, lo := 0, fit := .twos 1048576 1073741824 }]
  else if off = 0x58 then some [{ hi := 31, lo := 0, fit := .twos 1 1073741824 }]
  else if off = 0x94 then some [{ hi := 31, lo := 0, fit := .twos 0 1073741824 }]
  else if off = 0x98 then some [{ hi := 5, lo := 0, fit := .within 0 63 }]
  else some any

/-- The fields of a slot table entry (R110). -/
def entryFields : List Fld :=
  [{ hi := 2, lo := 0, fit := .any }, { hi := 5, lo := 4, fit := .any }, { hi := 13, lo := 8, fit := .any },
   { hi := 18, lo := 16, fit := .any }]

/-- A write at an address of W0. -/
def w0Eff (a : Nat) (v : Word) (s : State) : State × WriteResult :=
  let off := a % 0x100000
  let busy := s.cen.commit.isSome || s.cen.copying
  if off < 0x400 then
    if busy then (s, .refused) else ((s.setWin a (fitWord entryFields 0 v).1).tblInvalid, .done)
  else if 0x10000 ≤ off ∧ off < 0x14000 then
    match coefFit (off % 0x100) with
    | none => (s, .ignored)
    | some fs =>
      if busy then (s, .refused)
      else
        let (w, c) := fitWord fs 0 v
        ((s.setWin a w).tblInvalid, .ofClamp c)
  else (s, .refused)

/-! ### CTRL and the other registers -/

/-- Whether a channel or the front end has its CTRL bit 0 set (R127). -/
def State.sinksOn (s : State) : Bool :=
  s.rbit (regCTRL MFE.page) 0 || (List.range 48).any (fun k => s.rbit (CHN.CTRL_K k) 0)

/-- A write of CEN.CTRL (R127, R128). -/
def cenCtrlEff (v : Word) (s : State) : State × WriteResult :=
  let a := regCTRL CEN.page
  if bit v 1 then
    if s.sinksOn then (s, .refused)
    else ({ s.resetPageRegs CEN.page with cen := {} }, .done)
  else if bit v 0 then
    if s.rbit a 0 then (s, .done)
    else if !s.firstLock || entKIND (s.winWord W0.tableActive) = KIND.STOP then (s, .refused)
    else (s.setReg a 1, .done)
  else if s.rbit a 0 then
    if s.sinksOn then (s, .refused) else ((s.setReg a 0).modCen (fun c => { c with run := false }), .done)
  else (s, .done)

/-- The records of a mask are to be re-armed (R123). -/
def State.askRearm (s : State) (mask : Nat) : State :=
  (setBits 64 mask).foldl (fun t r => t.modLoop r (fun l => { l with rearm := true })) s

/-- The effect of a write on the CEN page. -/
def cenEff (req a : Nat) (v : Word) (s : State) : State × WriteResult :=
  if a = regCTRL CEN.page then cenCtrlEff v s
  else if a = CEN.TBL_CHECK then tblCheckEff v s
  else if a = CEN.COMMIT_CTRL then commitCtrlEff v s
  else if a = CEN.REARM_HI then
    let lo := (s.stagedLow req CEN.REARM_LO).toNat
    let t := s.setPort req { s.port req with stageTag := 0, stage := 0 }
    let mask := lo + v.toNat * 2 ^ 32
    (if s.domainUp 4 then t.askRearm mask else t.defer (.rearm mask), .done)
  else if a = CEN.EXEC_MARGIN then (s.setReg a 0xFFFF, .done)
  else if CEN.MISS 0 ≤ a ∧ a ≤ CEN.MISS 63 then (s.setFld a 15 0 0, .done)
  else s.plainWrite req a v

/-- A record's fall-back request: its FB_SEL bit, which counts only with OUTER_EN in the active bank, or its automatic
latch (R120). -/
def State.wantsFallback (s : State) (r : Nat) : Bool :=
  ((s.reg64 CEN.FB_SEL_LO CEN.FB_SEL_HI).toNat.testBit r && flOUTER_EN (s.recFlags W0.bankActive r)) || (s.loop r).auto

/-- The computed registers of the CEN page: STAT, FB_STAT and HALT. -/
def State.cenView (s : State) (a : Nat) : Option Word :=
  let set := fun (p : Loop → Bool) => (List.range 64).filter (fun r => p (s.loop r))
  let half := fun (n : Nat) (hi : Bool) => word (if hi then n / 2 ^ 32 else n)
  if a = regSTAT CEN.page then
    some (word (s.cen.run.toNat + s.cen.commit.isSome.toNat * 2 + s.cen.copying.toNat * 4 + s.cen.bank.toNat * 8
      + (set (·.halt)).length * 2 ^ 8 + (set (·.fb)).length * 2 ^ 16))
  else if a = CEN.FB_STAT_LO then some (half (bitsOf (set (·.fb))) false)
  else if a = CEN.FB_STAT_HI then some (half (bitsOf (set (·.fb))) true)
  else if a = CEN.HALT_LO then some (half (bitsOf (set (·.halt))) false)
  else if a = CEN.HALT_HI then some (half (bitsOf (set (·.halt))) true)
  else none

/-- The computed words of W0: loop states at the last frame boundary, and repetitive memories (R129). -/
def State.w0View (s : State) (off : Nat) : Word :=
  if 0x30000 ≤ off ∧ off < 0x32000 then
    let l := Tab.get (fun _ => ({} : Loop)) s.cen.snap ((off - 0x30000) / 0x80)
    match (off % 0x80) / 4 with
    | 0 => iword l.u | 1 => iword l.o | 2 => iword l.i | 3 => iword l.io | 4 => iword l.ifb | 5 => iword l.rs
    | 6 => iword l.yPrev | 7 => iword l.dstate | 8 => iword l.n11 | 9 => iword l.n12 | 10 => iword l.n21
    | 11 => iword l.n22 | 12 => word (l.halt.toNat + l.fb.toNat * 2 + l.auto.toNat * 4) | _ => 0
  else if 0x40000 ≤ off ∧ off < 0x43000 then iword (Tab.get (fun _ => 0) s.cen.rc ((off - 0x40000) / 4))
  else s.winWord (W0.tableShadow + off)

/-! ### Initialisation of records (R123, R137, R146) -/

/-- The measurement a rearm or a start takes: OUTER_IN with an outer section, else INNER_IN (R123). -/
def State.measurement (s : State) (r : Nat) : Option Int :=
  if flOUTER_EN (s.recFlags W0.bankActive r) then s.sense (s.outerIn W0.bankActive r)
  else s.sense (s.innerIn W0.bankActive r)

/-- A record at rest: u, integrators, outer output, derivative and notch states 0, both miss counts 0 (R137, R146). -/
def State.initLoop (s : State) (r : Nat) (f : Loop → Loop) : State :=
  let t := s.modLoop r (fun l => f { l with
    u := 0, i := 0, ifb := 0, dstate := 0, o := 0, io := 0, n11 := 0, n12 := 0, n21 := 0, n22 := 0 })
  t.setFld (CEN.MISS r) 19 16 0

/-! ### The commands -/

/-- CEN_TICK_EXEC (R105): the strobe of a tick in the engine: outputs of the last tick are latched, a frame boundary takes
its snapshot and starts an enabled engine, and the entries of the tick run. -/
def State.cenTick (s : State) : State :=
  let t := s.latchOutputs.applyCompares
  let t := if s.frameStart then
      t.modCen (fun c => { c with snap := c.loops, run := c.run || s.rbit (regCTRL CEN.page) 0 })
    else t
  if t.cen.run then
    let t := t.runTick
    t.modReg CEN.EXEC_MARGIN (fun w => putBits w 15 0 (min (bits w 15 0) t.execMargin))
  else t

/-- TABLE_CHECK (R111): a write of TBL_CHECK.GO. -/
def execTableCheck (req : Req) (withTable : Bool) (s : State) : Res State :=
  let v := word (1 + 2 * withTable.toNat)
  .next (s.busWrite req CEN.TBL_CHECK v (tblCheckEff v))

/-- TABLE_CHECK_DONE (R111): the check in progress ends. -/
def execTableCheckDone (s : State) : Res State :=
  .next (if s.rbit CEN.TBL_STAT 1 then
      let base := checkBase (s.rbit CEN.TBL_STAT 2)
      let (reason, entry) := s.tableCheck base
      let cost := ((tickCosts (s.recFlags W0.bankShadow) (s.slotTable base).1).map (·.2)).foldl max 0
      let t := s.setRbit CEN.TBL_STAT 1 false
      let t := (t.setFld CEN.TBL_STAT 7 4 reason).setFld CEN.TBL_STAT 15 8 entry
      let t := (t.setFld CEN.TBL_STAT 23 16 (min cost 255)).setRbit CEN.TBL_STAT 0 (reason = 0)
      if reason = 0 then t.modCen (fun c => { c with checked := s.rbit CEN.TBL_STAT 2 }) else t.raise CEN.page 2
    else s)

/-- CEN_COMMIT_REQ (R125, R126): a write of COMMIT_CTRL with REQ and TABLE. -/
def execCenCommitReq (req : Req) (table : Bool) (s : State) : Res State :=
  let v := word (1 + 4 * table.toNat)
  .next (s.busWrite req CEN.COMMIT_CTRL v (commitCtrlEff v))

/-- CEN_COMMIT_CANCEL (R126): a write of COMMIT_CTRL with CANCEL. -/
def execCenCommitCancel (req : Req) (s : State) : Res State :=
  .next (s.busWrite req CEN.COMMIT_CTRL 2 (commitCtrlEff 2))

/-- CEN_COPY (R126): a write of COMMIT_CTRL with COPY. -/
def execCenCopy (req : Req) (s : State) : Res State := .next (s.busWrite req CEN.COMMIT_CTRL 8 (commitCtrlEff 8))

/-- CEN_COPY_DONE (R126): the shadow positions hold the active table and bank. -/
def execCenCopyDone (s : State) : Res State :=
  .next (if s.cen.copying then
      let t := (s.copyWin W0.tableActive W0.tableShadow 0x400).copyWin W0.bankActive W0.bankShadow 0x4000
      t.modCen (fun c => { c with copying := false })
    else s)

/-- CEN_COMMIT_SWAP (R124, R125): at boundary B the pending commit is performed. -/
def execCenCommitSwap (s : State) : Res State :=
  .next (match s.cen.commit with
    | some c => if s.domainUp 4 && decide (c.at_.toNat ≤ s.now.toNat) then (s.swapBanks c.table).commitDone c else s
    | none => s)

/-- FALLBACK_ENTER (R120): at a frame boundary, with ifb = u. -/
def execFallbackEnter (r : Fin 64) (s : State) : Res State :=
  .next (if s.frameStart && s.wantsFallback r && !(s.loop r).fb then
      (s.modLoop r (fun l => { l with fb := true, ifb := l.u })).raise CEN.page 5
    else s)

/-- FALLBACK_EXIT (R120): at a frame boundary with the inner measurement present. -/
def execFallbackExit (r : Fin 64) (s : State) : Res State :=
  .next (if s.frameStart && (s.loop r).fb && !s.wantsFallback r then
      match s.sense (s.innerIn W0.bankActive r) with
      | some y =>
        let x := clampI (s.coef r 0x40) (s.coef r 0x44) y
        s.modLoop r (fun l => { l with fb := false, i := l.u, io := x, o := x, dstate := 0 })
      | none => s
    else s)

/-- REARM (R123): a write of REARM_LO and REARM_HI naming records. -/
def execRearm (req : Req) (lo hi : Word) (s : State) : Res State :=
  let t := s.busWrite req CEN.REARM_LO lo (fun t => t.plainWrite req CEN.REARM_LO lo)
  .next (t.busWrite req CEN.REARM_HI hi (cenEff req CEN.REARM_HI hi))

/-- REARM_APPLY (R123): at a frame boundary: a halted record is initialised once its measurement is present; of a record
that is not halted only the automatic latch clears. -/
def execRearmApply (r : Fin 64) (s : State) : Res State :=
  .next (if s.frameStart && (s.loop r).rearm then
      if (s.loop r).halt then
        match s.measurement r with
        | some y =>
          let t := s.modLoop r (fun l => { l with
            halt := false, auto := false, rearm := false, i := l.u, ifb := l.u, io := l.o, dstate := 0, rs := y,
            n11 := 0, n12 := 0, n21 := 0, n22 := 0 })
          t.setFld (CEN.MISS r) 19 16 0
        | none => s
      else s.modLoop r (fun l => { l with auto := false, rearm := false })
    else s)

/-- CEN_ENABLE (R127): a write of CEN.CTRL with bit 0 set. -/
def execCenEnable (req : Req) (s : State) : Res State := .next (s.busWrite req (regCTRL CEN.page) 1 (cenCtrlEff 1))

/-- CEN_DISABLE (R127): a write of CEN.CTRL with bit 0 clear. -/
def execCenDisable (req : Req) (s : State) : Res State := .next (s.busWrite req (regCTRL CEN.page) 0 (cenCtrlEff 0))

end Sys2Proof.Machine
end

