-- ==== Sys2Proof/Machine/Converters.lean ====
section
/-!
DEFINITION. Mains front end and output channels (spec/06): states, sag ride-through, shedding and restoration,
set-points, and the trips and restarts of channels (R162, R163).
-/

namespace Sys2Proof.Machine

/-! ### Helpers -/

/-- The state with the front end's own record changed. -/
def State.modMfe (s : State) (f : Mfe → Mfe) : State := { s with mfe := f s.mfe }

/-- An event of channel `k`: bit `b` of its page's INT_FLAG, and EVT (CHN pages). -/
def State.chEvent (s : State) (k b : Nat) : State :=
  (s.raise (CHN.page (k / 12)) b).setRbit (CHN.EVT (k / 12)) (k % 12) true

/-- The state with channel `k` in a state. -/
def State.setCh (s : State) (k st : Nat) : State :=
  (s.setFld (CHN.STAT_K k) 2 0 st).modChan k (fun c => { c with since := s.now })

/-- The state with the front end in a state. -/
def State.setFe (s : State) (st : Nat) : State :=
  (s.setFld mfeSTAT 2 0 st).modMfe (fun m => { m with since := s.now, settleRun := 0, settled := false })

/-- Channel `k` is in START or RUN. -/
def State.chRunning (s : State) (k : Nat) : Bool := s.chState k = CH.START || s.chState k = CH.RUN

/-- Some channel is in START or RUN. -/
def State.anyRunning (s : State) : Bool := (List.range 48).any s.chRunning

/-- The channels in SHED that no restoration has scheduled. -/
def State.shedChannels (s : State) : List Nat :=
  (List.range 48).filter (fun k => s.chState k = CH.SHED && (s.chan k).restoreAt.isNone)

/-- SHED_MASK: classes with a shed channel (MFE.STAT). -/
def State.shedMask (s : State) : Nat :=
  bitsOf (((List.range 48).filter (fun k => s.chState k = CH.SHED)).map (fun k => (s.chan k).prio))

/-- A class is shed by R140 or R141. -/
def State.sagShed (s : State) : Bool := (List.range 48).any (fun k => s.chState k = CH.SHED && (s.chan k).bySag)

/-- MFE.STAT.RESTORING. -/
def State.restoring (s : State) : Bool := s.rbit mfeSTAT 17

/-- The axe line of board `n` drives KILL (R162). -/
def State.boardKilled (s : State) (n : Nat) : Bool := !s.axe.out.testBit n

/-- The current and voltage inputs of channel `k` (R130). -/
def chCurrent (k : Nat) : Nat := 8 * (k / 4) + 2 * (k % 4)
def chVoltage (k : Nat) : Nat := chCurrent k + 1

/-- A halted front-end record (R136). -/
def State.feHalted (s : State) : Bool := [48, 49, 50, 51].any (fun r => (s.loop r).halt)

/-- SHED_STEP, RESTORE_HOLD, RESTORE_GAP and PRE_TIMEOUT as a frame boundary takes them (R151), and SAG_LVL, SAG_TICKS and
BUS_UV in force. -/
def State.shedStep (s : State) : Nat := s.fld MFE.SHED_CFG 12 0
def State.restoreHold (s : State) : Nat := s.fld MFE.SHED_CFG 23 16
def State.restoreGap (s : State) : Nat := s.fld MFE.SHED_CFG 31 24
def State.sagLvl (s : State) : Nat := bits s.mfe.sagCfg 9 0
def State.sagTicks (s : State) : Nat := bits s.mfe.sagCfg 23 16
def State.busUv (s : State) : Nat := bits s.mfe.uvCfg 9 0
def State.preTimeout (s : State) : Nat := s.fld MFE.UV_CFG 23 16

/-! ### Structures the records must have (R135, R144) -/

/-- LRk has the structure of its mode in the active bank (R144). -/
def State.channelMatches (s : State) (k : Nat) (string : Bool) : Bool :=
  let b := W0.bankActive
  let f := s.recFlags b k
  let common := (flINNER f = 1 || flINNER f = 2) && s.innerIn b k = chCurrent k && flNORM f && s.busIn b k = 102
    && s.coefW b k 0x54 = 0
  if string then common && !flOUTER_EN f && flREF_SRC f = 0
  else common && flOUTER_EN f && flREF_SRC f = 1 && s.outerIn b k = chVoltage k

/-- LR48 to LR51 have the structure of R135 in the active bank. -/
def State.feMatches (s : State) : Bool :=
  let b := W0.bankActive
  let leg := fun k =>
    let f := s.recFlags b (48 + k)
    (flINNER f = 1 || flINNER f = 2) && !flOUTER_EN f && flREF_SRC f = 2 && s.refRec b (48 + k) = 51
      && s.innerIn b (48 + k) = 99 + k && s.tplIn b (48 + k) = 96 + k && flNORM f && s.busIn b (48 + k) = 102
  let f := s.recFlags b 51
  [0, 1, 2].all leg && flINNER f = 0 && flOUTER_EN f && s.outerIn b 51 = 102

/-! ### Shedding and restoration (R139 to R143) -/

/-- A running channel enters SHED by R140 or R141. -/
def State.shedChannel (s : State) (k : Nat) : State :=
  let t := (s.setCh k CH.SHED).modChan k (fun c => { c with bySag := true, restoreAt := none })
  ((t.incHi (CHN.CNT k)).chEvent k 2).raise MFE.page 2

/-- The lowest class below 7 with a running channel. -/
def State.lowestRunning (s : State) : Option Nat :=
  (List.range 7).find? (fun c => (List.range 48).any (fun k => s.chRunning k && (s.chan k).prio = c))

/-- Every running channel of a class sheds. -/
def State.shedClass (s : State) (c : Nat) : State :=
  ((List.range 48).filter (fun k => s.chRunning k && (s.chan k).prio = c)).foldl State.shedChannel s

/-- The highest class with a shed channel that is not yet restored. -/
def State.highestShed (s : State) : Option Nat :=
  ((List.range 8).reverse).find? (fun c => s.shedChannels.any (fun k => (s.chan k).prio = c))

/-- Restoration is complete: RESTORING clears, RESTORED is raised and the front end enters RUN (R142). -/
def State.restoreDone (s : State) : State :=
  let t := (s.setRbit mfeSTAT 17 false).raise MFE.page 3
  if t.feState = FE.RIDE then t.setFe FE.RUN else t

/-- A class is restored: CHk starts at angle 8 × k of this cycle; after the last class restoration is complete (R142). -/
def State.restoreClass (s : State) (c : Nat) : State :=
  let t := (s.shedChannels.filter (fun k => (s.chan k).prio = c)).foldl (fun t k =>
    t.modChan k (fun ch => { ch with restoreAt := some (stamp (cycleOf s.now) (8 * k)) })) s
  let t := t.modMfe (fun m => { m with restored := cycleOf s.now })
  if t.shedChannels.isEmpty then t.restoreDone else t

/-- The highest shed class is restored, or restoration is complete where no class is left to restore (R142). -/
def State.restoreNext (s : State) : State :=
  match s.highestShed with
  | some c => s.restoreClass c
  | none => s.restoreDone

/-- The conditions of R139 and R141 and the settling of R137, after the tick's evaluations. -/
def State.mfeTick (s : State) : State :=
  let bus := s.lastSample 102
  let below := fun (v : Nat) => !bus.valid || decide (bus.value < v * 16384)
  let sagRun := if below s.sagLvl then min (s.mfe.sagRun + 1) 255 else 0
  let uvRun := if below s.busUv then min (s.mfe.uvRun + 1) 255 else 0
  let fe := s.feState
  let sag := s.sagTicks ≤ sagRun || s.cen.omaxRun = 4
    || ((fe = FE.OFF || fe = FE.MAINS_OUT || fe = FE.HALTED) && s.anyRunning)
  let clear := (fe = FE.RUN || fe = FE.RIDE) && !below (s.sagLvl + 10) && decide ((s.loop 51).o < s.coef 51 0x44)
  let near := bus.valid && decide ((1000 * bus.value - (s.fld MFE.BUS_SP_CUR 18 0 * 16384 : Nat)).natAbs ≤ 4000 * 16384)
  let run := if fe = FE.PRECHARGE && near then min (s.mfe.settleRun + 1) 64 else 0
  s.modMfe (fun m => { m with
    sagRun := sagRun, uvRun := uvRun, sag := sag,
    clearFrom := if clear then (match m.clearFrom with | some f => some f | none => some s.now) else none,
    settleRun := run, settled := m.settled || (run = 64 && (s.loop 51).rs = s.rCmd 51) })

/-- A channel that stops being dimmed between two states has an empty ledger and leaves its engine (R213, R217). -/
def State.dimEnded (s t : State) (k : Nat) : State :=
  if s.dimmed k && !t.dimmed k then t.modLgtCh k (fun c => { c with acc := 0, dcnt := 0, engine := none }) else t

/-- A channel whose EN is clear, or was cleared since the last boundary, goes to OFF (R145). -/
def State.frameOff (s : State) (k : Nat) : State :=
  let t := s.modChan k (fun c => { c with offDue := false })
  if (!s.rbit (CHN.CTRL_K k) 0 || (s.chan k).offDue) && s.chState k ≠ CH.OFF then
    (t.setCh k CH.OFF).modChan k (fun c => { c with restoreAt := none, bySag := false, safeOff := false })
  else t

/-- The priority and, in OFF, the mode of a channel taken from its CTRL at a frame boundary (R144, R145). -/
def State.frameChannel (s : State) (k : Nat) : State :=
  let prio := s.fld (CHN.CTRL_K k) 6 4
  let mode := s.rbit (CHN.CTRL_K k) 1
  let t := (s.modChan k (fun c => { c with prio := prio })).frameOff k
  s.dimEnded (if t.chState k = CH.OFF then t.modChan k (fun c => { c with mode := mode }) else t) k

/-- A front end whose CTRL bit 0 is clear, or was cleared since the last boundary, goes to OFF (R136); a kill of SB12 gates
the legs off in every state (R162). -/
def State.frameFeOff (s : State) : State :=
  let t := s.modMfe (fun m => { m with offDue := false, legsOff := m.legsOff || s.boardKilled 12 })
  if (!s.rbit (regCTRL MFE.page) 0 || s.mfe.offDue) && s.feState ≠ FE.OFF then
    (t.setFe FE.OFF).modMfe (fun m => { m with legsOff := true, byTimeout := false })
  else t

/-- The sag condition takes the front end from RUN to RIDE at the frame boundary after it, whether or not a class is shed
(R136, R140). -/
def State.frameRide (s : State) : State :=
  let t := s.modMfe (fun m => { m with ride := false })
  if (s.mfe.ride || s.mfe.sag) && t.feState = FE.RUN then t.setFe FE.RIDE else t

/-- An undervoltage seen since the last frame boundary sheds every running channel (R141). -/
def State.frameUv (s : State) : State :=
  if s.mfe.uvShed then
    ((List.range 48).filter s.chRunning).foldl State.shedChannel (s.modMfe (fun m => { m with uvShed := false }))
  else s

/-- What takes effect at a frame boundary without a command of its own: new settings, a channel or a front end switched
off, RIDE, and the shedding of R141. -/
def State.mfeFrame (s : State) : State :=
  let t := s.modMfe (fun m => { m with
    sagCfg := s.reg MFE.SAG_CFG, shedCfg := s.reg MFE.SHED_CFG, uvCfg := s.reg MFE.UV_CFG })
  (((List.range 48).foldl State.frameChannel t).frameFeOff.frameRide).frameUv

/-! ### Set-points (R147 to R149) -/

/-- The largest feeder set-point in force or pending on an enabled feeder-mode channel, mV (R149). -/
def State.largestFeeder (s : State) : Nat :=
  ((List.range 48).filter (fun k => s.rbit (CHN.CTRL_K k) 0 && !s.rbit (CHN.CTRL_K k) 1)).foldl (fun m k =>
    let pending := match (s.chan k).pend with | some p => p.1 | none => 0
    max m (max (s.fld (CHN.SP_CUR k) 18 0) pending)) 0

/-- A write of SP_NEXT (R149). -/
def spNextEff (k : Nat) (v : Word) (s : State) : State × WriteResult :=
  let x := if s.rbit (CHN.CTRL_K k) 1 then clampN 100 3000 v.toNat
    else min (clampN 120000 380000 v.toNat) (19 * s.fld MFE.BUS_SP_CUR 18 0 / 20)
  (s.setReg (CHN.SP_NEXT k) (word x), .ofClamp (x ≠ v.toNat))

/-- A write of BUS_SP_NEXT (R149). -/
def busSpNextEff (v : Word) (s : State) : State × WriteResult :=
  let x := max (clampN 380000 400000 v.toNat) ((20 * s.largestFeeder + 18) / 19)
  (s.setReg MFE.BUS_SP_NEXT (word x), .ofClamp (x ≠ v.toNat))

/-- What an arming does with LATE (R147): a late one sets it, counts and logs; an on-time one clears it; a stamp of 0
leaves it. -/
def State.armLate (s : State) (st : Stamp) (late : Bool) (stat bitNo : Nat) (onLate : State → State) : State :=
  if late then onLate (s.setRbit stat bitNo true) else if st = 0 then s else s.setRbit stat bitNo false

/-- The set-point `n` of a channel armed for a stamp (R147). -/
def State.armSetPoint (s : State) (k n : Nat) (st : Stamp) : State :=
  let b := s.boundFor 8 st
  let t := s.modChan k (fun c => { c with pend := some (n, b.1) })
  (t.setRbit (CHN.STAT_K k) 4 true).armLate st b.2 (CHN.STAT_K k) 6 (fun u =>
    ((u.incLo (CHN.CNT k)).chEvent k 4).log 0x0C0 (fields [(1, k), (3, 0), (8, st.toNat), (8, b.1.toNat)]))

/-- A write of SP_AT_HI arms the staged set-point (R147); while PD4 is off, when it comes up (R72). -/
def spArmEff (req k : Nat) (v : Word) (s : State) : State × WriteResult :=
  let p := s.loadPair req (CHN.SP_AT_HI k) v
  let st := p.1.reg64 (CHN.SP_AT_LO k) (CHN.SP_AT_HI k)
  let n := s.fld (CHN.SP_NEXT k) 18 0
  (if s.domainUp 4 then p.1.armSetPoint k n st else p.1.defer (.setPoint k n st), p.2)

/-- The bus set-point `n` armed for a stamp (R147). -/
def State.armBusSetPoint (s : State) (n : Nat) (st : Stamp) : State :=
  let b := s.boundFor 8 st
  let t := s.modMfe (fun m => { m with pend := some (n, b.1) })
  t.armLate st b.2 mfeSTAT 18 (fun u => (u.raise MFE.page 8).log 0x0B0 (fields [(8, st.toNat), (8, b.1.toNat)]))

/-- A write of BUS_SP_AT_HI arms the staged bus set-point (R147); while PD4 is off, when it comes up (R72). -/
def busArmEff (req : Nat) (v : Word) (s : State) : State × WriteResult :=
  let p := s.loadPair req MFE.BUS_SP_AT_HI v
  let st := p.1.reg64 MFE.BUS_SP_AT_LO MFE.BUS_SP_AT_HI
  let n := s.fld MFE.BUS_SP_NEXT 18 0
  (if s.domainUp 4 then p.1.armBusSetPoint n st else p.1.defer (.busSetPoint n st), p.2)

/-! ### Control registers -/

/-- A write of CHN.CTRL[k] (R144, R145): refused when it changes MODE and leaves EN set, and when it sets EN before first
lock, without the engine, or on a record of the wrong structure. -/
def chCtrlEff (k : Nat) (v : Word) (s : State) : State × WriteResult :=
  let a := CHN.CTRL_K k
  let was := s.rbit a 0
  if was && bit v 0 && bit v 1 ≠ s.rbit a 1 then (s, .refused)
  else if bit v 0 && !was && (!s.firstLock || !s.rbit (regCTRL CEN.page) 0 || !s.channelMatches k (bit v 1)) then
    (s.chEvent k 5, .refused)
  else
    let p := s.store a v
    (s.dimEnded (if was && !bit v 0 then p.1.modChan k (fun c => { c with offDue := true }) else p.1) k, p.2)

/-- A write of a CHN page's CTRL (R152): bit 1 is refused while a channel of the page has EN set. -/
def chPageCtrlEff (p : Nat) (v : Word) (s : State) : State × WriteResult :=
  if bit v 1 then
    if (List.range 12).any (fun j => s.rbit (CHN.CTRL_K (12 * p + j)) 0) then (s, .refused)
    else
      let t := s.resetPageRegs (CHN.page p)
      ((List.range 12).foldl (fun t j => t.modChan (12 * p + j) (fun _ => {})) t, .done)
  else (s, .done)

/-- A write of MFE.CTRL (R136, R151). -/
def mfeCtrlEff (v : Word) (s : State) : State × WriteResult :=
  let a := regCTRL MFE.page
  if bit v 1 then
    if s.rbit a 0 then (s, .refused) else ({ s.resetPageRegs MFE.page with mfe := {} }, .done)
  else if bit v 0 then
    if s.rbit a 0 then (s, .done)
    else if !s.firstLock || !s.rbit (regCTRL CEN.page) 0 || s.fld rctSTAT 13 12 = 2 || !s.feMatches then (s, .refused)
    else (s.setReg a 1, .done)
  else ((s.setReg a 0).modMfe (fun m => { m with offDue := m.offDue || s.rbit a 0 }), .done)

/-- The effect of a write on the MFE page. -/
def mfeEff (req a : Nat) (v : Word) (s : State) : State × WriteResult :=
  if a = regCTRL MFE.page then mfeCtrlEff v s
  else if a = MFE.BUS_SP_NEXT then busSpNextEff v s
  else if a = MFE.BUS_SP_AT_HI then busArmEff req v s
  else s.plainWrite req a v

/-- The effect of a write on a CHN page. -/
def chnEff (req a : Nat) (v : Word) (s : State) : State × WriteResult :=
  let p := pageOf a - 0x0C
  let off := a % 0x1000
  let k := 12 * p + (off - 0x100) / 0x100
  if a = regCTRL (CHN.page p) then chPageCtrlEff p v s
  else if 0x100 ≤ off ∧ a = CHN.CTRL_K k then chCtrlEff k v s
  else if 0x100 ≤ off ∧ a = CHN.SP_NEXT k then spNextEff k v s
  else if 0x100 ≤ off ∧ a = CHN.SP_AT_HI k then spArmEff req k v s
  else s.plainWrite req a v

/-- A sample in mV or mA as the read-back registers give it (R130). -/
def sampleMv (x : Int) : Nat := (max x 0 * 125 / 2048).toNat

/-- The computed registers of the MFE page: SHED_MASK and BUS_MV. -/
def State.mfeView (s : State) (a : Nat) : Option Word :=
  if a = mfeSTAT then some (putBits (s.reg a) 15 8 s.shedMask)
  else if a = MFE.BUS_MV then some (word (sampleMv (s.snsIn 102).lastGood))
  else none

/-- The computed registers of a CHN page: RAMP, PHASE, VOUT and IOUT. -/
def State.chnView (s : State) (a : Nat) : Option Word :=
  let k := 12 * (pageOf a - 0x0C) + (a % 0x1000 - 0x100) / 0x100
  if a % 0x1000 < 0x100 then none
  else if a = CHN.STAT_K k then some (putBit (s.reg a) 5 ((s.loop k).rs ≠ s.rCmd k))
  else if a = CHN.DUTY k then some (putBits (s.reg a) 26 16 (phaseCounts k))
  else if a = CHN.VOUT k then some (word (sampleMv (s.snsIn (chVoltage k)).lastGood))
  else if a = CHN.IOUT k then some (word (unsigned 16 ((s.snsIn (chCurrent k)).lastGood * 125 / 32768)))
  else none

/-! ### Starting a channel (R146) -/

/-- The measurement a channel starts from: output voltage in feeder mode, output current in string mode. -/
def State.startMeasure (s : State) (k : Nat) : Option Int :=
  s.sense (if (s.chan k).mode then chCurrent k else chVoltage k)

/-- Channel `k` enters START with LRk initialised, or stays where it is while the measurement is absent (R146); its
ledger starts at 0 and it has no burst until a dim period begins (R213). -/
def State.startChannel (s : State) (k : Nat) (event : State → State) : State :=
  match s.startMeasure k with
  | none => s
  | some y =>
    let t := s.initLoop k (fun l => { l with rs := y, auto := false })
    let t := t.modLgtCh k (fun c => { c with
      acc := 0, dcnt := 0, burst := (0, 0), lastBurst := (0, 0), rEff := none, checks := [] })
    let t := (t.setCh k CH.START).modChan k (fun c => { c with restoreAt := none, bySag := false, safeOff := false })
    event t

/-- An enabled channel that may not start goes to SHED, without a count (R145). -/
def State.shedAtEnable (s : State) (k : Nat) : State :=
  (s.setCh k CH.SHED).modChan k (fun c => { c with bySag := false, restoreAt := none })

/-- Whether R145 sends an enabled channel to SHED: the front end is not in RUN, or a class is shed. -/
def State.enableSheds (s : State) : Bool := s.feState ≠ FE.RUN || s.shedMask ≠ 0

/-! ### The commands -/

/-- MFE_ENABLE (R136): a write of MFE.CTRL with bit 0 set. -/
def execMfeEnable (req : Req) (s : State) : Res State := .next (s.busWrite req (regCTRL MFE.page) 1 (mfeCtrlEff 1))

/-- MFE_DISABLE (R136): a write of MFE.CTRL with bit 0 clear; OFF follows at the next frame boundary. -/
def execMfeDisable (req : Req) (s : State) : Res State := .next (s.busWrite req (regCTRL MFE.page) 0 (mfeCtrlEff 0))

/-- Whether the front end enters MAINS_OUT (R136, R162): it was enabled; the mains or the sequence is lost; every halted
record of a halt has been rearmed; or SB12 is killed, whether or not a record is halted (log entry 93). -/
def State.mainsOutDue (s : State) : Bool :=
  let fe := s.feState
  let running := fe = FE.PRECHARGE || fe = FE.RUN || fe = FE.RIDE
  let byHalt := fe = FE.HALTED && !s.mfe.byTimeout
  let lost := s.rctState ≠ RCT.LOCKED || s.fld rctSTAT 13 12 = 2
  s.rbit (regCTRL MFE.page) 0 &&
    (if s.boardKilled 12 then fe = FE.OFF || running || byHalt else !s.feHalted && (fe = FE.OFF || (running && lost) || byHalt))

/-- MAINS_OUT_ENTER (R136): at a frame boundary the front end enters MAINS_OUT with its legs in gate-off. -/
def execMainsOutEnter (s : State) : Res State :=
  .next (if s.frameStart ∧ s.mainsOutDue then
      (((s.setFe FE.MAINS_OUT).modMfe (fun m => { m with legsOff := true })).raise MFE.page 4).incHi MFE.CNT
    else s)

/-- PRECHARGE_ENTER (R137): at a frame boundary with the RCT block LOCKED, SEQ 1, SB12 released and the bus measured. -/
def execPrechargeEnter (s : State) : Res State :=
  .next (if s.frameStart ∧ s.rbit (regCTRL MFE.page) 0 ∧ s.feState = FE.MAINS_OUT ∧ s.rctState = RCT.LOCKED
      ∧ s.fld rctSTAT 13 12 = 1 ∧ !s.boardKilled 12 ∧ !s.feHalted then
      match s.sense 102 with
      | none => s
      | some y =>
        let t := [48, 49, 50].foldl (fun t r => t.initLoop r id) s
        let t := t.initLoop 51 (fun l => { l with rs := y })
        ((t.modCen (fun c => { c with omaxRun := 0 })).setFe FE.PRECHARGE).modMfe (fun m => { m with legsOff := false })
    else s)

/-- BUS_SETTLED (R137): at the frame boundary after the bus has settled the front end enters RUN. -/
def execBusSettled (s : State) : Res State :=
  .next (if s.frameStart ∧ s.feState = FE.PRECHARGE ∧ s.mfe.settled then (s.setFe FE.RUN).raise MFE.page 0 else s)

/-- PRECHARGE_TIMEOUT (R136): PRE_TIMEOUT cycles of PRECHARGE without settling. -/
def execPrechargeTimeout (s : State) : Res State :=
  .next (if s.frameStart ∧ s.feState = FE.PRECHARGE ∧ !s.mfe.settled
      ∧ s.mfe.since.toNat + s.preTimeout * 4096 ≤ s.now.toNat then
      (((s.setFe FE.HALTED).modMfe (fun m => { m with byTimeout := true })).raise MFE.page 6).raise MFE.page 7
    else s)

/-- FE_HALTED (R136, R138): at the frame boundary after a front-end record halts, or after a front end is enabled while one is
halted; every leg follows the safe ramp from there. While SB12 is killed the front end stays in MAINS_OUT (R162). -/
def execFeHalted (s : State) : Res State :=
  .next (if s.frameStart ∧ s.rbit (regCTRL MFE.page) 0 ∧ s.feHalted ∧ s.feState ≠ FE.HALTED ∧ !s.boardKilled 12 then
      ((s.setFe FE.HALTED).modMfe (fun m => { m with byTimeout := false, legsOff := false })).raise MFE.page 7
    else s)

/-- FE_GATE_OFF (R138): the last leg's u equals its SAFE value and the legs enter gate-off. -/
def execFeGateOff (s : State) : Res State :=
  .next (if s.frameStart ∧ s.feState = FE.HALTED ∧ [48, 49, 50].all (fun r => (s.loop r).u = s.coef r 0x54) then
      s.modMfe (fun m => { m with legsOff := true })
    else s)

/-- SAG_DETECT (R140, R143): the sag condition holds with no class shed, or ends a restoration. -/
def execSagDetect (s : State) : Res State :=
  .next (if s.domainUp 4 ∧ s.mfe.sag ∧ s.mfe.shedAt.isNone ∧ (!s.sagShed ∨ s.restoring) then
      let t := ((s.raise MFE.page 1).incLo MFE.CNT).setRbit mfeSTAT 17 false
      t.modMfe (fun m => { m with ride := s.feState = FE.RUN, shedAt := some (nextMult 8 s.now, true) })
    else s)

/-- CLASS_SHED (R140): at a shedding boundary the lowest running class below 7 sheds, while the sag condition held in the
tick before, or in the first step. -/
def execClassShed (s : State) : Res State :=
  .next (match s.mfe.shedAt with
    | some (b0, first) =>
      let b := if first then b0 else b0 + BitVec.ofNat 64 s.shedStep
      if s.frameStart ∧ b.toNat ≤ s.now.toNat then
        if first || s.mfe.sag then
          let t := match s.lowestRunning with | some c => s.shedClass c | none => s
          let t := t.modMfe (fun m => { m with shedAt := some (b, false), ride := false })
          if t.feState = FE.RUN ∧ s.mfe.ride then t.setFe FE.RIDE else t
        else s.modMfe (fun m => { m with shedAt := none })
      else s
    | none => s)

/-- BUS_UNDERVOLTAGE (R141): the bus below BUS_UV or absent for 8 ticks; every running channel sheds at the next frame
boundary. -/
def execBusUndervoltage (s : State) : Res State :=
  .next (if s.domainUp 4 ∧ 8 ≤ s.mfe.uvRun ∧ (!s.rbit mfeSTAT 16 ∨ s.anyRunning) then
      ((s.setRbit mfeSTAT 16 true).raise MFE.page 5).modMfe (fun m => { m with uvShed := true })
    else s)

/-- RESTORE_BEGIN (R142): the clear condition has held for RESTORE_HOLD whole cycles; UV clears and the highest shed class
is restored. A front end in RIDE without a shed class has nothing to restore and enters RUN. -/
def execRestoreBegin (s : State) : Res State :=
  .next (match s.mfe.clearFrom with
    | some f =>
      if s.frameStart ∧ angleOf s.now = 0 ∧ !s.restoring ∧ (s.highestShed.isSome ∨ s.feState = FE.RIDE)
          ∧ firstWholeCycle f + s.restoreHold ≤ cycleOf s.now then
        let t := (s.setRbit mfeSTAT 16 false).setRbit mfeSTAT 17 true
        (t.modMfe (fun m => { m with shedAt := none })).restoreNext
      else s
    | none => s)

/-- CLASS_RESTORE (R142): RESTORE_GAP cycles after the class before. -/
def execClassRestore (s : State) : Res State :=
  .next (if s.frameStart ∧ angleOf s.now = 0 ∧ s.restoring ∧ s.mfe.restored + s.restoreGap ≤ cycleOf s.now
    then s.restoreNext else s)

/-- CHANNEL_RESTORE_START (R142): at angle 8k of its restore cycle. -/
def execChannelRestoreStart (k : Fin 48) (s : State) : Res State :=
  .next (match (s.chan k).restoreAt with
    | some b =>
      if s.frameStart ∧ b.toNat ≤ s.now.toNat ∧ s.chState k = CH.SHED ∧ s.rbit (CHN.CTRL_K k) 0
      then s.startChannel k (fun t => t.chEvent k 3) else s
    | none => s)

/-- CHANNEL_ENABLE (R145): a write of CHN.CTRL[k] with EN set; `v` gives the other fields. -/
def execChannelEnable (req : Req) (k : Fin 48) (v : Word) (s : State) : Res State :=
  .next (s.busWrite req (CHN.CTRL_K k) (putBit v 0 true) (chCtrlEff k (putBit v 0 true)))

/-- CHANNEL_DISABLE (R145): a write of CHN.CTRL[k] with EN clear; OFF follows at the next frame boundary. -/
def execChannelDisable (req : Req) (k : Fin 48) (v : Word) (s : State) : Res State :=
  .next (s.busWrite req (CHN.CTRL_K k) (putBit v 0 false) (chCtrlEff k (putBit v 0 false)))

/-- CHANNEL_START (R145, R146): at a frame boundary an enabled channel in OFF enters START, or SHED, and a halted one whose
record is rearmed enters START. A killed board's channel is left to R162. -/
def execChannelStart (k : Fin 48) (s : State) : Res State :=
  .next (if s.frameStart ∧ s.rbit (CHN.CTRL_K k) 0 ∧ !s.boardKilled (k.val / 4) then
      let t := s.modChan k (fun c => { c with
        mode := if s.chState k = CH.OFF then s.rbit (CHN.CTRL_K k) 1 else c.mode })
      if s.chState k = CH.OFF then (if s.enableSheds then t.shedAtEnable k else t.startChannel k id)
      else if s.chState k = CH.HALTED ∧ !(s.loop k).halt then s.startChannel k id
      else s
    else s)

/-- START_DONE (R145): r_s equals r_cmd. -/
def execStartDone (k : Fin 48) (s : State) : Res State :=
  .next (if s.frameStart ∧ s.chState k = CH.START ∧ (s.chan k).since ≠ s.now ∧ (s.loop k).rs = s.rCmd k
      ∧ !(s.loop k).halt then (s.setCh k CH.RUN).chEvent k 0
    else s)

/-- CHANNEL_HALT (R145): LRk is halted while the channel runs. -/
def execChannelHalt (k : Fin 48) (s : State) : Res State :=
  .next (if s.frameStart ∧ s.chRunning k ∧ (s.loop k).halt then
      ((s.setCh k CH.HALTED).modChan k (fun c => { c with safeOff := false })).chEvent k 1
    else s)

/-- CHANNEL_SAFE_OFF (R146): u of a halted channel has reached 0. -/
def execChannelSafeOff (k : Fin 48) (s : State) : Res State :=
  .next (if s.frameStart ∧ s.chState k = CH.HALTED ∧ (s.loop k).u = 0 then
      s.modChan k (fun c => { c with safeOff := true })
    else s)

/-- CHANNEL_TRIPPED (R162): at the frame boundary after a kill of its board an enabled channel enters TRIPPED. -/
def execChannelTripped (k : Fin 48) (s : State) : Res State :=
  .next (if s.frameStart ∧ s.boardKilled (k.val / 4) ∧ s.rbit (CHN.CTRL_K k) 0 ∧ s.chState k ≠ CH.TRIPPED then
      (s.setCh k CH.TRIPPED).modChan k (fun c => { c with restoreAt := none, bySag := false })
    else s)

/-- TRIP_RESTART (R163): channel CH(4n + j) leaves TRIPPED at B + 8 × (j + 1) after its board's release. -/
def execTripRestart (k : Fin 48) (s : State) : Res State :=
  .next (if s.frameStart ∧ s.chState k = CH.TRIPPED ∧ s.rbit (CHN.CTRL_K k) 0 ∧ !s.boardKilled (k.val / 4)
      ∧ (Tab.get (fun _ => 0) s.axe.releasedAt (k.val / 4)).toNat + 8 * (k.val % 4 + 1) ≤ s.now.toNat then
      (if s.enableSheds then s.shedAtEnable k else s.startChannel k id)
    else s)

/-- SETPOINT_STAGE (R149): a write of SP_NEXT of a channel, or of BUS_SP_NEXT. -/
def execSetpointStage (req : Req) (k : Option (Fin 48)) (v : Word) (s : State) : Res State :=
  .next (match k with
    | some k => s.busWrite req (CHN.SP_NEXT k) v (spNextEff k v)
    | none => s.busWrite req MFE.BUS_SP_NEXT v (busSpNextEff v))

/-- SETPOINT_ARM (R147): a write of SP_AT_HI. -/
def execSetpointArm (req : Req) (k : Fin 48) (hi : Word) (s : State) : Res State :=
  .next (s.busWrite req (CHN.SP_AT_HI k) hi (spArmEff req k hi))

/-- SETPOINT_APPLY (R147): at boundary B the pending set-point comes into force. -/
def execSetpointApply (k : Fin 48) (s : State) : Res State :=
  .next (match (s.chan k).pend with
    | some (v, b) =>
      if s.frameStart ∧ b.toNat ≤ s.now.toNat then
        ((s.setReg (CHN.SP_CUR k) (word v)).setRbit (CHN.STAT_K k) 4 false).modChan k (fun c => { c with pend := none })
      else s
    | none => s)

/-- BUS_SETPOINT_ARM (R147): a write of BUS_SP_AT_HI. -/
def execBusSetpointArm (req : Req) (hi : Word) (s : State) : Res State :=
  .next (s.busWrite req MFE.BUS_SP_AT_HI hi (busArmEff req hi))

/-- BUS_SETPOINT_APPLY (R147): at boundary B the pending bus set-point comes into force. -/
def execBusSetpointApply (s : State) : Res State :=
  .next (match s.mfe.pend with
    | some (v, b) =>
      if s.frameStart ∧ b.toNat ≤ s.now.toNat then
        (s.setReg MFE.BUS_SP_CUR (word v)).modMfe (fun m => { m with pend := none })
      else s
    | none => s)

end Sys2Proof.Machine
end

