-- ==== Sys2Proof/Machine/StageLink.lean ====
section
/-!
DEFINITION. The stage link (spec/08): launch ticks, command and status frames, and link states.
-/

namespace Sys2Proof.Machine

/-- Link states (R173). -/
def LINK.ABSENT : Nat := 0
def LINK.NEGOTIATE : Nat := 1
def LINK.LINKED : Nat := 2
def LINK.INCOMPATIBLE : Nat := 3
def LINK.MISMATCH : Nat := 4

/-- The link record of board `n`. -/
def State.stlBoard (s : State) (n : Nat) : StlBoard := Tab.get (fun _ => {}) s.stl.boards n

/-- The state with a link record changed. -/
def State.modBoard (s : State) (n : Nat) (f : StlBoard → StlBoard) : State :=
  { s with stl := { s.stl with boards := Tab.put (fun _ => {}) s.stl.boards n (f (s.stlBoard n)) } }

/-- The link state of board `n`. -/
def State.linkState (s : State) (n : Nat) : Nat := s.fld (STL.BRD_STAT n) 2 0

/-- An event of board `n`: bit `b` of INT_FLAG, and EVT (R182). -/
def State.stlEvent (s : State) (n b : Nat) : State := (s.raise STL.page b).setRbit STL.EVT n true

/-- Link `n` in a state; leaving LINKED raises and logs LINK_LOST (R173). -/
def State.setLink (s : State) (n st : Nat) : State :=
  let lost := s.linkState n = LINK.LINKED && st ≠ LINK.LINKED
  let t := s.setFld (STL.BRD_STAT n) 2 0 st
  let t := if lost then { t with stl := { t.stl with lostAt := Tab.put (fun _ => 0) t.stl.lostAt n s.now } } else t
  if lost then (t.stlEvent n 1).log 0x111 (fields [(1, n), (3, 0)]) else t

/-- Link `n` in a state without a version in use: ABSENT, INCOMPATIBLE or MISMATCH (R173, R182). -/
def State.dropLink (s : State) (n st : Nat) : State :=
  ((s.setLink n st).modBoard n (fun b => { b with ver := 0, good := 0 })).setFld (STL.BRD_STAT n) 5 4 0

/-- Every LINKED board lost, as PD4 goes off (R173). -/
def State.dropLinks (s : State) : State :=
  (List.range 13).foldl (fun t n => if t.linkState n = LINK.LINKED then t.dropLink n LINK.ABSENT else t) s

/-- Entry to NEGOTIATE: SEQ starts at 0, no version is chosen and VER_LIMIT is taken (R169, R173, R182); the frames of the
last 32 ticks still wait for their answers (R172). -/
def State.negotiate (s : State) (n : Nat) : State :=
  let t := (s.setLink n LINK.NEGOTIATE).modBoard n (fun b =>
    { launches := b.launches, heard := s.now, limit := s.fld STL.VER_LIMIT 1 0 })
  (t.setFld (STL.BRD_STAT n) 5 4 0).setFld (STL.SEQ n) 15 0 0

/-- A board may be on the link: present, PD4 on, STL.CTRL bit 0 set, and the module driving (R173, R441). -/
def State.linkAllowed (s : State) (n : Nat) : Bool :=
  s.pwr.boards.testBit n && s.domainUp 4 && s.rbit (regCTRL STL.page) 0 && s.driving

/-- Every link brought in line with what allows it: to ABSENT, or from ABSENT to NEGOTIATE. The links of a module that
follows an active read what the last loop epoch reports (R441). -/
def State.stlRefresh (s : State) : State :=
  if s.twn.role = .pairing ∨ s.twn.role = .standby ∨ s.twn.role = .suspect then s
  else (List.range 13).foldl (fun t n =>
    if !t.linkAllowed n then (if t.linkState n = LINK.ABSENT then t else (t.dropLink n LINK.ABSENT).modBoard n (fun _ => {}))
    else if t.linkState n = LINK.ABSENT then t.negotiate n else t) s

/-! ### Command frames (R168, R169) -/

/-- The records that drive outputs of SBn (R168). -/
def boardRecords (n : Nat) : List Nat := if n ≤ 11 then [4 * n, 4 * n + 1, 4 * n + 2, 4 * n + 3] else [48, 49, 50]

/-- The launch set of SBn, bit p for position p (R168). -/
def State.launchSet (s : State) (n : Nat) : Nat :=
  let es := (s.slotTable W0.tableActive).1.filter (fun e =>
    entKIND e.2 = KIND.INNER && (boardRecords n).contains (entRECORD e.2))
  bitsOf (0 :: es.map (fun e => (entTICK e.2 + 1) % 8))

/-- The entry of one output: E_FLAGS, COMPARE and MODE (R169). -/
def State.frameEntry (s : State) (r : Nat) : List Byte :=
  let run := if r < 48 then s.chGate r else !s.mfe.legsOff
  let mode := if r < 48 then (s.chan r).mode.toNat else 2
  bytesBE 1 (run.toNat * 128) ++ bytesBE 2 (s.compareOf r (Tab.get (fun _ => 0) s.cen.latched r)) ++ bytesBE 1 mode

/-- The entries of a command frame to SBn: bytes 16 to 15 + 4N. -/
def State.frameEntries (s : State) (n : Nat) : List Byte := (boardRecords n).flatMap s.frameEntry

/-- A command frame to SBn launched at the present tick (R169). -/
def State.commandFrame (s : State) (n : Nat) : List Byte :=
  let linked := s.linkState n = LINK.LINKED
  let flags := (s.laneState n = LANE.TRAIN : Bool).toNat + (!linked : Bool).toNat * 2
  let body := bytesBE 1 1 ++ bytesBE 1 (s.stlBoard n).ver ++ bytesBE 2 (s.fld (STL.SEQ n) 15 0)
    ++ bytesBE 4 s.claim ++ bytesBE 4 (shortOf s.now).toNat ++ bytesBE 1 flags
    ++ bytesBE 1 (boardRecords n).length ++ bytesBE 2 0 ++ s.frameEntries n
  body ++ bytesBE 4 (crc32 body)

/-- One command frame sent, its SEQ taken and kept for the answers of the next 32 ticks (R172). -/
def State.launchFrame (s : State) (n : Nat) : State :=
  let q := s.fld (STL.SEQ n) 15 0
  let t := s.emit (.stageFrame n (s.commandFrame n))
  let t := t.modBoard n (fun b => { b with
    launches := (b.launches.filter (fun l => s.now.toNat ≤ l.2.1.toNat + 32)) ++ [(q, s.now, false)] })
  let t := { t with stl := { t.stl with launched := t.stl.launched ++ s.frameEntries n } }
  t.setFld (STL.SEQ n) 15 0 (q + 1)

/-! ### Status frames (R171 to R175) -/

/-- A status frame is good: 24 bytes of TYPE 2 whose CRC checks, received without a code violation (R167). -/
def statusGood (clean : Bool) (f : List Byte) : Bool :=
  clean && f.length = 24 && natBE (f.take 1) = 2 && natBE (f.drop 20) = crc32 (f.take 20)

/-- Bytes i to i + n − 1 of a frame as a number. -/
def field (f : List Byte) (i n : Nat) : Nat := natBE ((f.drop i).take n)

/-- The version chosen from a board's range (R173); 0 when the range is empty. -/
def chooseVersion (lo hi limit : Nat) : Nat := let v := min hi limit; if max lo 1 ≤ v then v else 0

/-- What an accepted status writes to the registers of its board. -/
def State.statusRegs (s : State) (n : Nat) (f : List Byte) : State :=
  let flags := field f 12 2
  let old := s.fld (STL.BRD_ID n) 31 16
  let t := s.setFld (STL.SEQ n) 31 16 (field f 2 2)
  let t := t.setReg (STL.BRD_INFO n) (word (field f 8 1 + field f 9 1 * 2 ^ 8 + field f 10 1 * 2 ^ 16 + field f 14 1 * 2 ^ 24))
  let t := t.setReg (STL.BRD_ID n) (word (field f 18 2 + flags * 2 ^ 16))
  let t := t.setReg (STL.BRD_ERR n) (word (field f 15 1 + field f 16 1 * 2 ^ 8 + field f 17 1 * 2 ^ 16))
  let t := t.setReg (STL.CLAIM_SEEN n) (word (field f 4 4))
  let t := (t.setRbit (STL.BRD_STAT n) 12 (flags.testBit 0)).setRbit (STL.BRD_STAT n) 13 (flags.testBit 1)
  let out := s.claim < field f 4 4
  let t := t.setRbit (STL.BRD_STAT n) 14 out
  let t := if out then t.stlEvent n 4 else t
  let t := if flags.testBit 1 && !old.testBit 1 then t.stlEvent n 5 else t
  if flags.testBit 4 && !old.testBit 4 then t.stlEvent n 6 else t

/-- The link state after an accepted status (R173). -/
def State.statusLink (s : State) (n : Nat) (f : List Byte) : State :=
  let b := s.stlBoard n
  if s.linkState n = LINK.LINKED then (if field f 1 1 = b.ver then s else s.negotiate n)
  else if s.linkState n = LINK.NEGOTIATE then
    let front := field f 10 1 = 1
    if front ≠ (n = 12) then (s.dropLink n LINK.MISMATCH).stlEvent n 3
    else if b.ver = 0 then
      let v := chooseVersion (field f 8 1) (field f 9 1) b.limit
      if v = 0 then (s.dropLink n LINK.INCOMPATIBLE).stlEvent n 2
      else (s.modBoard n (fun b => { b with ver := v, good := 0 })).setFld (STL.BRD_STAT n) 5 4 v
    else
      let good := if field f 1 1 = b.ver then b.good + 1 else 0
      let t := s.modBoard n (fun b => { b with good := good })
      if good = 8 then
        let lag := field f 11 1 % 8
        let t := ((t.setLink n LINK.LINKED).setFld (STL.BRD_STAT n) 10 8 lag).stlEvent n 0
        t.log 0x110 (fields [(1, n), (1, b.ver), (1, lag), (1, 0)])
      else t
  else s

/-- A status frame received from SBn (R172). -/
def State.receiveStatus (s : State) (n : Nat) (clean : Bool) (f : List Byte) : State :=
  let b := s.stlBoard n
  let answers := b.launches.any (fun l => l.1 = field f 2 2 && decide (s.now.toNat ≤ l.2.1.toNat + 32))
  if statusGood clean f && answers then
    let t := s.modBoard n (fun b => { b with
      heard := s.now, launches := b.launches.map (fun l => if l.1 = field f 2 2 then (l.1, l.2.1, true) else l) })
    (t.statusRegs n f).statusLink n f
  else s.incLo (STL.RX_ERR n)

/-! ### Control -/

/-- A write of STL.CTRL (R182): clearing bit 0, or bit 1, is refused while a RUN_EN bit is set. -/
def stlCtrlEff (v : Word) (s : State) : State × WriteResult :=
  let busy := s.fld AXE.RUN_EN 12 0 ≠ 0
  let a := regCTRL STL.page
  if bit v 1 then
    if busy then (s, .refused)
    else
      let t := s.dropLinks
      ({ t.resetPageRegs STL.page with stl := {} }, .done)
  else if bit v 0 then ((s.setReg a 1).stlRefresh, .done)
  else if s.rbit a 0 && busy then (s, .refused)
  else ((s.setReg a 0).stlRefresh, .done)

/-- A write of VER_LIMIT (R182): INCOMPATIBLE boards return to NEGOTIATE. -/
def verLimitEff (v : Word) (s : State) : State × WriteResult :=
  let (t, r) := s.store STL.VER_LIMIT v
  (((List.range 13).filter (fun n => s.linkState n = LINK.INCOMPATIBLE)).foldl (fun t n => t.negotiate n) t, r)

/-- The effect of a write on the STL page. -/
def stlEff (req a : Nat) (v : Word) (s : State) : State × WriteResult :=
  if a = regCTRL STL.page then stlCtrlEff v s
  else if a = STL.VER_LIMIT then verLimitEff v s
  else s.plainWrite req a v

/-- The computed registers of the STL page: STAT, LAUNCH, and the sense-training flag being sent (R87). -/
def State.stlView (s : State) (a : Nat) : Option Word :=
  if a = regSTAT STL.page then
    let linked := bitsOf ((List.range 13).filter (fun n => s.linkState n = LINK.LINKED))
    some (word (linked + ((List.range 13).any (fun n => s.rbit (STL.BRD_STAT n) 14)).toNat * 2 ^ 16))
  else
    let n := (a % 0x1000 - 0x100) / 0x20
    if 0x100 ≤ a % 0x1000 ∧ n < 13 ∧ a = STL.LAUNCH n then some (word (s.launchSet n))
    else if 0x100 ≤ a % 0x1000 ∧ n < 13 ∧ a = STL.BRD_STAT n then
      some (putBit (s.reg a) 15 (s.laneState n = LANE.TRAIN && s.linkState n ≠ LINK.ABSENT))
    else none

/-! ### The commands -/

/-- The entries a standby computes for a board it launches nothing to (R441, R455). -/
def State.shadowFrame (s : State) (n : Nat) : State :=
  { s with stl := { s.stl with launched := s.stl.launched ++ s.frameEntries n } }

/-- COMMAND_FRAME_LAUNCH (R168): in a launch tick a command frame goes to every board whose link is not ABSENT and whose
launch set holds the tick's position; a standby computes the entries and sends nothing (R441, R458). -/
def execCommandFrameLaunch (s : State) : Res State :=
  .next (if s.domainUp 4 ∧ (s.driving ∨ s.twn.role = .standby) then
      let pos := angleOf s.now % 8
      let ns := (List.range 13).filter (fun n => s.linkState n ≠ LINK.ABSENT && (s.launchSet n).testBit pos)
      let t := { s with stl := { s.stl with launchedAt := s.now, launched := [] } }
      ns.foldl (if s.driving then State.launchFrame else State.shadowFrame) t
    else s)

/-- STATUS_FRAME_RECEIVE (R172): a frame from SBn, `clean` when it came without a code violation. -/
def execStatusFrameReceive (n : Fin 13) (clean : Bool) (f : List Byte) (s : State) : Res State :=
  .next (if s.linkState n ≠ LINK.ABSENT then s.receiveStatus n clean f else s)

/-- ANSWER_MISSING (R172): a command frame to SBn has had no accepted answer for 2 ticks. -/
def execAnswerMissing (n : Fin 13) (s : State) : Res State :=
  let late := fun (l : Nat × Stamp × Bool) => !l.2.2 && decide (l.2.1.toNat + 2 ≤ s.now.toNat)
  .next (match (s.stlBoard n).launches.find? late with
    | some l =>
      (s.modBoard n (fun b => { b with
        launches := b.launches.map (fun m => if m.1 = l.1 then (m.1, m.2.1, true) else m) })).incHi (STL.RX_ERR n)
    | none => s)

/-- STL_LINK_LOST (R173): no accepted status for 32 ticks. -/
def execStlLinkLost (n : Fin 13) (s : State) : Res State :=
  .next (if s.linkState n = LINK.LINKED ∧ (s.stlBoard n).heard.toNat + 32 ≤ s.now.toNat then s.negotiate n else s)

/-- STL_ENABLE (R173): a write of STL.CTRL with bit 0 set. -/
def execStlEnable (req : Req) (s : State) : Res State := .next (s.busWrite req (regCTRL STL.page) 1 (stlCtrlEff 1))

/-- STL_DISABLE (R182): a write of STL.CTRL with bit 0 clear. -/
def execStlDisable (req : Req) (s : State) : Res State := .next (s.busWrite req (regCTRL STL.page) 0 (stlCtrlEff 0))

/-- VER_LIMIT_WRITE (R182). -/
def execVerLimitWrite (req : Req) (v : Word) (s : State) : Res State :=
  .next (s.busWrite req STL.VER_LIMIT v (verLimitEff v))

end Sys2Proof.Machine
end

