-- ==== Sys2Proof/Machine/Lighting.lean ====
section
/-!
DEFINITION. Dimming, pattern engines and lamp diagnostics (spec/10), and the tick of the control engine with everything
that follows its evaluations.
-/

namespace Sys2Proof.Machine

/-! ### Levels and gamma (R209, R210) -/

/-- What pattern engine `e` keeps. -/
def State.pe (s : State) (e : Nat) : PatternEngine := Tab.get (fun _ => {}) s.lgt.engines e

/-- The state with an engine's record changed. -/
def State.modPe (s : State) (e : Nat) (f : PatternEngine → PatternEngine) : State :=
  { s with lgt := { s.lgt with engines := Tab.put (fun _ => {}) s.lgt.engines e (f (s.pe e)) } }

/-- States of an engine (PE_STAT). -/
def PE.IDLE : Nat := 0
def PE.ARMED : Nat := 1
def PE.RUNNING : Nat := 2
def PE.DONE : Nat := 3

/-- The state code of engine `e`. -/
def State.peState (s : State) (e : Nat) : Nat := s.fld (LGT.PE_STAT e) 1 0

/-- The engine channel `k` is a member of (R217). -/
def State.memberOf (s : State) (k : Nat) : Option Nat :=
  if s.rbit (LGT.CH_CFG k) 8 && s.dimmed k then some (s.fld (LGT.CH_CFG k) 14 12) else none

/-- The members of engine `e`. -/
def State.members (s : State) (e : Nat) : List Nat := (List.range 48).filter (fun k => s.memberOf k = some e)

/-- The engine that gives channel `k` its level: RUNNING or DONE (R209). -/
def State.drivenBy (s : State) (k : Nat) : Option Nat :=
  match s.memberOf k with
  | some e => if s.peState e = PE.RUNNING ∨ s.peState e = PE.DONE then some e else none
  | none => none

/-- Entry `j` of gamma table `g`. -/
def State.gamma (s : State) (g j : Nat) : Nat := (s.winWord (0x50900000 + 0x800 * g + 4 * j)).toNat

/-- The linear level of R210. -/
def State.linOf (s : State) (g x : Nat) : Nat :=
  if 65536 ≤ x then s.gamma g 256
  else
    let j := x / 256
    let d : Int := (s.gamma g (j + 1) : Int) - s.gamma g j
    ((s.gamma g j : Int) + (d * (x % 256 : Nat) + 128) / 256).toNat

/-! ### Pattern programs (R214, R215) -/

/-- Words 0 and 1 of step `n` of engine `e`. -/
def State.stepWords (s : State) (e n : Nat) : Word × Word :=
  (s.winWord (0x50910000 + 0x200 * e + 8 * n), s.winWord (0x50910004 + 0x200 * e + 8 * n))

/-- Operations of a step. -/
def OP.END : Nat := 0
def OP.LEVEL : Nat := 1
def OP.JUMP : Nat := 2
def OP.LOOP : Nat := 3

/-- The search for the next LEVEL or END step: the member copy, and whether the program is in error (R215). -/
def State.findStep (s : State) (e : Nat) : Nat → LgtCh → LgtCh × Bool
  | 0, c => (c, true)
  | fuel + 1, c =>
    if 63 < c.step then (c, true)
    else
      let (w0, w1) := s.stepWords e c.step
      let op := bits w0 21 20
      let arg := bits w0 29 24
      let fade := bits w1 15 0
      if op = OP.END then ({ c with ended := true }, false)
      else if op = OP.LEVEL then
        ({ c with from_ := c.lvl, t := 0, dur := max (fade + bits w1 31 16) 1, needStep := false }, false)
      else if op = OP.JUMP then s.findStep e fuel { c with step := arg }
      else if fade = 0 then s.findStep e fuel { c with step := arg }
      else
        let cnt := (if c.cnt = 0 then fade else c.cnt) - 1
        s.findStep e fuel { c with cnt := cnt, step := if cnt ≠ 0 then arg else c.step + 1 }

/-- One dim period of a member copy that has no error: the fade and hold of its LEVEL step. -/
def State.fadeStep (s : State) (e : Nat) (c : LgtCh) : LgtCh :=
  if c.ended || c.needStep then c
  else
    let (w0, w1) := s.stepWords e c.step
    let level := min (bits w0 16 0) 65536
    let fade := bits w1 15 0
    let t := c.t + 1
    let lvl := if fade ≤ t then level
      else ((c.from_ : Int) + (((level : Int) - c.from_) * 2 * t + fade) / (2 * fade : Nat)).toNat
    if t = c.dur then { c with t := t, lvl := lvl, step := c.step + 1, needStep := true } else { c with t := t, lvl := lvl }

/-- A member of a RUNNING engine at a dim-period boundary (R215 to R217). -/
def State.memberStep (s : State) (k e : Nat) : State :=
  let pe := s.pe e
  let c := s.lgtCh k
  let init := min (s.fld (LGT.PE_INIT e) 16 0) 65536
  let c := if c.engine = some e then c
    else { c with engine := some e, step := 0, t := 0, dur := 0, lvl := init, cnt := 0, needStep := true, ended := false }
  let begins := pe.began.toNat + 64 * (s.fld (LGT.CH_CFG k) 21 16 * s.fld (LGT.PE_CFG e) 15 0)
  if pe.errorAt.isSome || s.peState e ≠ PE.RUNNING || s.now.toNat < begins then s.modLgtCh k (fun _ => c)
  else
    let (c, err) := if c.needStep && !c.ended then s.findStep e 64 c else (c, false)
    if err then
      let t := (s.modLgtCh k (fun _ => c)).modPe e (fun p => { p with errorAt := some s.now })
      let t := (t.setRbit (LGT.PE_STAT e) 17 true).raise LGT.page 4
      t.log 0x142 (fields [(1, e), (1, k), (1, c.step), (1, 0)])
    else s.modLgtCh k (fun _ => s.fadeStep e c)

/-- Engine `e` in a state; PE_SUM shows the RUNNING ones in its view. -/
def State.setPe (s : State) (e st : Nat) : State := s.setFld (LGT.PE_STAT e) 1 0 st

/-- Engine `e` at a dim-period boundary: a STOP that waits, which leaves a start armed after it, its members, and DONE once they have all ended (R216). -/
def State.enginePeriod (s : State) (e : Nat) : State :=
  if (s.pe e).stop then
    let again := (s.pe e).afterStop && (s.pe e).pend.isSome
    (s.setPe e (if again then PE.ARMED else PE.IDLE)).modPe e (fun p => { p with
      stop := false, afterStop := false, pend := if again then p.pend else none, errorAt := none })
  else if s.peState e = PE.RUNNING ∨ s.peState e = PE.DONE then
    let ms := s.members e
    let t := ms.foldl (fun t k => t.memberStep k e) s
    if t.peState e = PE.RUNNING ∧ !ms.isEmpty ∧ (t.pe e).errorAt.isNone ∧ ms.all (fun k => (t.lgtCh k).ended) then
      (t.setPe e PE.DONE).raise LGT.page 2
    else t
  else s

/-! ### Dim periods (R211 to R213) -/

/-- SETTLE_FR + 1: the frames a measurable burst must have (R211). -/
def State.burstMin (s : State) : Nat := bits s.lgt.diag 9 8 + 1

/-- A dimmed channel in START or RUN at a dim-period boundary (R211): its amplitude, burst and ledger, OUT, and
the string check that falls due (R220). -/
def State.dimChannel (s : State) (k amin : Nat) : State :=
  let c := s.lgtCh k
  let e := s.drivenBy k
  let x := if e.isSome then c.lvl else s.fld (LGT.LVL_CUR k) 16 0
  let lin := s.linOf (s.fld (LGT.CH_CFG k) 2 0) x
  let o := s.fld (LGT.CH_CFG k) 6 4
  let m := s.burstMin
  let dia := s.rbit (regCTRL DIA.page) 0
  let full := decide (amin ≤ lin)
  let amp := if full then lin else amin
  let acc := c.acc + (lin * 8 : Nat)
  let n0 := if full then 8 else if acc < 0 then 0 else min 8 (acc / (amin : Int)).toNat
  let forced := !full && decide (bits s.lgt.diag 7 0 ≤ c.dcnt) && dia && decide (0 < lin) && decide (0 ≤ acc)
  let stretched := forced && decide (n0 < m)
  let n := if stretched then m else n0
  let due := full || forced || decide (m ≤ n)
  let acc := if full then c.acc else if 0 ≤ acc then acc - (n * amin : Nat) else acc
  let rEff := (s.rCmdFull k * (amp : Int) + 2 ^ 15) / 2 ^ 16
  let first := s.now.toNat / 8 + o
  let t := s.modLgtCh k (fun c => { c with
    acc := acc, dcnt := if due then 0 else min (c.dcnt + 1) 255, burst := (first, n), lastBurst := c.burst, rEff := some rEff })
  let steady := s.chState k = CH.RUN && decide ((s.loop k).rs = rEff)
  let t := t.modLgtCh k (fun c => { c with
    checks := c.checks.filter (fun q => decide (s.now.toNat ≤ q.last.toNat + 24)) ++
      (if due && decide (m ≤ n) && dia && steady then
        [{ start := s.now, last := BitVec.ofNat 64 ((first + n - 1) * 8), rEff := rEff }] else []) })
  let late := s.rbit (LGT.OUT k) 28
  let t := t.setReg (LGT.OUT k) (word (lin + n * 2 ^ 20 + (!full : Bool).toNat * 2 ^ 24 + e.isSome.toNat * 2 ^ 25
    + stretched.toNat * 2 ^ 26 + late.toNat * 2 ^ 28))
  if stretched then t.incHi (LGT.CNT k) else t

/-- A channel that is not dimmed: lin 65 536, n 8, and an empty ledger (R208, R213). Its burst is that of n = 8, so a channel
that becomes dimmed within the period stays on until the next one (R212). -/
def State.dimNone (s : State) (k : Nat) : State :=
  let late := s.rbit (LGT.OUT k) 28
  let t := s.modLgtCh k (fun c => { c with
    acc := 0, dcnt := 0, burst := (s.now.toNat / 8 + s.fld (LGT.CH_CFG k) 6 4, 8), lastBurst := c.burst, rEff := none, checks := [] })
  t.setReg (LGT.OUT k) (word (65536 + 8 * 2 ^ 20 + late.toNat * 2 ^ 28))

/-- The work of a dim-period boundary (R211, R213, R215). -/
def State.dimPeriod (s : State) : State :=
  let s := { s with lgt := { s.lgt with diag := s.reg DIA.DIAG_CFG } }
  let t := (List.range 8).foldl State.enginePeriod s
  let amin := s.fld LGT.CFG 16 0
  let t := if amin = s.lgt.amin then t
    else
      let t := (List.range 48).foldl (fun t k => t.modLgtCh k (fun c => { c with acc := 0, dcnt := 0 })) t
      { t with lgt := { t.lgt with amin := amin } }
  (List.range 48).foldl (fun t k =>
    if !t.dimmed k then t.dimNone k else if t.chRunning k then t.dimChannel k amin else t) t

/-- A dim period begins (R211). -/
def State.dimStart (s : State) : Bool := s.domainUp 4 && s.rctState ≠ RCT.IDLE && s.now.toNat % 64 = 0

/-! ### Diagnostics (R220 to R223) -/

/-- A channel is in RUN with RAMP 0. -/
def State.steady (s : State) (k : Nat) : Bool := s.chState k = CH.RUN && decide ((s.loop k).rs = s.rCmd k)

/-- After a tick's evaluations: a check to come is dropped when its period was not steady throughout, and the sums of a
feeder check take the samples of the tick before (R220, R222). -/
def State.diaTick (s : State) (k : Nat) : State :=
  let i := s.lastSample (chCurrent k)
  let v := s.lastSample (chVoltage k)
  let ok := s.steady k
  s.modLgtCh k (fun c =>
    let checks := c.checks.filter (fun q => ok || !decide (s.now.toNat < q.start.toNat + 64))
    let added := match c.sums with
      | some (a, b) => if i.valid && v.valid then some (a + i.value, b + v.value) else none
      | none => none
    let ok := ok && !(s.chan k).mode
    if angleOf s.now = 0 then { c with checks := checks, ready := added, sums := if ok then some (0, 0) else none }
    else { c with checks := checks, sums := if ok then added else none })

/-- Results of a check: 1 OK, 2 OPEN, 3 SHORT, as D_STAT codes them. -/
def DIA.OK : Nat := 1
def DIA.isOPEN : Nat := 2
def DIA.isSHORT : Nat := 3

/-- The OPEN and SHORT bitmaps of channel `k`. -/
def State.diaMaps (s : State) (k st : Nat) : State :=
  let o := if k < 32 then DIA.OPEN_LO else DIA.OPEN_HI
  let sh := if k < 32 then DIA.SHORT_LO else DIA.SHORT_HI
  (s.setRbit o (k % 32) (st = DIA.isOPEN)).setRbit sh (k % 32) (st = DIA.isSHORT)

/-- The result of a check of stamp `at_` taken into D_STAT (R223). -/
def State.takeResult (s : State) (k r : Nat) (at_ : Stamp) (mi mv : Int) : State :=
  let a := DIA.D_STAT k
  let same := (s.lgtCh k).result = some r
  let n := if same then min (s.fld a 7 4 + 1) 15 else 1
  let t := (s.modLgtCh k (fun c => { c with result := some r })).setFld a 7 4 n
  let t := t.incHi a
  let old := s.fld a 1 0
  if bits s.lgt.diag 19 16 ≤ n ∧ old ≠ r then
    let t := (t.setFld a 1 0 r).diaMaps k r
    let t := t.logAt 0x150 at_ (fields [(1, k), (1, (s.chan k).mode.toNat), (1, old), (1, r), (4, unsigned 32 mi), (4, unsigned 32 mv)])
    if r = DIA.isOPEN then t.raise DIA.page 0
    else if r = DIA.isSHORT then t.raise DIA.page 1
    else if old = 0 then t else t.raise DIA.page 2
  else t

/-- Thresholds in sample units (R221). -/
def State.vOpen (s : State) (k : Nat) : Int := (s.fld (DIA.V_OPEN k) 18 0 * 2048 / 125 : Nat)
def State.vShort (s : State) (k : Nat) : Int := (s.fld (DIA.V_SHORT k) 18 0 * 2048 / 125 : Nat)

/-! ### Writes -/

/-- The level `n` of a string armed for a stamp (R209). -/
def State.armLevel (s : State) (k n : Nat) (st : Stamp) : State :=
  let b := s.boundFor 8 st
  let t := s.modLgtCh k (fun c => { c with pend := some (n, b.1) })
  t.armLate st b.2 (LGT.OUT k) 28 (fun u =>
    ((u.incLo (LGT.CNT k)).raise LGT.page 0).log 0x140 (fields [(1, k), (3, 0), (8, st.toNat), (8, b.1.toNat)]))

/-- A write of LVL_AT_HI arms the staged level (R209). -/
def lvlArmEff (req k : Nat) (v : Word) (s : State) : State × WriteResult :=
  let p := s.loadPair req (LGT.LVL_AT_HI k) v
  let st := p.1.reg64 (LGT.LVL_AT_LO k) (LGT.LVL_AT_HI k)
  let n := s.fld (LGT.LVL_NEXT k) 16 0
  (if s.domainUp 4 then p.1.armLevel k n st else p.1.defer (.level k n st), p.2)

/-- A pattern engine armed for a stamp (R216). -/
def State.armEngine (s : State) (e : Nat) (st : Stamp) : State :=
  let b := s.boundFor 64 st
  let t := s.modPe e (fun x => { x with pend := some b.1, afterStop := x.stop })
  let t := if t.peState e = PE.IDLE then t.setPe e PE.ARMED else t
  let t := if b.2 then t else t.setRbit (LGT.PE_STAT e) 17 false
  t.armLate st b.2 (LGT.PE_STAT e) 16 (fun u =>
    (u.raise LGT.page 3).log 0x141 (fields [(1, e), (3, 0), (8, st.toNat), (8, b.1.toNat)]))

/-- A write of PE_START_HI arms an engine (R216), while PD4 is off when it comes up (R72); refused before first lock
(R24). -/
def peArmEff (req e : Nat) (v : Word) (s : State) : State × WriteResult :=
  if !s.firstLock then (s, .refused)
  else
    let p := s.loadPair req (LGT.PE_START_HI e) v
    let st := p.1.reg64 (LGT.PE_START_LO e) (LGT.PE_START_HI e)
    (if s.domainUp 4 then p.1.armEngine e st else p.1.defer (.engine e st), p.2)

/-- The soft reset of the LGT page (R79): levels, ledgers, bursts and engines; what DIA keeps stays. -/
def State.lgtReset (s : State) : State :=
  let kept := s.lgt.chs.map (fun p => (p.1, { ({} : LgtCh) with
    checks := p.2.checks, result := p.2.result, sums := p.2.sums, ready := p.2.ready }))
  { s.resetPageRegs LGT.page with lgt := { chs := kept.filter (fun p => p.2 ≠ {}), diag := s.lgt.diag } }

/-- The effect of a write on the LGT page. -/
def lgtEff (req a : Nat) (v : Word) (s : State) : State × WriteResult :=
  let off := a % 0x1000
  let k := (off - 0x100) / 0x20
  let e := (off - 0x800) / 0x20
  if a = regCTRL LGT.page then
    if bit v 1 then (s.lgtReset, .done)
    else
      let t := s.setReg a (word (bits v 0 0))
      ((List.range 48).foldl (fun t k => s.dimEnded t k) t, .done)
  else if 0x100 ≤ off ∧ off < 0x700 ∧ a = LGT.CH_CFG k then
    let (t, r) := s.store a v
    (if t.memberOf k = s.memberOf k then t else t.modLgtCh k (fun c => { c with engine := none }), r)
  else if 0x100 ≤ off ∧ off < 0x700 ∧ a = LGT.LVL_AT_HI k then lvlArmEff req k v s
  else if 0x800 ≤ off ∧ off < 0x900 then
    if a = LGT.PE_CTRL e then
      ((if bit v 0 then s.modPe e (fun p => { p with stop := true }) else s), .done)
    else if (a = LGT.PE_CFG e ∨ a = LGT.PE_INIT e) ∧ s.peState e ≠ PE.IDLE then (s, .refused)
    else if a = LGT.PE_START_HI e then peArmEff req e v s
    else s.plainWrite req a v
  else s.plainWrite req a v

/-- A write at an address of W6 (R214, R217, R219, R225). -/
def w6Eff (a : Nat) (v : Word) (s : State) : State × WriteResult :=
  let off := a % 0x100000
  if off < 0x4000 ∧ off % 0x800 ≤ 0x400 then
    let g := off / 0x800
    if (List.range 48).any (fun k => s.dimmed k && s.fld (LGT.CH_CFG k) 2 0 = g) then (s, .refused)
    else
      let (w, c) := fitWord [{ hi := 16, lo := 0, fit := .within 0 65536 }] 0 v
      (s.setWin a w, .ofClamp c)
  else if 0x10000 ≤ off ∧ off < 0x11000 then
    if s.peState ((off - 0x10000) / 0x200) ≠ PE.IDLE then (s, .refused)
    else if off % 8 = 0 then
      let (w, c) := fitWord [{ hi := 16, lo := 0, fit := .within 0 65536 }, { hi := 21, lo := 20, fit := .any },
        { hi := 29, lo := 24, fit := .any }] 0 v
      (s.setWin a w, .ofClamp c)
    else (s.setWin a v, .done)
  else (s, .refused)

/-- The effect of a write on the DIA page. -/
def diaEff (req a : Nat) (v : Word) (s : State) : State × WriteResult :=
  let k := (a % 0x1000 - 0x100) / 0x10
  if a = regCTRL DIA.page then
    if bit v 1 then
      let t := s.resetPageRegs DIA.page
      ((List.range 48).foldl (fun t k => t.modLgtCh k (fun c =>
        { c with checks := [], result := none, sums := none, ready := none })) t, .done)
    else (s.setReg a (word (bits v 0 0)), .done)
  else if 0x100 ≤ a % 0x1000 ∧ a = DIA.D_CLR k then
    (if bit v 0 then
      ((((s.setFld (DIA.D_STAT k) 1 0 0).setFld (DIA.D_STAT k) 7 4 0).modLgtCh k (fun c => { c with result := none })).diaMaps
        k 0, .done)
    else (s, .done))
  else s.plainWrite req a v

/-- The computed registers of the LGT page: PE_SUM, LEDGER, and the step and member count of PE_STAT. -/
def State.lgtView (s : State) (a : Nat) : Option Word :=
  let e := (a % 0x1000 - 0x800) / 0x20
  let k := (a % 0x1000 - 0x100) / 0x20
  if 0x100 ≤ a % 0x1000 ∧ a % 0x1000 < 0x700 ∧ a = LGT.LEDGER k then some (iword (s.lgtCh k).acc)
  else if a = LGT.PE_SUM then some (word (bitsOf ((List.range 8).filter (fun e => s.peState e = PE.RUNNING))))
  else if 0x800 ≤ a % 0x1000 ∧ a = LGT.PE_STAT e then
    let ms := s.members e
    let order := fun k => s.fld (LGT.CH_CFG k) 21 16
    let low := ms.foldl (fun (b : Option Nat) k =>
      match b with | none => some k | some j => if order k < order j then some k else b) none
    let step := match low with | some k => (s.lgtCh k).step | none => 0
    some (putBits (putBits (s.reg a) 13 8 step) 29 24 ms.length)
  else none

/-! ### The commands -/

/-- CEN_TICK_EXEC (R105): the tick in the engine: the work of a frame boundary, the entries of the tick, then the sag
conditions and the diagnostics that watch it. -/
def execCenTickExec (s : State) : Res State :=
  .next (if s.domainUp 4 ∧ s.rctState ≠ RCT.IDLE then
      (List.range 48).foldl State.diaTick (State.cenTick (if s.frameStart then s.mfeFrame else s)).mfeTick
    else s)

/-- DIM_PERIOD (R211): the work of a dim-period boundary. -/
def execDimPeriod (s : State) : Res State := .next (if s.dimStart then s.dimPeriod else s)

/-- PATTERN_ERROR_IDLE (R216): at the dim-period boundary after an error the engine returns to IDLE. -/
def execPatternErrorIdle (e : Fin 8) (s : State) : Res State :=
  .next (match (s.pe e).errorAt with
    | some st =>
      if s.dimStart ∧ st.toNat < s.now.toNat then (s.setPe e PE.IDLE).modPe e (fun p => { p with errorAt := none }) else s
    | none => s)

/-- LEVEL_ARM (R209): a write of LVL_AT_HI. -/
def execLevelArm (req : Req) (k : Fin 48) (hi : Word) (s : State) : Res State :=
  .next (s.busWrite req (LGT.LVL_AT_HI k) hi (lvlArmEff req k hi))

/-- LEVEL_APPLY (R209): at boundary B the staged level comes into force. -/
def execLevelApply (k : Fin 48) (s : State) : Res State :=
  .next (match (s.lgtCh k).pend with
    | some (v, b) =>
      if s.frameStart ∧ b.toNat ≤ s.now.toNat then
        (s.setReg (LGT.LVL_CUR k) (word v)).modLgtCh k (fun c => { c with pend := none })
      else s
    | none => s)

/-- PATTERN_ARM (R216): a write of PE_START_HI. -/
def execPatternArm (req : Req) (e : Fin 8) (hi : Word) (s : State) : Res State :=
  .next (s.busWrite req (LGT.PE_START_HI e) hi (peArmEff req e hi))

/-- PATTERN_BEGIN (R216): at boundary D the engine enters RUNNING, and its members begin afresh; a STOP written
since it was armed returns it to IDLE at that boundary instead. -/
def execPatternBegin (e : Fin 8) (s : State) : Res State :=
  .next (match (s.pe e).pend with
    | some d =>
      if s.dimStart ∧ d.toNat ≤ s.now.toNat ∧ ((s.pe e).stop → (s.pe e).afterStop) then
        let t := (s.setPe e PE.RUNNING).modPe e (fun p => { p with pend := none, began := d, errorAt := none, stop := false, afterStop := false })
        let t := (t.setReg64 (LGT.PE_BEGAN_LO e) (LGT.PE_BEGAN_HI e) d).raise LGT.page 1
        (List.range 48).foldl (fun t k => t.modLgtCh k (fun c =>
          { c with engine := if c.engine = some e.val then none else c.engine })) t
      else s
    | none => s)

/-- PATTERN_STOP (R216): a write of PE_CTRL.STOP. -/
def execPatternStop (req : Req) (e : Fin 8) (s : State) : Res State :=
  .next (s.busWrite req (LGT.PE_CTRL e) 1 (lgtEff req (LGT.PE_CTRL e) 1))

/-- STRING_CHECK (R220, R221): the samples of ticks B + 8 to B + 11 after a measurable burst, once they are released. -/
def execStringCheck (k : Fin 48) (s : State) : Res State :=
  .next (match (s.lgtCh k).checks with
    | q :: rest =>
      if s.rbit (regCTRL DIA.page) 0 ∧ max (q.last.toNat + 12) (q.start.toNat + 64) ≤ s.now.toNat then
        let at_ := fun i (d : Nat) => s.sampleAt i (q.last + 8 + BitVec.ofNat 64 d)
        let is := [0, 1, 2, 3].map (at_ (chCurrent k))
        let vs := [0, 1, 2, 3].map (at_ (chVoltage k))
        let t := s.modLgtCh k (fun c => { c with checks := rest })
        if (is ++ vs).all (·.valid) && decide (s.now.toNat ≤ q.last.toNat + 24) then
          let mi : Int := (is.map (·.value)).foldl (· + ·) 0 / 4
          let mv : Int := (vs.map (·.value)).foldl (· + ·) 0 / 4
          let half : Int := q.rEff / 2 ^ 7 / 2
          let r := if s.vOpen k ≤ mv ∧ mi < half then DIA.isOPEN
            else if mv < s.vShort k ∧ half ≤ mi then DIA.isSHORT else DIA.OK
          t.takeResult k r q.start mi mv
        else t
      else s
    | [] => s)

/-- FEEDER_CHECK (R222): the means of the cycle before, which a feeder-mode channel spent in RUN with RAMP 0; its stamp is
that of C:0 (log entry 94). -/
def execFeederCheck (k : Fin 48) (s : State) : Res State :=
  .next (match (s.lgtCh k).ready with
    | some (a, b) =>
      let t := s.modLgtCh k (fun c => { c with ready := none })
      if s.rbit (regCTRL DIA.page) 0 then
        let mi := a / 4096
        let mv := b / 4096
        let r := if mv < s.vShort k then DIA.isSHORT
          else if mi < (s.fld DIA.FOPEN_I 15 0 * 32768 / 125 : Nat) then DIA.isOPEN else DIA.OK
        t.takeResult k r (stamp (cycleOf s.now - 1) 0) mi mv
      else t
    | none => s)

/-- DIAG_CLEAR (R223): a write of D_CLR. -/
def execDiagClear (req : Req) (k : Fin 48) (s : State) : Res State :=
  .next (s.busWrite req (DIA.D_CLR k) 1 (diaEff req (DIA.D_CLR k) 1))

end Sys2Proof.Machine
end

