-- ==== Sys2Proof/Machine/Queues.lean ====
section
/-!
DEFINITION. Telemetry queues (spec/17).
-/

namespace Sys2Proof.Machine

/-! ### A queue's words and pointers (R374, R378) -/

/-- What queue `q` keeps. -/
def State.tq (s : State) (q : Nat) : TqQueue := Tab.get (fun _ => {}) s.tqu.queues q

/-- The state with a queue's record changed. -/
def State.modTq (s : State) (q : Nat) (f : TqQueue → TqQueue) : State :=
  { s with tqu := { s.tqu with queues := Tab.put (fun _ => {}) s.tqu.queues q (f (s.tq q)) } }

/-- Queue `q` is enabled. -/
def State.tqEn (s : State) (q : Nat) : Bool := s.rbit (TQU.CFG q) 0

/-- The producer and the words of the ring of queue `q`. -/
def State.tqSrc (s : State) (q : Nat) : Nat := s.fld (TQU.CFG q) 10 8
def State.tqSize (s : State) (q : Nat) : Nat := 2 ^ s.fld (TQU.CFG q) 20 16

/-- The address in W8 of word `x` of queue `q`. -/
def State.tqAddr (s : State) (q : Nat) (x : Word) : Nat :=
  0x51000000 + 8 * ((s.reg (TQU.BASE q)).toNat + x.toNat % s.tqSize q)

/-- A 64-bit word of queue memory written, low word at the lower address (R374); an error it carried is gone. -/
def State.tqPut (s : State) (q : Nat) (x : Word) (v : BitVec 64) : State :=
  let n := (s.tqAddr q x - 0x51000000) / 8
  let t := { s with tqu := { s.tqu with bad := s.tqu.bad.filter (· ≠ n) } }
  (t.setWin (s.tqAddr q x) (lo32 v)).setWin (s.tqAddr q x + 4) (hi32 v)

/-- A half word of queue memory as it reads: all ones where the word carries an error (R382). -/
def State.tqRead (s : State) (a : Nat) : Word := if s.tqu.bad.contains ((a - 0x51000000) / 8) then 0xFFFFFFFF else s.winWord a

/-- An item header (R374). -/
def tqHead (len typ seq : Nat) (at_ : Word) : BitVec 64 :=
  dword [(0, len % 32), (8, typ % 256), (16, seq % 65536), (32, at_.toNat)]

/-- The words held from `b` up to `a`, modulo 2^32. -/
def span (a b : Word) : Nat := (a - b).toNat

/-- An item of `len` words is offered to queue `q` (R378): admitted behind a pending kerf marker, or dropped into a gap.
`seq` is its number. -/
def State.tqOffer (s : State) (q req len typ : Nat) : State :=
  let c := s.tq q
  let gap := (s.reg (TQU.GAP q)).toNat
  let at_ := shortOf s.now
  let seq := c.seq
  if span c.pw (s.reg (TQU.REL q)) + len ≤ s.tqSize q - 2 then
    let mark := decide (0 < gap)
    let t := if mark then
        (s.tqPut q c.pw (tqHead 2 0 c.gapSeq at_)).tqPut q (c.pw + 1) (dword [(0, gap), (32, c.gapAt.toNat)])
      else s
    let p : Word := if mark then c.pw + 2 else c.pw
    let t := t.tqPut q p (tqHead len typ seq at_)
    t.modTq q (fun c => { c with
      pw := p + word len, seq := (seq + 1) % 65536,
      item := some { req, left := len - 1, admitted := true, next := p + 1, marker := mark, seq } })
  else
    let t := if gap = 0 then s.raise TQU.page 1 else s
    let t := (t.setReg (TQU.GAP q) (word (satInc 32 gap))).setReg (TQU.LOST q)
      (word (satInc 32 (s.reg (TQU.LOST q)).toNat))
    t.modTq q (fun c => { c with
      seq := (seq + 1) % 65536,
      gapSeq := if gap = 0 then seq else c.gapSeq, gapAt := if gap = 0 then at_ else c.gapAt,
      item := some { req, left := len - 1, admitted := false, next := 0, marker := false, seq } })

/-- A payload word of the item in progress (R377). -/
def State.tqWord (s : State) (q : Nat) (v : BitVec 64) : State :=
  match (s.tq q).item with
  | some i =>
    let t := if i.admitted then s.tqPut q i.next v else s
    t.modTq q (fun c => { c with item := some { i with left := i.left - 1, next := i.next + 1 } })
  | none => s

/-- The commit of a complete item (R378): marker and item become visible, the gap closes, and the threshold may be
crossed. -/
def State.tqCommit (s : State) (q : Nat) : State :=
  match (s.tq q).item with
  | some i =>
    if i.left ≠ 0 then s
    else
      let t := s.modTq q (fun c => { c with item := none })
      if !i.admitted then t
      else
        let old := s.reg (TQU.WR q)
        let wr := (s.tq q).pw
        let rd := s.reg (TQU.RD q)
        let t := t.setReg (TQU.WR q) wr
        let t := if i.marker then (t.setReg (TQU.GAP q) 0).raise TQU.page 2 else t
        let thr := (s.reg (TQU.THR q)).toNat
        if 0 < thr ∧ thr ≤ span wr rd ∧ span old rd < thr then
          (t.setRbit (if q < 32 then TQU.THR_EVT_LO else TQU.THR_EVT_HI) (q % 32) true).raise TQU.page 0
        else t
  | none => s

/-! ### Writes -/

/-- A value clamped to the range from `lo` to `hi`, modulo 2^32: one that reads as behind `lo` becomes `lo`, one ahead of
`hi` becomes `hi`. -/
def clampSpan (lo hi v : Word) : Word :=
  if span v lo ≤ span hi lo then v else if 2 ^ 31 ≤ span v lo then lo else hi

/-- A write of REL (R379); a release that passes the range a copy reads waits for the copy (R383). -/
def relEff (q : Nat) (v : Word) (s : State) : State × WriteResult :=
  let w := clampSpan (s.reg (TQU.REL q)) (s.reg (TQU.RD q)) v
  let move := fun (t : State) =>
    let t := t.setReg (TQU.REL q) w
    if span (t.reg (TQU.MARK q)) (s.reg (TQU.REL q)) < span w (s.reg (TQU.REL q)) then t.setReg (TQU.MARK q) w else t
  let r := WriteResult.ofClamp (w ≠ v)
  match s.tqu.copy with
  | some c =>
    if c.queue = q ∧ span c.first (s.reg (TQU.REL q)) < span w (s.reg (TQU.REL q)) then
      ({ s with tqu := { s.tqu with copy := some { c with rel := some w } } }, r)
    else (move s, r)
  | none => (move s, r)

/-- ABORT discards the item in progress (R377). -/
def State.tqAbort (s : State) (q : Nat) : State :=
  match (s.tq q).item with
  | some i => s.modTq q (fun c => { c with item := none, seq := i.seq, pw := s.reg (TQU.WR q) })
  | none => s

/-- A write of CMD: MARK, REWIND, FLUSH, ABORT in bit order (R379); the release of a FLUSH waits for a copy as another does
(R383). -/
def State.tqCmd (s : State) (q : Nat) (v : Word) : State :=
  let t := if bit v 0 then s.setReg (TQU.MARK q) (s.reg (TQU.RD q)) else s
  let t := if bit v 1 then t.setReg (TQU.RD q) (t.reg (TQU.MARK q)) else t
  let t := if bit v 2 then
      let wr := t.reg (TQU.WR q)
      (relEff q wr ((t.setReg (TQU.RD q) wr).setReg (TQU.MARK q) wr)).1
    else t
  if bit v 3 then t.tqAbort q else t

/-- The region of queue `q` under a CFG value overlaps that of an enabled queue, or ends beyond queue memory (R385). -/
def State.tqBadRegion (s : State) (q : Nat) (cfg : Word) : Bool :=
  let b := (s.reg (TQU.BASE q)).toNat
  let n := 2 ^ bits cfg 20 16
  decide (2 ^ 20 < b + n) || (List.range 64).any (fun j =>
    j ≠ q && s.tqEn j && decide (b < (s.reg (TQU.BASE j)).toNat + s.tqSize j ∧ (s.reg (TQU.BASE j)).toNat < b + n))

/-- The producer of a CFG value is hardware and feeds another enabled queue (R376). -/
def State.tqSrcTaken (s : State) (q : Nat) (cfg : Word) : Bool :=
  bits cfg 10 8 ≠ 0 && (List.range 64).any (fun j => j ≠ q && s.tqEn j && s.tqSrc j = bits cfg 10 8)

/-- A write of CFG (R376, R385). -/
def tqCfgEff (q : Nat) (v : Word) (s : State) : State × WriteResult :=
  let a := TQU.CFG q
  let (w, c) := s.fitted a v
  if s.tqEn q then
    if bit w 0 then
      if w = s.reg a then (s, .ofClamp c) else (s, .refused)
    else
      let moved := decide (putBit w 0 true ≠ s.reg a)
      let t := (s.setRbit a 0 false).modTq q (fun c => { c with item := none, pw := s.reg (TQU.WR q) })
      (t, .ofClamp (moved || c))
  else if bit w 0 then
    if s.tqSrcTaken q w || s.tqBadRegion q w then (s, .refused)
    else
      let t := [TQU.WR q, TQU.RD q, TQU.MARK q, TQU.REL q, TQU.GAP q].foldl (fun t r => t.setReg r 0) (s.setReg a w)
      let t := t.setRbit (if q < 32 then TQU.THR_EVT_LO else TQU.THR_EVT_HI) (q % 32) false
      (t.modTq q (fun _ => {}), .ofClamp c)
  else (s.setReg a w, .ofClamp c)

/-- A write of PUSH_HI pushes a word (R377). A queue whose producer is not firmware, or which is off, takes no push. -/
def tqPushEff (req q : Nat) (v : Word) (s : State) : State × WriteResult :=
  let lo := s.stagedLow req (TQU.PUSH_LO q)
  let s := s.setPort req { s.port req with stageTag := 0, stage := 0 }
  if !s.tqEn q || s.tqSrc q ≠ 0 || !s.rbit (regCTRL TQU.page) 0 then (s.raise TQU.page 3, .refused)
  else
    let header := fun (t : State) =>
      let len := max (bits lo 4 0) 1
      let typ := max (bits lo 15 8) 128
      (t.tqOffer q req len typ, WriteResult.ofClamp (decide (bits lo 15 8 < 128 ∨ bits lo 4 0 = 0)))
    match (s.tq q).item with
    | none => header s
    | some i =>
      if i.left = 0 then header (s.tqCommit q)
      else if i.req = req then (s.tqWord q (join64 v lo), .done)
      else (s.raise TQU.page 3, .refused)

/-- A write of COPY_CTRL (R383). -/
def tqCopyEff (v : Word) (s : State) : State × WriteResult :=
  if bit v 31 then
    let (w, c) := s.fitted TQU.COPY_CTRL v
    let q := bits w 5 0
    let n := bits w 20 8
    let dest := (s.reg64 TQU.COPY_ADDR_LO TQU.COPY_ADDR_HI).toNat
    let rd := s.reg (TQU.RD q)
    if s.tqu.copy.isSome || decide (span (s.reg (TQU.WR q)) rd < n) || !inDram dest (8 * n) then (s, .refused)
    else
      let t := (s.setReg TQU.COPY_CTRL w).setReg TQU.COPY_STAT 1
      ({ t with tqu := { t.tqu with copy := some { queue := q, first := rd, count := n, dest } } }, .ofClamp c)
  else s.store TQU.COPY_CTRL v

/-- The effect of a write on the TQU page. -/
def tquEff (req a : Nat) (v : Word) (s : State) : State × WriteResult :=
  let q := (a % 0x1000 - 0x100) / 0x30
  if a = regCTRL TQU.page then
    if bit v 1 then
      if (List.range 64).any s.tqEn then (s, .refused)
      else ({ s.resetPageRegs TQU.page with tqu := {} }, .done)
    else (s.setReg a (word (bits v 0 0)), .done)
  else if a = TQU.COPY_CTRL then tqCopyEff v s
  else if a % 0x1000 < 0x100 then s.plainWrite req a v
  else if a = TQU.CFG q then tqCfgEff q v s
  else if a = TQU.BASE q then if s.tqEn q then (s, .refused) else s.store a v
  else if a = TQU.THR q then
    let x := min (bits v 20 0) (s.tqSize q - 2)
    (s.setReg a (word x), .ofClamp (decide (x ≠ v.toNat)))
  else if a = TQU.RD q then
    let w := clampSpan (s.reg (TQU.MARK q)) (s.reg (TQU.WR q)) v
    (s.setReg a w, .ofClamp (w ≠ v))
  else if a = TQU.REL q then relEff q v s
  else if a = TQU.CMD q then (s.tqCmd q v, .done)
  else if a = TQU.PUSH_HI q then tqPushEff req q v s
  else s.plainWrite req a v

/-- The computed registers of the TQU page: GAP_SUM. -/
def State.tquView (s : State) (a : Nat) : Option Word :=
  let gaps := fun o => word (bitsOf ((List.range 32).filter (fun q => s.reg (TQU.GAP (q + o)) ≠ 0)))
  if a = TQU.GAP_SUM_LO then some (gaps 0) else if a = TQU.GAP_SUM_HI then some (gaps 32) else none

/-! ### The commands -/

/-- QUEUE_PUSH (R377): a write of PUSH_HI. -/
def execQueuePush (req : Req) (q : Fin 64) (hi : Word) (s : State) : Res State :=
  .next (s.busWrite req (TQU.PUSH_HI q) hi (tqPushEff req q hi))

/-- The enabled queue of a producer. -/
def State.tqOf (s : State) (src : Nat) : Option Nat :=
  if s.rbit (regCTRL TQU.page) 0 then (List.range 64).find? (fun q => s.tqEn q && s.tqSrc q = src) else none

/-- The queue takes no new item yet. -/
def State.tqBusy (s : State) (q : Nat) : Bool := (s.tq q).item.isSome

/-- An item waits while an item of its queue is not yet committed. -/
def State.tqReady (s : State) (i : TqItem) : Bool :=
  match s.tqOf i.src with | none => true | some q => !s.tqBusy q

/-- ITEM_OFFER (R378): the oldest item of a hardware source whose queue may take one is offered to it, its words in consecutive
clocks; a source without a queue discards it (R376). -/
def execItemOffer (s : State) : Res State :=
  .next (match s.tqu.waiting.find? s.tqReady with
    | none => s
    | some i =>
      let t := { s with tqu := { s.tqu with waiting := s.tqu.waiting.erase i } }
      match s.tqOf i.src with
      | none => t.incLo TQU.UNASSIGNED
      | some q => i.words.foldl (fun t w => t.tqWord q w) (t.tqOffer q 5 (i.words.length + 1) i.typ))

/-- ITEM_COMMIT (R378): the clock after the last word of an item. -/
def execItemCommit (q : Fin 64) (s : State) : Res State := .next (s.tqCommit q)

/-- QUEUE_MARK (R379). -/
def execQueueMark (req : Req) (q : Fin 64) (s : State) : Res State :=
  .next (s.busWrite req (TQU.CMD q) 1 (tquEff req (TQU.CMD q) 1))

/-- QUEUE_REWIND (R379). -/
def execQueueRewind (req : Req) (q : Fin 64) (s : State) : Res State :=
  .next (s.busWrite req (TQU.CMD q) 2 (tquEff req (TQU.CMD q) 2))

/-- QUEUE_FLUSH (R379). -/
def execQueueFlush (req : Req) (q : Fin 64) (s : State) : Res State :=
  .next (s.busWrite req (TQU.CMD q) 4 (tquEff req (TQU.CMD q) 4))

/-- QUEUE_ABORT (R377). -/
def execQueueAbort (req : Req) (q : Fin 64) (s : State) : Res State :=
  .next (s.busWrite req (TQU.CMD q) 8 (tquEff req (TQU.CMD q) 8))

/-- QUEUE_RD_WRITE (R379). -/
def execQueueRdWrite (req : Req) (q : Fin 64) (v : Word) (s : State) : Res State :=
  .next (s.busWrite req (TQU.RD q) v (tquEff req (TQU.RD q) v))

/-- QUEUE_RELEASE (R379). -/
def execQueueRelease (req : Req) (q : Fin 64) (v : Word) (s : State) : Res State :=
  .next (s.busWrite req (TQU.REL q) v (tquEff req (TQU.REL q) v))

/-- QUEUE_COPY (R383): a write of COPY_CTRL with GO. -/
def execQueueCopy (req : Req) (q : Fin 64) (words : BitVec 13) (s : State) : Res State :=
  let v := word (q.val + words.toNat * 256 + 2 ^ 31)
  .next (s.busWrite req TQU.COPY_CTRL v (tquEff req TQU.COPY_CTRL v))

/-- QUEUE_COPY_DONE (R383): the words reach DRAM, and a release that waited takes effect. -/
def execQueueCopyDone (s : State) : Res State :=
  .next (match s.tqu.copy with
    | some c =>
      let t := (List.range c.count).foldl (fun t i =>
        let a := s.tqAddr c.queue (c.first + word i)
        (t.setBytes (c.dest + 8 * i) (bytesLE 4 (s.tqRead a).toNat)).setBytes (c.dest + 8 * i + 4)
          (bytesLE 4 (s.tqRead (a + 4)).toNat)) s
      let t := (({ t with tqu := { t.tqu with copy := none } }).setReg TQU.COPY_STAT 0).raise TQU.page 4
      match c.rel with
      | some w => (relEff c.queue w t).1
      | none => t
    | none => s)

/-- QUEUE_ENABLE (R385): a CFG write that sets EN. -/
def execQueueEnable (req : Req) (q : Fin 64) (v : Word) (s : State) : Res State :=
  let w := putBit v 0 true
  .next (s.busWrite req (TQU.CFG q) w (tquEff req (TQU.CFG q) w))

/-- QUEUE_DISABLE (R385): EN cleared, the other fields as they stand. -/
def execQueueDisable (req : Req) (q : Fin 64) (s : State) : Res State :=
  let w := putBit (s.reg (TQU.CFG q)) 0 false
  .next (s.busWrite req (TQU.CFG q) w (tquEff req (TQU.CFG q) w))

end Sys2Proof.Machine
end

