-- ==== Sys2Proof/Machine/Threads.lean ====
section
/-!
DEFINITION. The thread scheduler (spec/16).
-/

namespace Sys2Proof.Machine

/-- Thread states (R363), and the thread number that stands for none. -/
def TH.FREE : Nat := 0
def TH.BLOCKED : Nat := 1
def TH.READY : Nat := 2
def TH.RUNNING : Nat := 3
def TH.WAITING : Nat := 4
def TH.CANCELLED : Nat := 5
def TH.IDLE : Nat := 0x1FF

/-- Trace kinds (R371). -/
def TE.READY : Nat := 1
def TE.BLOCK : Nat := 2
def TE.CANCEL : Nat := 3
def TE.WAIT : Nat := 4
def TE.DEADLINE : Nat := 5
def TE.BIND : Nat := 6
def TE.PROPOSE : Nat := 7
def TE.TAKE : Nat := 8
def TE.SETPRIO : Nat := 9
def TE.YIELD : Nat := 10
def TE.refused : Nat := 11

/-! ### Contexts and ready lists -/

/-- The context of thread `t`. -/
def State.thread (s : State) (t : Nat) : Thread := Tab.get (fun _ => {}) s.ths.threads t

/-- The state with a thread's context changed. -/
def State.modThread (s : State) (t : Nat) (f : Thread → Thread) : State :=
  { s with ths := { s.ths with threads := Tab.put (fun _ => {}) s.ths.threads t (f (s.thread t)), changed := true } }

/-- The ready list of priority `p`, head first. -/
def State.readyList (s : State) (p : Nat) : List Nat := Tab.get (fun _ => []) s.ths.ready p

/-- The state with a ready list replaced. -/
def State.setReady (s : State) (p : Nat) (l : List Nat) : State :=
  { s with ths := { s.ths with ready := Tab.put (fun _ => []) s.ths.ready p l } }

/-- A thread out of its ready list. -/
def State.unready (s : State) (t : Nat) : State :=
  let p := (s.thread t).prio
  s.setReady p ((s.readyList p).filter (fun x => x ≠ t))

/-- A thread READY at the tail of the list of its priority, with a wake cause. -/
def State.makeReady (s : State) (t cause : Nat) : State :=
  let p := (s.thread t).prio
  (s.modThread t (fun c => { c with state := TH.READY, cause, leaving := false })).setReady p (s.readyList p ++ [t])

/-- The thread core `c` runs. -/
def State.cur (s : State) (c : Nat) : Nat := s.fld (THS.CUR c) 8 0

/-! ### Trace (R371) -/

/-- A record of the dispatch trace, of a kind that TRACE_EV enables. -/
def State.traceThread (s : State) (kind t core flags req other : Nat) : State :=
  if s.rbit THS.TRACE_EV kind then
    let c := s.thread t
    let clocks := min (s.tim.osc - s.tim.strobe) 65535
    s.trace 1 (fields [(1, kind), (1, t), (1, core), (1, flags + c.leaving.toNat * 2 + c.pend.toNat * 4), (1, c.prio),
      (1, c.state), (1, req), (1, 0), (2, clocks), (2, other), (8, 0)])
  else s

/-! ### Commands (R364, R365) -/

/-- A command done: RESULT 0 and its record. -/
def State.thDone (s : State) (req kind t : Nat) : State :=
  (s.setReg (THS.RESULT req) 0).traceThread kind t 0xFF 0 req 0xFFFF

/-- A command whose state column does not match (R364). -/
def State.thRefuse (s : State) (req t : Nat) : State × WriteResult :=
  (((s.setReg (THS.RESULT req) 1).raise THS.page 0).traceThread TE.refused t 0xFF 0 req 0xFFFF, .refused)

/-- A READY to a FREE or CANCELLED thread (R364). -/
def State.thIgnore (s : State) (req : Nat) : State := ((s.setReg (THS.RESULT req) 2).incLo THS.IGN_CNT).raise THS.page 2

/-- An affinity of 0 is clamped to 0b0001. -/
def affFit (a : Nat) : Nat := if a = 0 then 1 else a

/-- The deadline a WAIT names: base 4 in ring stamps, a time base in units of 2^-16 ns (R365). -/
def State.waitDeadline (s : State) (req base : Nat) : Nat :=
  let dl0 := (s.reg (THS.DL_0 req)).toNat
  if base = 4 then (s.reg (THS.ARG_LO req)).toNat + dl0 * 2 ^ 32
  else tbNat (s.fld (THS.DL_1 req) 15 0 * 2 ^ 32 + dl0) (s.reg (THS.DL_2 req)).toNat (s.fld (THS.DL_1 req) 31 16)

/-- A deadline has been reached (R336, R365). -/
def State.reached (s : State) (base deadline : Nat) : Bool :=
  if base = 4 then decide (deadline ≤ s.now.toNat) else decide (deadline ≤ s.tb base)

/-- A thread gives up the core it runs on: LEAVING until the core takes another (R363). -/
def State.leave (s : State) (t after : Nat) : State := s.modThread t (fun c => { c with leaving := true, after })

/-- BLOCK, WAIT, YIELD and CANCEL of a thread that a command has already cancelled are not accepted: it is CANCELLED but
for its core (R363). -/
def Thread.ended (c : Thread) : Bool := c.state = TH.CANCELLED || (c.leaving && c.after = TH.CANCELLED)

/-- A CANCEL of the same fabric clock has found the thread in one of the states `l` (R367). -/
def State.superseded (s : State) (t : Nat) (l : List Nat) : Bool :=
  match (s.thread t).cancelAt with
  | some x => x.1 = s.tim.osc && l.contains x.2
  | none => false

/-- Command INIT. -/
def State.thInit (s : State) (req t : Nat) : State × WriteResult :=
  let c := s.thread t
  let arg := s.reg (THS.ARG_LO req)
  if c.state = TH.FREE ∨ c.state = TH.CANCELLED then
    ((s.modThread t (fun _ => { state := TH.BLOCKED, prio := bits arg 4 0, aff := affFit (bits arg 11 8) })).setReg
      (THS.RESULT req) 0, .done)
  else s.thRefuse req t

/-- Command READY; a CANCEL of the thread in the same fabric clock wins over it (R367). -/
def State.thReady (s : State) (req t : Nat) : State × WriteResult :=
  let c := s.thread t
  if s.superseded t [TH.BLOCKED, TH.READY, TH.RUNNING, TH.WAITING] then
    ((s.setReg (THS.RESULT req) 0).traceThread TE.READY t 0xFF 1 req 0xFFFF, .done)
  else if c.ended || c.state = TH.FREE then (s.thIgnore req, .done)
  else if c.state = TH.BLOCKED ∨ c.state = TH.WAITING then ((s.makeReady t 1).thDone req TE.READY t, .done)
  else if c.state = TH.RUNNING then ((s.modThread t (fun c => { c with pend := true })).thDone req TE.READY t, .done)
  else (s.thDone req TE.READY t, .done)

/-- Command BLOCK. -/
def State.thBlock (s : State) (req t : Nat) : State × WriteResult :=
  let c := s.thread t
  if c.ended || !(c.state = TH.RUNNING || c.state = TH.READY) then s.thRefuse req t
  else if c.pend then ((s.modThread t (fun c => { c with pend := false })).thDone req TE.BLOCK t, .done)
  else if c.state = TH.RUNNING then ((s.leave t TH.BLOCKED).thDone req TE.BLOCK t, .done)
  else (((s.unready t).modThread t (fun c => { c with state := TH.BLOCKED })).thDone req TE.BLOCK t, .done)

/-- Command CANCEL. -/
def State.thCancel (s : State) (req t : Nat) : State × WriteResult :=
  let c := s.thread t
  let at_ := some (s.tim.osc, c.state)
  if c.state = TH.FREE then s.thRefuse req t
  else if c.state = TH.RUNNING then
    (((s.leave t TH.CANCELLED).modThread t (fun c => { c with cancelAt := at_ })).thDone req TE.CANCEL t, .done)
  else (((s.unready t).modThread t (fun c => { c with state := TH.CANCELLED, cancelAt := at_ })).thDone req TE.CANCEL t, .done)

/-- Command SETPRIO. -/
def State.thSetPrio (s : State) (req t : Nat) : State × WriteResult :=
  let c := s.thread t
  let p := s.fld (THS.ARG_LO req) 4 0
  if c.ended || c.state = TH.FREE then s.thRefuse req t
  else if c.state = TH.READY then
    let u := (s.unready t).modThread t (fun c => { c with prio := p })
    ((u.setReady p (u.readyList p ++ [t])).thDone req TE.SETPRIO t, .done)
  else ((s.modThread t (fun c => { c with prio := p })).thDone req TE.SETPRIO t, .done)

/-- Command SETAFF. -/
def State.thSetAff (s : State) (req t : Nat) : State × WriteResult :=
  let c := s.thread t
  if c.ended || c.state = TH.FREE then s.thRefuse req t
  else ((s.modThread t (fun c => { c with aff := affFit (s.fld (THS.ARG_LO req) 11 8) })).setReg (THS.RESULT req) 0, .done)

/-- Command YIELD. -/
def State.thYield (s : State) (req t : Nat) : State × WriteResult :=
  let c := s.thread t
  if c.ended || c.state ≠ TH.RUNNING then s.thRefuse req t
  else ((s.leave t TH.READY).thDone req TE.YIELD t, .done)

/-- Command WAIT (R365). A deadline already reached leaves the thread READY with wake cause 2. -/
def State.thWait (s : State) (req t : Nat) : State × WriteResult :=
  let c := s.thread t
  let base := s.fld (THS.ARG_HI req) 30 28
  let d := s.waitDeadline req base
  if c.ended || !(c.state = TH.RUNNING || c.state = TH.READY) then s.thRefuse req t
  else if c.pend then ((s.modThread t (fun c => { c with pend := false })).thDone req TE.WAIT t, .done)
  else
    let u := s.modThread t (fun c => { c with base, deadline := d })
    let u := if u.reached base d then
        let u := u.modThread t (fun c => { c with cause := 2 })
        if c.state = TH.RUNNING then u.leave t TH.READY else u
      else if c.state = TH.RUNNING then u.leave t TH.WAITING
      else (u.unready t).modThread t (fun c => { c with state := TH.WAITING })
    (u.thDone req TE.WAIT t, .done)

/-- A write of CMD (R364). -/
def thCmdEff (req : Nat) (v : Word) (s : State) : State × WriteResult :=
  let t := bits v 7 0
  match bits v 31 28 with
  | 1 => s.thInit req t
  | 2 => s.thReady req t
  | 3 => s.thBlock req t
  | 4 => s.thCancel req t
  | 5 => s.thSetPrio req t
  | 6 => s.thSetAff req t
  | 7 => s.thYield req t
  | 8 => s.thWait req t
  | _ => s.thRefuse req t

/-! ### Dispatch (R368, R369) -/

/-- The priority of what core `c` runs, -1 when it runs nothing or what it runs is LEAVING. -/
def State.runPrio (s : State) (c : Nat) : Int :=
  let t := s.cur c
  if t = TH.IDLE then -1
  else if (s.thread t).state = TH.RUNNING ∧ !(s.thread t).leaving then (s.thread t).prio else -1

/-- The core for a ready thread: enabled, in its affinity, not yet proposed to, of lower running priority; the lowest
running priority first, then the lowest number. -/
def State.pickCore (s : State) (taken : List (Nat × Nat)) (t p : Nat) : Option Nat :=
  let ok := (List.range 4).filter (fun c => s.rbit THS.CORE_EN c && (s.thread t).aff.testBit c
    && !taken.any (fun x => x.1 = c) && decide (s.runPrio c < p))
  ok.foldl (fun b c => match b with
    | none => some c
    | some d => if s.runPrio c < s.runPrio d then some c else some d) none

/-- The proposals of a decision, core and thread. -/
def State.proposals (s : State) : List (Nat × Nat) :=
  (List.range 32).reverse.foldl (fun taken p =>
    (s.readyList p).foldl (fun taken t =>
      match s.pickCore taken t p with
      | some c => taken ++ [(c, t)]
      | none => taken) taken) []

/-- The NEXT value of core `c` under the proposals. -/
def State.nextOf (s : State) (taken : List (Nat × Nat)) (c : Nat) : Nat :=
  if !s.rbit THS.CORE_EN c then TH.IDLE
  else match taken.find? (fun x => x.1 = c) with
    | some x => x.2
    | none => if 0 ≤ s.runPrio c then s.cur c else TH.IDLE

/-- One decision: NEXT of every core, and the records of the cores whose proposal changed. -/
def State.dispatchNow (s : State) : State :=
  let taken := s.proposals
  (List.range 4).foldl (fun u c =>
    let n := s.nextOf taken c
    let v := u.setReg (THS.NEXT c) (word n)
    if n ≠ s.fld (THS.NEXT c) 8 0 ∧ n ≠ TH.IDLE then v.traceThread TE.PROPOSE n c 0 0xFF 0xFFFF else v) s

/-- NEXT as it reads: IDLE while dispatching is off (R372). -/
def State.nextRead (s : State) (c : Nat) : Nat := if s.rbit (regCTRL THS.page) 0 then s.fld (THS.NEXT c) 8 0 else TH.IDLE

/-- The thread a core leaves at a TAKE (R369): the state its LEAVING command set, else the head of its own list. A wake
that came while it was leaving is not lost (R364). -/
def State.settle (s : State) (t : Nat) : State :=
  let c := s.thread t
  if c.leaving then
    let woken := c.pend && (c.after = TH.BLOCKED || c.after = TH.WAITING)
    let u := s.modThread t (fun c => { c with leaving := false, pend := if woken then false else c.pend })
    if woken then u.makeReady t 1
    else if c.after = TH.READY then u.makeReady t c.cause
    else u.modThread t (fun d => { d with state := c.after })
  else (s.modThread t (fun c => { c with state := TH.READY })).setReady c.prio (t :: s.readyList c.prio)

/-- A write of TAKE (R369). -/
def takeEff (req c : Nat) (v : Word) (s : State) : State × WriteResult :=
  let n := bits v 8 0
  let old := s.cur c
  if n ≠ s.nextRead c then (s, .refused)
  else if n = old then (s.setReg (THS.PREV c) (word old), .done)
  else
    let u := if n = TH.IDLE then s
      else (s.unready n).modThread n (fun x => { x with state := TH.RUNNING, leaving := false, core := c })
    let u := if old = TH.IDLE then u else u.settle old
    let u := (u.setReg (THS.CUR c) (word n)).setReg (THS.PREV c) (word old)
    let u := { u with ths := { u.ths with changed := true } }
    (if n = TH.IDLE then u else u.traceThread TE.TAKE n c 0 req (if old = TH.IDLE then 0xFFFF else old), .done)

/-! ### Writes and views -/

/-- The scheduler as a soft reset or a core reset leaves it (R373); the harts' own timers and software interrupts are not
of the page. -/
def State.thsReset (s : State) : State :=
  let t := s.resetPageRegs THS.page
  { t with ths := { ({} : Ths) with msip := s.ths.msip, mtimecmp := s.ths.mtimecmp, edges := s.ths.edges } }

/-- The effect of a write on the THS page. -/
def thsEff (req a : Nat) (v : Word) (s : State) : State × WriteResult :=
  let off := a % 0x1000
  let r := (off - 0x100) / 0x20
  let c := (off - 0x200) / 0x10
  if a = regCTRL THS.page then
    if bit v 1 then
      if (List.range 4).any (fun c => s.cur c ≠ TH.IDLE) then (s, .refused) else (s.thsReset, .done)
    else ({ s.setReg a (word (bits v 0 0)) with ths := { s.ths with changed := true } }, .done)
  else if 0x100 ≤ off ∧ off < 0x1A0 ∧ a = THS.CMD r then thCmdEff r v s
  else if 0x200 ≤ off ∧ off < 0x240 ∧ a = THS.TAKE c then takeEff req c v s
  else if a = THS.CORE_EN then
    let (t, w) := s.plainWrite req a v
    ({ t with ths := { t.ths with changed := true } }, w)
  else s.plainWrite req a v

/-- The context registers of a thread (R372). -/
def Thread.ctxA (c : Thread) : Word :=
  word (c.state + c.leaving.toNat * 8 + c.prio * 16 + c.aff * 4096 + c.base * 65536 + c.cause * 2 ^ 20
    + c.pend.toNat * 2 ^ 22 + (if c.state = TH.RUNNING then c.core else 0) * 2 ^ 24)
def Thread.ctxB (c : Thread) : Word :=
  if c.base = 4 then word c.deadline else word (c.deadline / 65536 % 1000000000)

/-- The computed registers of the THS page. -/
def State.thsView (s : State) (a : Nat) : Option Word :=
  let off := a % 0x1000
  if a = THS.READY_MAP then some (word (bitsOf ((List.range 32).filter (fun p => !(s.readyList p).isEmpty))))
  else if 0x400 ≤ off ∧ off < 0xC00 then
    let c := s.thread ((off - 0x400) / 8)
    some (if off % 8 = 0 then c.ctxA else c.ctxB)
  else if 0x200 ≤ off ∧ off < 0x240 ∧ off % 16 = 4 then some (word (s.nextRead ((off - 0x200) / 16)))
  else none

/-! ### The commands -/

/-- A thread command of requester `req` through its own command set. -/
def State.threadCmd (s : State) (req : Req) (op : Nat) (t : Fin 256) : State :=
  let v := word (op * 2 ^ 28 + t)
  s.busWrite req (THS.CMD req) v (thsEff req (THS.CMD req) v)

/-- THREAD_INIT (R364). -/
def execThreadInit (req : Req) (t : Fin 256) (s : State) : Res State := .next (s.threadCmd req 1 t)
/-- THREAD_READY (R364). -/
def execThreadReady (req : Req) (t : Fin 256) (s : State) : Res State := .next (s.threadCmd req 2 t)
/-- THREAD_BLOCK (R364). -/
def execThreadBlock (req : Req) (t : Fin 256) (s : State) : Res State := .next (s.threadCmd req 3 t)
/-- THREAD_CANCEL (R364). -/
def execThreadCancel (req : Req) (t : Fin 256) (s : State) : Res State := .next (s.threadCmd req 4 t)
/-- THREAD_SETPRIO (R364). -/
def execThreadSetprio (req : Req) (t : Fin 256) (s : State) : Res State := .next (s.threadCmd req 5 t)
/-- THREAD_SETAFF (R364). -/
def execThreadSetaff (req : Req) (t : Fin 256) (s : State) : Res State := .next (s.threadCmd req 6 t)
/-- THREAD_YIELD (R364). -/
def execThreadYield (req : Req) (t : Fin 256) (s : State) : Res State := .next (s.threadCmd req 7 t)
/-- THREAD_WAIT (R365). -/
def execThreadWait (req : Req) (t : Fin 256) (s : State) : Res State := .next (s.threadCmd req 8 t)

/-- WAIT_DEADLINE (R365, R367): the deadline of thread `t` is reached. -/
def execWaitDeadline (t : Fin 256) (s : State) : Res State :=
  let c := s.thread t
  .next (
    if !s.domainUp 3 || !s.reached c.base c.deadline then s
    else if c.state = TH.WAITING then (s.makeReady t 2).traceThread TE.DEADLINE t 0xFF 0 0xFF 0xFFFF
    else if c.leaving ∧ c.after = TH.WAITING then
      (s.modThread t (fun c => { c with after := TH.READY, cause := 2 })).traceThread TE.DEADLINE t 0xFF 0 0xFF 0xFFFF
    else if s.superseded t [TH.WAITING] then s.traceThread TE.DEADLINE t 0xFF 1 0xFF 0xFFFF
    else s)

/-- BIND_WAKE (R366): page `p` has become pending, and its bound thread, if it blocks or waits, becomes READY. -/
def execBindWake (p : Fin 46) (s : State) : Res State :=
  let b := s.reg (THS.EVT_BIND p)
  let t := bits b 7 0
  let st := (s.thread t).state
  .next (if s.ths.edges.testBit p then
      let u := { s with ths := { s.ths with edges := s.ths.edges ^^^ 2 ^ p.val } }
      if bit b 8 ∧ (st = TH.BLOCKED ∨ st = TH.WAITING) then
        (u.makeReady t 3).traceThread TE.BIND t 0xFF 0 0xFF p
      else if bit b 8 && u.superseded t [TH.BLOCKED, TH.WAITING] then u.traceThread TE.BIND t 0xFF 1 0xFF p
      else u
    else s)

/-- DISPATCH_DECISION (R367, R368): a decision that a changed context began. -/
def execDispatchDecision (s : State) : Res State :=
  .next (if s.ths.changed && s.rbit (regCTRL THS.page) 0 then
      let n := max (s.fld THS.DECIDE_MAX 4 0) (1 + Config.decideClocks s.free % 16)
      let t := { s.dispatchNow with ths := { s.dispatchNow.ths with changed := false } }
      (t.setReg THS.DECIDE_MAX (word n)).draw
    else s)

/-- THREAD_TAKE (R369): a write of TAKE[c]. -/
def execThreadTake (req : Req) (c : Fin 4) (t : BitVec 9) (s : State) : Res State :=
  .next (s.busWrite req (THS.TAKE c) (word t.toNat) (thsEff req (THS.TAKE c) (word t.toNat)))

end Sys2Proof.Machine
end

