-- ==== Sys2Proof/Machine/Phy.lean ====
section
/-!
DEFINITION. The feeder physical layer (spec/11).
-/

namespace Sys2Proof.Machine

/-! ### Modems, carriers and masks (R228 to R232) -/

/-- Modem of feeder `f`. -/
def State.modem (s : State) (f : Nat) : Modem := Tab.get (fun _ => {}) s.modems f

/-- The state with a modem changed. -/
def State.modModem (s : State) (f : Nat) (g : Modem → Modem) : State :=
  { s with modems := Tab.put (fun _ => {}) s.modems f (g (s.modem f)) }

/-- The page of feeder `f`, and its bit in the page's registers. -/
def fphPage (f : Nat) : Nat := FPH.page (f / 12)

/-- An INT_FLAG event of feeder `f` (R248). -/
def State.fphEvent (s : State) (f b : Nat) : State := (s.raise (fphPage f) b).setRbit (FPH.EVT (f / 12)) (f % 12) true

/-- The sample counter (R234) now, and at the last tick strobe (R253): 200 MHz of the reference oscillator, two samples to
five fabric clocks. DESIGN CHOICE (log entry 96), unsafe: it counts from PD1 power-up. -/
def State.samples (s : State) : Nat := s.tim.osc * 2 / 5
def State.strobeSamples (s : State) : Nat := s.tim.strobe * 2 / 5

/-- The region of feeder `f` in W7 (R249). -/
def w7Base (f : Nat) : Nat := 0x50A00000 + 0x80000 * (f / 12) + 0xA800 * (f % 12)

/-- Carrier 41 and the number of usable carriers (R227). -/
def carrier0 : Nat := 41
def usable : Nat := 1721

/-- The active notch entries of feeder `f`, empty ones left out. -/
def State.notches (s : State) (f : Nat) : List (Nat × Nat) :=
  ((List.range 64).map (fun i =>
    let w := s.winWord (w7Base f + 0xA200 + 8 * i)
    (bits w 31 16, bits w 15 0))).filter (fun e => e.1 ≤ e.2)

/-- Whether a list of notch entries turns a carrier off (R230). -/
def notched (l : List (Nat × Nat)) (c : Nat) : Bool := l.any (fun e => e.1 ≤ c && c ≤ e.2)

/-- The active carriers of feeder `f`, ascending. -/
def State.carriers (s : State) (f : Nat) : List Nat :=
  let l := s.notches f
  ((List.range usable).map (· + carrier0)).filter (fun c => !notched l c)

/-- The breakpoints of a PSD mask in use: those before the first entry whose carrier is 0xFFFF (R231). -/
def State.breakpoints (s : State) (base : Nat) : List (Nat × Int) :=
  ((List.range 32).map (fun i =>
    let w := s.winWord (base + 8 * i)
    (bits w 31 16, sbits w 15 0))).takeWhile (fun b => b.1 ≠ 0xFFFF)

/-- The checks of R232 on the shadow PSD mask: strictly rising carriers, the first 41. -/
def State.shadowOk (s : State) (f : Nat) : Bool :=
  let l := (s.breakpoints (w7Base f + 0xA400)).map (·.1)
  l.head? = some carrier0 && (l.zip (l.drop 1)).all (fun p => p.1 < p.2)

/-- P(c) of R228, in 0.1 dBm/Hz. -/
def State.txPsd (s : State) (f c : Nat) : Int :=
  let m := ((s.breakpoints (w7Base f + 0xA500)).filter (fun b => b.1 ≤ c)).getLast?.elim 0 (·.2)
  min (sbits (s.reg (FPH.TX_LVL f)) 15 0) (m - sbits (s.reg (FPH.CB_GAIN f)) 15 0)

/-! ### Tone-map slots (R249) -/

/-- Byte `o` of slot `t` of feeder `f`. DEDUCED (log entry 29), unsafe: byte 0 of a window word lies in its bits 31:24. -/
def State.slotByte (s : State) (f t o : Nat) : Nat :=
  let a := w7Base f + 0x800 * t + o
  bits (s.winWord (a / 4 * 4)) (31 - 8 * (a % 4)) (24 - 8 * (a % 4))

/-- Fields of a slot. -/
def State.slotValid (s : State) (f t : Nat) : Bool := s.slotByte f t 0 % 2 = 1
def State.slotDir (s : State) (f t : Nat) : Nat := s.slotByte f t 0 / 2 % 2
def State.slotMode (s : State) (f t : Nat) : Nat := s.slotByte f t 1
def State.slotLink (s : State) (f t : Nat) : Nat := s.slotByte f t 2 * 256 + s.slotByte f t 3
def State.slotInfo (s : State) (f t : Nat) : Nat := s.slotByte f t 8 * 256 + s.slotByte f t 9

/-- The bits of usable carrier `q` in stream A (0) or B (1) of a slot. -/
def State.slotBits (s : State) (f t stream q : Nat) : Nat :=
  let b := s.slotByte f t (16 + 864 * stream + q / 2)
  if q % 2 = 0 then b / 16 else b % 16

/-- The bits of a carrier in streams A and B as a slot is used (R230, R238): none on a notched carrier, none in stream B under
diversity. -/
def State.mapBits (s : State) (f t : Nat) : Nat → Nat × Nat :=
  let l := s.notches f
  let spatial := decide (s.slotMode f t % 4 = 1)
  fun c =>
    if notched l c then (0, 0)
    else (s.slotBits f t 0 (c - carrier0), if spatial then s.slotBits f t 1 (c - carrier0) else 0)

/-- Bsym of a slot: the coded bits of one payload symbol (R238). -/
def State.symbolBits (s : State) (f t : Nat) : Nat :=
  let m := s.mapBits f t
  ((List.range usable).map (fun q => (m (carrier0 + q)).1 + (m (carrier0 + q)).2)).sum

/-- Bytes written into a slot as an update of the module's own (R451). -/
def State.putSlot (s : State) (f t : Nat) (bs : List Byte) : State :=
  let ws := (List.range 512).map (fun i => word (natBE ((List.range 4).map (fun j => bs.getD (4 * i + j) 0))))
  let a := w7Base f + 0x800 * t
  let u := (List.range 512).foldl (fun u i => u.setWin (a + 4 * i) (ws.getD i 0)) s
  u.journalUpdate a ws

/-- VALID cleared in a slot. -/
def State.clearSlot (s : State) (f t : Nat) : State :=
  let a := w7Base f + 0x800 * t
  let w := putBit (s.winWord a) 24 false
  if t = 0 ∨ w = s.winWord a then s else (s.setWin a w).journalUpdate a [w]

/-- Carrier bits packed two to a byte, the first in the high nibble (R249). -/
def packNibbles : List Nat → List Byte
  | a :: b :: l => BitVec.ofNat 8 (a * 16 + b) :: packNibbles l
  | [a] => [BitVec.ofNat 8 (a * 16)]
  | [] => []

/-- The bytes of a slot that holds a map (R249). -/
def slotOf (m : ToneMap) (dir link : Nat) : List Byte :=
  bytesBE 1 (1 + 2 * dir) ++ bytesBE 1 m.mode ++ bytesBE 2 link ++ bytesBE 2 m.bA.sum ++ bytesBE 2 m.bB.sum
    ++ bytesBE 2 m.info ++ List.replicate 6 0 ++ packNibbles m.bA ++ List.replicate 3 0 ++ packNibbles m.bB

/-- The slot of the link with node address `addr`: receive maps have DIR 0, transmit maps DIR 1 (R251). -/
def State.linkSlot (s : State) (f addr dir : Nat) : Option Nat :=
  ((List.range 19).map (· + 1)).find? (fun t => s.slotValid f t && s.slotLink f t = addr && s.slotDir f t = dir)

/-- A free slot for a link; when none is free, both slots of the link that carried the fewest payload bytes in the last
256 cycles are freed, the highest address on a tie (R251). -/
def State.takeSlot (s : State) (f : Nat) : State × Option Nat :=
  let slots := (List.range 19).map (· + 1)
  match slots.find? (fun t => !s.slotValid f t) with
  | some t => (s, some t)
  | none =>
    let carried := fun a => (((s.modem f).traffic.filter (fun e => e.2.1 = a && cycleOf s.now < e.1 + 256)).map (·.2.2)).sum
    let worst := slots.foldl (fun (b : Option Nat) t =>
      let a := s.slotLink f t
      match b with
      | none => some a
      | some x => if carried a < carried x ∨ (carried a = carried x ∧ x < a) then some a else some x) none
    match worst with
    | some a =>
      let u := (slots.filter (fun t => s.slotLink f t = a)).foldl (fun u t => u.clearSlot f t) s
      (u, slots.find? (fun t => !u.slotValid f t))
    | none => (s, none)

/-! ### Coding and mapping (R235 to R239) -/

/-- One step of the scrambler: state and output bit (R236). -/
def scrambleStep (st : Nat) : Nat × Bool :=
  let fb := (st / 2 ^ 14 + st / 2 ^ 13) % 2
  ((st * 2 + fb) % 2 ^ 15, fb = 1)

/-- Bits scrambled from a state. -/
def scramble : Nat → List Bool → List Bool × Nat
  | st, [] => ([], st)
  | st, b :: l =>
    let (st, fb) := scrambleStep st
    let (out, e) := scramble st l
    ((b ^^ fb) :: out, e)

/-- `n` output bits of the scrambler (R236). -/
def scrambleTail (st n : Nat) : List Bool := (scramble st (List.replicate n false)).1

/-- Bytes as bits, most significant first, and back. -/
def toBits (l : List Byte) : List Bool := l.flatMap (fun b => (List.range 8).map (fun i => b.toNat.testBit (7 - i)))
def ofBits (l : List Bool) : List Byte :=
  (List.range (l.length / 8)).map (fun i =>
    BitVec.ofNat 8 ((List.range 8).foldl (fun a j => 2 * a + (l.getD (8 * i + j) false).toNat) 0))

/-- The blocks of 4 320 bits of a list, the last filled with zeros (R236). -/
def blocksOf (l : List Bool) : List (List Bool) :=
  (List.range ((l.length + 4319) / 4320)).map (fun i =>
    let b := (l.drop (4320 * i)).take 4320
    b ++ List.replicate (4320 - b.length) false)

/-- Codeword lengths by rate (R237). -/
def codeLength (r : Nat) : Nat := if r = 0 then 8640 else if r = 1 then 6480 else 5184

/-- A list of exactly `n` bits. -/
def fitBits (n : Nat) (l : List Bool) : List Bool := (l ++ List.replicate n false).take n

/-- The codeword of a block at a rate, and the 1 152 coded bits of frame control (R235, R237). -/
def codeword (r : Nat) (l : List Bool) : List Bool := fitBits (codeLength r) (Config.ldpc r l)
def controlBits (l : List Bool) : List Bool := fitBits 1152 (Config.ldpcControl l)

/-- The integer whose Gray code is an n-bit label, and the level of the label (R239). -/
def grayInverse : List Bool → Bool → Nat → Nat
  | [], _, g => g
  | b :: l, p, g => grayInverse l (b ^^ p) (2 * g + (b ^^ p).toNat)
def labelLevel (l : List Bool) : Int := 2 * (grayInverse l false 0 : Nat) - (2 ^ l.length - 1)

/-- The point of a label (R239). -/
def labelPoint (l : List Bool) : Point :=
  let b := l.length
  if b = 1 then (if l = [true] then { i := -1, q := 0, width := 1 } else { i := 1, q := 0, width := 1 })
  else
    let n := (b + 1) / 2
    { i := labelLevel (l.take n), q := labelLevel (l.drop n), width := b }

/-- The j-th carrier of the permuted order (R238). -/
def permuted (j : Nat) : Nat := carrier0 + j * 773 % usable

/-- The labels of a symbol: carriers in permuted order, with the bits taken for streams A and B (R238). -/
def takeLabels (m : Nat → Nat × Nat) : List Nat → List Bool → List (Nat × List Bool × List Bool)
  | [], _ => []
  | c :: cs, l =>
    let (a, b) := m c
    (c, l.take a, (l.drop a).take b) :: takeLabels m cs (l.drop (a + b))

/-- Carriers with points put in ascending order. -/
def ascendingCarriers {α : Type} (l : List (Nat × α)) : List (Nat × α) := l.foldl (fun t p => Tab.insert p.1 p.2 t) []

/-- The negated conjugate and the conjugate of a point. -/
def Point.negConj (p : Point) : Point := { p with i := -p.i }
def Point.conj (p : Point) : Point := { p with q := -p.q }

/-- Diversity pairs of carriers in ascending order (R239): what ports A and B send. -/
def diversity : List (Nat × Point) → PhySymbol
  | (c1, x1) :: (c2, x2) :: l =>
    let r := diversity l
    { a := (c1, x1) :: (c2, x2) :: r.a, b := (c1, x2.negConj) :: (c2, x1.conj) :: r.b }
  | l => { a := l }

/-- A symbol's points on ports A and B (R239). -/
def symbolPoints (spatial : Bool) (labels : List (Nat × List Bool × List Bool)) : PhySymbol :=
  let a := ascendingCarriers ((labels.filter (fun x => x.2.1 ≠ [])).map (fun x => (x.1, labelPoint x.2.1)))
  if spatial then
    { a, b := ascendingCarriers ((labels.filter (fun x => x.2.2 ≠ [])).map (fun x => (x.1, labelPoint x.2.2))) }
  else diversity a

/-- The symbols of coded bits under a map, `n` symbols of `per` bits. -/
def mapSymbols (spatial : Bool) (m : Nat → Nat × Nat) (per n : Nat) (l : List Bool) :
    List PhySymbol :=
  let order := (List.range usable).map permuted
  (List.range n).map (fun i => symbolPoints spatial (takeLabels m order (l.drop (per * i))))

/-- Frame control, 24 bytes (R235). -/
def frameControl (mode tmi len nsym : Nat) (mac : List Byte) : List Byte :=
  let b := bytesBE 1 1 ++ bytesBE 1 mode ++ bytesBE 1 tmi ++ [0] ++ bytesBE 2 len ++ bytesBE 2 nsym ++ mac.take 12
    ++ List.replicate (12 - mac.length) 0
  b ++ bytesBE 4 (crc32 b)

/-- The payload symbols of a frame of `len` MAC bytes at rate `r` and `bsym` coded bits a symbol (R236, R238). -/
def symbolCount (len r bsym free : Nat) : Nat :=
  if bsym = 0 then Config.noCarriers free else (((len + 539) / 540) * codeLength r + bsym - 1) / bsym

/-- Samples of a payload symbol with the prefix of a mode byte (R227). -/
def symbolSamples (mode : Nat) : Nat := 4096 + (if mode / 4 % 4 = 0 then 256 else if mode / 4 % 4 = 1 then 512 else 1024)

/-- The symbols of frame control for `n` active carriers (R235). -/
def controlSymbols (n free : Nat) : Nat := if n = 0 then Config.noCarriers free else (576 + n - 1) / n

/-- Samples of a whole frame (R233). -/
def frameSamples (head nsym sym : Nat) : Nat := 5120 * (3 + head) + nsym * sym

/-- The symbols of frame control: QPSK under diversity, its 576 positions repeating until every carrier is filled (R235). -/
def controlPoints (act : List Nat) (head : Nat) (fc : List Byte) : List PhySymbol :=
  let coded := controlBits (toBits (fc.take 24))
  let n := act.length
  let order := ((List.range usable).map permuted).filter (fun c => act.contains c)
  (List.range head).map (fun h =>
    let labels := (List.range n).map (fun i =>
      let k := (h * n + i) % 576
      (order.getD i 0, [coded.getD (2 * k) false, coded.getD (2 * k + 1) false], ([] : List Bool)))
    symbolPoints false labels)

/-- The signal of a frame on slot `t` (R228, R233 to R239). -/
def State.phySignal (s : State) (f start t nsym head : Nat) (fc body : List Byte) : PhySignal :=
  let act := s.carriers f
  let mode := s.slotMode f t
  let (scr, st) := scramble 0x7FFF (toBits body)
  let coded := (blocksOf scr).flatMap (codeword (mode / 16 % 4))
  let m := s.mapBits f t
  let per := s.symbolBits f t
  let all := coded ++ scrambleTail st (per * nsym - coded.length)
  let signs := (List.range usable).zip (scrambleTail 0x7FFF usable)
  let ce := (signs.map (fun p => (p.1 + carrier0, p.2))).filter (fun p => act.contains p.1)
  { feeder := f, start, control := fc,
    sync := ((List.range 215).map (· + 6)).filterMap (fun i =>
      if act.contains (8 * i) then some (8 * i, i * (i + 1) / 2 % 8) else none),
    negated := List.replicate 9 false ++ [true], delayB := 128,
    estimation := [(ce, ce), (ce, ce.map (fun p => (p.1, !p.2)))],
    symbols := controlPoints act head fc ++ mapSymbols (mode % 4 = 1) m per nsym all,
    psd := act.map (fun c => (c, s.txPsd f c)) }

/-! ### Transmitting (R234, R244, R246, R247) -/

/-- The modem of feeder `f` is enabled: it receives and decodes (R246). -/
def State.modemOn (s : State) (f : Nat) : Bool :=
  s.domainUp (domainOf (fphPage f)) && s.rbit (FPH.F_CTRL f) 0 && s.rbit (regCTRL (fphPage f)) 0

/-- The modem may transmit (R246): a module of a pair that is not the active one transmits on no port, and one that took over
begins at its first C:0 (R460). -/
def State.mayTransmit (s : State) (f : Nat) : Bool :=
  s.modemOn f && !s.rbit (FPH.F_CTRL f) 1 && s.driving && decide (s.twn.feedAt.toNat ≤ s.now.toNat)

/-- The modem is transmitting. -/
def State.transmitting (s : State) (f : Nat) : Bool := decide (s.samples < (s.modem f).txEnd)

/-- A transmission that may not take place (R246). -/
def State.txDrop (s : State) (f : Nat) : State :=
  (s.setFld (FPH.TX_CNT f) 27 16 (satInc 12 (s.fld (FPH.TX_CNT f) 27 16))).fphEvent f 2

/-- The node at the other end of a frame the module sends, from bytes 8 to 19 of frame control; none for a broadcast or a node
not yet joined. -/
def macLink (mac : List Byte) : Option Nat :=
  let flags := (mac.getD 1 0).toNat
  if flags.testBit 4 || flags.testBit 7 then none else some (mac.getD 3 0).toNat

/-- The payload bytes of each link in the last 256 cycles with those of one more frame (R251). -/
def State.carriedBy (s : State) (m : Modem) (link : Option Nat) (n : Nat) : List (Nat × Nat × Nat) :=
  match link with
  | some a => m.traffic.filter (fun e => cycleOf s.now < e.1 + 256) ++ [(cycleOf s.now, a, n)]
  | none => m.traffic

/-- A transmission begins (R234, R244, R247): slot 0 in place of a slot that is not valid, late when the count it was named
has passed; a reception under way is abandoned. -/
def State.phyTransmit (s : State) (f : Nat) (r : TxReq) : State :=
  let bad := r.slot ≠ 0 && !s.slotValid f r.slot
  let t := if bad then 0 else r.slot
  let s0 := if bad then s.setFld (FPH.TX_CNT f) 31 28 (satInc 4 (s.fld (FPH.TX_CNT f) 31 28)) else s
  let mode := s.slotMode f t
  let nsym := symbolCount r.body.length (mode / 16 % 4) (s.symbolBits f t) s.free
  let head := controlSymbols (s.carriers f).length s.free
  let named := s.strobeSamples + 400
  let late := decide (r.tick ≠ s.now ∨ named < s.samples)
  let start := if late then s.samples + 1 else named
  let s1 := if late then (s0.incLo (FPH.LATE_CNT f)).fphEvent f 1 else s0
  let s2 := if (s.modem f).receiving then (s1.incLo (FPH.RX_ABORT f)).fphEvent f 3 else s1
  let sig := s.phySignal f start t nsym head (frameControl mode t r.body.length nsym r.mac) r.body
  let s3 := (s2.incLo (FPH.TX_CNT f)).modModem f (fun m => { m with
    receiving := false, traffic := s.carriedBy m (macLink r.mac) r.body.length, txStart := start, txEnd := start + frameSamples head nsym (symbolSamples mode), txHead := 3 + head,
    txSym := symbolSamples mode })
  (s3.emit (.feederFrame sig)).draw

/-- The first symbol boundary of a frame at or after a sample count. -/
def Modem.boundary (m : Modem) (x : Nat) : Nat :=
  let d := x - m.txStart
  let head := 5120 * m.txHead
  if d ≤ head then m.txStart + (d + 5119) / 5120 * 5120
  else m.txStart + head + (d - head + m.txSym - 1) / m.txSym * m.txSym

/-! ### Bit loading (R240 to R243) -/

/-- T[1] to T[12], and off(R) by rate (R240). -/
def loadThresholds : List Int := [14, 26, 40, 50, 62, 74, 86, 98, 110, 122, 134, 146]
def rateOffset (r : Nat) : Int := if r = 0 then 12 else if r = 1 then 6 else 0

/-- CAP by prefix and rate (R242). -/
def loadCap (cp r : Nat) : Nat :=
  (([[17408, 13056, 10444], [18432, 13824, 11059], [20480, 15360, 12288]] : List (List Nat)).getD cp []).getD r 0

/-- floor(B × R) by rate. -/
def rateInfo (r b : Nat) : Nat := if r = 0 then b / 2 else if r = 1 then b * 2 / 3 else b * 5 / 6

/-- load of R240 for one carrier: the largest b up to `bmax` whose threshold the SNR meets. -/
def loadOne (bmax : Nat) (x : Int) (r mg : Nat) : Nat :=
  (List.range bmax).foldl (fun b i => if loadThresholds.getD i 1000 - rateOffset r + mg ≤ x then i + 1 else b) 0

/-- The maps of one mode and rate at a margin. -/
def loadMaps (bmax : List Nat) (snr : List (Int × Int × Int)) (spatial : Bool) (r mg : Nat) : List Nat × List Nat :=
  let at_ := fun (g : Int × Int × Int → Int) => (bmax.zip snr).map (fun p => loadOne p.1 (g p.2) r mg)
  if spatial then (at_ (·.2.1), at_ (·.2.2)) else (at_ (·.1), snr.map (fun _ => 0))

/-- The loop of R240: the margin grows until the map is within its cap. -/
def loadLoop (bmax : List Nat) (snr : List (Int × Int × Int)) (spatial : Bool) (r cap : Nat) : Nat → Nat → List Nat × List Nat
  | 0, mg => loadMaps bmax snr spatial r mg
  | fuel + 1, mg =>
    let m := loadMaps bmax snr spatial r mg
    if m.1.sum + m.2.sum ≤ cap ∨ 255 ≤ mg then m else loadLoop bmax snr spatial r cap fuel (mg + 1)

/-- The receive map that R240 chooses for SNR values; none where slot 0 serves the link. -/
def State.computeMap (s : State) (f : Nat) (snr : List (Int × Int × Int)) : Option ToneMap :=
  let ctl := s.reg (FPH.F_CTRL f)
  let l := s.notches f
  let bmax := (List.range usable).map (fun q => if notched l (carrier0 + q) then 0 else bits ctl 19 16)
  let clamp := fun x => clampI (-40) 215 x
  let snr := (List.range usable).map (fun q =>
    let x := snr.getD q (-40, -40, -40)
    (clamp x.1, clamp x.2.1, clamp x.2.2))
  let modes := match bits ctl 5 4 with
    | 0 => [false, true]
    | 1 => [false]
    | _ => [true]
  let rates := if bits ctl 9 8 = 0 then [0, 1, 2] else [bits ctl 9 8 - 1]
  let cp := bits ctl 13 12
  let best := (modes.flatMap (fun m => rates.map (fun r => (m, r)))).foldl (fun (b : Option ToneMap) c =>
    let m := loadLoop bmax snr c.1 c.2 (loadCap cp c.2) 256 (s.fld (FPH.MARGIN f) 7 0)
    let t : ToneMap := { mode := c.1.toNat + 4 * cp + 16 * c.2, bA := m.1, bB := m.2,
                         info := rateInfo c.2 (m.1.sum + m.2.sum) }
    match b with
    | none => some t
    | some x => if x.info < t.info then some t else some x) none
  match best with
  | some t => if t.info ≤ (s.carriers f).length then none else some t
  | none => none

/-- The SNR code of R241. -/
def snrCode (x : Int) : Nat := (clampI (-40) 215 x + 40).toNat

/-- The mean SNR of R241, as a code. -/
def State.meanSnr (s : State) (f : Nat) (snr : List (Int × Int × Int)) : Nat :=
  let act := s.carriers f
  let sum := (act.map (fun c => clampI (-40) 215 (snr.getD (c - carrier0) (-40, -40, -40)).1)).foldl (· + ·) 0
  if act.isEmpty then Config.noCarriers s.free % 256 else snrCode (sum / (act.length : Int))

/-- A newly computed map replaces a link's receive map when info differs by a sixteenth, or when 8 of the last 64
codewords failed (R243). -/
def State.replaceMap (s : State) (f addr : Nat) (snr : List (Int × Int × Int)) : State :=
  let slot := s.linkSlot f addr 0
  let old := match slot with | some t => s.slotInfo f t | none => (s.carriers f).length
  let m := s.computeMap f snr
  let new := match m with | some t => t.info | none => (s.carriers f).length
  let fails := (((Tab.get (fun _ => []) (s.modem f).cw addr).filter (fun ok => !ok))).length
  let differs := decide (old ≤ 16 * ((new : Int) - old).natAbs) && decide (new ≠ old)
  if s.twn.role = .standby ∨ !(differs || decide (8 ≤ fails)) then s
  else
    let t := match m with
      | some m =>
        let (u, t) := match slot with | some t => (s, some t) | none => s.takeSlot f
        match t with | some t => u.putSlot f t (slotOf m 0 addr) | none => u
      | none => match slot with | some t => s.clearSlot f t | none => s
    (t.modModem f (fun x => { x with maps := x.maps.filter (fun a => a ≠ addr) ++ [addr] })).fphEvent f 0

/-! ### Receiving (R235 to R237) -/

/-- Frame control checks by its CRC (R235). -/
def controlGood (fc : List Byte) : Bool :=
  fc.length = 24 && natBE (fc.drop 20) = crc32 (fc.take 20)

/-- A field of frame control. -/
def fcField (fc : List Byte) (i n : Nat) : Nat := natBE ((fc.drop i).take n)

/-- A received frame of good frame control (R234, R237, R241, R243). -/
def State.phyFrame (s : State) (f : Nat) (fc : List Byte) (blocks : List (List Byte × Bool))
    (snr : List (Int × Int × Int)) : State :=
  let len := fcField fc 4 2
  let blocks := blocks.take ((len + 539) / 540)
  let failed := (blocks.filter (fun b => !b.2)).length
  let body := (ofBits (scramble 0x7FFF (toBits (blocks.flatMap (·.1)))).1).take len
  let code := s.meanSnr f snr
  let m := s.modem f
  let addr := fcField fc 10 1
  let flags := fcField fc 9 1
  let link := flags % 4 = 2 && flags < 128
  let t := (s.incLo (FPH.FC_CNT f)).setReg (FPH.SNR_MEAN f) (word code)
  let cw := s.reg (FPH.CW_CNT f)
  let t := t.setReg (FPH.CW_CNT f) (word (min (bits cw 15 0 + (blocks.length - failed)) 65535
    + min (bits cw 31 16 + failed) 65535 * 65536))
  let t := t.modModem f (fun x => { x with
    receiving := false,
    rx := x.rx ++ [{ ref := m.ref, at_ := m.refAt, fc, body, cws := blocks.map (·.2), snr := code }],
    cw := if link then Tab.put (fun _ => []) x.cw addr
        (((blocks.map (·.2)).reverse ++ Tab.get (fun _ => []) x.cw addr).take 64)
      else x.cw,
    traffic := s.carriedBy x (if link then some addr else none) len })
  if link then t.replaceMap f addr snr else t

/-! ### Masks (R230 to R232) -/

/-- The robust map recomputed for the active masks (R238). -/
def State.robustSlot (s : State) (f : Nat) : State :=
  let l := s.notches f
  let act := fun c => !notched l c
  let n := (s.carriers f).length
  s.putSlot f 0 ((List.range 877).map (robustByte act n))

/-- An accepted mask commit takes effect (R232). -/
def State.maskApply (s : State) (f : Nat) : State :=
  let b := w7Base f
  let t := (s.copyWin (b + 0xA000) (b + 0xA200) 0x200).copyWin (b + 0xA400) (b + 0xA500) 0x100
  let t := t.robustSlot f
  let t := ((List.range 19).map (· + 1)).foldl (fun t k => t.clearSlot f k) t
  (t.setRbit (FPH.MASK_STAT (f / 12)) (16 + f % 12) false).fphEvent f 4

/-- A request for the mask commit of feeder `f`, checked at the write (R232); answers whether it was refused. -/
def State.maskRequest (s : State) (f : Nat) : State × Bool :=
  let a := FPH.MASK_STAT (f / 12)
  if s.shadowOk f then ((s.setRbit a (f % 12) false).setRbit a (16 + f % 12) true, false)
  else ((s.setRbit a (f % 12) true).fphEvent f 5, true)

/-- A write of MASK_REQ (R232). -/
def maskReqEff (p : Nat) (v : Word) (s : State) : State × WriteResult :=
  let js := setBits 12 v.toNat
  let (t, bad) := js.foldl (fun (acc : State × Nat) j =>
    let (t, r) := acc.1.maskRequest (12 * p + j)
    (t, acc.2 + r.toNat)) (s, 0)
  (t, if bad = 0 then .done else if bad = js.length then .refused else .clamped)

/-! ### Writes and views -/

/-- The effect of a write on an FPH page (R247, R248). -/
def fphEff (req a : Nat) (v : Word) (s : State) : State × WriteResult :=
  let p := pageOf a - 0x16
  let f := 12 * p + (a % 0x1000 - 0x100) / 0x40
  if a = regCTRL (FPH.page p) then
    if bit v 1 then
      if (List.range 12).any (fun j => s.rbit (FPH.F_CTRL (12 * p + j)) 0) then (s, .refused)
      else
        let t := s.resetPageRegs (FPH.page p)
        ({ t with modems := Tab.dropIf (fun f => f / 12 = p) t.modems }, .done)
    else if bit v 0 && !s.firstLock then (s, .refused)
    else (s.setReg a (word (bits v 0 0)), .done)
  else if a = FPH.MASK_REQ p then maskReqEff p v s
  else if 0x100 ≤ a % 0x1000 ∧ a % 0x1000 < 0x400 ∧ a = FPH.F_CTRL f then
    if bit v 0 && !s.rbit a 0 && !s.firstLock then (s, .refused)
    else
      let (t, r) := s.plainWrite req a v
      (if bit v 0 then t else t.modModem f (fun m => { m with receiving := false }), r)
  else s.plainWrite req a v

/-- A tone-map word as a write stores it (R244): nibbles at most BMAX, 0 on a notched carrier, reserved bytes 0. -/
def State.fitMap (s : State) (f o : Nat) (v : Word) : Word :=
  let l := s.notches f
  let bmax := s.fld (FPH.F_CTRL f) 19 16
  let nib := fun (q x : Nat) => if usable ≤ q ∨ notched l (carrier0 + q) then 0 else min x bmax
  let one := fun (i : Nat) =>
    let b := o + i
    let x := bits v (31 - 8 * i) (24 - 8 * i)
    if b = 0 then x % 4
    else if b = 1 then x % 64
    else if b < 10 then x
    else if 16 ≤ b ∧ b ≤ 876 then nib (2 * (b - 16)) (x / 16) * 16 + nib (2 * (b - 16) + 1) (x % 16)
    else if 880 ≤ b ∧ b ≤ 1740 then nib (2 * (b - 880)) (x / 16) * 16 + nib (2 * (b - 880) + 1) (x % 16)
    else 0
  word (one 0 * 2 ^ 24 + one 1 * 2 ^ 16 + one 2 * 2 ^ 8 + one 3)

/-- Bits of a tone-map word that belong to a field. -/
def mapMask (o : Nat) : Nat :=
  let one := fun (i : Nat) =>
    let b := o + i
    if b = 0 then 3
    else if b = 1 then 63
    else if b < 10 ∨ (16 ≤ b ∧ b < 876) ∨ (880 ≤ b ∧ b < 1740) then 255
    else if b = 876 ∨ b = 1740 then 0xF0
    else 0
  one 0 * 2 ^ 24 + one 1 * 2 ^ 16 + one 2 * 2 ^ 8 + one 3

/-- A carrier index as a mask entry stores it (R249). -/
def fitCarrier (start : Bool) (c : Nat) : Nat :=
  if c = 0xFFFF ∨ (start ∧ 1761 < c) then c else clampN 41 1761 c

/-- A word written to a tone map slot of feeder `f`, `o` bytes into the slot (R231, R249). -/
def w7MapEff (f o a : Nat) (v : Word) (s : State) : State × WriteResult :=
  let m := mapMask o
  let w := s.fitMap f o v
  if m = 0 then (s, .ignored) else (s.setWin a w, .ofClamp (decide (w.toNat ≠ v.toNat &&& m)))

/-- A word written to an entry of two halves: stored if it is the first of its entry (R231). -/
def w7EntryEff (o a : Nat) (v w : Word) (s : State) : State × WriteResult :=
  if o % 8 ≠ 0 then (s, .ignored) else (s.setWin a w, .ofClamp (w ≠ v))

/-- A notch entry as stored: first and last carrier. -/
def fitNotch (v : Word) : Word := word (fitCarrier true (bits v 31 16) * 65536 + fitCarrier false (bits v 15 0))

/-- A level entry as stored: first carrier, and the level in tenths of a dB. -/
def fitLevel (v : Word) : Word :=
  word (fitCarrier false (bits v 31 16) * 65536 + unsigned 16 (clampI (-1000) (-400) (sbits v 15 0)))

/-- A write at an address of W7 (R244, R249). -/
def w7Eff (a : Nat) (v : Word) (s : State) : State × WriteResult :=
  let off := a % 0x80000
  let o := off % 0xA800
  if 0x7E000 ≤ off then (s, .refused)
  else if 0x800 ≤ o ∧ o < 0xA000 then w7MapEff (12 * (a / 0x80000 % 4) + off / 0xA800) (o % 0x800) a v s
  else if 0xA000 ≤ o ∧ o < 0xA200 then w7EntryEff o a v (fitNotch v) s
  else if 0xA400 ≤ o ∧ o < 0xA500 then w7EntryEff o a v (fitLevel v) s
  else (s, .refused)

/-- The computed registers of an FPH page: SAMPLE and F_STAT. -/
def State.fphView (s : State) (a : Nat) : Option Word :=
  let p := pageOf a - 0x16
  let f := 12 * p + (a % 0x1000 - 0x100) / 0x40
  if a = FPH.SAMPLE_LO p then some (word s.samples)
  else if a = FPH.SAMPLE_HI p then some (word (s.samples / 2 ^ 32))
  else if 0x100 ≤ a % 0x1000 ∧ a % 0x1000 < 0x400 ∧ a = FPH.F_STAT f then
    let st := if !s.modemOn f then 0 else if s.mayTransmit f then 2 else 1
    some (word (st + (s.transmitting f).toNat * 16 + (s.modem f).receiving.toNat * 32 + (s.modem f).gain * 256
      + (s.carriers f).length * 65536))
  else none

/-! ### The commands -/

/-- TX_TRUNCATE (R246): an inhibit has come in the middle of a frame, which ends at the next symbol boundary. -/
def execTxTruncate (f : Fin 48) (s : State) : Res State :=
  let m := s.modem f
  let e := m.boundary s.samples
  .next (if s.transmitting f && !s.mayTransmit f && decide (e < m.txEnd) then
      (s.incHi (FPH.LATE_CNT f)).modModem f (fun m => { m with txEnd := e })
    else s)

/-- PHY_FRAME_RECEIVE (R235): what the receiver of feeder `f` reports. A modem cannot receive while it transmits (R247). -/
def execPhyFrameReceive (f : Fin 48) (x : PhyRx) (s : State) : Res State :=
  .next (if !s.modemOn f || s.transmitting f then s
    else match x with
      | .preamble gain =>
        s.modModem f (fun m => { m with receiving := true, gain := gain, ref := s.samples, refAt := s.now })
      | .frame fc blocks snr =>
        if !(s.modem f).receiving then s
        else if controlGood fc then s.phyFrame f fc blocks snr
        else (s.incHi (FPH.FC_CNT f)).modModem f (fun m => { m with receiving := false }))

/-- MASK_COMMIT_REQ (R232): a write of MASK_REQ. -/
def execMaskCommitReq (req : Req) (p : Fin 4) (v : Word) (s : State) : Res State :=
  .next (s.busWrite req (FPH.MASK_REQ p) v (fphEff req (FPH.MASK_REQ p) v))

/-- MASK_COMMIT_APPLY (R232): a pending commit takes effect while the feeder neither transmits nor receives. -/
def execMaskCommitApply (f : Fin 48) (s : State) : Res State :=
  .next (if s.rbit (FPH.MASK_STAT (f.val / 12)) (16 + f.val % 12) && !s.transmitting f && !(s.modem f).receiving then
      s.maskApply f
    else s)

/-- FPH_ENABLE (R247): bit 0 of a page's CTRL set, or EN of a feeder with its other fields as they stand. -/
def execFphEnable (req : Req) (which : Fin 4 ⊕ Fin 48) (s : State) : Res State :=
  .next (match which with
    | .inl p => s.busWrite req (regCTRL (FPH.page p)) 1 (fphEff req (regCTRL (FPH.page p)) 1)
    | .inr f =>
      let v := putBit (s.reg (FPH.F_CTRL f)) 0 true
      s.busWrite req (FPH.F_CTRL f) v (fphEff req (FPH.F_CTRL f) v))

end Sys2Proof.Machine
end

