-- ==== Sys2Proof/Machine/Vault.lean ====
section
/-!
DEFINITION. The Heartwood key vault (spec/19).
-/

namespace Sys2Proof.Machine

/-! ### Codes (R402, R406, R407) -/

/-- States, types and usages of a slot. -/
def KS.EMPTY : Nat := 0
def KS.ACTIVE : Nat := 1
def KS.REVOKED : Nat := 2
def KT.AES : Nat := 1
def KT.ecPrivate : Nat := 2
def KT.ecPublic : Nat := 3
def KT.mldsaDigest : Nat := 4
def KT.SECRET : Nat := 5
def KU.ENCRYPT : Nat := 0
def KU.DECRYPT : Nat := 1
def KU.WRAP : Nat := 2
def KU.DERIVE : Nat := 3

/-- Result codes. -/
def KR.OK : Nat := 0
def KR.USAGE : Nat := 1
def KR.EMPTY : Nat := 2
def KR.PARENT_REVOKED : Nat := 3
def KR.REVOKED : Nat := 4
def KR.OCCUPIED : Nat := 5
def KR.AUTH_FAIL : Nat := 6
def KR.SIG_INVALID : Nat := 7
def KR.LENGTH : Nat := 8
def KR.NOT_EXPORTABLE : Nat := 9
def KR.DEPTH : Nat := 10
def KR.DIGEST : Nat := 11
def KR.ENTROPY : Nat := 12
def KR.SELFTEST : Nat := 13
def KR.ADDRESS : Nat := 14
def KR.PROTECTED : Nat := 15
def KR.RESET : Nat := 16
def KR.BAD_OP : Nat := 17

/-- Operations (R406). -/
def KO.GENERATE : Nat := 1
def KO.IMPORT_PLAIN : Nat := 2
def KO.UNWRAP : Nat := 3
def KO.WRAP : Nat := 4
def KO.DERIVE : Nat := 5
def KO.AGREE : Nat := 6
def KO.SEAL : Nat := 7
def KO.OPEN : Nat := 8
def KO.SIGN : Nat := 9
def KO.VERIFY_ECDSA : Nat := 10
def KO.VERIFY_MLDSA : Nat := 11
def KO.ATTEST : Nat := 12
def KO.STORE : Nat := 13
def KO.EXPORT_PUBLIC : Nat := 14
def KO.RANDOM : Nat := 15
def KO.READ_CERT : Nat := 16

/-! ### Slots, shares and chains (R402, R408, R409, R412) -/

/-- `n` random bytes: draw `k` of the present step (log entry 26). -/
def State.random (s : State) (k n : Nat) : List Byte := (List.range n).map (Config.random (8192 * s.free + k))

/-- The state with the vault changed. -/
def State.modKvt (s : State) (f : Kvt → Kvt) : State := { s with kvt := f s.kvt }

/-- The state with a slot replaced. -/
def State.setKey (s : State) (i : Nat) (k : KeySlot) : State :=
  s.modKvt (fun v => { v with slots := Tab.put (fun i =>
    if i = 0 ∧ v.factory then { st := 1, typ := 2, origin := 5, persist := true } else {}) v.slots i k })

/-- Every ancestor is ACTIVE with the GEN its child recorded (R409). -/
def State.chainHolds (s : State) : Nat → KeySlot → Bool
  | 0, _ => false
  | fuel + 1, k => match k.parent with
    | none => true
    | some p => (s.key p).st = KS.ACTIVE && (s.key p).gen = k.pgen && s.chainHolds fuel (s.key p)

/-- Slot `i` is orphaned: its chain fails (R409). -/
def State.orphan (s : State) (i : Nat) : Bool := !s.chainHolds 9 (s.key i)

/-- A slot is usable: ACTIVE, in a vault that is READY, with a chain that holds (R409, R418). -/
def State.keyUsable (s : State) (i : Nat) : Bool := s.kvt.state = 1 && (s.key i).st = KS.ACTIVE && !s.orphan i

/-- The value of a slot at the port of the feeder MACs: of a usable AES-256 key with the usage asked for (R403, R405). -/
def State.portKey (s : State) (i usage : Nat) : Option (List Byte) :=
  if s.keyUsable i && (s.key i).typ = KT.AES && (s.key i).usage = usage then some (s.keyValue i) else none

/-- The whole parent chain, the slot included, may leave the vault (R411). -/
def State.chainExports (s : State) : Nat → Nat → Bool
  | 0, _ => false
  | fuel + 1, i => (s.key i).exp && (match (s.key i).parent with | none => true | some p => s.chainExports fuel p)

/-- The bytes of a value by slot type. -/
def keyLength (t : Nat) : Nat := if t = KT.AES then 32 else if t = KT.ecPublic then 97 else 48

/-- The words of a slot's descriptor (R402). -/
def State.descriptor (s : State) (i : Nat) : List Word :=
  let k := s.key i
  [word (k.st + k.typ * 16 + k.usage * 256 + k.origin * 4096 + k.exp.toNat * 65536 + k.persist.toNat * 2 ^ 17
      + k.nonceExt.toNat * 2 ^ 18 + (k.st ≠ KS.EMPTY && s.orphan i).toNat * 2 ^ 19),
   word (k.parent.getD 0x3FF + k.pgen * 65536), word (k.gen % 65536 + k.depth % 8 * 65536), 0]

/-- A value split into two shares by the random bytes `r` (R412). -/
def KeySlot.withValue (k : KeySlot) (v r : List Byte) : KeySlot := { k with shareA := xorBytes v r, shareB := r }

/-- A filled slot: GEN one higher (R408). -/
def State.fillKey (s : State) (i : Nat) (k : KeySlot) : State :=
  s.setKey i { k with st := KS.ACTIVE, gen := ((s.key i).gen + 1) % 65536 }

/-- The copies of a slot in the persistent store. -/
def State.keyCopy (s : State) (i c : Nat) : Option KeyCopy := Tab.get (fun _ => none) s.kvt.copies (2 * i + c)
def State.setCopy (s : State) (i c : Nat) (k : Option KeyCopy) : State :=
  s.modKvt (fun v => { v with copies := Tab.put (fun _ => none) v.copies (2 * i + c) k })

/-- The copy that is current: of the current epoch, with the higher write count (R415). -/
def State.currentCopy (s : State) (i : Nat) : Option Nat :=
  match (s.keyCopy i 0).filter (fun k => k.epoch = s.kvt.epoch), (s.keyCopy i 1).filter (fun k => k.epoch = s.kvt.epoch) with
  | some a, some b => some (if a.count < b.count then 1 else 0)
  | some _, none => some 0
  | none, some _ => some 1
  | none, none => none

/-- A write of a slot's entry under an epoch to the copy that is not current (R415). -/
def State.writeCopy (s : State) (i epoch : Nat) : State :=
  let c := s.currentCopy i
  let n := match c.bind (s.keyCopy i) with | some k => k.count | none => 0
  s.setCopy i (match c with | some 0 => 1 | _ => 0) (some { epoch, count := n + 1, slot := s.key i })

/-- The persistent entry of a slot cleared, both copies. -/
def State.clearCopies (s : State) (i : Nat) : State := (s.setCopy i 0 none).setCopy i 1 none

/-- A slot emptied, leaving GEN (R408). -/
def State.emptyKey (s : State) (i : Nat) : State := s.setKey i { gen := (s.key i).gen }

/-! ### Command blocks (R406) -/

/-- A little-endian field of a command block. -/
def KvtCmd.f (c : KvtCmd) (o n : Nat) : Nat := natLE ((c.block.drop o).take n)
def KvtCmd.op (c : KvtCmd) : Nat := c.f 2 1
def KvtCmd.key (c : KvtCmd) : Nat := c.f 4 2 % 512
def KvtCmd.dest (c : KvtCmd) : Nat := c.f 6 2 % 512
def KvtCmd.attr (c : KvtCmd) : Word := word (c.f 44 4)

/-- The engine of a command (R407): AES, ECC, ML-DSA, HASH. -/
def KvtCmd.engines (c : KvtCmd) : List Nat :=
  let o := c.op
  if o = KO.SEAL ∨ o = KO.OPEN ∨ o = KO.WRAP ∨ o = KO.UNWRAP then [0, 1]
  else if o = KO.VERIFY_MLDSA then [3]
  else if o = KO.SIGN ∨ o = KO.VERIFY_ECDSA ∨ o = KO.AGREE ∨ o = KO.ATTEST ∨ (o = KO.GENERATE ∧ bits c.attr 7 4 = KT.ecPrivate)
    then [2]
  else [4]

/-- Whether a USAGE and TYPE accept an operation (R403). -/
def accepts (k : KeySlot) (o : Nat) : Bool :=
  if k.usage = KU.ENCRYPT then (k.typ = KT.AES && o = KO.SEAL) || (k.typ = KT.ecPrivate && o = KO.SIGN)
  else if k.usage = KU.DECRYPT then
    (k.typ = KT.AES && o = KO.OPEN) || (k.typ = KT.ecPublic && o = KO.VERIFY_ECDSA)
      || (k.typ = KT.mldsaDigest && o = KO.VERIFY_MLDSA)
  else if k.usage = KU.WRAP then k.typ = KT.AES && (o = KO.WRAP || o = KO.UNWRAP)
  else (k.typ = KT.AES && o = KO.DERIVE) || (k.typ = KT.ecPrivate && o = KO.AGREE) || (k.typ = KT.SECRET && o = KO.DERIVE)

/-- Operations that act under a key slot, that create a key in DEST, that act on DEST as their subject, and that need the
entropy source (R403, R406, R418). -/
def usesKey (o : Nat) : Bool := (3 ≤ o && o ≤ 11)
def creates (o : Nat) : Bool := o = KO.GENERATE || o = KO.IMPORT_PLAIN || o = KO.UNWRAP || o = KO.DERIVE || o = KO.AGREE
def hasSubject (o : Nat) : Bool := o = KO.WRAP || o = KO.ATTEST || o = KO.STORE || o = KO.EXPORT_PUBLIC

/-- A buffer lies in DRAM. -/
def bufferOk (a n : Nat) : Bool := n = 0 || inDram a n

/-- The checks before an operation runs (R403, R406, R409): the first result code that ends it, if any. -/
def State.kvtCheck (s : State) (c : KvtCmd) : Option Nat :=
  let o := c.op
  let k := s.key c.key
  let d := s.key c.dest
  let needsEntropy := o = KO.GENERATE || o = KO.SIGN || o = KO.RANDOM || o = KO.ATTEST || (o = KO.SEAL && !k.nonceExt)
  if s.kvt.state = 2 then some KR.SELFTEST
  else if o = 0 ∨ 16 < o then some KR.BAD_OP
  else if s.kvt.entropyFailed && needsEntropy then some KR.ENTROPY
  else if usesKey o && k.st = KS.EMPTY then some KR.EMPTY
  else if usesKey o && k.st = KS.REVOKED then some KR.REVOKED
  else if usesKey o && s.orphan c.key then some KR.PARENT_REVOKED
  else if usesKey o && !accepts k o then some KR.USAGE
  else if o = KO.ATTEST && (s.key 0).st ≠ KS.ACTIVE then some KR.EMPTY
  else if creates o && c.dest = 0 then some KR.PROTECTED
  else if creates o && d.st ≠ KS.EMPTY then some KR.OCCUPIED
  else if (o = KO.UNWRAP || o = KO.DERIVE) && decide (7 < k.depth + 1) then some KR.DEPTH
  else if hasSubject o && d.st = KS.EMPTY then some KR.EMPTY
  else if hasSubject o && d.st = KS.REVOKED then some KR.REVOKED
  else if o = KO.WRAP && !d.exp then some KR.NOT_EXPORTABLE
  else if !(bufferOk (c.f 8 8) (c.f 16 4) && bufferOk (c.f 24 8) (c.f 20 4) && bufferOk (c.f 32 8) (c.f 40 4)) then
    some KR.ADDRESS
  else none

/-- A key that a command creates, by NEW_ATTR, with its origin and parent (R402, R411). -/
def State.newKey (s : State) (c : KvtCmd) (origin : Nat) (parent : Option Nat) (v : List Byte) : KeySlot :=
  let a := c.attr
  let p := parent.map s.key
  let k : KeySlot := {
    typ := bits a 7 4, usage := bits a 9 8, origin, persist := bit a 17, nonceExt := bit a 18,
    exp := bit a 16 && (match parent with | none => true | some p => s.chainExports 9 p),
    parent, pgen := (p.map (·.gen)).getD 0, depth := (p.map (·.depth + 1)).getD 0, fixed := s.random 2 4 }
  k.withValue v (s.random 1 v.length)

/-- Salt and info of a derivation: a byte with the length of the salt, the salt, the info (log entry 28). -/
def saltInfo (l : List Byte) : List Byte × List Byte :=
  let n := (l.headD 0).toNat
  ((l.drop 1).take n, l.drop (1 + n))

/-- The statement of R410, 280 bytes. -/
def State.statement (s : State) (d : Nat) (challenge : List Byte) : List Byte :=
  let k := s.key d
  let pub := if k.typ = KT.ecPrivate then Config.ecPublic (s.keyValue d)
    else if k.typ = KT.ecPublic ∨ k.typ = KT.mldsaDigest then s.keyValue d else []
  let b := bytesBE 4 0x48574401 ++ bytesBE 4 (s.reg SYS.SERIAL_HI).toNat ++ bytesBE 4 (s.reg SYS.SERIAL_LO).toNat
    ++ (s.descriptor d).flatMap (fun w => bytesBE 4 w.toNat) ++ challenge.take 48 ++ List.replicate (48 - challenge.length) 0
    ++ bytesBE 8 s.now.toNat ++ bytesBE 2 pub.length ++ pub ++ List.replicate (97 - pub.length) 0 ++ [0]
  b ++ Config.ecdsaSign Config.idevKey (Config.sha384 b) (s.random 0 48)

/-- A command that ended, or will end, with a code and nothing written. -/
def KvtFlight.ended (c : KvtCmd) (code : Nat) : KvtFlight := { engine := 5, cmd := c, code }

/-- What an operation that passed its checks computes (R406, R410, R417). -/
def State.kvtRun (s : State) (c : KvtCmd) : KvtFlight :=
  let o := c.op
  let input := s.bytes (c.f 8 8) (c.f 16 4)
  let aux := s.bytes (c.f 32 8) (c.f 40 4)
  let k := s.key c.key
  let kv := s.keyValue c.key
  let dv := s.keyValue c.dest
  let typ := bits c.attr 7 4
  let fail := KvtFlight.ended c
  let yield := fun (out : List Byte) =>
    if c.f 20 4 < out.length then fail KR.LENGTH else ({ engine := 5, cmd := c, out } : KvtFlight)
  let make := fun (origin : Nat) (parent : Option Nat) (v : List Byte) =>
    ({ engine := 5, cmd := c, fill := some (c.dest, s.newKey c origin parent v) } : KvtFlight)
  let digest := if c.f 3 1 % 2 = 1 then input else Config.sha384 input
  let digestOk := c.f 3 1 % 2 = 0 || input.length = 48
  if o = KO.GENERATE then
    if typ = KT.AES ∨ typ = KT.ecPrivate ∨ typ = KT.SECRET then make 1 none (s.random 0 (keyLength typ)) else fail KR.USAGE
  else if o = KO.IMPORT_PLAIN then
    if typ ≠ KT.ecPublic ∧ typ ≠ KT.mldsaDigest then fail KR.USAGE
    else if input.length ≠ keyLength typ then fail KR.LENGTH else make 4 none input
  else if o = KO.UNWRAP then
    if input.length % 8 ≠ 0 ∨ input.length < 24 ∨ 520 < input.length then fail KR.LENGTH
    else match Config.kwUnwrap kv input with
      | none => fail KR.AUTH_FAIL
      | some v => if typ = 0 ∨ 5 < typ then fail KR.USAGE
        else if v.length ≠ keyLength typ then fail KR.LENGTH else make 2 (some c.key) v
  else if o = KO.WRAP then
    if dv.length % 8 ≠ 0 then fail KR.LENGTH else yield (Config.kwWrap kv dv)
  else if o = KO.DERIVE then
    let (salt, info) := saltInfo aux
    if typ ≠ KT.AES ∧ typ ≠ KT.SECRET then fail KR.USAGE
    else if 128 < salt.length ∨ 256 < info.length then fail KR.LENGTH
    else make 3 (some c.key) (Config.hkdf kv salt info (keyLength typ))
  else if o = KO.AGREE then
    let (salt, info) := saltInfo input
    if typ ≠ KT.AES ∧ typ ≠ KT.SECRET then fail KR.USAGE
    else if 128 < salt.length ∨ 256 < info.length ∨ aux.length ≠ 97 then fail KR.LENGTH
    else match Config.ecdh kv aux with
      | none => fail KR.AUTH_FAIL
      | some z => make 3 (some c.key) (Config.hkdf z salt info (keyLength typ))
  else if o = KO.SEAL then
    let iv := if k.nonceExt then aux.take 12 else k.fixed ++ bytesBE 8 k.seals
    let aad := if k.nonceExt then aux.drop 12 else aux
    if 2 ^ 24 < input.length ∨ 65536 < aad.length ∨ (!k.nonceExt ∧ 2 ^ 32 ≤ k.seals) ∨ iv.length ≠ 12 then fail KR.LENGTH
    else
      let ct := gcm kv iv input
      yield ((if k.nonceExt then [] else iv) ++ ct ++ Config.gcmTag kv iv aad ct)
  else if o = KO.OPEN then
    let iv := aux.take 12
    let aad := aux.drop 12
    let n := input.length - 16
    if input.length < 16 ∨ 2 ^ 24 < n ∨ 65536 < aad.length ∨ aux.length < 12 then fail KR.LENGTH
    else if Config.gcmTag kv iv aad (input.take n) ≠ input.drop n then fail KR.AUTH_FAIL
    else yield (gcm kv iv (input.take n))
  else if o = KO.SIGN then
    if !digestOk ∨ 2 ^ 24 < input.length then fail KR.LENGTH else yield (Config.ecdsaSign kv digest (s.random 0 48))
  else if o = KO.VERIFY_ECDSA then
    if !digestOk ∨ aux.length ≠ 96 ∨ 2 ^ 24 < input.length then fail KR.LENGTH
    else if Config.ecdsaVerify kv digest aux then yield [] else fail KR.SIG_INVALID
  else if o = KO.VERIFY_MLDSA then
    if aux.length < 1952 ∨ 2 ^ 24 < input.length then fail KR.LENGTH
    else if Config.sha384 (aux.take 1952) ≠ kv then fail KR.DIGEST
    else if Config.mldsaVerify (aux.take 1952) input (aux.drop 1952) then yield [] else fail KR.SIG_INVALID
  else if o = KO.ATTEST then
    if aux.length ≠ 48 then fail KR.LENGTH else yield (s.statement c.dest aux)
  else if o = KO.STORE then { engine := 5, cmd := c, store := some c.dest }
  else if o = KO.EXPORT_PUBLIC then
    let d := s.key c.dest
    if d.typ = KT.ecPrivate then yield (Config.ecPublic dv) else if d.typ = KT.ecPublic then yield dv else fail KR.USAGE
  else if o = KO.RANDOM then
    if 65536 < c.f 20 4 then fail KR.LENGTH else yield (s.random 0 (c.f 20 4))
  else if s.kvt.factory then yield Config.idevChain else fail KR.EMPTY

/-! ### Dispatch and completion (R407) -/

/-- A command completed: OUT, OUT_LEN, STATUS, DONE (R407). A slot that was filled meanwhile ends the command with
OCCUPIED; STORE of a slot that is no longer ACTIVE writes no entry. -/
def State.kvtComplete (s : State) (x : KvtFlight) : State :=
  let taken : Bool := match x.fill with | some (d, _) => decide ((s.key d).st ≠ KS.EMPTY) | none => false
  let code := if taken then KR.OCCUPIED else x.code
  let t := match x.fill with
    | some (d, k) =>
      if taken then s
      else
        let t := s.fillKey d k
        if k.persist then t.writeCopy d t.kvt.epoch else t
    | none => s
  let t := match x.store with
    | some d =>
      if (t.key d).st = KS.ACTIVE then
        let t := t.setKey d { t.key d with persist := true }
        t.writeCopy d t.kvt.epoch
      else t
    | none => t
  let t := t.setBytes (x.cmd.f 24 8) x.out
  let t := (t.setBytes (x.cmd.addr + 20) (bytesLE 4 x.out.length)).setBytes x.cmd.addr (bytesLE 2 code)
  let r := x.cmd.req
  let t := (t.modReg (KVT.QDEPTH r) (fun w => word (w.toNat - 1))).incReg (KVT.DONE_CNT r)
  t.raise KVT.page 0

/-- The oldest queued command whose engines include one of an operation's, STORE passed over during a reseal (R407,
R416). -/
def State.kvtNext (s : State) (c : KvtCmd) : Option KvtCmd :=
  s.kvt.queue.find? (fun q => q.engines = c.engines && !(s.kvt.reseal && q.op = KO.STORE))

/-- The first idle engine of a command. -/
def State.idleEngine (s : State) (c : KvtCmd) : Option Nat :=
  c.engines.find? (fun e => !s.kvt.flight.any (fun x => x.engine = e))

/-- The oldest waiting command of an operation is dispatched, if its turn has come and an engine is idle (R407). Its checks
are made now; one that fails them completes in this clock and leaves the engine idle. -/
def State.kvtDispatch (s : State) (op : Nat) : State :=
  match s.kvt.queue.find? (fun c => c.op = op && !(s.kvt.reseal && c.op = KO.STORE)) with
  | none => s
  | some c =>
    if s.kvtNext c ≠ some c ∨ s.kvt.state = 0 then s
    else
      let t := (s.modKvt (fun v => { v with queue := v.queue.erase c })).draw
      match s.idleEngine c with
      | none => s
      | some e =>
        match s.kvtCheck c with
        | some code => t.kvtComplete (.ended c code)
        | none =>
          let x := s.kvtRun c
          let k := s.key c.key
          let t := if c.op = KO.SEAL ∧ !k.nonceExt ∧ x.code = KR.OK then t.setKey c.key { k with seals := k.seals + 1 } else t
          t.modKvt (fun v => { v with flight := v.flight ++ [{ x with engine := e }] })

/-- Every command queued or in flight completed with RESET (R419). -/
def State.kvtFlush (s : State) : State :=
  let all := s.kvt.flight.map (·.cmd) ++ s.kvt.queue
  all.foldl (fun t c => t.kvtComplete (.ended c KR.RESET)) (s.modKvt (fun v => { v with queue := [], flight := [] }))

/-- The volatile contents cleared: slots but for GEN, and link keys (R413, R419). -/
def State.clearVolatile (s : State) : State :=
  let t := (s.kvt.slots.map (·.1)).foldl (fun t i => if i = 0 then t else t.emptyKey i) s
  t.modKvt (fun v => { v with links := [] })

/-- A reset before the control record is written ends a reseal pass (R416). -/
def State.resealStop (s : State) : State := s.modKvt (fun v => { v with reseal := false })

/-! ### Writes and views -/

/-- A command queued. One with no operation of R406 completes at once with BAD_OP, or SELFTEST in a vault in ERROR. -/
def State.kvtQueue (s : State) (c : KvtCmd) : State :=
  if c.op = 0 ∨ 16 < c.op then s.kvtComplete (.ended c ((s.kvtCheck c).getD KR.BAD_OP))
  else s.modKvt (fun k => { k with queue := k.queue ++ [c] })

/-- A write of SUBMIT_HI queues a command (R406). -/
def submitEff (req r : Nat) (v : Word) (s : State) : State × WriteResult :=
  let (t, w) := s.loadPair req (KVT.SUBMIT_HI r) v
  let a := (t.reg64 (KVT.SUBMIT_LO r) (KVT.SUBMIT_HI r)).toNat
  if 8 ≤ (s.kvt.queue.filter (fun c => c.req = r)).length ∨ !inDram a 64 then (s, .refused)
  else
    let t := t.setBytes a [0xFF, 0xFF]
    ((t.incReg (KVT.QDEPTH r)).kvtQueue { req := r, addr := a, block := t.bytes a 64 }, w)

/-- A write of REVOKE (R408). -/
def revokeEff (v : Word) (s : State) : State × WriteResult :=
  let i := bits v 9 0
  if bits v 31 16 ≠ 0x8E70 ∨ i = 0 ∨ 511 < i then (s, .refused)
  else
    let g := ((s.key i).gen + 1) % 65536
    let t := (s.setKey i { s.key i with st := KS.REVOKED, gen := g, persist := false }).clearCopies i
    ((t.raise KVT.page 4).log 0x272 (fields [(2, i), (2, g)]), .done)

/-- A write of DELETE (R408, R416). -/
def deleteEff (v : Word) (s : State) : State × WriteResult :=
  let i := bits v 9 0
  if bits v 31 16 ≠ 0x8E70 ∨ i = 0 ∨ 511 < i then (s, .refused)
  else if (s.key i).st = KS.EMPTY then (s, .done)
  else ((s.emptyKey i).clearCopies i, .done)

/-- A write of ZEROIZE (R419). -/
def zeroizeEff (req : Nat) (v : Word) (s : State) : State × WriteResult :=
  let l := bits v 2 0
  if bits v 31 16 ≠ 0x2E50 ∨ !(l = 1 ∨ l = 2 ∨ l = 4) then (s, .refused)
  else
    let t := s.kvtFlush.clearVolatile
    let t := if 2 ≤ l then t.modKvt (fun k => { k with copies := [], reseal := false }) else t
    let t := if l = 4 then (t.modKvt (fun k => { k with factory := false })).emptyKey 0 else t
    let n := if l = 4 then 3 else l
    ((t.raise KVT.page 5).log 0x273 (fields [(1, n), (1, req), (2, 0)]), .done)

/-- A write of RESEAL (R416). -/
def resealEff (v : Word) (s : State) : State × WriteResult :=
  if bits v 31 16 ≠ 0x5EA1 ∨ s.kvt.reseal ∨ s.kvt.state ≠ 1 then (s, .refused)
  else (s.modKvt (fun k => { k with reseal := true }), .done)

/-- The effect of a write on the KVT page. -/
def kvtEff (req a : Nat) (v : Word) (s : State) : State × WriteResult :=
  let r := (a % 0x1000 - 0x100) / 0x10
  if a = regCTRL KVT.page then
    if bit v 1 then
      if s.kvt.queue ≠ [] ∨ s.kvt.flight ≠ [] then (s, .refused) else ((s.resetPageRegs KVT.page).clearVolatile.resealStop, .done)
    else (s, .done)
  else if a = KVT.REVOKE then revokeEff v s
  else if a = KVT.DELETE then deleteEff v s
  else if a = KVT.ZEROIZE then zeroizeEff req v s
  else if a = KVT.RESEAL then resealEff v s
  else if 0x100 ≤ a % 0x1000 ∧ a = KVT.SUBMIT_HI r then submitEff req r v s
  else s.plainWrite req a v

/-- The computed registers of the KVT page. -/
def State.kvtView (s : State) (a : Nat) : Option Word :=
  if KVT.DESC 0 ≤ a ∧ a ≤ KVT.DESC 3 then some ((s.descriptor (s.fld KVT.SLOT_SEL 9 0)).getD ((a - KVT.DESC 0) / 4) 0)
  else if a = KVT.SLOT_USED then
    let used := (s.kvt.slots.filter (fun p => p.1 ≠ 0 && p.2.st ≠ KS.EMPTY)).length + ((s.key 0).st ≠ KS.EMPTY : Bool).toNat
    some (word (used + s.kvt.links.length * 65536))
  else if a = regSTAT KVT.page then
    some (word (s.kvt.state + s.kvt.entropyFailed.toNat * 16 + s.kvt.reseal.toNat * 32 + s.kvt.epoch % 65536 * 65536))
  else none

/-- PD2 power-up (R415, R418): the self-tests, whose failing algorithm `bad` names, then the load of every persistent
slot from its valid copy; a slot whose copies are none of them current is logged. -/
def State.kvtPowerUp (s : State) (bad : Option Nat) : State :=
  match bad with
  | some alg =>
    ((s.modKvt (fun v => { v with state := 2 })).raise KVT.page 2).log 0x270 (fields [(1, alg), (3, 0)])
  | none =>
    (List.range 512).foldl (fun t i =>
      match t.currentCopy i with
      | some c => match t.keyCopy i c with
        | some k => (t.setKey i { k.slot with fixed := s.random (2 + i) 4, seals := 0 })
        | none => t
      | none =>
        if (t.keyCopy i 0).isSome ∨ (t.keyCopy i 1).isSome then
          (t.incHi KVT.ERR_CNT).log 0x274 (fields [(2, i), (2, 0)])
        else t) (s.modKvt (fun v => { v with state := 1 })).draw

/-! ### The commands -/

/-- GENERATE (R406). -/
def execGenerate (s : State) : Res State := .next (s.kvtDispatch KO.GENERATE)
/-- IMPORT_PLAIN (R406). -/
def execImportPlain (s : State) : Res State := .next (s.kvtDispatch KO.IMPORT_PLAIN)
/-- UNWRAP (R406). -/
def execUnwrap (s : State) : Res State := .next (s.kvtDispatch KO.UNWRAP)
/-- WRAP (R406). -/
def execWrap (s : State) : Res State := .next (s.kvtDispatch KO.WRAP)
/-- DERIVE (R406). -/
def execDerive (s : State) : Res State := .next (s.kvtDispatch KO.DERIVE)
/-- AGREE (R406). -/
def execAgree (s : State) : Res State := .next (s.kvtDispatch KO.AGREE)
/-- SEAL (R406). -/
def execSeal (s : State) : Res State := .next (s.kvtDispatch KO.SEAL)
/-- OPEN (R406). -/
def execOpen (s : State) : Res State := .next (s.kvtDispatch KO.OPEN)
/-- SIGN (R406). -/
def execSign (s : State) : Res State := .next (s.kvtDispatch KO.SIGN)
/-- VERIFY_ECDSA (R406). -/
def execVerifyEcdsa (s : State) : Res State := .next (s.kvtDispatch KO.VERIFY_ECDSA)
/-- VERIFY_MLDSA (R406). -/
def execVerifyMldsa (s : State) : Res State := .next (s.kvtDispatch KO.VERIFY_MLDSA)
/-- ATTEST (R410). -/
def execAttest (s : State) : Res State := .next (s.kvtDispatch KO.ATTEST)
/-- STORE (R406). -/
def execStore (s : State) : Res State := .next (s.kvtDispatch KO.STORE)
/-- EXPORT_PUBLIC (R406). -/
def execExportPublic (s : State) : Res State := .next (s.kvtDispatch KO.EXPORT_PUBLIC)
/-- RANDOM (R406). -/
def execRandom (s : State) : Res State := .next (s.kvtDispatch KO.RANDOM)
/-- READ_CERT (R406). -/
def execReadCert (s : State) : Res State := .next (s.kvtDispatch KO.READ_CERT)

/-- KEY_COMMAND_DONE (R407): an engine completes its command. -/
def execKeyCommandDone (engine : Fin 5) (s : State) : Res State :=
  .next (match s.kvt.flight.find? (fun x => x.engine = engine.val) with
    | some x => (s.modKvt (fun v => { v with flight := v.flight.filter (fun y => y.engine ≠ engine.val) })).kvtComplete x
    | none => s)

/-- A keyed write of a KVT register. -/
def State.kvtWrite (s : State) (req : Req) (a key low : Nat) : State :=
  let v := word (key * 65536 + low)
  s.busWrite req a v (kvtEff req a v)

/-- REVOKE (R408). -/
def execRevoke (req : Req) (slot : Fin 512) (s : State) : Res State := .next (s.kvtWrite req KVT.REVOKE 0x8E70 slot)
/-- DELETE (R408). -/
def execDelete (req : Req) (slot : Fin 512) (s : State) : Res State := .next (s.kvtWrite req KVT.DELETE 0x8E70 slot)
/-- ZEROIZE_VOLATILE (R419). -/
def execZeroizeVolatile (req : Req) (s : State) : Res State := .next (s.kvtWrite req KVT.ZEROIZE 0x2E50 1)
/-- ZEROIZE_PERSISTENT (R419). -/
def execZeroizePersistent (req : Req) (s : State) : Res State := .next (s.kvtWrite req KVT.ZEROIZE 0x2E50 2)
/-- ZEROIZE_FACTORY (R419). -/
def execZeroizeFactory (req : Req) (s : State) : Res State := .next (s.kvtWrite req KVT.ZEROIZE 0x2E50 4)
/-- RESEAL (R416). -/
def execReseal (req : Req) (s : State) : Res State := .next (s.kvtWrite req KVT.RESEAL 0x5EA1 0)

/-- RESEAL_DONE (R416): every ACTIVE persistent slot written under the next epoch, then the control record takes it. -/
def execResealDone (s : State) : Res State :=
  .next (if s.kvt.reseal then
      let e := s.kvt.epoch + 1
      let t := (List.range 512).foldl (fun t i =>
        if (t.key i).st = KS.ACTIVE && (t.key i).persist && (t.currentCopy i).isSome then t.writeCopy i e else t) s
      let t := t.modKvt (fun v => { v with epoch := e, reseal := false })
      (t.raise KVT.page 3).log 0x275 (fields [(4, e)])
    else s)

/-- MASKING_PASS (R412): fresh random bytes into both shares of every slot and link entry. -/
def execMaskingPass (s : State) : Res State :=
  .next (if s.domainUp 2 then
      let t := s.modKvt (fun v => { v with
        slots := v.slots.map (fun p =>
          let r := s.random p.1 p.2.shareA.length
          (p.1, { p.2 with shareA := xorBytes p.2.shareA r, shareB := xorBytes p.2.shareB r })),
        links := v.links.map (fun p =>
          let r := s.random (512 + p.1) p.2.shareA.length
          (p.1, { p.2 with shareA := xorBytes p.2.shareA r, shareB := xorBytes p.2.shareB r })) })
      (t.incReg KVT.MASK_CNT).draw
    else s)

/-- ENTROPY_FAIL (R418): a health test fails, 0 repetition, 1 proportion. -/
def execEntropyFail (test : Fin 2) (s : State) : Res State :=
  .next (if s.domainUp 2 then
      let t := (s.modKvt (fun v => { v with entropyFailed := true })).incLo KVT.ERR_CNT
      (t.raise KVT.page 1).log 0x271 (fields [(1, test), (3, 0)])
    else s)

/-- ENTROPY_RECOVERED (R418). -/
def execEntropyRecovered (s : State) : Res State := .next (s.modKvt (fun v => { v with entropyFailed := false }))

end Sys2Proof.Machine
end

