-- ==== Sys2Proof/Machine/Nodes.lean ====
section
/-!
DEFINITION. The node table and the endpoint table (spec/12, R275 to R280).
-/

namespace Sys2Proof.Machine

/-! ### Bytes of the table windows -/

/-- A byte of a table window. DEDUCED (log entry 29), unsafe: byte 0 of a window word lies in its bits 31:24. -/
def State.winByte (s : State) (a : Nat) : Nat := bits (s.winWord (a / 4 * 4)) (31 - 8 * (a % 4)) (24 - 8 * (a % 4))

/-- The state with a byte of a table window written. -/
def State.setWinByte (s : State) (a v : Nat) : State :=
  s.setWin (a / 4 * 4) (putBits (s.winWord (a / 4 * 4)) (31 - 8 * (a % 4)) (24 - 8 * (a % 4)) v)

/-- A field of `n` bytes, most significant first (R8). -/
def State.winField (s : State) (a n : Nat) : Nat := (List.range n).foldl (fun x i => x * 256 + s.winByte (a + i)) 0

/-- The state with a field of `n` bytes written. -/
def State.setWinField (s : State) (a n v : Nat) : State :=
  (List.range n).foldl (fun t i => t.setWinByte (a + i) (v / 256 ^ (n - 1 - i) % 256)) s

/-! ### Entries (R276, R277, R278) -/

/-- The addresses of a node entry and of an endpoint entry. -/
def nodeAddr (i : Nat) : Nat := 0x50200000 + 0x80 * i
def epAddr (e : Nat) : Nat := 0x50400000 + 0x40 * e

/-- A field of node entry `i`, of endpoint entry `e`: offset and bytes. -/
def State.node (s : State) (i o n : Nat) : Nat := s.winField (nodeAddr i + o) n
def State.ep (s : State) (e o n : Nat) : Nat := s.winField (epAddr e + o) n

/-- Node states (R276), and no endpoint. -/
def ND.FREE : Nat := 0
def ND.JOINING : Nat := 1
def ND.JOINED : Nat := 2
def ND.LOST : Nat := 3
def noEp : Nat := 0xFFFF

/-- Offsets of node fields. -/
def N.STATE : Nat := 0
def N.FEEDER : Nat := 1
def N.ADDR : Nat := 2
def N.VER : Nat := 3
def N.EUI : Nat := 4
def N.PARENT : Nat := 12
def N.ROUTE : Nat := 13
def N.NEP : Nat := 14
def N.DELIV : Nat := 15
def N.EP_FIRST : Nat := 16
def N.SNR : Nat := 18
def N.FLAGS : Nat := 19
def N.JOINED_AT : Nat := 20
def N.HEARD : Nat := 28
def N.FCNT_RX : Nat := 32
def N.FW : Nat := 36
def N.MODEL : Nat := 40
def N.KEY_SLOT : Nat := 44
def N.PROP_PARENT : Nat := 46
def N.PROP_ROUTE : Nat := 47
def N.NBR : Nat := 48
def N.GEN : Nat := 127

/-- Offsets of endpoint fields. -/
def P.TYPE : Nat := 0
def P.NUM : Nat := 1
def P.NODE : Nat := 2
def P.NEXT : Nat := 4
def P.EFLAGS : Nat := 6
def P.GEN : Nat := 7
def P.CSEQ_LAST : Nat := 8
def P.CSEQ_ACK : Nat := 12
def P.RATE_DN : Nat := 16
def P.BURST_DN : Nat := 20
def P.RATE_UP : Nat := 24
def P.BURST_UP : Nat := 28
def P.BUCKET_DN : Nat := 32
def P.BUCKET_UP : Nat := 36
def P.VLAN : Nat := 40
def P.DROP : Nat := 42
def P.GROUP : Nat := 44
def P.BYTES_DN : Nat := 48
def P.BYTES_UP : Nat := 52

/-- The words of an entry of `n` words. -/
def State.entryWords (s : State) (a n : Nat) : List Word := (List.range n).map (fun i => s.winWord (a + 4 * i))

/-- A module update of a node entry: fields (offset, bytes, value), GEN one higher, journalled (R276, R451). -/
def State.updNode (s : State) (i : Nat) (l : List (Nat × Nat × Nat)) : State :=
  let t := l.foldl (fun t f => t.setWinField (nodeAddr i + f.1) f.2.1 f.2.2) s
  let t := t.setWinByte (nodeAddr i + N.GEN) ((s.node i N.GEN 1 + 1) % 256)
  t.journalUpdate (nodeAddr i) (t.entryWords (nodeAddr i) 32)

/-- A module update of an endpoint entry. -/
def State.updEp (s : State) (e : Nat) (l : List (Nat × Nat × Nat)) : State :=
  let t := l.foldl (fun t f => t.setWinField (epAddr e + f.1) f.2.1 f.2.2) s
  let t := t.setWinByte (epAddr e + P.GEN) ((s.ep e P.GEN 1 + 1) % 256)
  t.journalUpdate (epAddr e) (t.entryWords (epAddr e) 16)

/-- The entries in use, ascending. A used node entry has a STATE and a used endpoint entry a TYPE in its first word. -/
def State.nodes (s : State) : List Nat :=
  (s.win.filter (fun c => 0x50200000 ≤ c.1 && c.1 < 0x50280000 && c.1 % 0x80 = 0)).map (fun c => (c.1 - 0x50200000) / 0x80)
def State.eps (s : State) : List Nat :=
  (s.win.filter (fun c => 0x50400000 ≤ c.1 && c.1 < 0x50500000 && c.1 % 0x40 = 0)).map (fun c => (c.1 - 0x50400000) / 0x40)

/-- The entries of feeder `f`, and the JOINED ones. -/
def State.nodesOf (s : State) (f : Nat) : List Nat := s.nodes.filter (fun i => s.node i N.FEEDER 1 = f)
def State.joined (s : State) (f : Nat) : List Nat := (s.nodesOf f).filter (fun i => s.node i N.STATE 1 = ND.JOINED)

/-- The entry with an address on a feeder: JOINED first, else JOINING. -/
def State.nodeAt (s : State) (f addr : Nat) : Option Nat :=
  let l := (s.nodesOf f).filter (fun i => s.node i N.ADDR 1 = addr)
  match l.find? (fun i => s.node i N.STATE 1 = ND.JOINED) with
  | some i => some i
  | none => l.find? (fun i => s.node i N.STATE 1 = ND.JOINING)

/-- The endpoints of a node, through NEXT (R277). -/
def State.epChain (s : State) : Nat → Nat → List Nat
  | 0, _ => []
  | fuel + 1, e => if e = noEp then [] else e :: s.epChain fuel (s.ep e P.NEXT 2)
def State.epsOf (s : State) (i : Nat) : List Nat := s.epChain 16 (s.node i N.EP_FIRST 2)

/-- The endpoint of a node with an endpoint number. -/
def State.epNum (s : State) (i n : Nat) : Option Nat := (s.epsOf i).find? (fun e => s.ep e P.NUM 1 = n)

/-- What the MAC keeps for node `i`. -/
def State.macNode (s : State) (i : Nat) : MacNode := Tab.get (fun _ => {}) s.ntb.nodes i
def State.modMacNode (s : State) (i : Nat) (f : MacNode → MacNode) : State :=
  { s with ntb := { s.ntb with nodes := Tab.put (fun _ => {}) s.ntb.nodes i (f (s.macNode i)) } }

/-- MAC of feeder `f`. -/
def State.mac (s : State) (f : Nat) : Mac := Tab.get (fun _ => {}) s.macs f
def State.modMac (s : State) (f : Nat) (g : Mac → Mac) : State :=
  { s with macs := Tab.put (fun _ => {}) s.macs f (g (s.mac f)) }

/-- An INT_FLAG event of the MAC of feeder `f` (R279). -/
def State.fmaEvent (s : State) (f b : Nat) : State :=
  (s.raise (FMA.page (f / 12)) b).setRbit (FMA.EVT (f / 12)) (f % 12) true

/-! ### Reports, frames waiting -/

/-- A report for the Yarder (R259). A standby's Yarder takes reports from Yarder epochs only (R453). -/
def State.report (s : State) (r : MacReport) : State :=
  if s.twn.role = .standby then s
  else { s with yrd := { s.yrd with reports := s.yrd.reports ++ [r], newReports := s.yrd.newReports ++ [r] } }

/-- A presence EVENT for the Yarder (R297); on a standby as in `report`. -/
def State.presence (s : State) (e : LampEvent) : State :=
  if s.twn.role = .standby then s
  else { s with yrd := { s.yrd with events := s.yrd.events ++ [e], newEvents := s.yrd.newEvents ++ [e] } }

/-- FAILED for every element of a frame. -/
def State.failFrame (s : State) (m : MacFrame) : State :=
  m.seqs.foldl (fun t q => t.report { kind := 2, ep := q.1, seq := q.2 }) s

/-- FAILED for the frames of a node, which leave the MAC (R259, R271). -/
def State.failNode (s : State) (f i : Nat) : State :=
  let m := s.mac f
  let mine := (m.out ++ m.await).filter (fun x => x.node = i)
  let t := mine.foldl State.failFrame s
  t.modMac f (fun m => { m with out := m.out.filter (fun x => x.node ≠ i), await := m.await.filter (fun x => x.node ≠ i) })

/-- A frame put among those that wait for an allocation. -/
def State.macSend (s : State) (f : Nat) (x : MacFrame) : State :=
  s.modMac f (fun m => { m with next := m.next + 1, out := m.out ++ [{ x with tag := m.next }] })

/-- An element (R261): class, endpoint number, body. -/
def element (cls ep : Nat) (body : List Byte) : List Byte :=
  bytesBE 1 cls ++ bytesBE 1 ep ++ bytesBE 2 body.length ++ body

/-- A management element for a node (R261): subtype and body. REKEY and the join steps travel under the node key, the rest
under the group key (R454). -/
def State.macMgmt (s : State) (f i sub : Nat) (body : List Byte) : State :=
  s.macSend f { node := i, body := element 5 0xFF (bytesBE 1 sub ++ body), prio := 3, key := Config.keyEpoch f % 2 }

/-- Subtypes of MGMT (R261). -/
def MG.TONEMAP : Nat := 1
def MG.TM_ACK : Nat := 2
def MG.MASK : Nat := 3
def MG.ROUTE : Nat := 4
def MG.NEIGHBOURS : Nat := 5
def MG.BUDGET : Nat := 6
def MG.REKEY : Nat := 7
def MG.LEAVE : Nat := 8
def MG.CONFIRM : Nat := 9
def MG.ACKNOWLEDGE : Nat := 10

/-! ### Freeing, losing and leaving (R270, R271, R276, R280) -/

/-- Bit 6 of ROUTE follows whether a JOINED node of the feeder has the entry for its parent (R276). -/
def State.markChildren (s : State) (f : Nat) : State :=
  let js := s.joined f
  js.foldl (fun t i =>
    let has := js.any (fun j => !(s.node j N.ROUTE 1).testBit 4 && s.node j N.PARENT 1 = s.node i N.ADDR 1)
    if (s.node i N.ROUTE 1).testBit 6 = has then t
    else t.updNode i [(N.ROUTE, 1, s.node i N.ROUTE 1 % 64 + has.toNat * 64)]) s

/-- Node `i` no longer has to acknowledge the masks, since it has, or is no longer JOINED (R272); S is set once all have. -/
def State.maskAck (s : State) (f i : Nat) : State :=
  match (s.mac f).mask with
  | some x =>
    let w := x.waiting.erase i
    let soon := cycleOf s.now + (if angleOf s.now < 4064 then 1 else 2)
    let at_ := if x.at_.isNone && w.isEmpty then some (max (x.go + s.fld (FMA.MASK_DIST f) 15 8) soon) else x.at_
    (s.modMac f (fun m => { m with mask := some { x with waiting := w, at_ } })).setFld (FMA.MASK_STAT f) 24 16 w.length
  | none => s

/-- Words of a window region cleared to what unlisted words hold. -/
def State.clearWin (s : State) (a n : Nat) : State :=
  { s with win := Tab.dropIf (fun k => a ≤ k && k < a + n) s.win }

/-- An endpoint entry freed (R278, R306): its waiting elements go. -/
def State.freeEp (s : State) (e : Nat) : State :=
  let t := s.clearWin (epAddr e) 0x40
  let t := t.journalUpdate (epAddr e) (t.entryWords (epAddr e) 16)
  { t with ntb := { t.ntb with held := t.ntb.held.filter (fun h => h.ep ≠ e) },
           yrd := { t.yrd with lamps := Tab.put (fun _ => {}) t.yrd.lamps e {},
                               ready := t.yrd.ready.filter (fun y => y.ep ≠ e),
                               sent := t.yrd.sent.filter (fun y => y.ep ≠ e) } }

/-- The endpoints of a node freed. -/
def State.freeEps (s : State) (i : Nat) : State := (s.epsOf i).foldl State.freeEp s

/-- A node entry and its endpoints freed; its link key goes in the same clock (R405). -/
def State.freeNode (s : State) (i : Nat) : State :=
  let t := (s.failNode (s.node i N.FEEDER 1) i).freeEps i
  let t := t.clearWin (nodeAddr i) 0x80
  let t := t.journalUpdate (nodeAddr i) (t.entryWords (nodeAddr i) 32)
  let t := t.modKvt (fun v => { v with links := Tab.erase i v.links })
  let t := { t with ntb := { t.ntb with nodes := Tab.put (fun _ => {}) t.ntb.nodes i {} } }
  (t.maskAck (s.node i N.FEEDER 1) i).markChildren (s.node i N.FEEDER 1)

/-- The payload of the records EVICT and NODE_LOST (R400). -/
def State.nodeRecord (s : State) (i : Nat) : List Byte :=
  fields [(1, s.node i N.FEEDER 1), (1, s.node i N.ADDR 1), (2, 0), (8, s.node i N.EUI 8)]

/-- A JOINED entry becomes LOST (R271). -/
def State.loseNode (s : State) (i : Nat) : State :=
  let f := s.node i N.FEEDER 1
  let t := (s.updNode i [(N.STATE, 1, ND.LOST)]).fmaEvent f 2
  (((t.log 0x1A2 (s.nodeRecord i)).failNode f i).maskAck f i).markChildren f

/-- LEAVE sent and the entry LOST (R276, R280). -/
def State.leaveNode (s : State) (i : Nat) : State :=
  let f := s.node i N.FEEDER 1
  ((((s.updNode i [(N.STATE, 1, ND.LOST)]).failNode f i).maskAck f i).markChildren f).macMgmt f i MG.LEAVE []

/-- The LOST entry of a list with the oldest LAST_HEARD, the lowest index on a tie (R270). -/
def State.oldestLost (s : State) (l : List Nat) : Option Nat :=
  (l.filter (fun i => s.node i N.STATE 1 = ND.LOST)).foldl (fun (b : Option Nat) i =>
    match b with
    | none => some i
    | some j => if s.node i N.HEARD 4 < s.node j N.HEARD 4 then some i else some j) none

/-- A LOST entry evicted (R270). -/
def State.evict (s : State) (i : Nat) : State :=
  let f := s.node i N.FEEDER 1
  (((s.log 0x1A1 (s.nodeRecord i)).freeNode i).fmaEvent f 3).raise NTB.page 2

/-! ### Budgets (R275) -/

/-- Default rate and burst of an endpoint type (R277). -/
def defaultBudget (t : Nat) : Nat × Nat := if t = 3 then (1024, 4096) else if t = 5 then (0, 0) else (256, 1024)

/-- A bucket as a signed number. -/
def State.bucketOf (s : State) (e o : Nat) : Int := signed 32 (s.ep e o 4)

/-- An upward element of `n` bytes: admitted by the bucket, or counted in DROP (R275). -/
def State.admitUp (s : State) (f e n : Nat) : State × Bool :=
  let b := s.bucketOf e P.BUCKET_UP
  if 0 < b then
    (s.updEp e [(P.BUCKET_UP, 4, unsigned 32 (b - n)), (P.BYTES_UP, 4, (s.ep e P.BYTES_UP 4 + n) % 2 ^ 32)], true)
  else ((s.updEp e [(P.DROP, 2, min (s.ep e P.DROP 2 + 1) 65535)]).fmaEvent f 7, false)

/-- A downward element waiting in the MAC; the newest is dropped when the bytes that wait exceed BURST_DN (R275). -/
def State.holdDown (s : State) (h : HeldElem) : State :=
  let waiting := (((s.ntb.held.filter (fun x => x.ep = h.ep)).map (fun x => x.body.length)).sum) + h.body.length
  if s.ep h.ep P.BURST_DN 4 < waiting then
    (s.updEp h.ep [(P.DROP, 2, min (s.ep h.ep P.DROP 2 + 1) 65535)]).fmaEvent (s.node (s.ep h.ep P.NODE 2) N.FEEDER 1) 7
  else { s with ntb := { s.ntb with held := s.ntb.held ++ [h] } }

/-- Endpoint `e`'s buckets refilled at angle 0. -/
def State.refill (s : State) (e : Nat) : State :=
  let up := fun b r m => unsigned 32 (min (s.bucketOf e b + (s.ep e r 4 : Nat)) (s.ep e m 4 : Nat))
  s.updEp e [(P.BUCKET_DN, 4, up P.BUCKET_DN P.RATE_DN P.BURST_DN), (P.BUCKET_UP, 4, up P.BUCKET_UP P.RATE_UP P.BURST_UP)]

/-! ### Writes and views -/

/-- A write at an address of W2 (R276): only FLAGS, byte 19, is writable, in an entry that is not FREE. Setting BLOCK on a
JOINED entry sends LEAVE and makes it LOST. -/
def w2Eff (a : Nat) (v : Word) (s : State) : State × WriteResult :=
  let i := a % 0x100000 / 0x80
  if 0x50280000 ≤ a ∨ s.node i N.STATE 1 = ND.FREE then (s, .refused)
  else if 0x50 ≤ a % 0x80 ∧ a % 0x80 < 0x7C then (s, .ignored)
  else if a % 0x80 ≠ 0x10 then (s, .refused)
  else
    let t := s.setWinByte (nodeAddr i + N.FLAGS) (bits v 0 0)
    (if bit v 0 ∧ s.node i N.STATE 1 = ND.JOINED then t.leaveNode i else t, .done)

/-- A class VID (R316). -/
def State.classVid (s : State) (v : Nat) : Bool :=
  v = s.fld SWX.VID_MGMT 11 0 || v = s.fld SWX.VID_PTP 11 0 || v = s.fld SWX.VID_TWIN 11 0

/-- A budget written by firmware is sent to a node of version 3 (R275). -/
def State.sendBudget (s : State) (e : Nat) : State :=
  let i := s.ep e P.NODE 2
  if s.node i N.VER 1 < 3 ∨ s.node i N.STATE 1 ≠ ND.JOINED then s
  else
    let t := s.updEp e [(P.EFLAGS, 1, s.ep e P.EFLAGS 1 % 2 + 2)]
    t.macMgmt (s.node i N.FEEDER 1) i MG.BUDGET (bytesBE 1 (s.ep e P.NUM 1) ++ bytesBE 4 (s.ep e P.RATE_DN 4)
      ++ bytesBE 4 (s.ep e P.BURST_DN 4) ++ bytesBE 4 (s.ep e P.RATE_UP 4) ++ bytesBE 4 (s.ep e P.BURST_UP 4))

/-- A write at an address of W3 (R277). -/
def w3Eff (a : Nat) (v : Word) (s : State) : State × WriteResult :=
  let e := a % 0x100000 / 0x40
  let o := a % 0x40
  if 0x50500000 ≤ a ∨ s.ep e P.TYPE 1 = 0 then (s, .refused)
  else if 0x38 ≤ o then (s, .ignored)
  else if o = P.RATE_DN ∨ o = P.RATE_UP then
    let w := min v.toNat 1200000
    ((s.setWin a (word w)).sendBudget e, .ofClamp (decide (w ≠ v.toNat)))
  else if o = P.BURST_DN ∨ o = P.BURST_UP then
    let w := min v.toNat 4800000
    ((s.setWin a (word w)).sendBudget e, .ofClamp (decide (w ≠ v.toNat)))
  else if o = P.VLAN then
    let w := clampN 1 4094 (bits v 31 16)
    if s.classVid w then (s, .refused)
    else (s.setWinField (epAddr e + P.VLAN) 2 w, .ofClamp (decide (w ≠ bits v 31 16)))
  else if o = P.GROUP then (s.setWin a (word (bits v 27 0 + (bit v 31).toNat * 2 ^ 31)), .done)
  else (s, .refused)

/-- A write of CMD (R280). -/
def ntbCmdEff (v : Word) (s : State) : State × WriteResult :=
  let i := bits v 11 0
  let st := s.node i N.STATE 1
  let done := fun (t : State) (r : Nat) => (t.setReg NTB.CMD_STAT (word (r * 16))).raise NTB.page 3
  if s.rbit NTB.CMD_STAT 0 then (s, .refused)
  else if bits v 31 28 = 1 then
    if st = ND.JOINED then
      let t := s.macMgmt (s.node i N.FEEDER 1) i MG.LEAVE []
      ({ t.setReg NTB.CMD_STAT 1 with ntb := { t.ntb with freeing := some i } }, .done)
    else if st = ND.LOST then (done (s.freeNode i) 0, .done)
    else (done s 1, .done)
  else if bits v 31 28 = 2 then
    if st = ND.JOINED then (done (s.leaveNode i) 0, .done) else (done s 1, .done)
  else (done s 1, .done)

/-- The effect of a write on the NTB page: the soft reset ends a lookup and a FREE under way and leaves the tables, which are
window contents (R72, log entry 88); CTRL bit 0 ignores writes. -/
def ntbEff (req a : Nat) (v : Word) (s : State) : State × WriteResult :=
  if a = regCTRL NTB.page then
    (if bit v 1 then { s.resetPageRegs NTB.page with ntb := { s.ntb with lookup := false, freeing := none } } else s, .done)
  else if a = NTB.CMD then ntbCmdEff v s
  else if a = NTB.EUI_HI then
    let (t, r) := s.loadPair req a v
    ({ t with ntb := { t.ntb with lookup := true } }, r)
  else s.plainWrite req a v

/-- The computed registers of the NTB page. -/
def State.ntbView (s : State) (a : Nat) : Option Word :=
  if a = NTB.NT_USED then some (word s.nodes.length) else if a = NTB.EP_USED then some (word s.eps.length) else none

/-! ### The commands -/

/-- BUCKET_REFILL (R275): at angle 0 of a cycle. -/
def execBucketRefill (s : State) : Res State :=
  .next (if s.domainUp 3 ∧ s.rctState ≠ RCT.IDLE ∧ angleOf s.now = 0 ∧ (s.twn.role = .solo ∨ s.twn.role = .active) then
      s.eps.foldl State.refill s
    else s)

/-- NODE_BLOCK (R276): a write of FLAGS with BLOCK in W2. -/
def execNodeBlock (req : Req) (i : Fin 4096) (s : State) : Res State :=
  let a := nodeAddr i + 0x10
  .next (s.busWrite req a 1 (w2Eff a 1))

/-- NODE_FREE (R280): CMD FREE. -/
def execNodeFree (req : Req) (i : Fin 4096) (s : State) : Res State :=
  let v := word (2 ^ 28 + i)
  .next (s.busWrite req NTB.CMD v (ntbEff req NTB.CMD v))

/-- NODE_LEAVE (R280): CMD LEAVE. -/
def execNodeLeave (req : Req) (i : Fin 4096) (s : State) : Res State :=
  let v := word (2 ^ 29 + i)
  .next (s.busWrite req NTB.CMD v (ntbEff req NTB.CMD v))

/-- EUI_LOOKUP (R280): a write of EUI_HI. -/
def execEuiLookup (req : Req) (hi : Word) (s : State) : Res State :=
  .next (s.busWrite req NTB.EUI_HI hi (ntbEff req NTB.EUI_HI hi))

/-- EUI_LOOKUP_DONE (R280): EUI_RES of a lookup under way. -/
def execEuiLookupDone (s : State) : Res State :=
  .next (if s.ntb.lookup then
      let eui := (s.reg64 NTB.EUI_LO NTB.EUI_HI).toNat
      let t := { s with ntb := { s.ntb with lookup := false } }
      match s.nodes.find? (fun i => s.node i N.EUI 8 = eui) with
      | some i => t.setReg NTB.EUI_RES (word (i + 2 ^ 31))
      | none => t.setReg NTB.EUI_RES 0
    else s)

end Sys2Proof.Machine
end

