-- ==== Sys2Proof/Machine/Mac.lean ====
section
/-!
DEFINITION. The feeder MAC (spec/12): cycles, frames and their protection, acknowledgement, beacons, joining, masks,
cruises and routes.
-/

namespace Sys2Proof.Machine

/-! ### Enables, paths and sizes (R252, R258, R265) -/

/-- The MAC of feeder `f` is enabled (R279), and active: its modem may transmit. -/
def State.macOn (s : State) (f : Nat) : Bool :=
  s.modemOn f && s.rbit (FMA.M_CTRL f) 0 && s.rbit (regCTRL (FMA.page (f / 12))) 0
def State.macActive (s : State) (f : Nat) : Bool := s.macOn f && s.mayTransmit f

/-- A node's hop, and whether the module is its parent. -/
def State.hop (s : State) (i : Nat) : Nat := s.node i N.ROUTE 1 % 16
def State.parentIsModule (s : State) (i : Nat) : Bool := (s.node i N.ROUTE 1).testBit 4

/-- The entries on the path from the module to node `i`, the node last. -/
def State.path (s : State) : Nat → Nat → List Nat
  | 0, _ => []
  | fuel + 1, i =>
    if s.parentIsModule i then [i]
    else match s.nodeAt (s.node i N.FEEDER 1) (s.node i N.PARENT 1) with
      | some p => s.path fuel p ++ [i]
      | none => [i]

/-- TICK_SMP (R257): samples per tick, Q16.16. -/
def State.tickSmp (s : State) : Nat := 200000000 * 2 ^ 28 / s.freq

/-- Samples of a frame of `n` payload bytes on slot `t` of feeder `f`. -/
def State.slotSamples (s : State) (f t n : Nat) : Nat :=
  let mode := s.slotMode f t
  frameSamples (controlSymbols (s.carriers f).length s.free) (symbolCount n (mode / 16 % 4) (s.symbolBits f t) s.free)
    (symbolSamples mode)

/-- Ticks an allocation gives a frame: it ends at least one tick before them; in steps of 8 ticks (log entry 34). -/
def State.frameTicks (s : State) (f t n : Nat) : Nat :=
  let ticks := ((400 + s.slotSamples f t n) * 65536 + s.tickSmp - 1) / s.tickSmp + 1
  (ticks + 7) / 8 * 8

/-- Ticks of an allocation between two nodes, whose map only they hold: a free value of the draw (log entry 34). -/
def State.peerTicks (s : State) (f tx rx n : Nat) : Nat :=
  let m := Config.peerMap f tx rx s.free
  let size := frameSamples (controlSymbols (s.carriers f).length s.free) (symbolCount n (m.1 / 16 % 4) m.2 s.free) (symbolSamples m.1)
  (((400 + size) * 65536 + s.tickSmp - 1) / s.tickSmp + 1 + 7) / 8 * 8

/-- The slot of a link between the module and a hop-1 node: its own map, else slot 0 (R251). -/
def State.hopSlot (s : State) (f : Nat) (addr : Nat) (dir : Nat) : Nat := (s.linkSlot f addr dir).getD 0

/-- Bytes of an ACK payload with its tag (R258). -/
def ackBytes : Nat := 24

/-! ### Protection (R255, R256) -/

/-- The nonce and the additional data of a frame (R256). -/
def macNonce (f : Nat) (head : Bool) (orig key fcnt epoch : Nat) : List Byte :=
  fields [(1, f), (1, head.toNat), (1, orig), (1, key), (4, fcnt), (4, epoch)]
def macAad (ftype flags orig final fcnt : Nat) : List Byte :=
  fields [(1, ftype), (1, flags &&& 0x5C), (1, orig), (1, final), (4, fcnt)]

/-- A part of a node's link key: 0 downward, 1 upward, 2 wrapping (R405). -/
def State.linkKey (s : State) (i part : Nat) : Option (List Byte) :=
  if s.kvt.state = 1 then
    (s.kvt.links.find? (fun p => p.1 = i)).map (fun p => ((xorBytes p.2.shareA p.2.shareB).drop (32 * part)).take 32)
  else none

/-- The key the module encrypts under: the group key of even or odd epoch in KS16 or KS18, or part D of a node's link key;
and the key it decrypts under: KS17, KS19, part U (R404, R405). -/
def State.sealKey (s : State) (key i : Nat) : Option (List Byte) :=
  if key = 0 then s.portKey 16 KU.ENCRYPT else if key = 1 then s.portKey 18 KU.ENCRYPT else s.linkKey i 0
def State.openKey (s : State) (key i : Nat) : Option (List Byte) :=
  if key = 0 then s.portKey 17 KU.DECRYPT else if key = 1 then s.portKey 19 KU.DECRYPT else s.linkKey i 1

/-- A group key as ACC carries it: wrapped under part W of the node key, for a usable slot with EXPORT (R268, R404, R405). -/
def State.wrapGroup (s : State) (i key : Nat) : Option (List Byte) :=
  match s.linkKey i 2 with
  | some w => if s.keyUsable (16 + 2 * key) && (s.key (16 + 2 * key)).exp then some (Config.kwWrap w (s.keyValue (16 + 2 * key))) else none
  | none => none

/-- The epoch in a nonce: 0 for a node key. -/
def nonceEpoch (f key : Nat) : Nat := if key = 2 then 0 else Config.keyEpoch f

/-- Bytes 8 to 19 of frame control (R255). -/
def macBytes (ver ftype flags tx rx orig final hop key fcnt : Nat) : List Byte :=
  fields [(1, ftype + 16 * ver), (1, flags), (1, tx), (1, rx), (1, orig), (1, final), (1, hop + 16 * key), (1, 0), (4, fcnt)]

/-- The MAC version of a frame to a node. -/
def State.frameVer (s : State) (i : Nat) : Nat := if 4096 ≤ i then 1 else max 1 (s.node i N.VER 1)

/-- A frame to every node, and one whose first hop acknowledges it: a joined node (log entry 97). -/
def MacFrame.bcast (x : MacFrame) : Bool := 4096 ≤ x.node && !x.temp
def MacFrame.acked (x : MacFrame) : Bool :=
  if x.ftype = 2 then false else if x.temp then decide (x.sponsor < 4096) else decide (x.node < 4096)

/-- FLAGS of a frame the module originates: TX_HEAD, ORIG_HEAD, and BCAST, ACK_REQ, E2E, TEMP as the frame has them. -/
def MacFrame.flags (x : MacFrame) : Nat :=
  1 + 4 + x.bcast.toNat * 16 + x.acked.toNat * 32 + x.e2e.toNat * 64 + x.temp.toNat * 128

/-- FINAL of a frame the module originates: the node, the sponsor of one that has not joined (R265), 0 for neither. -/
def State.finalOf (s : State) (x : MacFrame) : Nat :=
  let i := if x.temp then x.sponsor else x.node
  if i < 4096 then s.node i N.ADDR 1 else 0

/-- The transmission of a frame the module originates, at a tick, to the first node of its path; without a key the vault lets
it use it is not sealed, and not sent (log entry 108). -/
def State.txOf (s : State) (f : Nat) (x : MacFrame) (fcnt : Nat) (tick : Stamp) (rx : Nat) : TxReq :=
  let final := s.finalOf x
  let ft := x.ftype + 16 * s.frameVer x.node
  let iv := macNonce f true 0 x.key fcnt (nonceEpoch f x.key)
  let aad := macAad ft x.flags 0 final fcnt
  let key := s.sealKey x.key x.node
  let ct := gcm (key.getD []) iv x.body
  let body := if x.key = 3 then x.body else ct ++ Config.gcmTag (key.getD []) iv aad ct
  { tick, slot := if x.bcast || (x.temp && 4096 ≤ x.sponsor) then 0 else s.hopSlot f rx 1,
    mac := macBytes (s.frameVer x.node) x.ftype x.flags 0 rx 0 final 0 x.key fcnt, body, tag := x.tag,
    sealed := x.key = 3 || key.isSome }

/-- The next FCNT of the module under a key; a sender never repeats one (R256). -/
def State.takeFcnt (s : State) (f key i : Nat) : State × Nat :=
  if key = 2 then
    (s.modMacNode i (fun n => { n with fcnt := n.fcnt + 1 }), (s.macNode i).fcnt)
  else (s.modMac f (fun m => { m with fcnt := m.fcnt + 1 }), (s.mac f).fcnt)

/-! ### Allocations (R257, R258, R260) -/

/-- AFLAGS. -/
def AF.TX_HEAD : Nat := 1
def AF.RX_HEAD : Nat := 2
def AF.BCAST : Nat := 4
def AF.ACK : Nat := 8
def AF.TEMP : Nat := 16
def AF.PROBE : Nat := 32

/-- Ticks of a frame of `n` bytes over the link between the k-th node of a path and what lies before it; `dir` is 1
downward. -/
def State.hopTicks (s : State) (f : Nat) (path : List Nat) (k dir n : Nat) : Nat :=
  let a := s.node (path.getD k 0) N.ADDR 1
  let b := s.node (path.getD (k - 1) 0) N.ADDR 1
  if k = 0 then s.frameTicks f (s.hopSlot f a dir) n
  else if dir = 1 then s.peerTicks f b a n else s.peerTicks f a b n

/-- One hop downward to the k-th node of a path, with an acknowledgement. -/
def State.hopDown (s : State) (f : Nat) (path : List Nat) (k n start : Nat) : Alloc :=
  let ack := s.hopTicks f path k 1 n
  { tx := if k = 0 then 0 else s.node (path.getD (k - 1) 0) N.ADDR 1, rx := s.node (path.getD k 0) N.ADDR 1,
    flags := (if k = 0 then AF.TX_HEAD else 0) + AF.ACK,
    ackOfs := ack, start, len := ack + s.hopTicks f path k 0 ackBytes }

/-- The last hop to a node that has not joined, on slot 0; DESIGN CHOICE (log entry 97), unsafe: it carries no
acknowledgement. -/
def State.hopTemp (s : State) (f : Nat) (path : List Nat) (n start : Nat) : Alloc :=
  { tx := (path.getLast?.map (s.node · N.ADDR 1)).getD 0, rx := 0,
    flags := (if path.isEmpty then AF.TX_HEAD else 0) + AF.TEMP, ackOfs := 0, start, len := s.frameTicks f 0 n }

/-- One hop upward from the k-th node of a path. -/
def State.hopUp (s : State) (f : Nat) (path : List Nat) (k n start : Nat) : Alloc :=
  let ack := s.hopTicks f path k 0 n
  { tx := s.node (path.getD k 0) N.ADDR 1, rx := if k = 0 then 0 else s.node (path.getD (k - 1) 0) N.ADDR 1,
    flags := (if k = 0 then AF.RX_HEAD else 0) + AF.ACK, ackOfs := ack, start, len := ack + s.hopTicks f path k 1 ackBytes }

/-- Allocations made one after another from a tick. -/
def chainFrom (start : Nat) : List (Nat → Alloc) → List Alloc
  | [] => []
  | g :: l => let a := g start; a :: chainFrom (start + a.len) l

/-- The chain of a frame: down its path, on to a node that has not joined, and up again for the CMD_ACK of an end-to-end
frame (R260). -/
def State.frameChain (s : State) (f : Nat) (x : MacFrame) (start : Nat) : List Alloc :=
  let i := if x.temp then x.sponsor else x.node
  let p := if i < 4096 then s.path 8 i else []
  let n := x.body.length + 16
  let down := (List.range p.length).map (fun k => s.hopDown f p k n ·)
  let up := (List.range p.length).reverse.map (fun k => s.hopUp f p k 64 ·)
  chainFrom start (down ++ (if x.temp then [s.hopTemp f p n] else []) ++ (if x.e2e then up else []))

/-- The chain of an upward grant of `n` bytes. -/
def State.grantChain (s : State) (f i n start : Nat) : List Alloc :=
  let p := s.path 8 i
  chainFrom start ((List.range p.length).reverse.map (fun k => s.hopUp f p k n ·))

/-- The end of a list of allocations begun at a tick. -/
def chainEnd (start : Nat) (l : List Alloc) : Nat := start + (l.map (·.len)).sum

/-- A chain taken whole, if it fits before CONT_START and in the beacon, where ACK_OFS is a byte (R257, R260). -/
def State.addChain (s : State) (f : Nat) (l : List Alloc) (at_ : Nat) : Option State :=
  let m := s.mac f
  if chainEnd at_ l ≤ m.cont ∧ m.allocs.length + l.length ≤ 56 ∧ l.all (fun a => a.ackOfs < 256) then
    some (s.modMac f (fun m => { m with allocs := m.allocs ++ l }))
  else none

/-- Where the next allocation begins. -/
def State.allocEnd (s : State) (f : Nat) : Nat :=
  let m := s.mac f
  chainEnd (m.maxhop * m.bslot * 8) m.allocs

/-- A transmission put among those a modem waits to begin, which lie in the order of their ticks (R253). -/
def State.enqueueTx (s : State) (f : Nat) (r : TxReq) : State :=
  s.modModem f (fun m => { m with
    queue := m.queue.takeWhile (fun x => x.tick.toNat ≤ r.tick.toNat) ++ [r]
      ++ m.queue.dropWhile (fun x => x.tick.toNat ≤ r.tick.toNat) })

/-- A waiting frame given its allocation in this cycle, if there is room: its transmission is handed to the modem. -/
def State.placeFrame (s : State) (f : Nat) (x : MacFrame) : State :=
  let start := s.allocEnd f
  let l := if !x.bcast then s.frameChain f x start
    else [{ tx := 0, rx := 0, flags := AF.TX_HEAD + AF.BCAST, ackOfs := 0, start, len := s.frameTicks f 0 (x.body.length + 16) }]
  match s.addChain f l start with
  | none => s
  | some t =>
    let (t, fcnt) := match x.fcnt with
      | some c => (t, c)
      | none => t.takeFcnt f x.key x.node
    let tick := s.now + BitVec.ofNat 64 start
    let rx := match l.head? with | some a => a.rx | none => 0
    let due := match l.head? with | some a => s.now + BitVec.ofNat 64 (start + a.len) | none => tick
    let t := t.enqueueTx f (t.txOf f x fcnt tick rx)
    t.modMac f (fun m => { m with out := m.out.map (fun y =>
      if y.tag = x.tag then { y with fcnt := some fcnt, due := some due, hop1 := rx } else y) })

/-- The frames of one class of R260 that have no transmission under way, COMMAND frames by execution stamp. -/
def State.classFrames (s : State) (f p : Nat) : List MacFrame :=
  let l := (s.mac f).out.filter (fun x => x.prio = p && x.due.isNone)
  l.foldl (fun (acc : List MacFrame) x => acc.takeWhile (fun y => y.exec ≤ x.exec) ++ [x] ++ acc.dropWhile (fun y => y.exec ≤ x.exec)) []

/-- A grant to node `i` (R260). -/
def State.grant (s : State) (f i n : Nat) : State :=
  let start := s.allocEnd f
  match s.addChain f (s.grantChain f i n start) start with
  | some t => t.modMacNode i (fun x => { x with granted := cycleOf s.now, qrep := x.qrep - n })
  | none => s

/-- The bytes of an upward grant to node `i`: all it has queued in one frame of at most 16 200 bytes, else the most whole
codewords that still fit, and at least 64 (log entry 34). -/
def State.grantSize (s : State) (f i : Nat) : Nat :=
  let all := max 64 (min (s.macNode i).qrep 16200)
  let start := s.allocEnd f
  let sizes := all :: ((List.range 30).reverse.map (fun k => 540 * (k + 1))).filter (· < all)
  (sizes.find? (fun n => (s.addChain f (s.grantChain f i n start) start).isSome)).getD 64

/-- The grant for the answer a join session awaits, once the module's own step has its allocation (R268): 2 153 bytes for an
AUTH, 64 for a CONFIRM. -/
def State.grantJoin (s : State) (f : Nat) (x : JoinSession) : State :=
  if (s.mac f).out.any (fun y => y.tag = x.tag && y.due.isNone) then s
  else
    let start := s.allocEnd f
    match s.addChain f (s.grantChain f x.node (if x.step = 3 then 2153 else 64) start) start with
    | some t => t
    | none => s

/-- The nodes that get an upward grant: a QREP above 0, or none in the last 16 cycles (R260). -/
def State.grantees (s : State) (f : Nat) : List Nat :=
  (s.joined f).filter (fun i => 0 < (s.macNode i).qrep || (s.macNode i).granted + 16 ≤ cycleOf s.now)

/-- Round-robin order of endpoints after the last served. -/
def rotateAfter (k : Nat) (l : List Nat) : List Nat := l.filter (fun e => k < e) ++ l.filter (fun e => e ≤ k)

/-- A waiting element of endpoint `e` made a frame, its bytes taken from the endpoint's bucket (R275). -/
def State.payloadFrame (s : State) (f e : Nat) (h : HeldElem) : State :=
  let n := h.body.length
  let t := s.updEp e [(P.BUCKET_DN, 4, unsigned 32 (s.bucketOf e P.BUCKET_DN - n)),
    (P.BYTES_DN, 4, (s.ep e P.BYTES_DN 4 + n) % 2 ^ 32)]
  let t := { t with ntb := { t.ntb with held := t.ntb.held.erase h } }
  t.macSend f { node := s.ep e P.NODE 2, key := Config.keyEpoch f % 2, prio := 6, body := element h.cls (t.ep e P.NUM 1) h.body }

/-- The oldest waiting element of endpoint `e` becomes a frame with its allocation, if the chain fits (R260, R275). -/
def State.servePayload (s : State) (f e : Nat) : Option State :=
  match s.ntb.held.find? (fun h => h.ep = e) with
  | none => none
  | some h =>
    let t := s.payloadFrame f e h
    match (t.mac f).out.getLast? with
    | none => none
    | some x =>
      let u := t.placeFrame f x
      if (u.mac f).out.any (fun y => y.tag = x.tag && y.due.isSome) then some (u.modMac f (fun m => { m with served := e }))
      else none

/-- Payload served round robin over the endpoints with a positive bucket until one does not fit (R260). -/
def State.serveAll (s : State) (f : Nat) : Nat → State
  | 0 => s
  | fuel + 1 =>
    let eps := s.eps.filter (fun e =>
      s.ntb.held.any (·.ep = e) && s.node (s.ep e P.NODE 2) N.FEEDER 1 = f && decide (0 < s.bucketOf e P.BUCKET_DN))
    match (rotateAfter (s.mac f).served eps).head? with
    | none => s
    | some e => match s.servePayload f e with
      | some t => t.serveAll f fuel
      | none => s

/-! ### Cruise probes (R273) -/

/-- States of a cruise. -/
def CR.IDLE : Nat := 0
def CR.PROBING : Nat := 1
def CR.REPORTING : Nat := 2
def CR.DONE : Nat := 3
def CR.APPLYING : Nat := 4
def CR.FAILED : Nat := 5

def State.cruiseState (s : State) (f : Nat) : Nat := s.fld (FMA.CRUISE_STAT f) 2 0
def State.setCruise (s : State) (f st : Nat) : State := s.setFld (FMA.CRUISE_STAT f) 2 0 st
def State.modCruise (s : State) (f : Nat) (g : Cruise → Cruise) : State :=
  s.modMac f (fun m => { m with cruise := g m.cruise })

/-- A 48-tick broadcast allocation of a PROBE, of the module or of a node. -/
def State.probeAlloc (s : State) (f : Nat) (node : Option Nat) : State :=
  let start := s.allocEnd f
  let a : Alloc := {
    tx := match node with | some i => s.node i N.ADDR 1 | none => 0, rx := 0,
    flags := (if node.isNone then AF.TX_HEAD else 0) + AF.BCAST + AF.PROBE, ackOfs := 0, start, len := 48 }
  match s.addChain f [a] start with
  | none => s
  | some t =>
    match node with
    | some i => t.modCruise f (fun c => { c with probing := c.probing.erase i, lastProbe := cycleOf s.now })
    | none =>
      let key := Config.keyEpoch f % 2
      let (t, fcnt) := t.takeFcnt f key 4096
      let x : MacFrame := { ftype := 4, node := 4096, key, body := [] }
      let t := t.enqueueTx f (t.txOf f x fcnt (s.now + BitVec.ofNat 64 start) 0)
      t.modCruise f (fun c => { c with started := true, lastProbe := cycleOf s.now })

/-- The probes of a cycle: the module's own in the first, then nodes in ascending address order, PROBES to a cycle; when
all have probed, REPORTING and the grants for the reports (R273). -/
def State.cruiseCycle (s : State) (f : Nat) : State :=
  let n := s.fld (FMA.CRUISE_CTRL f) 13 8
  if s.cruiseState f = CR.PROBING then
    let t := if (s.mac f).cruise.started then s else s.probeAlloc f none
    let n := if (s.mac f).cruise.started then n else n - 1
    let t := ((t.mac f).cruise.probing.take n).foldl (fun t i => t.probeAlloc f (some i)) t
    if (t.mac f).cruise.started ∧ (t.mac f).cruise.probing = [] then t.setCruise f CR.REPORTING else t
  else if s.cruiseState f = CR.REPORTING then (s.mac f).cruise.reporting.foldl (fun t i => t.grant f i 600) s
  else s

/-! ### MAC_CYCLE_START and the beacon (R252, R257, R260) -/

/-- The TONEMAP elements of links whose receive map was replaced (R243, R251): subtype, slot, bytes 0 to 1 740 of it. -/
def State.sendMaps (s : State) (f : Nat) : State :=
  let t := (s.modem f).maps.foldl (fun t a =>
    match t.nodeAt f a with
    | some i =>
      let slot := t.hopSlot f a 0
      t.macMgmt f i MG.TONEMAP (bytesBE 1 slot ++ (List.range 1741).map (fun o => BitVec.ofNat 8 (t.slotByte f slot o)))
    | none => t) s
  t.modModem f (fun m => { m with maps := [] })

/-- A FREE that waited for C:0, done once the LEAVE has its allocation of that cycle (R280). -/
def State.freePending (s : State) (f : Nat) : State :=
  match s.ntb.freeing with
  | some i =>
    if s.node i N.FEEDER 1 = f then
      let t := s.freeNode i
      ({ t with ntb := { t.ntb with freeing := none } }.setReg NTB.CMD_STAT 0).raise NTB.page 3
    else s
  | none => s

/-- The work of C:0 on a feeder: the layout written comes into force, and the reserved region is filled in the order of
R260. -/
def State.macCycle (s : State) (f : Nat) : State :=
  let t := s.sendMaps f
  let t := t.modMac f (fun m => { m with
    maxhop := s.fld (FMA.M_CTRL f) 11 8, bslot := s.fld (FMA.LAYOUT f) 4 0, cont := s.fld (FMA.LAYOUT f) 27 16, allocs := [] })
  let t := [1, 2, 3].foldl (fun t p => (t.classFrames f p).foldl (fun t x => t.placeFrame f x) t) t
  let t := (t.freePending f)
  let t := (t.mac f).sessions.foldl (fun t x => t.grantJoin f x) t
  let t := t.cruiseCycle f
  let t := (t.grantees f).foldl (fun t i => t.grant f i (t.grantSize f i)) t
  let t := (t.classFrames f 6).foldl (fun t x => t.placeFrame f x) t
  let t := t.serveAll f t.ntb.held.length
  t.setReg (FMA.AIRTIME f) (word ((((t.mac f).allocs.map (·.len)).sum) % 4096))

/-- The beacon body of R257, before its tag. -/
def State.beaconBody (s : State) (f : Nat) : List Byte :=
  let m := s.mac f
  let mask := match m.mask with | some x => x.at_ | none => none
  let flags := (s.rbit (FMA.M_CTRL f) 1).toNat + mask.isSome.toNat * 2
    + (s.cruiseState f = CR.PROBING ∨ s.cruiseState f = CR.REPORTING : Bool).toNat * 4
  fields [(8, cycleOf s.now * 4096), (4, s.tickSmp), (1, f), (1, s.fld (FMA.VER_LIMIT (f / 12)) 1 0), (1, s.rctState),
      (1, flags), (1, m.maxhop), (1, m.bslot), (2, m.cont), (1, s.fld (FPH.F_CTRL f) 13 12), (1, s.fld (FPH.MARGIN f) 7 0),
      (1, s.fld (FPH.F_CTRL f) 19 16), (1, s.fld (FMA.MASK_STAT f) 7 0), (4, mask.getD 0 % 2 ^ 32), (4, Config.keyEpoch f),
      (2, s.fld (FMA.CRUISE_STAT f) 31 16), (1, m.allocs.length), (29, 0)]
    ++ m.allocs.flatMap (fun a => fields [(1, a.tx), (1, a.rx), (1, a.flags), (1, a.ackOfs), (2, a.start), (2, a.len)])

/-- The beacon: authenticated, not encrypted; its body is additional data (R256, R257). -/
def State.beacon (s : State) (f : Nat) : State :=
  let key := Config.keyEpoch f % 2
  let (t, fcnt) := s.takeFcnt f key 4096
  let body := s.beaconBody f
  let flags := 1 + 4 + 16
  let iv := macNonce f true 0 key fcnt (nonceEpoch f key)
  let k := s.sealKey key 4096
  let tag := Config.gcmTag (k.getD []) iv (macAad 16 flags 0 0 fcnt ++ body) []
  t.enqueueTx f { tick := s.now, slot := 0, mac := macBytes 1 0 flags 0 0 0 0 0 key fcnt, body := body ++ tag, tag := 0,
                  sealed := k.isSome }

/-! ### Received frames (R256, R258, R259, R261) -/

/-- Fields of received frame control (R255). -/
def RxFrame.mb (r : RxFrame) (i : Nat) : Nat := fcField r.fc i 1
def RxFrame.ftype (r : RxFrame) : Nat := r.mb 8 % 16
def RxFrame.flag (r : RxFrame) (b : Nat) : Bool := (r.mb 9).testBit b
def RxFrame.key (r : RxFrame) : Nat := r.mb 14 / 16 % 4
def RxFrame.fcnt (r : RxFrame) : Nat := fcField r.fc 16 4
def RxFrame.forModule (r : RxFrame) : Bool := r.flag 1 && r.flag 3

/-- The oldest received frame of a feeder taken from the modem. -/
def State.popRx (s : State) (f : Nat) : State := s.modModem f (fun m => { m with rx := m.rx.drop 1 })

/-- The plaintext of a received frame of node `i`, if its tag checks (R256). -/
def State.openFrame (s : State) (f i : Nat) (r : RxFrame) : Option (List Byte) :=
  let n := r.body.length - 16
  let iv := macNonce f (r.flag 2) (r.mb 12) r.key r.fcnt (nonceEpoch f r.key)
  let aad := macAad (r.mb 8) (r.mb 9) (r.mb 12) (r.mb 13) r.fcnt
  match s.openKey r.key i with
  | some key =>
    if r.body.length < 16 ∨ r.key = 3 then none
    else if Config.gcmTag key iv aad (r.body.take n) = r.body.drop n then some (gcm key iv (r.body.take n)) else none
  | none => none

/-- Whether an FCNT is above the highest accepted, or among the 64 below it and not yet seen (R256). -/
def MacNode.fresh (n : MacNode) (key c : Nat) : Bool :=
  let h := Tab.get (fun _ => 0) n.high key
  decide (h ≤ c) || (decide (h ≤ c + 65) && decide (c + 1 < h) && !(Tab.get (fun _ => 0) n.seen key).testBit (h - 2 - c))

/-- The replay window after an accepted FCNT. Bit d of `seen` stands for the value d + 1 below the highest. -/
def MacNode.accept (n : MacNode) (key c : Nat) : MacNode :=
  let h := Tab.get (fun _ => 0) n.high key
  let w := Tab.get (fun _ => 0) n.seen key
  if h ≤ c then
    let shifted := if h = 0 then 0 else (w * 2 + 1) * 2 ^ (c - h)
    { n with high := Tab.put (fun _ => 0) n.high key (c + 1), seen := Tab.put (fun _ => 0) n.seen key (shifted % 2 ^ 64) }
  else { n with seen := Tab.put (fun _ => 0) n.seen key (w ||| 2 ^ (h - 2 - c)) }

/-- A frame heard from a node (R271, R276): its cycle, its counter, and the SNR of a link to the module. -/
def State.heardFrom (s : State) (f i : Nat) (r : RxFrame) : State :=
  let snr := if r.mb 10 = s.node i N.ADDR 1 ∧ !r.flag 0 then [(N.SNR, 1, r.snr)] else []
  let t := s.updNode i ([(N.HEARD, 4, cycleOf s.now % 2 ^ 32), (N.FCNT_RX, 4, max (s.node i N.FCNT_RX 4) r.fcnt)] ++ snr)
  (t.modMacNode i (fun n => n.accept r.key r.fcnt)).incLo (FMA.CNT_RX f)

/-- The elements of a DATA payload (R261): class, endpoint number, body. -/
def elementsOf : Nat → List Byte → List (Nat × Nat × List Byte)
  | 0, _ => []
  | fuel + 1, l =>
    if l.length < 4 then []
    else
      let n := fcField l 2 2
      (fcField l 0 1, fcField l 1 1, (l.drop 4).take n) :: elementsOf fuel (l.drop (4 + n))

/-- The 64-bit words of a body, byte 0 in bits [7:0] (R376). -/
def bodyWords (b : List Byte) : List (BitVec 64) :=
  (List.range ((b.length + 7) / 8)).map (fun i => BitVec.ofNat 64 (natLE ((b.drop (8 * i)).take 8)))

/-- An element offered to the telemetry queues, in parts of at most 232 bytes (R376). -/
def State.elemTelemetry (s : State) (f addr ep cls : Nat) (b : List Byte) : State :=
  let w1 := dword [(0, f), (8, addr), (16, ep % 2 ^ 14), (32, cls), (40, b.length)]
  (List.range (max 1 ((b.length + 231) / 232))).foldl (fun t k =>
    t.telemetry (1 + f / 12) (1 + cls) (w1 :: bodyWords ((b.drop (232 * k)).take 232))) s

/-- A CMD_ACK of node `i` (R259, R264): every entry is reported DELIVERED with its outcome, and the end-to-end frame it
answers gives DELIV_EST. -/
def State.cmdAck (s : State) (f i ep : Nat) (b : List Byte) : State :=
  let entries := (List.range (b.length / 8)).map (fun k => (fcField b (8 * k) 4, fcField b (8 * k + 4) 1))
  let seqs := entries.map (·.1)
  let hit := fun (x : MacFrame) => x.node = i && x.seqs.any (fun q => q.1 = ep && seqs.contains q.2)
  let m := s.mac f
  let t := match (m.await ++ m.out).find? (fun x => hit x && x.sent.isSome) with
    | some x =>
      let d := cycleOf s.now - x.sent.getD 0 + 1
      let ds := (d :: (s.macNode i).delays).take 16
      let t := s.modMacNode i (fun n => { n with delays := ds })
      (t.updNode i [(N.DELIV, 1, min 15 (ds.foldl max 0))]).modMac f (fun m => { m with
        await := m.await.filter (fun y => !hit y), out := m.out.filter (fun y => !(hit y && y.sent.isSome)) })
    | none => s
  entries.foldl (fun t q =>
    let t := t.report { kind := 1, ep, seq := q.1, outcome := q.2 }
    if t.ep ep P.CSEQ_ACK 4 < q.1 then t.updEp ep [(P.CSEQ_ACK, 4, q.1)] else t) t

/-- A ROUTE of a node is acknowledged (R274); the last sets R. -/
def State.routeAck (s : State) (f i : Nat) : State :=
  let c := (s.mac f).cruise
  if s.cruiseState f = CR.APPLYING ∧ c.routing.contains i then
    let l := c.routing.erase i
    s.modCruise f (fun c => { c with routing := l, effective := if l.isEmpty then some (cycleOf s.now + 2) else c.effective })
  else s

/-- A NEIGHBOURS report (R273): a count, then pairs of address and SNR code; with bit 15 of the count set, address 0 is the
module. The code for the parent is the last SNR toward it (R276). -/
def State.neighbours (s : State) (f i : Nat) (b : List Byte) : State :=
  let n := fcField b 0 2
  let pairs := (List.range (n % 2 ^ 15)).map (fun k =>
    let a := fcField b (2 + 2 * k) 1
    (if a = 0 ∧ 2 ^ 15 ≤ n then 256 else a, fcField b (3 + 2 * k) 1))
  let up := if s.parentIsModule i then 256 else s.node i N.PARENT 1
  let s := match pairs.find? (fun p => p.1 = up) with
    | some p => s.updNode i [(N.SNR, 1, p.2)]
    | none => s
  s.modCruise f (fun c => { c with
    reports := Tab.insert (s.node i N.ADDR 1) pairs (Tab.erase (s.node i N.ADDR 1) c.reports),
    reporting := c.reporting.erase i })

/-- A TONEMAP of a hop-1 node (R251, R244): installed in a free slot, which a TM_ACK names. -/
def State.installMap (s : State) (f i : Nat) (b : List Byte) : State :=
  let addr := s.node i N.ADDR 1
  if !s.parentIsModule i then s
  else
    let (t, slot) := match s.linkSlot f addr 1 with | some k => (s, some k) | none => s.takeSlot f
    match slot with
    | none => t
    | some k =>
      let raw := b.drop 1
      let fit := (List.range 436).flatMap (fun q =>
        bytesBE 4 (t.fitMap f (4 * q) (word (natBE ((List.range 4).map (fun j => raw.getD (4 * q + j) 0))))).toNat)
      let head := bytesBE 1 3 ++ [raw.getD 1 0 &&& 0x3F] ++ bytesBE 2 addr
      (t.putSlot f k (head ++ fit.drop 4)).macMgmt f i MG.TM_ACK (bytesBE 1 k)

/-- A management element of node `i` (R261). -/
def State.mgmt (s : State) (f i : Nat) (b : List Byte) : State :=
  let sub := fcField b 0 1
  let l := b.drop 1
  if sub = MG.TONEMAP then s.installMap f i l
  else if sub = MG.NEIGHBOURS then s.neighbours f i l
  else if sub = MG.ACKNOWLEDGE then
    let what := fcField l 0 1
    if what = MG.MASK then s.maskAck f i
    else if what = MG.ROUTE then s.routeAck f i
    else if what = MG.BUDGET then
      (s.epsOf i).foldl (fun t e => if (t.ep e P.EFLAGS 1).testBit 1 then t.updEp e [(P.EFLAGS, 1, t.ep e P.EFLAGS 1 % 2)] else t) s
    else s
  else s

/-- One element of an accepted frame of node `i` (R261, R275, R297); an endpoint without ENABLED carries none (R269). -/
def State.takeElement (s : State) (f i : Nat) (x : Nat × Nat × List Byte) : State :=
  let (cls, num, b) := x
  let addr := s.node i N.ADDR 1
  if cls = 5 then s.mgmt f i b
  else if cls = 6 then s.modMacNode i (fun n => { n with qrep := fcField b 0 2 * 64 })
  else match s.epNum i num with
    | none => s
    | some e =>
      if s.ep e P.EFLAGS 1 % 2 = 0 then s
      else if cls = 1 then (s.cmdAck f i e b).elemTelemetry f addr e cls b
      else if cls = 2 ∨ cls = 3 then
        let (t, ok) := s.admitUp f e b.length
        if !ok then t
        else
          let t := t.elemTelemetry f addr e cls b
          if cls = 3 ∧ t.ep e P.TYPE 1 = 2 then t.presence { ep := e, at_ := t.now, body := b } else t
      else if cls = 4 then
        let (t, ok) := s.admitUp f e b.length
        if ok then { t with ntb := { t.ntb with upward := t.ntb.upward ++ [{ ep := e, cls, body := b }] } } else t
      else s

/-- The ACK a received frame asks for, in the allocation it came in (R258). -/
def State.sendAck (s : State) (f : Nat) (r : RxFrame) (good : Bool) : State :=
  let ang := angleOf r.at_
  match (s.mac f).allocs.find? (fun a => a.tx = r.mb 10 && a.flags % 4 = AF.RX_HEAD && a.start ≤ ang && ang < a.start + a.ackOfs) with
  | some a =>
    let key := Config.keyEpoch f % 2
    let (t, fcnt) := s.takeFcnt f key 4096
    let x : MacFrame := { ftype := 2, node := 4096, key, body := fields [(4, r.fcnt), (1, good.toNat), (1, 0), (2, 0)] }
    let i := (s.nodeAt f a.tx).getD 4096
    let tick := stamp (cycleOf s.now) (a.start + a.ackOfs)
    t.enqueueTx f (t.txOf f { x with node := i } fcnt tick a.tx)
  | none => s

/-- A DATA frame that reached the module (R256, R261). -/
def State.dataFrame (s : State) (f : Nat) (r : RxFrame) : State :=
  let t := if r.flag 1 && r.flag 5 then s.sendAck f r r.good else s
  if !r.forModule || !r.good then t
  else match s.nodeAt f (r.mb 12) with
    | none => t.incHi (FMA.CNT_RX f)
    | some i =>
      match s.openFrame f i r with
      | none => t.incHi (FMA.CNT_RX f)
      | some p =>
        if !(s.macNode i).fresh r.key r.fcnt then t.incHi (FMA.CNT_RX f)
        else (elementsOf 4096 p).foldl (fun t x => t.takeElement f i x) (t.heardFrom f i r)

/-! ### Joining (R268 to R270) -/

/-- The fields of a REQ body after JSTEP (R268): the lists end where the body does. -/
structure JoinReq where
  eui : Nat
  vmin : Nat
  vmax : Nat
  types : List Nat
  pub : List Byte
  nonce : List Byte
  relays : List (Nat × Nat)

/-- A REQ body without the path its relays append (R267). -/
def reqCore (b : List Byte) : List Byte := b.take (11 + fcField b 10 1 + 129)

def parseReq (b : List Byte) : JoinReq :=
  let nep := fcField b 10 1
  let o := 11 + nep
  let cnt := fcField b (o + 129) 1
  { eui := fcField b 0 8, vmin := fcField b 8 1, vmax := fcField b 9 1,
    types := (List.range nep).map (fun k => fcField b (11 + k) 1), pub := (b.drop o).take 97, nonce := (b.drop (o + 97)).take 32,
    relays := (List.range cnt).map (fun k => (fcField b (o + 130 + 2 * k) 1, fcField b (o + 131 + 2 * k) 1)) }

/-- The version a join takes (R269); none when the range is empty. -/
def State.joinVersion (s : State) (f : Nat) (q : JoinReq) : Option Nat :=
  let v := min q.vmax (s.fld (FMA.VER_LIMIT (f / 12)) 1 0)
  if max q.vmin 1 ≤ v then some v else none

/-- Retry-after by reason (R270). -/
def retryAfter (reason : Nat) : Nat := if reason = 3 ∨ reason = 4 then 1024 else if reason = 6 ∨ reason = 7 then 256 else 65535

/-- The sponsor of a REQ, 4096 for the module (R268). -/
def State.sponsorOf (s : State) (f : Nat) (q : JoinReq) : Nat :=
  match q.relays.head? with | some r => (s.nodeAt f r.1).getD 4096 | none => 4096

/-- The sponsor of the entry of a session: its parent, 4096 for the module. -/
def State.sponsorAt (s : State) (f i : Nat) : Nat :=
  if s.parentIsModule i then 4096 else (s.nodeAt f (s.node i N.PARENT 1)).getD 4096

/-- A join refused: REJ to the EUI-64 through its sponsor, the count and JOIN_REJ; NT_FULL or EP_FULL for reasons 3 and 4
(R270, R280). -/
def State.joinRefuse (s : State) (f eui sponsor reason : Nat) : State :=
  let body := fields [(1, 4), (8, eui), (1, reason), (4, retryAfter reason)]
  let t := s.macSend f { ftype := 3, node := 4096, key := 3, temp := true, sponsor, body, prio := 3 }
  let t := (t.incHi (FMA.CNT_JOIN f)).fmaEvent f 1
  if reason = 3 then t.raise NTB.page 0 else if reason = 4 then t.raise NTB.page 1 else t

/-- Entries evicted until there is room for a new node on the feeder and in the table, and for its endpoints; none where
LOST entries run out, with the reason (R270). -/
def State.makeRoom (s : State) (f nep : Nat) (keep : Option Nat) : Nat → State × Nat
  | 0 => (s, 4)
  | fuel + 1 =>
    let others := fun (l : List Nat) => l.filter (fun i => some i ≠ keep)
    if keep.isNone ∧ 256 ≤ (s.nodesOf f).length then
      match s.oldestLost (s.nodesOf f) with
      | some i => (s.evict i).makeRoom f nep keep fuel
      | none => (s, 3)
    else if keep.isNone ∧ 4096 ≤ s.nodes.length then
      match s.oldestLost s.nodes with
      | some i => (s.evict i).makeRoom f nep keep fuel
      | none => (s, 3)
    else if 16384 < s.eps.length - (match keep with | some i => (s.epsOf i).length | none => 0) + nep then
      match s.oldestLost (others s.nodes) with
      | some i => (s.evict i).makeRoom f nep keep fuel
      | none => (s, 4)
    else (s, 0)

/-- The lowest free entries of a table. -/
def freeEntries (n : Nat) (used : List Nat) (k : Nat) : List Nat := ((List.range n).filter (fun i => !used.contains i)).take k

/-- The endpoints of a joining node (R269, R277): linked through NEXT, with default budgets; a type above the version stays
without ENABLED. -/
def State.makeEps (s : State) (i ver : Nat) (types : List Nat) : State :=
  let es := freeEntries 16384 s.eps types.length
  let t := (List.range types.length).foldl (fun t k =>
    let ty := types.getD k 0
    let need := if ty = 1 ∨ ty = 2 then 1 else 3
    let (r, b) := defaultBudget ty
    t.updEp (es.getD k 0) [(P.TYPE, 1, ty), (P.NUM, 1, k), (P.NODE, 2, i), (P.NEXT, 2, es.getD (k + 1) noEp),
      (P.EFLAGS, 1, (need ≤ ver : Bool).toNat), (P.RATE_DN, 4, r), (P.BURST_DN, 4, b), (P.RATE_UP, 4, r), (P.BURST_UP, 4, b),
      (P.VLAN, 2, 1)]) s
  t.updNode i [(N.NEP, 1, types.length), (N.EP_FIRST, 2, es.headD noEp)]

/-- The entry a join uses: that of its EUI-64 on the feeder, with its address unless it has been reassigned, else the lowest
free one with the lowest free address (R270); its SNR is that of the first relay's code, or of the REQ itself. -/
def State.joinEntry (s : State) (f ver snr : Nat) (q : JoinReq) (old : Option Nat) : State × Nat × Bool :=
  let hops := match q.relays.head? with | some r => (s.nodeAt f r.1).elim 1 (fun p => s.hop p + 1) | none => 1
  let route := hops + (q.relays.isEmpty : Bool).toNat * 16
  let parent := match q.relays.head? with | some r => r.1 | none => 0
  let i := match old with | some i => i | none => (freeEntries 4096 s.nodes 1).headD 0
  let taken := ((s.nodesOf f).filter (fun j => j ≠ i)).map (fun j => s.node j N.ADDR 1)
  let mine := s.node i N.ADDR 1
  let addr := if old.isSome ∧ !taken.contains mine then mine else (freeEntries 256 taken 1).headD 0
  let t := if old.isSome then (s.failNode f i).freeEps i else s
  let t := t.updNode i [(N.STATE, 1, ND.JOINING), (N.FEEDER, 1, f), (N.ADDR, 1, addr), (N.VER, 1, ver), (N.EUI, 8, q.eui),
    (N.PARENT, 1, parent), (N.ROUTE, 1, route), (N.SNR, 1, (q.relays.head?.map (·.2)).getD snr), (N.PROP_ROUTE, 1, 0),
    (N.HEARD, 4, cycleOf s.now % 2 ^ 32), (N.EP_FIRST, 2, noEp)]
  let t := (List.range 16).foldl (fun t k => t.setWinField (nodeAddr i + N.NBR + 2 * k) 2 0xFF00) t
  (t.makeEps i ver q.types, i, old.isNone)

/-- A REQ that another relay has brought in the last 4 cycles, or whose session stands (R267). -/
def State.reqKnown (s : State) (f : Nat) (b : List Byte) : Bool :=
  (s.mac f).reqs.any (fun p => p.2 = reqCore b && decide (cycleOf s.now < p.1 + 4))
    || (s.mac f).sessions.any (fun x => reqCore x.req = reqCore b)

/-- Step 1: REQ, received with an SNR code (R268 to R270). DESIGN CHOICE (log entry 97), unsafe: a REQ of more than 16
endpoints, which have no numbers (R250), is discarded. -/
def State.joinReq (s : State) (f snr : Nat) (b : List Byte) : State :=
  let q := parseReq b
  let sponsor := s.sponsorOf f q
  let known := s.reqKnown f b
  let s := s.modMac f (fun m => { m with
    reqs := m.reqs.filter (fun p => cycleOf s.now < p.1 + 4) ++ (if known then [] else [(cycleOf s.now, reqCore b)]) })
  let here := s.nodes.find? (fun i => s.node i N.EUI 8 = q.eui && s.node i N.FEEDER 1 = f)
  let away := s.nodes.find? (fun i => s.node i N.EUI 8 = q.eui && s.node i N.FEEDER 1 ≠ f)
  let blocked := match (match here with | some i => some i | none => away) with
    | some i => (s.node i N.FLAGS 1).testBit 0
    | none => false
  let refuse := fun (t : State) r => t.joinRefuse f q.eui sponsor r
  if known || decide (16 < q.types.length) then s
  else if !s.rbit (FMA.M_CTRL f) 1 then refuse s 6
  else if blocked then refuse s 5
  else if sponsor < 4096 ∧ (s.mac f).maxhop ≤ s.hop sponsor then refuse s 7
  else match s.joinVersion f q with
    | none => refuse s 1
    | some ver =>
      let s := match away with | some i => s.freeNode i | none => s
      let (t, why) := s.makeRoom f q.types.length here 4097
      if why ≠ 0 then refuse t why
      else
        let (t, i, created) := t.joinEntry f ver snr q here
        let priv := s.random 0 48
        let nonce := s.random 1 32
        let body := fields [(8, q.eui), (2, (t.mac f).next)] ++ Config.ecPublic priv ++ nonce ++ Config.idevChain
        let sig := Config.ecdsaSign Config.idevKey (Config.sha384 (b ++ body)) (s.random 2 48)
        let chal := body ++ sig
        let made := created || (t.mac f).sessions.any (fun y => y.eui = q.eui && y.created)
        let x : JoinSession := {
          eui := q.eui, node := i, created := made, tag := (t.mac f).next, req := b, chal, peer := q.pub, priv, salt := q.nonce ++ nonce,
          at_ := cycleOf s.now, step := 3 }
        let t := t.modMac f (fun m => { m with sessions := m.sessions.filter (fun y => y.eui ≠ q.eui) ++ [x] })
        (t.macSend f { ftype := 3, node := i, key := 3, temp := true, sponsor, body := bytesBE 1 2 ++ chal, prio := 3 }).draw

/-- A session ends without a join: an entry created for it returns to FREE, another becomes LOST (R268). -/
def State.endSession (s : State) (f : Nat) (x : JoinSession) : State :=
  let t := s.modMac f (fun m => { m with sessions := m.sessions.filter (fun y => y.eui ≠ x.eui) })
  if x.created then t.freeNode x.node else t.updNode x.node [(N.STATE, 1, ND.LOST)]

/-- The ACC body (R268), with the EUI-64 that names the node (R250). -/
def State.accBody (s : State) (f i : Nat) (wrapped : List Byte) : List Byte :=
  let masks := (List.range 64).flatMap (fun k => bytesBE 4 (s.winWord (w7Base f + 0xA200 + 8 * k)).toNat)
    ++ (List.range 32).flatMap (fun k => bytesBE 4 (s.winWord (w7Base f + 0xA500 + 8 * k)).toNat)
  fields [(1, 4), (8, s.node i N.EUI 8), (1, s.node i N.ADDR 1), (1, s.node i N.VER 1), (1, s.hop i), (1, s.node i N.PARENT 1)] ++ wrapped
    ++ fields [(4, Config.keyEpoch f)] ++ masks ++ fields [(1, s.fld (FMA.MASK_STAT f) 7 0)]
    ++ (s.epsOf i).flatMap (fun e => fields [(4, s.ep e P.RATE_DN 4), (4, s.ep e P.BURST_DN 4), (4, s.ep e P.RATE_UP 4),
        (4, s.ep e P.BURST_UP 4), (1, s.ep e P.EFLAGS 1 % 2)])

/-- Step 3: AUTH (R268, R405): the EUI-64, the chain, and the signature in the last 96 bytes. The replay window of the node key
starts anew with the key (R256). A group key that may not be wrapped ends the session without ACC. -/
def State.joinAuth (s : State) (f : Nat) (b : List Byte) : State :=
  match (s.mac f).sessions.find? (fun x => x.eui = fcField b 0 8 && x.step = 3) with
  | none => s
  | some x =>
    let n := b.length - 96
    let chain := (b.take n).drop 8
    let ok : Bool := match Config.chainKey chain with
      | some pub => Config.ecdsaVerify pub (Config.sha384 (x.req ++ x.chal ++ b.take n)) (b.drop n)
      | none => false
    match (if ok ∧ chain.length ≤ 2048 then Config.ecdh x.priv x.peer else none) with
    | none => (s.joinRefuse f x.eui (s.sponsorAt f x.node) 2).endSession f x
    | some z =>
      let k := Config.hkdf z x.salt (bytesBE 8 x.eui ++ bytesBE 1 f) 96
      let r := s.random 0 96
      let t := s.modKvt (fun v => { v with
        links := Tab.insert x.node { shareA := xorBytes k r, shareB := r } (Tab.erase x.node v.links) })
      let t := t.updNode x.node [(N.KEY_SLOT, 2, x.node)]
      let t := t.modMacNode x.node (fun n => { n with high := Tab.put (fun _ => 0) n.high 2 0, seen := Tab.put (fun _ => 0) n.seen 2 0 })
      match t.wrapGroup x.node (Config.keyEpoch f % 2) with
      | none => (t.endSession f x).draw
      | some wrapped =>
        let t := t.modMac f (fun m => { m with sessions := m.sessions.map (fun y =>
          if y.eui = x.eui then { y with step := 5, at_ := cycleOf s.now, tag := m.next } else y) })
        (t.macSend f { ftype := 3, node := x.node, key := 2, temp := true, sponsor := t.sponsorAt f x.node,
                       body := t.accBody f x.node wrapped, prio := 3 }).draw

/-- Step 5: CONFIRM (R268): firmware version and model; the entry becomes JOINED. -/
def State.joinConfirm (s : State) (f : Nat) (x : JoinSession) (b : List Byte) : State :=
  let i := x.node
  let t := s.updNode i [(N.STATE, 1, ND.JOINED), (N.JOINED_AT, 8, s.now.toNat), (N.HEARD, 4, cycleOf s.now % 2 ^ 32),
    (N.FW, 4, fcField b 0 4), (N.MODEL, 4, fcField b 4 4), (N.DELIV, 1, 1)]
  let t := (t.modMacNode i (fun n => { n with delays := [] })).modMac f (fun m => { m with
    sessions := m.sessions.filter (fun y => y.eui ≠ x.eui) })
  let t := (t.incLo (FMA.CNT_JOIN f)).fmaEvent f 0
  (t.markChildren f).log 0x1A0 (fields [(1, f), (1, t.node i N.ADDR 1), (1, t.node i N.VER 1), (1, t.hop i), (8, x.eui)])

/-! ### Cruise results and routes (R273, R274) -/

/-- The ends of a feeder's links: 256 is the module. The one-way SNR code heard at `a` from `b`, if measured. -/
def State.oneWay (s : State) (f a b : Nat) : Option Nat :=
  let c := (s.mac f).cruise
  if a = 256 then (c.heard.find? (fun p => p.1 = b)).map (·.2)
  else ((Tab.get (fun _ => []) c.reports a).find? (fun p => p.1 = b)).map (·.2)

/-- The SNR of a link: the smaller measurement, or the only one; none below ROUTE_SNR (R274). -/
def State.linkSnr (s : State) (f a b : Nat) : Option Nat :=
  let x := match s.oneWay f a b, s.oneWay f b a with
    | some x, some y => some (min x y)
    | some x, none => some x
    | none, y => y
  x.filter (fun c => s.fld (FMA.CRUISE_CTRL f) 23 16 ≤ c - 40 ∧ 40 ≤ c)

/-- Hops of the shortest paths from the module: address and hop, extended one hop at a time. -/
def State.hopsFrom (s : State) (f : Nat) (addrs : List Nat) : Nat → List (Nat × Nat) → List (Nat × Nat)
  | 0, known => known
  | fuel + 1, known =>
    let h := (known.map (·.2)).foldl max 0
    let edge := (known.filter (fun p => p.2 = h)).map (·.1)
    let new := addrs.filter (fun a => !known.any (fun p => p.1 = a) && edge.any (fun b => (s.linkSnr f a b).isSome))
    if new.isEmpty then known else s.hopsFrom f addrs fuel (known ++ new.map (fun a => (a, h + 1)))

/-- The best parent among ends one hop nearer: the highest SNR; on a tie the module, else the lowest address. -/
def State.bestParent (s : State) (f a : Nat) (ends : List Nat) : Option Nat :=
  ends.foldl (fun (b : Option Nat) x =>
    match b, s.linkSnr f a x with
    | _, none => b
    | none, some _ => some x
    | some y, some v =>
      let w := (s.linkSnr f a y).getD 0
      if w < v ∨ (w = v ∧ (x = 256 ∨ (y ≠ 256 ∧ x < y))) then some x else b) none

/-- The proposed route of node `i`: PROP_PARENT and PROP_ROUTE (R274). -/
def State.propose (s : State) (f : Nat) (hops : List (Nat × Nat)) (i : Nat) : State :=
  let a := s.node i N.ADDR 1
  let keep := s.node i N.ROUTE 1 % 64
  if s.node i N.VER 1 < 2 then s.updNode i [(N.PROP_PARENT, 1, s.node i N.PARENT 1), (N.PROP_ROUTE, 1, keep + 128)]
  else match hops.find? (fun p => p.1 = a) with
    | some (_, h) =>
      let ends := (hops.filter (fun p => p.2 + 1 = h)).map (·.1)
      match s.bestParent f a ends with
      | some p =>
        if h ≤ (s.mac f).maxhop then
          s.updNode i [(N.PROP_PARENT, 1, p % 256), (N.PROP_ROUTE, 1, h + (if p = 256 then 16 else 0) + 128)]
        else s.updNode i [(N.ROUTE, 1, s.node i N.ROUTE 1 ||| 32), (N.PROP_PARENT, 1, s.node i N.PARENT 1), (N.PROP_ROUTE, 1, keep % 32 + 32 + 128)]
      | none => s
    | none => s.updNode i [(N.ROUTE, 1, s.node i N.ROUTE 1 ||| 32), (N.PROP_PARENT, 1, s.node i N.PARENT 1), (N.PROP_ROUTE, 1, keep % 32 + 32 + 128)]

/-- The 16 best neighbours of a node written to its entry, the highest SNR first (R273). -/
def State.writeNeighbours (s : State) (f i : Nat) : State :=
  let l := Tab.get (fun _ => []) (s.mac f).cruise.reports (s.node i N.ADDR 1)
  let sorted := l.foldl (fun (acc : List (Nat × Nat)) x =>
    acc.takeWhile (fun y => x.2 ≤ y.2) ++ [x] ++ acc.dropWhile (fun y => x.2 ≤ y.2)) []
  s.updNode i ((List.range 16).map (fun k =>
    match sorted[k]? with
    | some p => (N.NBR + 2 * k, 2, p.1 % 256 * 256 + p.2)
    | none => (N.NBR + 2 * k, 2, 0xFF00)))

/-- DONE: neighbours and proposed routes (R273, R274). -/
def State.cruiseFinish (s : State) (f : Nat) : State :=
  let js := s.joined f
  let addrs := js.map (fun i => s.node i N.ADDR 1)
  let hops := s.hopsFrom f addrs 256 [(256, 0)]
  let t := js.foldl (fun t i => (t.writeNeighbours f i).propose f hops i) s
  (t.setCruise f CR.DONE).fmaEvent f 4

/-- The parent and the route of a node, as they are or as proposed where a proposal is valid (R274, R276). -/
def State.routeOf (s : State) (prop : Bool) (i : Nat) : Nat × Nat :=
  if prop && (s.node i N.PROP_ROUTE 1).testBit 7 then (s.node i N.PROP_PARENT 1, s.node i N.PROP_ROUTE 1 % 64)
  else (s.node i N.PARENT 1, s.node i N.ROUTE 1 % 64)

/-- The addresses below a node under the present routes, or under the proposed ones. -/
def State.subtree (s : State) (f : Nat) (prop : Bool) : Nat → List Nat → List Nat
  | 0, _ => []
  | fuel + 1, roots =>
    let kids := (s.joined f).filter (fun j => !(s.routeOf prop j).2.testBit 4 && roots.contains (s.routeOf prop j).1)
    let ks := kids.map (fun j => s.node j N.ADDR 1)
    if ks.isEmpty then [] else ks ++ s.subtree f prop fuel ks

/-- Whether APPLY changes the route or the children of node `i`. -/
def State.routeChanges (s : State) (f i : Nat) : Bool :=
  let a := s.node i N.ADDR 1
  let old := s.routeOf false i
  let new := s.routeOf true i
  old.1 ≠ new.1 || old.2 % 32 ≠ new.2 % 32 || s.subtree f true 8 [a] ≠ s.subtree f false 8 [a]

/-- An APPLY accepted (R274): a ROUTE element to every node whose route or children change. The cycle R in it, which only the
last ACKNOWLEDGE sets, is a free value (log entry 98). -/
def State.applyRoutes (s : State) (f : Nat) : State :=
  let l := (s.joined f).filter (s.routeChanges f)
  let t := l.foldl (fun t i =>
    let sub := s.subtree f true 8 [s.node i N.ADDR 1]
    let r := s.routeOf true i
    t.macMgmt f i MG.ROUTE (fields [(1, r.1), (1, r.2 % 32), (4, Config.routeCycle s.free % 2 ^ 32), (2, sub.length)]
      ++ sub.flatMap (fun a => bytesBE 1 a))) s
  (t.draw.setCruise f CR.APPLYING).modCruise f (fun c => { c with
    routing := l, applyAt := cycleOf s.now, effective := if l.isEmpty then some (cycleOf s.now + 2) else none })

/-- Routes in force at R:0: the valid proposals, and the bit that says a node has children. -/
def State.takeRoutes (s : State) (f : Nat) : State :=
  let t := ((s.joined f).filter (fun i => (s.node i N.PROP_ROUTE 1).testBit 7)).foldl (fun t i =>
    t.updNode i [(N.PARENT, 1, (s.routeOf true i).1),
      (N.ROUTE, 1, (s.routeOf true i).2 + ((s.node i N.ROUTE 1).testBit 6).toNat * 64)]) s
  ((t.markChildren f).setCruise f CR.IDLE).modCruise f (fun c => { c with effective := none })

/-! ### Writes and views -/

/-- A cruise or a mask change is in progress. -/
def State.cruiseRunning (s : State) (f : Nat) : Bool :=
  let c := s.cruiseState f
  c = CR.PROBING || c = CR.REPORTING || c = CR.APPLYING

/-- A write of CRUISE_CTRL (R273, R274). -/
def cruiseEff (f : Nat) (v : Word) (s : State) : State × WriteResult :=
  let a := FMA.CRUISE_CTRL f
  if bit v 0 && (s.cruiseRunning f || (s.mac f).mask.isSome) then (s, .refused)
  else if bit v 1 && (s.cruiseState f ≠ CR.DONE || bit v 0) then (s, .refused)
  else
    let (t, r) := s.store a v
    if bit v 0 then
      let ns := (s.joined f).filter (fun i => 2 ≤ s.node i N.VER 1)
      let byAddr := (List.range 256).filterMap (fun x => ns.find? (fun i => s.node i N.ADDR 1 = x))
      let t := t.setFld (FMA.CRUISE_STAT f) 31 16 (s.fld (FMA.CRUISE_STAT f) 31 16 + 1)
      ((t.setCruise f CR.PROBING).modCruise f (fun _ => { probing := byAddr, reporting := byAddr }), r)
    else (if bit v 1 then t.applyRoutes f else t, r)

/-- A write of MASK_DIST (R272). -/
def maskDistEff (f : Nat) (v : Word) (s : State) : State × WriteResult :=
  if bit v 0 && (!s.shadowOk f || (s.mac f).mask.isSome) then (s, .refused)
  else
    let (t, r) := s.store (FMA.MASK_DIST f) v
    if bit v 0 then
      let js := s.joined f
      let words := (List.range 64).flatMap (fun k => bytesBE 4 (s.winWord (w7Base f + 0xA000 + 8 * k)).toNat)
        ++ (List.range 32).flatMap (fun k => bytesBE 4 (s.winWord (w7Base f + 0xA400 + 8 * k)).toNat)
      let ver := (s.fld (FMA.MASK_STAT f) 7 0 + 1) % 256
      let t := js.foldl (fun t i => t.macMgmt f i MG.MASK (bytesBE 1 ver ++ words)) t
      let go := cycleOf s.now
      let at_ := if bit v 1 || js.isEmpty then some (go + t.fld (FMA.MASK_DIST f) 15 8) else none
      let t := t.modMac f (fun m => { m with mask := some { go, force := bit v 1, waiting := js, at_ } })
      ((t.setRbit (FMA.MASK_STAT f) 8 true).setFld (FMA.MASK_STAT f) 24 16 js.length, r)
    else (t, r)

/-- A write of M_CTRL or LAYOUT (R279): CONT_START clamped against the MAXHOP and BSLOT that stand. -/
def layoutEff (f a : Nat) (v : Word) (s : State) : State × WriteResult :=
  let (w, c) := s.fitted a v
  let t := s.setReg a w
  let lo := t.fld (FMA.M_CTRL f) 11 8 * t.fld (FMA.LAYOUT f) 4 0 * 8 + 512
  let x := t.fld (FMA.LAYOUT f) 27 16
  let y := clampN lo 3808 x / 8 * 8
  (t.setFld (FMA.LAYOUT f) 27 16 y, .ofClamp (c || decide (x ≠ y)))

/-- The effect of a write on an FMA page. -/
def fmaEff (req a : Nat) (v : Word) (s : State) : State × WriteResult :=
  let p := pageOf a - 0x1A
  let f := 12 * p + (a % 0x1000 - 0x100) / 0x40
  if a = regCTRL (FMA.page p) then
    if bit v 1 then
      if (List.range 12).any (fun j => s.rbit (FMA.M_CTRL (12 * p + j)) 0) then (s, .refused)
      else
        let t := s.resetPageRegs (FMA.page p)
        ({ t with macs := Tab.dropIf (fun f => f / 12 = p) t.macs }, .done)
    else (s.setReg a (word (bits v 0 0)), .done)
  else if a % 0x1000 < 0x100 then s.plainWrite req a v
  else if a = FMA.M_CTRL f ∨ a = FMA.LAYOUT f then layoutEff f a v s
  else if a = FMA.CRUISE_CTRL f then cruiseEff f v s
  else if a = FMA.MASK_DIST f then maskDistEff f v s
  else s.plainWrite req a v

/-- The computed registers of an FMA page: STAT. -/
def State.fmaView (s : State) (a : Nat) : Option Word :=
  let p := pageOf a - 0x1A
  let f := 12 * p + (a % 0x1000 - 0x100) / 0x40
  if 0x100 ≤ a % 0x1000 ∧ a % 0x1000 < 0x400 ∧ a = FMA.STAT_F f then
    some (word ((if !s.macOn f then 0 else if s.macActive f then 2 else 1) + (s.joined f).length * 65536))
  else none

/-! ### The commands -/

/-- TX_START (R234, R253): the transmission at the front of a modem's queue begins, once its tick has come; one that may not
take place is dropped (R246). The first of a frame with elements is reported SENT (R259); a frame that nothing acknowledges is
done once sent. -/
def execTxStart (f : Fin 48) (s : State) : Res State :=
  .next (match (s.modem f).queue with
    | [] => s
    | r :: rest =>
      if s.now.toNat < r.tick.toNat then s
      else
        let t := s.modModem f (fun m => { m with queue := rest })
        if !r.sealed then t
        else if !s.mayTransmit f then t.txDrop f
        else
          let t := (t.phyTransmit f r).incLo (FMA.CNT_TX f)
          match (s.mac f).out.find? (fun x => x.tag = r.tag ∧ r.tag ≠ 0) with
          | none => t
          | some x =>
            let t := if x.sent.isNone then x.seqs.foldl (fun t q => t.report { kind := 0, ep := q.1, seq := q.2 }) t else t
            if !x.acked then t.modMac f (fun m => { m with out := m.out.filter (fun y => y.tag ≠ r.tag) })
            else t.modMac f (fun m => { m with out := m.out.map (fun y =>
              if y.tag = r.tag then
                { y with tries := y.tries + 1, sent := some (y.sent.getD (cycleOf s.now)) }
              else y) }))

/-- MAC_CYCLE_START (R260): C:0 on a feeder; without an active MAC only a FREE that waits is done (R280). -/
def execMacCycleStart (f : Fin 48) (s : State) : Res State :=
  .next (if angleOf s.now = 0 then (if s.macActive f then s.macCycle f else s.freePending f) else s)

/-- BEACON_TRANSMIT (R257): tick 2 of a cycle. -/
def execBeaconTransmit (f : Fin 48) (s : State) : Res State :=
  .next (if s.macActive f ∧ angleOf s.now = 2 then s.beacon f else s)

/-- The session whose CONFIRM a frame carries. -/
def State.confirmOf (s : State) (f : Nat) (r : RxFrame) : Option JoinSession :=
  (s.mac f).sessions.find? (fun x => x.step = 5 && s.node x.node N.ADDR 1 = r.mb 12)

/-- A received frame is of the kind DATA that MAC_FRAME_RECEIVE takes: no CONFIRM under a node key awaits it. -/
def State.isConfirm (s : State) (f : Nat) (r : RxFrame) : Bool := r.ftype = 1 && r.key = 2 && (s.confirmOf f r).isSome

/-- MAC_FRAME_RECEIVE (R256): the oldest received frame of a feeder, if it is none that another command takes. -/
def execMacFrameReceive (f : Fin 48) (s : State) : Res State :=
  .next (match (s.modem f).rx with
    | [] => s
    | r :: _ =>
      if !s.macOn f then s.popRx f
      else if r.ftype = 2 ∨ r.ftype = 3 ∨ r.ftype = 4 ∨ s.isConfirm f r then s
      else if r.ftype = 1 ∧ s.mayTransmit f then (s.popRx f).dataFrame f r
      else s.popRx f)

/-- ACK_RECEIVE (R258, R259): an acknowledgement of a frame the module sent to a hop-1 node. -/
def execAckReceive (f : Fin 48) (s : State) : Res State :=
  .next (match (s.modem f).rx with
    | [] => s
    | r :: _ =>
      if r.ftype ≠ 2 then s
      else
        let t := s.popRx f
        match s.nodeAt f (r.mb 10) with
        | none => t.incHi (FMA.CNT_RX f)
        | some i =>
          match s.openFrame f i r with
          | none => t.incHi (FMA.CNT_RX f)
          | some b =>
            if !(s.macNode i).fresh r.key r.fcnt then t.incHi (FMA.CNT_RX f)
            else
              let t := (t.heardFrom f i r).modMacNode i (fun n => { n with qrep := fcField b 6 2 * 64 })
              let acked := fun (x : MacFrame) =>
                x.hop1 = r.mb 10 && x.fcnt = some (fcField b 0 4) && x.sent.isSome && (fcField b 4 1).testBit 0
              let m := t.mac f
              t.modMac f (fun _ => { m with
                out := m.out.filter (fun x => !acked x),
                await := m.await ++ (m.out.filter (fun x => acked x && x.e2e)) }))

/-- RETRANSMIT (R259): a frame whose acknowledgement is overdue waits for its next allocation; after RETRY_MAX
retransmissions it is dropped. One that the modem dropped waits likewise. -/
def execRetransmit (f : Fin 48) (s : State) : Res State :=
  let late := fun (x : MacFrame) => x.acked && (match x.due with
    | some d => decide (d.toNat ≤ s.now.toNat) | none => false)
  .next (match (s.mac f).out.find? late with
    | none => s
    | some x =>
      if s.fld (FMA.M_CTRL f) 19 16 < x.tries then
        let t := s.modMac f (fun m => { m with out := m.out.filter (fun y => y.tag ≠ x.tag) })
        ((t.incHi (FMA.CNT_TX f)).fmaEvent f 6).failFrame x
      else s.modMac f (fun m => { m with out := m.out.map (fun y => if y.tag = x.tag then { y with due := none } else y) }))

/-- DELIVERY_TIMEOUT (R259): no CMD_ACK within 4 cycles of SENT. -/
def execDeliveryTimeout (f : Fin 48) (s : State) : Res State :=
  let old := fun (x : MacFrame) => x.e2e && (match x.sent with | some c => decide (c + 4 ≤ cycleOf s.now) | none => false)
  let m := s.mac f
  .next (match (m.await ++ m.out).find? old with
    | none => s
    | some x =>
      (s.modMac f (fun m => { m with await := m.await.filter (fun y => y.tag ≠ x.tag),
                                      out := m.out.filter (fun y => y.tag ≠ x.tag) })).failFrame x)

/-- JOIN_REQUEST (R268): a REQ at the front of the received frames. -/
def execJoinRequest (f : Fin 48) (s : State) : Res State :=
  .next (match (s.modem f).rx with
    | [] => s
    | r :: _ =>
      if r.ftype = 3 ∧ fcField r.body 0 1 = 1 then
        if s.macActive f && r.good then (s.popRx f).joinReq f r.snr (r.body.drop 1) else s.popRx f
      else s)

/-- JOIN_AUTH (R268): an AUTH at the front, acknowledged as it asks (R258). -/
def execJoinAuth (f : Fin 48) (s : State) : Res State :=
  .next (match (s.modem f).rx with
    | [] => s
    | r :: _ =>
      if r.ftype = 3 ∧ fcField r.body 0 1 ≠ 1 then
        let t := if s.macActive f && r.flag 1 && r.flag 5 then (s.popRx f).sendAck f r r.good else s.popRx f
        if s.macActive f && r.good && fcField r.body 0 1 = 3 then t.joinAuth f (r.body.drop 1) else t
      else s)

/-- JOIN_CONFIRM (R268): a CONFIRM at the front. -/
def execJoinConfirm (f : Fin 48) (s : State) : Res State :=
  .next (match (s.modem f).rx with
    | [] => s
    | r :: _ =>
      if !s.isConfirm f r then s
      else match s.confirmOf f r with
        | none => s
        | some x =>
          let t := if r.flag 5 then (s.popRx f).sendAck f r r.good else s.popRx f
          match s.openFrame f x.node r with
          | none => t.incHi (FMA.CNT_RX f)
          | some p =>
            if !(s.macNode x.node).fresh r.key r.fcnt then t.incHi (FMA.CNT_RX f)
            else
              let t := t.heardFrom f x.node r
              match (elementsOf 64 p).find? (fun e => e.1 = 5 && fcField e.2.2 0 1 = MG.CONFIRM) with
              | some e => t.joinConfirm f x (e.2.2.drop 1)
              | none => t)

/-- JOIN_TIMEOUT (R268): a step not answered within JOIN_TO cycles. -/
def execJoinTimeout (f : Fin 48) (s : State) : Res State :=
  .next (match (s.mac f).sessions.find? (fun x => decide (x.at_ + s.fld (FMA.JOIN_CFG f) 7 0 < cycleOf s.now)) with
    | some x => s.endSession f x
    | none => s)

/-- NODE_LOST (R271): nothing heard from a JOINED node for LOST_CYC × 16 cycles. -/
def execNodeLost (i : Fin 4096) (s : State) : Res State :=
  let f := s.node i N.FEEDER 1
  let silent := (word (cycleOf s.now) - word (s.node i N.HEARD 4)).toNat
  .next (if s.node i N.STATE 1 = ND.JOINED ∧ s.macActive f ∧ s.fld (FMA.JOIN_CFG f) 23 16 * 16 ≤ silent then s.loseNode i
    else s)

/-- MASK_DIST_GO (R272): a write of MASK_DIST with GO, and FORCE or not; LEAD as it stands. -/
def execMaskDistGo (req : Req) (f : Fin 48) (force : Bool) (s : State) : Res State :=
  let v := putBits (s.reg (FMA.MASK_DIST f)) 1 0 (1 + 2 * force.toNat)
  .next (s.busWrite req (FMA.MASK_DIST f) v (fmaEff req (FMA.MASK_DIST f) v))

/-- MASK_DIST_COMMIT (R272): the strobe of S−1:4 064. -/
def execMaskDistCommit (f : Fin 48) (s : State) : Res State :=
  .next (match (s.mac f).mask with
    | some x => match x.at_ with
      | some c =>
        if !x.committed ∧ (c - 1) * 4096 + 4064 ≤ s.now.toNat then
          (s.maskRequest f).1.modMac f (fun m => { m with mask := some { x with committed := true } })
        else s
      | none => s
    | none => s)

/-- MASK_SWITCH (R272): S:0. -/
def execMaskSwitch (f : Fin 48) (s : State) : Res State :=
  .next (match (s.mac f).mask with
    | some x => match x.at_ with
      | some c =>
        if x.committed ∧ c * 4096 ≤ s.now.toNat then
          let a := FMA.MASK_STAT f
          ((s.modMac f (fun m => { m with mask := none })).setReg a (word ((s.fld a 7 0 + 1) % 256))).fmaEvent f 5
        else s
      | none => s
    | none => s)

/-- CRUISE_GO (R273): a write of CRUISE_CTRL with GO. -/
def execCruiseGo (req : Req) (f : Fin 48) (s : State) : Res State :=
  let v := putBits (s.reg (FMA.CRUISE_CTRL f)) 1 0 1
  .next (s.busWrite req (FMA.CRUISE_CTRL f) v (fmaEff req (FMA.CRUISE_CTRL f) v))

/-- PROBE_RECEIVE (R273): a PROBE at the front, checked as every frame (R256); its SNR code is recorded in a cruise. -/
def execProbeReceive (f : Fin 48) (s : State) : Res State :=
  .next (match (s.modem f).rx with
    | [] => s
    | r :: _ =>
      if r.ftype ≠ 4 then s
      else
        let t := s.popRx f
        match s.nodeAt f (r.mb 12) with
        | none => t.incHi (FMA.CNT_RX f)
        | some i =>
          if !r.good then t
          else if (s.openFrame f i r).isNone || !(s.macNode i).fresh r.key r.fcnt then t.incHi (FMA.CNT_RX f)
          else
            let t := t.heardFrom f i r
            if s.cruiseState f = CR.PROBING ∨ s.cruiseState f = CR.REPORTING then
              t.modCruise f (fun c => { c with heard := Tab.insert (r.mb 10) r.snr (Tab.erase (r.mb 10) c.heard) })
            else t)

/-- CRUISE_DONE (R273, R274): all reports are in, or 16 cycles have passed since the last PROBE. -/
def execCruiseDone (f : Fin 48) (s : State) : Res State :=
  let c := (s.mac f).cruise
  .next (if s.cruiseState f = CR.REPORTING ∧ (c.reporting.isEmpty ∨ c.lastProbe + 16 ≤ cycleOf s.now) then s.cruiseFinish f
    else s)

/-- CRUISE_APPLY (R274): a write of CRUISE_CTRL with APPLY. -/
def execCruiseApply (req : Req) (f : Fin 48) (s : State) : Res State :=
  let v := putBits (s.reg (FMA.CRUISE_CTRL f)) 1 0 2
  .next (s.busWrite req (FMA.CRUISE_CTRL f) v (fmaEff req (FMA.CRUISE_CTRL f) v))

/-- ROUTE_EFFECTIVE (R274): R:0. -/
def execRouteEffective (f : Fin 48) (s : State) : Res State :=
  .next (match (s.mac f).cruise.effective with
    | some r => if s.cruiseState f = CR.APPLYING ∧ r * 4096 ≤ s.now.toNat then s.takeRoutes f else s
    | none => s)

/-- ROUTE_ABANDON (R274): a node has not acknowledged within 64 cycles; no route changes. -/
def execRouteAbandon (f : Fin 48) (s : State) : Res State :=
  let c := (s.mac f).cruise
  .next (if s.cruiseState f = CR.APPLYING ∧ !c.routing.isEmpty ∧ c.applyAt + 64 ≤ cycleOf s.now then
      (s.setCruise f CR.FAILED).modCruise f (fun c => { c with routing := [] })
    else s)

end Sys2Proof.Machine
end

