-- ==== Sys2Proof/Machine/Trig.lean ====
section
/-!
DEFINITION. Sine and cosine in fixed point with 96 fraction bits, by their power series on integers: the cosine table of
metering (R190) and the solar elevation (R288) are rounded from them.
-/

namespace Sys2Proof.Machine

/-- 1 in fixed point. -/
def fpOne : Int := 2 ^ 96

/-- π in fixed point. -/
def fpPi : Int := 0x3243f6a8885a308d313198a2e03707344 / 2 ^ 32

/-- The product of two fixed-point numbers. -/
def fpMul (a b : Int) : Int := a * b / fpOne

/-- The sum of the series whose next term is `term` and whose n-th divisor is `(k + 1) (k + 2)`. -/
def fpSeries (x2 : Int) : Nat → Int → Nat → Int
  | 0, _, _ => 0
  | fuel + 1, term, k => term + fpSeries x2 fuel (-(fpMul term x2) / (((k + 1) * (k + 2) : Nat) : Int)) (k + 2)

/-- Radians reduced to −π to π. -/
def fpReduce (x : Int) : Int := (x + fpPi) % (2 * fpPi) - fpPi

/-- Cosine of radians. -/
def fpCos (x : Int) : Int := let r := fpReduce x; fpSeries (fpMul r r) 40 fpOne 0

/-- Sine of radians. -/
def fpSin (x : Int) : Int := let r := fpReduce x; fpSeries (fpMul r r) 40 r 1

/-- c[a] of R190: 2^30 cos(2πa / 4 096), rounded to nearest, halves away from zero. -/
def cosTable (a : Nat) : Int := roundAway (fpCos (2 * fpPi * (a % 4096 : Nat) / 4096) * 2 ^ 30) (2 ^ 96)

/-- s[a] of R190. -/
def sinTable (a : Nat) : Int := roundAway (fpSin (2 * fpPi * (a % 4096 : Nat) / 4096) * 2 ^ 30) (2 ^ 96)

end Sys2Proof.Machine
end

