-- ==== Sys2Proof/Machine/Yarder.lean ====
section
/-!
DEFINITION. The Yarder command pipeline and the schedule evaluator (spec/13).
-/

namespace Sys2Proof.Machine

/-- The state with the Yarder, with the evaluator, changed. -/
def State.modYrd (s : State) (f : Yrd → Yrd) : State := { s with yrd := f s.yrd }
def State.modSch (s : State) (f : Sch → Sch) : State := { s with sch := f s.sch }

/-- RET_LEAD, REL_LEAD, EVT_LAT and COMP_FADE (R309). -/
def State.retLead (s : State) : Nat := s.fld YRD.CFG 3 0
def State.relLead (s : State) : Nat := s.fld YRD.CFG 11 8
def State.evtLat (s : State) : Nat := s.fld YRD.CFG 19 16
def State.compFade (s : State) : Nat := s.fld YRD.CFG 31 24

/-- The stamp of angle 0 of a cycle, as a number. -/
def at0 (c : Nat) : Nat := c * 4096

/-- The fields of an endpoint's GROUP word (R283). -/
def State.epGrp (s : State) (e : Nat) : Nat := bits (s.winWord (epAddr e + P.GROUP)) 7 0
def State.epRule (s : State) (e : Nat) : Nat := bits (s.winWord (epAddr e + P.GROUP)) 15 8
def State.epDist (s : State) (e : Nat) : Nat := bits (s.winWord (epAddr e + P.GROUP)) 27 16
def State.epCorr (s : State) (e : Nat) : Bool := bit (s.winWord (epAddr e + P.GROUP)) 31

/-- The lamp heads the Yarder plans for, ascending (R283, R306). -/
def State.lamps (s : State) : List Nat :=
  s.eps.filter (fun e => s.ep e P.TYPE 1 = 1 && (s.ep e P.EFLAGS 1).testBit 0)

/-- What the Yarder keeps for a lamp head. -/
def State.lamp (s : State) (e : Nat) : Lamp := Tab.get (fun _ => {}) s.yrd.lamps e
def State.setLamp (s : State) (e : Nat) (l : Lamp) : State :=
  s.modYrd (fun y => { y with lamps := Tab.put (fun _ => {}) y.lamps e l })

/-! ### Solar elevation (R288) -/

/-- The largest 0.01° whose lower half-step has a sine at or below `x`, from `lo` on, below `lo + 2^fuel`. -/
def sineSearch (x : Int) : Nat → Int → Int
  | 0, lo => lo
  | n + 1, lo =>
    let k := lo + 2 ^ n
    sineSearch x n (if k ≤ 9000 ∧ fpSin ((2 * k - 1) * fpPi / 36000) ≤ x then k else lo)

/-- e of R288 at UTC minute `m`, rounded, from latitude and longitude in 0.01°. -/
def solarRounded (lat lon m : Int) : Int :=
  let day := m / 1440
  let mu := m % 1440
  let (year, _, _) := civilFromDays day
  let yd := day - daysFromCivil year 1 1
  let n : Int := if leapYear year then 366 else 365
  let g := 2 * fpPi * (yd * 1440 + mu - 720) / (n * 1440)
  let c := fun (k : Int) => fpCos (k * g)
  let r := fun (k : Int) => fpSin (k * g)
  let eqt := 22918 * (75 * fpOne + 1868 * c 1 - 32077 * r 1 - 14615 * c 2 - 40849 * r 2) / 100000000
  let dec := (6918 * fpOne - 399912 * c 1 + 70257 * r 1 - 6758 * c 2 + 907 * r 2 - 2697 * c 3 + 1480 * r 3) / 1000000
  let ha := (mu * fpOne + eqt + 4 * lon * fpOne / 100) / 4 - 180 * fpOne
  let la := lat * fpPi / 18000
  let x := fpMul (fpSin la) (fpSin dec) + fpMul (fpMul (fpCos la) (fpCos dec)) (fpCos (fpMul ha fpPi / 180))
  sineSearch x 15 (-9000)

/-- e_m of the module, within 1 of the rounded value (R288, log entry 35). -/
def solar (lat lon m : Int) : Int := solarRounded lat lon m + (Config.solarOffset lat lon m % 3 : Nat) - 1

/-- The instant of a crossing in minute `m`, if it lies there: kind 2 rising, 3 setting (R288). -/
def solarCross (kind : Nat) (th e0 e1 m : Int) : Option Int :=
  if kind = 2 then
    if e0 < th ∧ th ≤ e1 then some (60 * m + 60 * (th - e0) / (e1 - e0)) else none
  else if th ≤ e0 ∧ e1 < th then some (60 * m + 60 * (e0 - th) / (e0 - e1)) else none

/-- The first crossing of a kind on a UTC date, in seconds. -/
def firstCross (lat lon : Int) (kind : Nat) (th day : Int) : Option Int :=
  (List.range 1440).findSome? (fun (i : Nat) =>
    let m := day * 1440 + i
    solarCross kind th (solar lat lon m) (solar lat lon (m + 1)) m)

/-! ### Schedule entries (R285 to R287) -/

/-- The addresses of entry `i` of the shadow bank and of the active bank of W4 (R312). -/
def schShadow (i : Nat) : Nat := 0x50800000 + 0x20 * i
def schActive (i : Nat) : Nat := 0x50810000 + 0x20 * i

/-- The valid entries of the active bank, ascending. -/
def State.schEntries (s : State) : List Nat :=
  (s.win.filter (fun c => schActive 0 ≤ c.1 && c.1 < schActive 1024 && c.1 % 0x20 = 0 && bit c.2 24)).map
    (fun c => (c.1 - schActive 0) / 0x20)

/-- The civil time in whole seconds (TB3). -/
def State.civilNow (s : State) : Int := (s.tb 3 / tbSecond : Nat)

/-- Days from 1970-01-01 to 2000-01-01. -/
def day2000 : Int := 10957

/-- The instant entry `i` yields for a date, a day number from 1970-01-01 (R286). -/
def State.entryInstant (s : State) (i : Nat) (day : Int) : Option Int :=
  let a := schActive i
  let f := s.winByte a
  let kind := f / 2 % 4
  let d := day - day2000
  let ofs := signed 16 (s.winField (a + 8) 2)
  if !(s.winByte (a + 1)).testBit (weekdayOf day).toNat || decide (d < s.winField (a + 16) 4)
    || decide ((s.winField (a + 20) 4 : Int) < d) then none
  else if kind = 0 then some (s.tim.zone.toUtc (day * 86400 + (s.winField (a + 4) 4 : Nat)) + ofs)
  else if kind = 1 then some (day * 86400 + (s.winField (a + 4) 4 : Nat) + ofs)
  else match s.sch.minute, firstCross s.sch.lat s.sch.lon kind (signed 32 (s.winField (a + 4) 4)) day with
    | some m, some t =>
      if (m : Int) - 2880 ≤ t / 60 ∧ t / 60 < (m : Int) + 1440 then some (t + ofs) else none
    | _, _ => none

/-- A list of instants in ascending order. -/
def sortInts (l : List Int) : List Int :=
  l.foldl (fun acc x => acc.takeWhile (fun y => y ≤ x) ++ [x] ++ acc.dropWhile (fun y => y ≤ x)) []

/-- The civil times of entry `i` later than the latest it has frozen, or than the lookback's start (R286, R287). -/
def State.entryTimes (s : State) (i : Nat) : List Int :=
  let low := max s.sch.since (Tab.get (fun _ => s.sch.since) s.sch.latest i)
  let d0 := low / 86400 - 2
  let n := (s.civilNow / 86400 + 3 - d0).toNat
  sortInts (((List.range n).filterMap (fun (k : Nat) => s.entryInstant i (d0 + k))).filter (fun t => low < t))

/-- An instant of entry `i` frozen at a stamp; `moved` counts and logs it as moved (R286). -/
def State.freeze (s : State) (i : Nat) (civil : Int) (at_ : Nat) (moved : Bool) (f : Nat) : State :=
  let a := schActive i
  let x : Instant := { entry := i, grp := s.winByte (a + 2), at_, civil, prio := s.winByte a / 16 % 8,
                       level := s.winField (a + 10) 2, fade := s.winField (a + 12) 2, curve := s.winByte (a + 3) }
  let t := (s.modSch (fun c => { c with
    frozen := c.frozen ++ [x], latest := Tab.insert i civil (Tab.erase i c.latest) })).incLo SCH.CNT
  if moved then
    ((t.incHi SCH.CNT).raise SCH.page 1).log 0x200 (fields [(2, i), (2, 0), (8, at_), (8, f)])
  else t

/-- One instant offered for freezing in pass `c`: its plan must reach it (R286). -/
def State.offerInstant (s : State) (c i : Nat) (civil : Int) : State :=
  let f := at0 (c + s.retLead)
  let back := decide (civil ≤ s.sch.lookTo)
  match civilToRing s.rct.map (civil.toNat * tbSecond) with
  | .value v =>
    if at0 (c + 17) ≤ v then s else s.freeze i civil (max v f) (!back && decide (v < f)) f
  | .failed 2 => if back then s.freeze i civil 0 false f else s.freeze i civil f true f
  | .failed _ => s

/-- Two instants in the order that decides the base (R286): a later stamp, a later civil time, a higher PRIO, a lower
entry. -/
def Instant.beats (x y : Instant) : Bool :=
  if x.at_ ≠ y.at_ then y.at_ < x.at_
  else if x.civil ≠ y.civil then y.civil < x.civil
  else if x.prio ≠ y.prio then y.prio < x.prio
  else x.entry < y.entry

/-- The instant that gives base(g, t) (R286). -/
def State.baseAt (s : State) (g t : Nat) : Option Instant :=
  (s.sch.frozen.filter (fun x => x.grp = g && x.at_ ≤ t)).foldl (fun (b : Option Instant) x =>
    match b with
    | some y => if x.beats y then some x else some y
    | none => some x) none

/-- The evaluator's part of pass `c` (R286): the lookback where it is due, the instants the plan reaches, FIRED for an
instant reached in the last cycle, and frozen instants that can decide no base any more dropped. -/
def State.schPass (s : State) (c : Nat) : State :=
  let p := s.civilNow
  let s := if s.sch.lookback then
      s.modSch (fun x => { x with lookback := false, since := p - 172800, lookTo := p })
    else s
  let s := s.schEntries.foldl (fun t i => (t.entryTimes i).foldl (fun t x => t.offerInstant c i x) t) s
  let s := if s.sch.frozen.any (fun x => at0 (c - 1) < x.at_ && x.at_ ≤ at0 c) then s.raise SCH.page 0 else s
  s.modSch (fun h => { h with frozen := h.frozen.filter (fun x => decide (at0 c < x.at_) || s.baseAt x.grp (at0 c) == some x) })

/-! ### Corridor rules and tracks (R289 to R292) -/

/-- The address of active rule `r` of W5 (R310). -/
def ruleAddr (r : Nat) : Nat := 0x50850000 + 0x40 * r

/-- cyc(x) (R290): cycles to walk `x` metres at speed `v`. -/
def State.cyc (s : State) (v x : Nat) : Nat := (x * 10 * s.cyclesPerSecond + v - 1) / v

/-- delta of a place at `dist` (R290). -/
def Track.delta (k : Track) (dist : Nat) : Int :=
  let d : Int := (dist : Int) - k.p
  if k.dir = 1 then d else if k.dir = 2 then -d else d.natAbs

/-- The cycles in which a track raises a lamp at `dist` (R290, R291). -/
def State.trackSpan (s : State) (k : Track) (dist : Nat) : Option (Nat × Nat) :=
  let delta := k.delta dist
  let cut := match k.sees with
    | some (ds, _, _) => k.refuted && decide ((ds : Int) < delta)
    | none => false
  if -(k.behind : Int) ≤ delta ∧ delta ≤ k.lookahead ∧ !cut then
    let on := max k.first (k.o + s.cyc k.v (delta - k.ahead).toNat)
    let off := k.o + s.cyc k.v (delta + k.behind).toNat + k.hold
    if on < off then some (on, off) else none
  else none

/-- The spans of the tracks that raise lamp `e`. -/
def State.raises (s : State) (e : Nat) : List (Track × Nat × Nat) :=
  if s.epCorr e then
    (s.yrd.tracks.filter (fun k => k.rule = s.epRule e)).filterMap (fun k => (s.trackSpan k (s.epDist e)).map (fun x => (k, x)))
  else []

/-- The latest off of a track over the lamps it raises. -/
def State.lastOff (s : State) (k : Track) : Nat :=
  (s.lamps.filter (fun e => s.epCorr e && s.epRule e = k.rule)).foldl (fun m e =>
    match s.trackSpan k (s.epDist e) with
    | some x => max m x.2
    | none => m) 0

/-- The next sensor of a track with its deadline (R291). -/
def State.nextSensor (s : State) (k : Track) (confirm : Nat) : Option (Nat × Nat × Nat) :=
  if k.dir ≠ 1 ∧ k.dir ≠ 2 then none
  else
    (s.eps.filter (fun e => s.ep e P.TYPE 1 = 2 && s.epCorr e && s.epRule e = k.rule)).foldl
      (fun (b : Option (Nat × Nat × Nat)) e =>
        let d := k.delta (s.epDist e)
        if 0 < d ∧ d ≤ k.lookahead ∧ (b.all (fun x => decide (d < x.1))) then
          some (d.toNat, e, k.o + s.cyc k.v d.toNat + confirm)
        else b) none

/-- INPUT_LATE (R282): counted, raised and logged. -/
def State.inputLate (s : State) (kind : Nat) (acc : Int) (c : Nat) : State :=
  ((s.incHi YRD.CNT_E).raise YRD.page 3).log 0x1F1
    (fields [(1, Config.inputKind kind), (3, 0), (8, unsigned 64 acc), (8, c)])

/-- The origin of a presence EVENT, and its cycle (R28, R282). -/
def State.originAt (s : State) (x : LampEvent) : Stamp := State.extend { s with now := x.at_ } (word (natBE (x.body.take 4)))
def State.originOf (s : State) (x : LampEvent) : Nat := cycleOf (s.originAt x)

/-- A presence EVENT taken by pass `c` (R290 to R292), counted when late (R282): with CORR_EN it confirms the tracks that expect
it and opens its own. -/
def State.takeEvent (s : State) (c : Nat) (x : LampEvent) : State :=
  let o := s.originOf x
  let late := decide (o + s.evtLat < c)
  let s := if late then s.inputLate 0 (o + s.evtLat : Nat) c else s
  if !s.epCorr x.ep then s
  else
    let b := fun k => (x.body.getD k 0).toNat
    let s := s.modYrd (fun y => { y with tracks := y.tracks.map (fun k =>
      match k.sees with
      | some (_, e, dl) => if e = x.ep ∧ k.dir = b 4 ∧ c ≤ dl ∧ !k.refuted then { k with confirmed := true } else k
      | none => k) })
    let r := s.epRule x.ep
    let f := fun o n => s.winField (ruleAddr r + o) n
    if f 0 1 % 2 = 0 then s
    else if 2048 ≤ s.yrd.tracks.length then
      ((s.incLo YRD.CNT_G).raise YRD.page 4).log 0x1F2 (fields [(2, x.ep), (2, 0)])
    else
      let v := if b 5 = 0 then f (20 + 2 * (if b 6 < 4 then b 6 else 0)) 2 else b 5
      let k : Track := { rule := r, sensor := x.ep, first := c + s.retLead, o, dir := b 4, v, p := s.epDist x.ep,
                         raise := f 2 2, ahead := f 4 2, behind := f 6 2, lookahead := f 8 2, hold := f 10 2,
                         rise := f 12 2, fall := f 14 2, curve := f 18 1, late }
      s.modYrd (fun y => { y with tracks := y.tracks ++ [{ k with sees := s.nextSensor k (f 16 2) }] })

/-- EVENTs in the order of their origins, then of endpoints, then of bodies. -/
def State.byOrigin (s : State) (l : List LampEvent) : List LampEvent :=
  let key := fun (x : LampEvent) => ((s.originAt x).toNat * 65536 + x.ep) * 2 ^ 128 + natBE (x.body.take 16)
  l.foldl (fun acc x => acc.takeWhile (fun y => key y ≤ key x) ++ [x] ++ acc.dropWhile (fun y => key y ≤ key x)) []

/-- The EVENTs pass `c` takes (R282). DESIGN CHOICE (log entry 99), unsafe: in the order of their origins, so that the order in
which the feeders carried them changes no release (R307). -/
def State.takeEvents (s : State) (c : Nat) : State :=
  let mine := fun (t : State) (x : LampEvent) => decide (cycleOf x.at_ < c ∧ t.originOf x + t.evtLat ≤ c)
  let now_ := s.yrd.events.filter (mine s)
  let s := s.modYrd (fun y => { y with events := y.events.filter (fun x => !mine s x) })
  (s.byOrigin now_).foldl (fun t x => t.takeEvent c x) s

/-- Tracks at their deadline refuted, finished tracks freed (R291, R292). -/
def State.trackPass (s : State) (c : Nat) : State :=
  let s := s.modYrd (fun y => { y with tracks := y.tracks.map (fun k =>
    match k.sees with
    | some (_, _, dl) => if !k.confirmed ∧ dl ≤ c then { k with refuted := true } else k
    | none => k) })
  s.modYrd (fun y => { y with tracks := y.tracks.filter (fun k =>
    decide (c ≤ s.lastOff k) || (match k.sees with | some (_, _, dl) => decide (c ≤ dl) | none => false)) })

/-! ### Scenes and overrides (R293, R294) -/

/-- A stamped input taken by pass `c`: whether it is late, and the stamp from which it acts (R282). -/
def State.inputAt (s : State) (c at_ : Nat) : Bool × Nat :=
  let f := at0 (c + s.retLead)
  if at_ = 0 then (false, f)
  else if at_ / 4096 < c + s.relLead then (true, max at_ f) else (false, at_)

/-- Whether an input armed with stamp `at_` is taken by pass `c`. -/
def State.inputDue (s : State) (c seen at_ : Nat) : Bool := decide (seen ≤ c ∧ at_ / 4096 ≤ c + s.relLead)

/-- The armings pass `c` takes. -/
def State.takeArmed (s : State) (c : Nat) : State :=
  let f := at0 (c + s.retLead)
  let accept := fun (at_ : Nat) => (at_ / 4096 : Int) - s.relLead
  let scenes := s.yrd.armedScenes.filter (fun x => s.inputDue c x.seen x.input.at_)
  let overs := s.yrd.armedOverrides.filter (fun x => s.inputDue c x.seen x.input.at_)
  let t := s.modYrd (fun y => { y with
    armedScenes := y.armedScenes.filter (fun x => !s.inputDue c x.seen x.input.at_),
    armedOverrides := y.armedOverrides.filter (fun x => !s.inputDue c x.seen x.input.at_) })
  let t := scenes.foldl (fun t x =>
    let (late, from_) := s.inputAt c x.input.at_
    let t := if late then t.inputLate 2 (accept x.input.at_) c else t
    t.modYrd (fun y => { y with
      scenes := y.scenes ++ [{ x.input with at_ := if x.input.at_ = 0 then f else x.input.at_, start := from_ }] })) t
  overs.foldl (fun t x =>
    let i := x.input
    let (late, from_) := s.inputAt c i.at_
    let t := if late then t.inputLate 1 (accept i.at_) c else t
    let t := if late ∧ t.fld YRD.OVR_STAT 7 0 = i.slot ∧ !t.yrd.armedOverrides.any (fun z => z.input.slot = i.slot) then
        t.setRbit YRD.OVR_STAT 8 true
      else t
    let until_ := if i.end_ = 0 then 0 else if late ∨ i.at_ = 0 then max i.end_ f else i.end_
    t.modYrd (fun y => { y with
      overrides := y.overrides ++ [{ i with at_ := if i.at_ = 0 then f else i.at_, start := from_, stop := until_ }] })) t

/-- The switch of scene `n` that governs at stamp `t`. -/
def State.sceneSwitch (s : State) (n t : Nat) : Option SceneSwitch :=
  (s.yrd.scenes.filter (fun x => x.scene = n && x.start ≤ t)).foldl (fun (b : Option SceneSwitch) x =>
    match b with
    | some y => if y.start ≤ x.start then some x else some y
    | none => some x) none

/-- The arming of slot `n` that governs at stamp `t`. -/
def State.slotArming (s : State) (n t : Nat) : Option Override :=
  (s.yrd.overrides.filter (fun x => x.slot = n && x.start ≤ t)).foldl (fun (b : Option Override) x =>
    match b with
    | some y => if y.start ≤ x.start then some x else some y
    | none => some x) none

/-- An override is in force at `t`: valid, not ended, and its END not at or before its AT (R294). -/
def Override.inForce (o : Override) (t : Nat) : Bool :=
  o.valid && (o.end_ = 0 || (decide (o.at_ < o.end_) && decide (t < o.stop)))

/-- A field of active scene `n` as it stands at stamp `t` (R293, R282): a commit's content counts from its first stamp. -/
def State.sceneField (s : State) (t n o w : Nat) : Nat :=
  let base := 0x50854000 + 0x40 * n
  if t < s.yrd.bankFrom then State.winField { s with win := s.yrd.oldScenes } (base + o) w else s.winField (base + o) w

/-- The scene that wins for group `g` at `t` (R293). -/
def State.sceneAt (s : State) (g t : Nat) : Option SceneSwitch :=
  let on := (s.yrd.scenes.map (·.scene)).eraseDups.filterMap (fun n =>
    match s.sceneSwitch n t with
    | some x => if x.on ∧ (s.sceneField t n (g / 8) 1).testBit (g % 8) then some x else none
    | none => none)
  on.foldl (fun (b : Option SceneSwitch) x =>
    match b with
    | some y => if y.at_ < x.at_ ∨ (y.at_ = x.at_ ∧ y.scene < x.scene) then some x else some y
    | none => some x) none

/-- The override that wins for lamp `e` at `t` (R294). -/
def State.overrideAt (s : State) (e t : Nat) : Option Override :=
  let covers := fun (o : Override) => if o.kind = 0 then o.target = e else if o.kind = 1 then o.target = s.epGrp e else true
  let on := (s.yrd.overrides.map (·.slot)).eraseDups.filterMap (fun n =>
    match s.slotArming n t with
    | some x => if x.inForce t && covers x then some x else none
    | none => none)
  on.foldl (fun (b : Option Override) x =>
    match b with
    | some y => if y.at_ < x.at_ ∨ (y.at_ = x.at_ ∧ y.slot < x.slot) then some x else some y
    | none => some x) none

/-- Switches and armings that can govern no later stamp dropped. -/
def State.dropStale (s : State) (c : Nat) : State :=
  s.modYrd (fun y => { y with
    scenes := y.scenes.filter (fun x => decide (at0 c < x.start) || (x.on && s.sceneSwitch x.scene (at0 c) == some x)),
    overrides := y.overrides.filter (fun x =>
      decide (at0 c < x.start) || (x.inForce (at0 c) && s.slotArming x.slot (at0 c) == some x)) })

/-! ### The desired level (R284) -/

/-- What decides D of a lamp head at a stamp: the layers in force, the level a corridor raise adds, and D. -/
structure Level where
  ovr : Option Override
  scene : Option SceneSwitch
  corr : Nat
  base : Option Instant
  level : Nat
  deriving DecidableEq, Repr

/-- D(t) of lamp `e`, with `rs` the spans that raise it. -/
def State.levelAt (s : State) (e : Nat) (rs : List (Track × Nat × Nat)) (t : Nat) : Level :=
  let base := s.baseAt (s.epGrp e) t
  let b := match base with | some x => x.level | none => s.sch.defLevel
  let scene := s.sceneAt (s.epGrp e) t
  let (l, ok) := match scene with
    | some x => (s.sceneField t x.scene 32 2, decide (s.sceneField t x.scene 37 1 % 2 = 1))
    | none => (b, true)
  let r := rs.foldl (fun m k => if at0 k.2.1 ≤ t ∧ t < at0 k.2.2 then max m k.1.raise else m) 0
  let corr := if ok ∧ l < r then r else 0
  let ovr := s.overrideAt e t
  { ovr, scene, corr, base, level := match ovr with | some o => o.level | none => max l corr }

/-- The scene layer changes at `t`: another scene wins, or a commit changes what the winner sets (R284, R308). -/
def State.sceneMoved (s : State) (t : Nat) (x y : Level) : Bool :=
  x.scene ≠ y.scene || (match y.scene with
    | some p => decide (s.sceneField (t - 1) p.scene 32 2 ≠ s.sceneField t p.scene 32 2)
        || decide (s.sceneField (t - 1) p.scene 37 1 % 2 ≠ s.sceneField t p.scene 37 1 % 2)
    | none => false)

/-- FADE, CURVE and SPEC of the change at `t` between two levels (R284). -/
def State.changeOf (s : State) (rs : List (Track × Nat × Nat)) (t : Nat) (x y : Level) : Nat × Nat × Bool :=
  let sched := match y.base with | some i => (i.fade, i.curve, false) | none => (0, 0, false)
  if x.ovr ≠ y.ovr then
    match x.ovr, y.ovr with
    | some o, some p => if p.start = t then (p.fade, p.curve, false) else (o.fade, o.curve, false)
    | none, some p => (p.fade, p.curve, false)
    | some o, none => (o.fade, o.curve, false)
    | none, none => sched
  else if s.sceneMoved t x y then
    let of_ := fun u (n : Nat) => (s.sceneField u n 34 2, s.sceneField u n 36 1, false)
    match x.scene, y.scene with
    | some o, some p => if p.start = t ∨ t = s.yrd.bankFrom then of_ t p.scene else of_ (t - 1) o.scene
    | none, some p => of_ t p.scene
    | some o, none => of_ (t - 1) o.scene
    | none, none => sched
  else if x.corr < y.corr then
    match rs.find? (fun k => at0 k.2.1 = t && k.1.raise = y.corr) with
    | some k => (k.1.rise, k.1.curve, true)
    | none => sched
  else if y.corr < x.corr then
    match rs.find? (fun k => at0 k.2.2 = t && k.1.raise = x.corr) with
    | some k => (k.1.fall, k.1.curve, true)
    | none => sched
  else sched

/-- A list of numbers in ascending order without repeats. -/
def sortNats (l : List Nat) : List Nat :=
  l.foldl (fun acc x => if acc.contains x then acc
    else acc.takeWhile (fun y => y < x) ++ [x] ++ acc.dropWhile (fun y => y < x)) []

/-- The stamps at which D of lamp `e` can change in the plan of pass `c`. -/
def State.changeStamps (s : State) (e : Nat) (rs : List (Track × Nat × Nat)) (c : Nat) : List Nat :=
  let l := (s.sch.frozen.filter (fun x => x.grp = s.epGrp e)).map (·.at_)
    ++ s.yrd.scenes.map (·.start) ++ s.yrd.overrides.flatMap (fun o => [o.start, o.stop])
    ++ rs.flatMap (fun k => [at0 k.2.1, at0 k.2.2]) ++ [s.yrd.bankFrom]
  sortNats (l.filter (fun t => at0 c < t && t < at0 (c + 17)))

/-- The transitions of D in the plan of pass `c` (R284); CURVE 0 for a node of version 1 (R305). -/
def State.planOf (s : State) (e : Nat) (rs : List (Track × Nat × Nat)) (old : Bool) (c : Nat) : List Transition :=
  (s.changeStamps e rs c).filterMap (fun t =>
    let x := s.levelAt e rs (t - 1)
    let y := s.levelAt e rs t
    if x.level = y.level then none
    else
      let (fade, curve, spec) := s.changeOf rs t x y
      some { at_ := t, level := y.level, fade, curve := if old then 0 else curve, spec })

/-! ### Release, retract and compensate (R298 to R303) -/

/-- Two commands compared on stamp, LEVEL, FADE and CURVE (R298). -/
def Transition.same (x y : Transition) : Bool :=
  x.at_ = y.at_ && x.level = y.level && x.fade = y.fade && x.curve = y.curve

/-- The later of two commands, by exec, then CSEQ. -/
def laterCmd (b : Option LampCmd) (x : LampCmd) : Option LampCmd :=
  match b with
  | some y => if y.t.at_ < x.t.at_ ∨ (y.t.at_ = x.t.at_ ∧ y.cseq < x.cseq) then some x else some y
  | none => some x

/-- What pass `c` decides for a lamp head: X after the pass takes what has executed, RETRACT with the latest exec of X, the
STATE commands with their trace kind, TRANSITIONs, the flags of R301, LE, D(C:0), ld, the plan, and node version 1. -/
structure Decision where
  ep : Nat
  feeder : Nat
  keep : List LampCmd
  retract : Option Nat
  states : List (Nat × Transition)
  trans : List Transition
  marked : Bool
  late : Bool
  comp : Bool
  le : Nat
  d0 : Nat
  ld : Nat
  plan : List Transition
  old : Bool

/-- The decision of R298 for lamp `e`. -/
def State.decideLamp (s : State) (c e : Nat) : Decision :=
  let node := s.ep e P.NODE 2
  let ver := s.node node N.VER 1
  let old := decide (ver < 2)
  let rs := s.raises e
  let m := s.lamp e
  let f := at0 (c + s.retLead)
  let w := at0 (c + s.relLead + 1)
  let le := match (m.cmds.filter (fun x => x.t.at_ ≤ at0 c)).foldl laterCmd none with
    | some x => x.t.level
    | none => m.le
  let xs := m.cmds.filter (fun x => at0 c < x.t.at_)
  let plan := s.planOf e rs old c
  let ts := plan.filter (fun t => f ≤ t.at_ && t.at_ < w)
  let xt := xs.filter (fun x => !x.isState && decide (f ≤ x.t.at_)
    && !xs.any (fun y => y.t.at_ = x.t.at_ && decide (x.cseq < y.cseq)))
  let lb := match (xs.filter (fun x => x.t.at_ < f)).foldl laterCmd none with
    | some x => x.t.level
    | none => le
  let d := fun t => (s.levelAt e rs t).level
  let ld := d (f - 1)
  let d0 := d (at0 c)
  let fresh := ts.filter (fun t => !xt.any (fun x => x.t.same t))
  let sync : Transition := { at_ := f, level := ld, fade := s.compFade, curve := 0, spec := false }
  let base : Decision := { ep := e, feeder := s.node node N.FEEDER 1, keep := xs, retract := none, states := [], trans := fresh,
                           marked := false, late := false, comp := false, le, d0, ld, plan, old }
  if lb = ld ∧ xt.all (fun x => ts.any (fun t => x.t.same t)) then base
  else
    let late := xs.any (fun x => x.t.at_ < f)
    let syncs := if (lb ≠ ld ∨ late) ∧ !ts.any (fun t => t.at_ = f) then [(2, sync)] else []
    let comp := decide (le ≠ 0xFFFF ∧ le ≠ d0)
    if old then
      let wrong := xt.filter (fun x => !ts.any (fun t => x.t.same t) && !plan.any (fun t => t.at_ = x.t.at_))
      let sup := wrong.map (fun x => (3, ({ at_ := x.t.at_, level := d x.t.at_, fade := s.compFade, curve := 0,
                                            spec := false } : Transition)))
      { base with states := sup ++ syncs, marked := true, late, comp }
    else
      { base with keep := [], retract := if xs = [] then none else some ((xs.map (·.t.at_)).foldl max 0), trans := ts,
                  states := syncs, marked := true, late, comp }

/-- A record of trace source 3 (R313). -/
def State.yardTrace (s : State) (c : Nat) (x : Decision) (kind seq : Nat) (t : Transition) : State :=
  let flags := x.late.toNat + 2 * x.comp.toNat + 4 * (x.marked && x.le = 0xFFFF).toNat + 8 * t.spec.toNat
  s.trace 3 (fields [(2, x.ep), (1, kind), (1, flags), (4, seq), (4, t.at_), (2, t.level), (2, t.fade), (4, c)])

/-- A COMMAND body (R262, R295). -/
def commandBody (cseq flags : Nat) (t : Transition) : List Byte :=
  fields [(4, cseq), (4, t.at_), (1, if t.curve = 1 then 2 else 1), (1, 0), (1, 1), (1, flags), (2, t.level), (2, t.fade),
    (1, t.curve), (3, 0)]

/-- A RETRACT entry (R263, R299). -/
def retractBody (ep thru exec : Nat) : List Byte := fields [(1, ep), (3, 0), (4, thru + 1), (4, thru), (4, exec)]

/-- A command released for a decision's lamp, under the next CSEQ: kind 1 TRANSITION, 2 SYNC, 3 supersede, 4 REFRESH. -/
def State.release (s : State) (c : Nat) (x : Decision) (kind : Nat) (t : Transition) : State :=
  let n := s.ep x.ep P.CSEQ_LAST 4 + 1
  let state := kind ≠ 1
  let flags := (if state then 2 + 4 * x.comp.toNat else t.spec.toNat) + (if kind = 4 then 8 else 0)
  let u := s.updEp x.ep [(P.CSEQ_LAST, 4, n)]
  let l := u.lamp x.ep
  let u := u.setLamp x.ep { l with cmds := l.cmds ++ [{ isState := state, cseq := n, t }] }
  let u := u.modYrd (fun y => { y with
    ready := y.ready ++ [{ ep := x.ep, retract := false, seq := n, exec := t.at_, body := commandBody n flags t }] })
  let u := u.incLo YRD.CNT_A
  let u := if state then u.incHi YRD.CNT_B else u
  let u := if kind = 1 ∧ x.old then u.incLo YRD.CNT_E else u
  u.yardTrace c x kind n t

/-- The marks of a decision (R301). -/
def State.mark (s : State) (c : Nat) (x : Decision) : State :=
  let f := at0 (c + s.retLead)
  let s := if x.retract.isSome then s.raise YRD.page 0 else s
  let s := if x.comp then (s.incLo YRD.CNT_C).raise YRD.page 1 else s
  let s := if x.late then (s.incHi YRD.CNT_C).raise YRD.page 2 else s
  let fl := Config.markFlags x.retract.isSome x.late x.comp (x.le = 0xFFFF)
  if x.comp || x.late then
    (s.log 0x1F0 (fields [(2, x.ep), (1, fl), (1, 0), (8, c), (2, x.le), (2, x.d0), (2, x.ld), (2, 0), (8, f)])).telemetry 7 18
      [dword [(0, x.ep), (16, fl % 65536), (32, x.le), (48, x.d0)], BitVec.ofNat 64 c, dword [(0, x.ld), (32, f % 2 ^ 32)]]
  else s

/-- The commands of a decision in the order their numbers are given (R299): ascending stamp, a STATE before a TRANSITION. -/
def inOrder (l : List (Nat × Transition)) : List (Nat × Transition) :=
  l.foldl (fun acc x =>
    let before := fun (y : Nat × Transition) => decide (y.2.at_ < x.2.at_ ∨ (y.2.at_ = x.2.at_ ∧ (y.1 ≠ 1 ∨ x.1 = 1)))
    acc.takeWhile before ++ [x] ++ acc.dropWhile before) []

/-- The items of a decision released: the RETRACT entry, then the commands (R299). -/
def State.releaseLamp (s : State) (c : Nat) (x : Decision) (trans : List Transition) (refresh : Bool) : State :=
  let f := at0 (c + s.retLead)
  let t := s.setLamp x.ep { le := x.le, cmds := x.keep, plan := x.plan, d0 := x.d0 }
  let t := match x.retract with
    | some ex =>
      let thru := t.ep x.ep P.CSEQ_LAST 4
      let t := t.updEp x.ep [(P.CSEQ_LAST, 4, thru + 1)]
      let t := t.modYrd (fun y => { y with ready := y.ready ++ [{ ep := x.ep, retract := true, seq := thru + 1, exec := ex, body := retractBody (t.ep x.ep P.NUM 1) thru ex }] })
      (t.incLo YRD.CNT_B).yardTrace c x 5 (thru + 1) { at_ := ex, level := 0, fade := 0, curve := 0, spec := false }
    | none => t
  let all := x.states ++ trans.map (fun y => (1, y))
    ++ (if refresh then [(4, { at_ := f, level := x.ld, fade := s.compFade, curve := 0, spec := false })] else [])
  let t := (inOrder all).foldl (fun t y => t.release c x y.1 y.2) t
  if x.marked then t.mark c x else t

/-- TRANSITIONs of a feeder in the order they are taken: ascending stamp, then endpoint (R302). -/
def byStamp (l : List (Nat × Transition)) : List (Nat × Transition) :=
  l.foldl (fun acc x =>
    let before := fun (y : Nat × Transition) => decide (y.2.at_ < x.2.at_ ∨ (y.2.at_ = x.2.at_ ∧ y.1 ≤ x.1))
    acc.takeWhile before ++ [x] ++ acc.dropWhile before) []

/-- The releases of one feeder in pass `c` under its budget (R302, R303); answers whether the mandatory items exceed it. -/
def State.feederPass (s : State) (c f : Nat) (ds : List Decision) : State × Bool :=
  let mine := ds.filter (fun x => x.feeder = f)
  let budget := s.fld YRD.BUDGET 10 0
  let must := (mine.map (fun x => x.retract.isSome.toNat + x.states.length)).sum
  let all := byStamp (mine.flatMap (fun x => x.trans.map (fun t => (x.ep, t))))
  let taken := all.take (budget - must)
  let left := all.drop (budget - must)
  let stampF := at0 (c + s.retLead)
  let period := s.fld YRD.REFRESH 15 0
  let due := if period = 0 then [] else mine.filter (fun x => (c + x.ep) % period = 0
    && !x.states.any (fun y => y.2.at_ = stampF) && !taken.any (fun y => y.1 = x.ep && y.2.at_ = stampF))
  let fresh := (due.take (budget - must - taken.length)).map (·.ep)
  let t := mine.foldl (fun t x =>
    t.releaseLamp c x ((taken.filter (fun y => y.1 = x.ep)).map (·.2)) (fresh.contains x.ep)) s
  let t := left.foldl (fun t y =>
    match mine.find? (fun x => x.ep = y.1) with
    | some x => (t.incLo YRD.CNT_D).yardTrace c x 6 0 y.2
    | none => t) t
  let t := (List.range (due.length - fresh.length)).foldl (fun t _ => t.incHi YRD.CNT_D) t
  (t, decide (budget < must))

/-- The squashes of pass `c` for a lamp (R300): transitions of the previous plan that are absent from the present one. -/
def State.squash (s : State) (c : Nat) (prev : List Transition) (x : Decision) : State :=
  (prev.filter (fun t => at0 (c + s.relLead) ≤ t.at_ && t.at_ < at0 (c + 16) && !x.plan.any (fun u => u.same t))).foldl
    (fun t y => (t.incHi YRD.CNT_A).yardTrace c x 7 0 y) s

/-- The composer and the frame builder of pass `c`. -/
def State.compose (s : State) (c : Nat) : State :=
  let ds := s.lamps.map (s.decideLamp c)
  let prev := ds.map (fun x => ((s.lamp x.ep).plan, x))
  let (t, excess) := (sortNats (ds.map (·.feeder))).foldl (fun (a : State × Bool) f =>
    let (t, o) := a.1.feederPass c f ds
    (t, a.2 || o)) (s, false)
  let t := prev.foldl (fun t p => t.squash c p.1 p.2) t
  if excess then (t.incHi YRD.CNT_G).raise YRD.page 5 else t

/-! ### MAC reports (R304) -/

/-- A MAC report taken at pass `c`. -/
def State.takeReport (s : State) (c : Nat) (r : MacReport) : State :=
  if r.kind = 2 then
    let t := s.incLo YRD.CNT_F
    match s.yrd.sent.find? (fun y => y.ep = r.ep && y.seq = r.seq && !y.retract) with
    | some y =>
      if c + 1 < y.exec / 4096 then
        (t.modYrd (fun z => { z with ready := z.ready ++ [y], sent := z.sent.filter (fun w => w ≠ y) })).incHi YRD.CNT_F
      else t
    | none => t
  else if r.kind = 1 ∧ r.outcome = 6 then
    let i := s.ep r.ep P.NODE 2
    let t := (s.raise YRD.page 9).log 0x1F3 (fields [(2, r.ep), (1, s.node i N.VER 1), (1, 0)])
    if s.node i N.STATE 1 = ND.JOINED then t.leaveNode i else t
  else s

/-- LEAD_WARN (R304): once for each node whose DELIV_EST exceeds RET_LEAD − 1, until it falls back. -/
def State.leadWarn (s : State) : State :=
  let bad := s.nodes.filter (fun i => s.retLead - 1 < s.node i N.DELIV 1)
  let t := if bad.any (fun i => !s.yrd.warned.contains i) then s.raise YRD.page 8 else s
  t.modYrd (fun y => { y with warned := bad })

/-- The MAC reports a pass takes; items too late to be queued once more are forgotten. -/
def State.reportPass (s : State) (c : Nat) : State :=
  let l := s.yrd.reports
  let t := s.modYrd (fun y => { y with reports := [], sent := y.sent.filter (fun x => at0 c < x.exec) })
  (l.foldl (fun t r => t.takeReport c r) t).leadWarn

/-! ### Bank commits (R308) -/

/-- Whether a commit takes effect at pass `c`, and whether it is late. -/
def BankCommit.due (b : BankCommit) (c : Nat) : Bool := decide (b.seen ≤ c ∧ (b.asked + 4095) / 4096 ≤ c)
def BankCommit.late (b : BankCommit) (c : Nat) : Bool := b.asked ≠ 0 && decide ((b.asked + 4095) / 4096 < c)

/-- The commit of the corridor rules and scenes. -/
def State.yrdCommit (s : State) (c : Nat) : State :=
  match s.yrd.commit with
  | some b =>
    if b.due c then
      let old := s.win.filter (fun x => 0x50854000 ≤ x.1 && x.1 < 0x50855000)
      let t := s.swapWin 0x50840000 0x50850000 0x5000
      let t := t.modYrd (fun y => { y with commit := none, oldScenes := old, bankFrom := at0 (c + s.retLead) })
      let t := ((t.setRbit YRD.COMMIT_CTRL 0 false).incHi YRD.COMMIT_STAT).raise YRD.page 6
      if b.late c then
        ((t.setRbit YRD.COMMIT_STAT 0 true).raise YRD.page 7).log 0x1F4 (fields [(8, b.asked), (8, c)])
      else if b.asked ≠ 0 then t.setRbit YRD.COMMIT_STAT 0 false else t
    else s
  | none => s

/-- The commit of the schedule entries: frozen instants from F on, and past ones, are discarded, and the new bank is frozen
with its lookback (R286, R308). -/
def State.schCommit (s : State) (c : Nat) : State :=
  match s.sch.commit with
  | some b =>
    if b.due c then
      let f := at0 (c + s.retLead)
      let t := s.swapWin 0x50800000 0x50810000 0x8000
      let t := t.modSch (fun h => { h with commit := none, lookback := true, latest := [],
                                           frozen := h.frozen.filter (fun x => x.at_ ≠ 0 && decide (x.at_ < f)) })
      let t := (t.setRbit SCH.COMMIT_CTRL 0 false).raise SCH.page 2
      if b.late c then
        ((t.setRbit SCH.COMMIT_STAT 0 true).raise SCH.page 3).log 0x201 (fields [(8, b.asked), (8, c)])
      else if b.asked ≠ 0 then t.setRbit SCH.COMMIT_STAT 0 false else t
    else s
  | none => s

/-! ### The pass (R281) -/

/-- The scenes on at stamp `t`, as bits. -/
def State.scenesOn (s : State) (t : Nat) : Nat :=
  bitsOf ((List.range 64).filter (fun n => match s.sceneSwitch n t with | some x => x.on | none => false))

/-- Pass `c` once it may run. -/
def State.runPass (s : State) (c : Nat) : State :=
  let s := s.modSch (fun h => { h with
    lat := sbits (s.reg SCH.LAT) 15 0, lon := sbits (s.reg SCH.LON) 15 0, defLevel := s.fld SCH.DEF_LEVEL 13 0 })
  let s := (s.yrdCommit c).schCommit c
  let s := ((s.reportPass c).takeEvents c).takeArmed c
  let s := ((s.trackPass c).schPass c).compose c
  let on := s.scenesOn (at0 c)
  let s := (s.setReg YRD.SCENE_ON_LO (word on)).setReg YRD.SCENE_ON_HI (word (on / 2 ^ 32))
  let s := (s.setReg YRD.PASS_LO (word c)).setReg YRD.PASS_HI (word (c / 2 ^ 32 % 2 ^ 20))
  (s.dropStale c).modYrd (fun y => { y with passed := true })

/-- Pass `c`, or the wait for a correspondence table before the first (R281). -/
def State.yarderPass (s : State) (c : Nat) : State :=
  if !s.rbit (regCTRL YRD.page) 0 || !s.domainUp (domainOf YRD.page) then s
  else if s.yrd.running then s.runPass c
  else match civilToRing s.rct.map (s.tb 3) with
    | .value _ =>
      ((s.modYrd (fun y => { y with running := true })).modSch (fun h => { h with lookback := true })).runPass c
    | .failed _ => s

/-! ### Writes (R285, R289, R293, R294, R308 to R312) -/

/-- Fields of a window word: position and range. -/
def fieldAny (hi lo : Nat) : Fld := { hi, lo, fit := .any }
def fieldIn (hi lo a b : Nat) : Fld := { hi, lo, fit := .within a b }

/-- A write of fields to a window word. -/
def State.putFields (s : State) (a : Nat) (v : Word) (l : List Fld) : State × WriteResult :=
  let (w, c) := fitWord l 0 v
  (s.setWin a w, .ofClamp c)

/-- A write at an address of W4 (R285, R312). -/
def w4Eff (a : Nat) (v : Word) (s : State) : State × WriteResult :=
  if 0x50808000 ≤ a ∨ s.sch.commit.isSome then (s, .refused)
  else
    let o := a % 0x20
    if o = 0 then
      let (w, c) := fitWord [fieldAny 24 24, fieldAny 26 25, fieldAny 30 28, fieldAny 22 16, fieldAny 15 8, fieldIn 7 0 0 1] 0 v
      (s.setWin a w, .ofClamp (c || bit v 23))
    else if o = 4 then
      let solar := decide (2 ≤ bits (s.winWord (a - 4)) 26 25)
      s.putFields a v [{ hi := 31, lo := 0, fit := if solar then .twos (-9000) 9000 else .within 0 86399 }]
    else if o = 8 then s.putFields a v [fieldAny 31 16, fieldIn 15 0 0 10000]
    else if o = 12 then s.putFields a v [fieldAny 31 16]
    else if o = 16 ∨ o = 20 then (s.setWin a v, .done)
    else (s, .done)

/-- The fields of a word of a corridor rule, of a scene, of an override slot, by its offset. -/
def ruleFields (o : Nat) : List Fld :=
  if o = 0 then [fieldAny 24 24, fieldIn 15 0 0 10000]
  else if o = 4 then [fieldIn 31 16 0 1000, fieldIn 15 0 0 1000]
  else if o = 8 then [fieldIn 31 16 0 4095, fieldAny 15 0]
  else if o = 12 then [fieldAny 31 16, fieldAny 15 0]
  else if o = 16 then [fieldIn 31 16 1 65535, fieldIn 15 8 0 1]
  else if o = 20 ∨ o = 24 then [fieldIn 31 16 1 600, fieldIn 15 0 1 600]
  else []
def sceneFields (o : Nat) : List Fld :=
  if o < 32 then [fieldAny 31 0]
  else if o = 32 then [fieldIn 31 16 0 10000, fieldAny 15 0]
  else if o = 36 then [fieldIn 31 24 0 1, fieldAny 16 16]
  else []
def slotFields (o : Nat) : List Fld :=
  if o = 0 then [fieldAny 24 24, { hi := 26, lo := 25, fit := .become 3 3 2 }, fieldAny 23 16, fieldIn 15 0 0 16383]
  else if o = 4 then [fieldIn 31 16 0 10000, fieldAny 15 0]
  else if o = 8 then [fieldIn 31 24 0 1]
  else if 16 ≤ o then [fieldAny 31 0]
  else []

/-- A write at an address of W5 (R310). -/
def w5Eff (a : Nat) (v : Word) (s : State) : State × WriteResult :=
  let o := a % 0x40000
  if o < 0x5000 then
    if s.yrd.commit.isSome then (s, .refused)
    else s.putFields a v (if o < 0x4000 then ruleFields (o % 0x40) else sceneFields (o % 0x40))
  else if 0x20000 ≤ o ∧ o < 0x22000 then s.putFields a v (slotFields (o % 0x20))
  else (s, .refused)

/-- A word of the track table in W5 (R310). -/
def State.trackWord (s : State) (a : Nat) : Word :=
  match s.yrd.tracks[a % 0x10000 / 0x20]? with
  | some k =>
    let o := a % 0x20
    if o = 0 then word (k.rule * 65536 + k.sensor)
    else if o = 4 then word k.o
    else if o = 8 then word (k.dir * 2 ^ 24 + (k.confirmed.toNat + 2 * k.refuted.toNat + 4 * k.late.toNat) * 65536 + k.v)
    else if o = 12 then word (k.p * 65536)
    else if o = 16 then (match k.sees with | some (_, _, dl) => word dl | none => 0)
    else if o = 20 then word (s.lastOff k)
    else 0
  | none => 0

/-- A write of YRD.CTRL (R281, R309). -/
def yrdCtrlEff (v : Word) (s : State) : State × WriteResult :=
  let a := regCTRL YRD.page
  if bit v 1 then
    if s.rbit a 0 then (s, .refused) else ({ s.resetPageRegs YRD.page with yrd := {} }, .done)
  else if bit v 0 then
    if s.rbit a 0 then (s, .done)
    else if !s.firstLock then (s, .refused)
    else ((s.setReg a 1).modYrd (fun y => { y with running := false }), .done)
  else ((s.setReg a 0).modYrd (fun y => { y with running := false }), .done)

/-- A write of YRD.CFG: REL_LEAD is clamped against the RET_LEAD that now stands (R309). -/
def yrdCfgEff (v : Word) (s : State) : State × WriteResult :=
  let (w, c) := s.fitted YRD.CFG v
  let r := clampN (bits w 3 0 + 1) 15 (bits w 11 8)
  (s.setReg YRD.CFG (putBits w 11 8 r), .ofClamp (c || decide (r ≠ bits w 11 8)))

/-- A write of SCENE_AT_HI arms a switch (R293). -/
def sceneArmEff (req : Nat) (v : Word) (s : State) : State × WriteResult :=
  if 16 ≤ s.yrd.armedScenes.length then (s, .refused)
  else
    let (t, r) := s.loadPair req YRD.SCENE_AT_HI v
    (t.modYrd (fun y => { y with armedScenes := y.armedScenes ++
      [{ seen := cycleOf s.now + 1,
         input := { scene := t.fld YRD.SCENE_SEL 5 0, on := t.rbit YRD.SCENE_SEL 8,
                    at_ := (t.reg64 YRD.SCENE_AT_LO YRD.SCENE_AT_HI).toNat } }] }), r)

/-- A write of OVR_ARM captures a slot (R294). -/
def ovrArmEff (v : Word) (s : State) : State × WriteResult :=
  let n := bits v 7 0
  let f := fun o w => s.winField (0x50860000 + 0x20 * n + o) w
  let x : Override := { slot := n, valid := f 0 1 % 2 = 1, kind := f 0 1 / 2 % 4, target := f 2 2, level := f 4 2,
                        fade := f 6 2, curve := f 8 1, at_ := f 16 8, end_ := f 24 8 }
  ((s.modYrd (fun y => { y with armedOverrides := y.armedOverrides ++ [{ seen := cycleOf s.now + 1, input := x }] })).setReg
    YRD.OVR_STAT (word n), .done)

/-- A write of YRD.COMMIT_CTRL (R308). -/
def yrdCommitEff (v : Word) (s : State) : State × WriteResult :=
  if !bit v 0 && !bit v 1 then (s, .done)
  else if s.yrd.commit.isSome then (s, .refused)
  else
    let t := if bit v 1 then s.copyWin 0x50850000 0x50840000 0x5000 else s
    if bit v 0 then
      let b : BankCommit := { asked := (s.reg64 YRD.COMMIT_AT_LO YRD.COMMIT_AT_HI).toNat, seen := cycleOf s.now + 1 }
      ((t.setRbit YRD.COMMIT_CTRL 0 true).modYrd (fun y => { y with commit := some b }), .done)
    else (t, .done)

/-- The first valid shadow entry with DOW 0 or FROM beyond UNTIL (R308). -/
def State.schBad (s : State) : Option Nat :=
  (List.range 1024).find? (fun i =>
    let a := schShadow i
    bit (s.winWord a) 24 && (s.winByte (a + 1) = 0 || decide (s.winField (a + 20) 4 < s.winField (a + 16) 4)))

/-- A write of SCH.COMMIT_CTRL (R308). -/
def schCommitEff (v : Word) (s : State) : State × WriteResult :=
  if !bit v 0 && !bit v 1 then (s, .done)
  else if s.sch.commit.isSome then (s, .refused)
  else
    let t := if bit v 1 then s.copyWin 0x50810000 0x50800000 0x8000 else s
    if bit v 0 then
      match t.schBad with
      | some i =>
        (((t.setRbit SCH.COMMIT_STAT 1 true).setFld SCH.COMMIT_STAT 25 16 i).raise SCH.page 4, .refused)
      | none =>
        let b : BankCommit := { asked := (s.reg64 SCH.COMMIT_AT_LO SCH.COMMIT_AT_HI).toNat, seen := cycleOf s.now + 1 }
        let t := (t.setRbit SCH.COMMIT_STAT 1 false).setFld SCH.COMMIT_STAT 25 16 0
        ((t.setRbit SCH.COMMIT_CTRL 0 true).modSch (fun h => { h with commit := some b }), .done)
    else (t, .done)

/-- The present UTC minute's elevation computed and held (R288). -/
def State.solarUpdate (s : State) : State :=
  let m := (s.civilNow / 60).toNat
  let e := solar (sbits (s.reg SCH.LAT) 15 0) (sbits (s.reg SCH.LON) 15 0) m
  (s.modSch (fun h => { h with minute := some m })).setReg SCH.SOLAR (word (unsigned 16 e))

/-- The effect of a write on the YRD page. -/
def yrdEff (req a : Nat) (v : Word) (s : State) : State × WriteResult :=
  if a = regCTRL YRD.page then yrdCtrlEff v s
  else if a = YRD.CFG then yrdCfgEff v s
  else if a = YRD.SCENE_AT_HI then sceneArmEff req v s
  else if a = YRD.OVR_ARM then ovrArmEff v s
  else if a = YRD.COMMIT_CTRL then yrdCommitEff v s
  else s.plainWrite req a v

/-- The soft reset of the SCH page (R79): the evaluator starts anew at the next pass, with its lookback; W4 keeps its entries
(log entry 88). -/
def State.schReset (s : State) : State :=
  { s.resetPageRegs SCH.page with sch := { lookback := s.yrd.running } }

/-- The effect of a write on the SCH page; its CTRL bit 0 ignores writes (R311). -/
def schEff (req a : Nat) (v : Word) (s : State) : State × WriteResult :=
  if a = regCTRL SCH.page then (if bit v 1 then s.schReset else s, .done)
  else if a = SCH.COMMIT_CTRL then schCommitEff v s
  else if a = SCH.LAT ∨ a = SCH.LON then
    let (t, r) := s.store a v
    (t.solarUpdate, r)
  else s.plainWrite req a v

/-- The computed registers of the YRD page. -/
def State.yrdView (s : State) (a : Nat) : Option Word :=
  let l := s.lamp (s.fld YRD.PEEK_EP 13 0)
  let pass := join64 (s.reg YRD.PASS_HI) (s.reg YRD.PASS_LO)
  let next := l.plan.find? (fun t => at0 pass.toNat < t.at_)
  if a = regSTAT YRD.page then
    some (word (s.yrd.running.toNat + 2 * (s.rbit (regCTRL YRD.page) 0 && !s.yrd.running).toNat
      + 4 * s.yrd.commit.isSome.toNat + s.yrd.tracks.length * 65536))
  else if a = YRD.PEEK then some (word (l.le + l.d0 * 65536))
  else if a = YRD.PEEK_NEXT then some (match next with | some t => word t.level | none => 0xFFFF)
  else if a = YRD.PEEK_AT then some (match next with | some t => word t.at_ | none => 0)
  else none

/-- The computed registers of the SCH page: GRP_BASE. -/
def State.schView (s : State) (a : Nat) : Option Word :=
  if a = SCH.GRP_BASE ∧ s.yrd.passed then
    match s.baseAt (s.fld SCH.GRP_SEL 7 0) (at0 (join64 (s.reg YRD.PASS_HI) (s.reg YRD.PASS_LO)).toNat) with
    | some x => some (word (x.level + x.entry * 65536))
    | none => some (word (s.sch.defLevel + 0xFFFF0000))
  else none

/-! ### The commands -/

/-- YARDER_PASS (R281): pass C at the strobe of C:0. The passes of a standby, and of a module that pairs, run with
their epochs (R453). -/
def execYarderPass (s : State) : Res State :=
  .next (if angleOf s.now = 0 ∧ s.twn.role ≠ .standby ∧ s.twn.role ≠ .pairing then s.yarderPass (cycleOf s.now) else s)

/-- The items of a pass handed to the MAC, one RETRACT frame and one DATA frame for each node (R281, R260). -/
def State.handOff (s : State) (items : List YardItem) : State :=
  (sortNats (items.map (fun y => s.ep y.ep P.NODE 2))).foldl (fun t i =>
    let mine := items.filter (fun y => s.ep y.ep P.NODE 2 = i)
    let f := s.node i N.FEEDER 1
    let send := fun (t : State) (l : List YardItem) (ftype prio : Nat) (body : List Byte) =>
      if l = [] then t
      else t.macSend f { ftype, node := i, key := Config.keyEpoch f % 2, body, e2e := true, prio,
                         exec := (l.map (·.exec)).foldl min (2 ^ 64), seqs := l.map (fun y => (y.ep, y.seq)) }
    let rs := mine.filter (·.retract)
    let cs := mine.filter (fun y => !y.retract)
    let t := send t rs 5 1 (rs.flatMap (·.body))
    send t cs 1 2 (cs.flatMap (fun y => element 0 (s.ep y.ep P.NUM 1) y.body))) s

/-- RELEASE_HANDOFF (R281): the releases of pass C at the strobe of C+1:0. A module that does not drive sends nothing
on a feeder (R441). -/
def execReleaseHandoff (s : State) : Res State :=
  .next (if s.yrd.ready ≠ [] ∧ at0 (join64 (s.reg YRD.PASS_HI) (s.reg YRD.PASS_LO)).toNat < s.now.toNat then
      let l := s.yrd.ready
      let t := s.modYrd (fun y => { y with ready := [], sent := y.sent ++ l })
      if s.driving then t.handOff l else t
    else s)

/-- YRD_ENABLE (R281). -/
def execYrdEnable (req : Req) (s : State) : Res State := .next (s.busWrite req (regCTRL YRD.page) 1 (yrdCtrlEff 1))

/-- SCENE_ARM (R293). -/
def execSceneArm (req : Req) (hi : Word) (s : State) : Res State :=
  .next (s.busWrite req YRD.SCENE_AT_HI hi (sceneArmEff req hi))

/-- OVERRIDE_ARM (R294). -/
def execOverrideArm (req : Req) (slot : Fin 256) (s : State) : Res State :=
  .next (s.busWrite req YRD.OVR_ARM (word slot) (ovrArmEff (word slot)))

/-- YRD_COMMIT_REQ (R308). -/
def execYrdCommitReq (req : Req) (s : State) : Res State := .next (s.busWrite req YRD.COMMIT_CTRL 1 (yrdCommitEff 1))

/-- YRD_COPY (R308). -/
def execYrdCopy (req : Req) (s : State) : Res State := .next (s.busWrite req YRD.COMMIT_CTRL 2 (yrdCommitEff 2))

/-- SCH_COMMIT_REQ (R308). -/
def execSchCommitReq (req : Req) (s : State) : Res State := .next (s.busWrite req SCH.COMMIT_CTRL 1 (schCommitEff 1))

/-- SCH_COPY (R308). -/
def execSchCopy (req : Req) (s : State) : Res State := .next (s.busWrite req SCH.COMMIT_CTRL 2 (schCommitEff 2))

/-- SOLAR_MINUTE (R288). -/
def execSolarMinute (s : State) : Res State := .next s.solarUpdate

/-- SOLAR_RECOMPUTE (R288): a write of LAT, or of LON. -/
def execSolarRecompute (req : Req) (lon : Bool) (v : Word) (s : State) : Res State :=
  let a := if lon then SCH.LON else SCH.LAT
  .next (s.busWrite req a v (schEff req a v))

end Sys2Proof.Machine
end

