-- ==== Sys2Proof/Machine/Switch.lean ====
section
/-!
DEFINITION. The switch, the ordered-flow scheduler and the uplinks (spec/14).
-/

namespace Sys2Proof.Machine

/-- The state with the switch changed; flow `f`; uplink `u`. -/
def State.modSwx (s : State) (g : Swx → Swx) : State := { s with swx := g s.swx }
def State.flow (s : State) (f : Nat) : SwFlow := Tab.get (fun _ => {}) s.swx.flows f
def State.modFlow (s : State) (f : Nat) (g : SwFlow → SwFlow) : State :=
  s.modSwx (fun x => { x with flows := Tab.put (fun _ => {}) x.flows f (g (s.flow f)) })
def State.uplink (s : State) (u : Nat) : Uplink := Tab.get (fun _ => {}) s.uplinks u
def State.modUplink (s : State) (u : Nat) (g : Uplink → Uplink) : State :=
  { s with uplinks := Tab.put (fun _ => {}) s.uplinks u (g (s.uplink u)) }

/-- Ports (R314). -/
def PORT.HOST : Nat := 2
def PORT.TWIN : Nat := 3

/-! ### Cells and quotas (R315, R318) -/

/-- Cells of a frame. -/
def SwFrame.cells (x : SwFrame) : Nat := (x.len + 255) / 256

/-- Every frame in the buffer. -/
def Swx.all (x : Swx) : List SwFrame := x.frames ++ x.out

/-- Cells flow `f` holds, cells class `k` holds. -/
def State.heldBy (s : State) (f : Nat) : Nat := (((s.swx.all).filter (fun x => x.flow = f)).map SwFrame.cells).sum
def State.usedBy (s : State) (k : Nat) : Nat := (((s.swx.all).filter (fun x => x.cls = k)).map SwFrame.cells).sum

/-- RES_k. -/
def State.reserve (s : State) (k : Nat) : Nat :=
  if k = 1 then s.fld SWX.RES_MGMT 16 0 else if k = 2 then s.fld SWX.RES_PTP 16 0
  else if k = 3 then s.fld SWX.RES_TWIN 16 0 else 0

/-- shared_free, 32-bit unsigned. -/
def State.sharedFree (s : State) : Nat :=
  (word 65536 - word (((List.range 4).map (fun k => max (s.usedBy k) (s.reserve k))).sum)).toNat

/-- Q_f. -/
def State.quota (s : State) (f : Nat) : Nat := (s.flow f).quota.getD (if f < 32768 then 64 else 1024)

/-- POOL_LOW where a change takes shared_free below POOL_THR (R330). -/
def State.poolCheck (s t : State) : State :=
  let thr := s.fld SWX.POOL_THR 16 0
  if thr ≤ s.sharedFree ∧ t.sharedFree < thr then t.raise SWX.page 0 else t

/-! ### Decision trace (R325) -/

/-- A record of trace source 2: kind 1 admit, 2 refuse quota, 3 refuse pool, 4 dispatch, 5 done, 6 release, 7 drop. -/
def State.flowTrace (s : State) (kind engine : Nat) (x : SwFrame) : State :=
  if s.fld OFS.TRACE_LO 15 0 ≤ x.flow ∧ x.flow ≤ s.fld OFS.TRACE_HI 15 0 ∧ s.rbit OFS.TRACE_EV kind then
    s.trace 2 (fields [(4, x.flow), (1, kind), (1, engine), (1, x.ingress), (1, x.egress), (4, x.ticket), (2, x.len),
      (2, min (s.heldBy x.flow) 65535), (4, 0)])
  else s

/-- The largest counts seen of frames awaiting dispatch and release (R331). -/
def State.ofsPeaks (s : State) : State :=
  let d := (s.swx.frames.filter (fun x => x.stage = .queued)).length
  let r := (s.swx.frames.filter (fun x => x.stage = .done true || x.stage = .done false)).length
  (s.setFld OFS.DISP_DEPTH 31 16 (min 65535 (max d (s.fld OFS.DISP_DEPTH 31 16)))).setFld OFS.REORDER 31 16
    (min 65535 (max r (s.fld OFS.REORDER 31 16)))

/-! ### Admission (R318, R319, R321) -/

/-- A classified frame admitted, or dropped and counted. -/
def State.admitFrame (s : State) (x : SwFrame) : State :=
  let n := x.cells
  let refuse := fun (t : State) (kind : Nat) =>
    (t.modFlow x.flow (fun f => { f with refused := satInc 16 f.refused })).flowTrace kind 0xFF { x with ticket := (s.flow x.flow).ticket }
  if s.quota x.flow < s.heldBy x.flow + n then refuse (s.incLo SWX.REFUSE_CNT) 2
  else if s.reserve x.cls < s.usedBy x.cls + n ∧ s.sharedFree < n then refuse (s.incHi SWX.REFUSE_CNT) 3
  else
    let x := { x with ticket := (s.flow x.flow).ticket }
    let t := s.modFlow x.flow (fun f => { f with ticket := (f.ticket + 1) % 2 ^ 32, admitted := satInc 16 f.admitted })
    let t := t.modSwx (fun w => { w with frames := w.frames ++ [x] })
    ((s.poolCheck t).flowTrace 1 0xFF x).ofsPeaks

/-- The frames in the ingress store of port `p`, and their bytes (R324). -/
def State.stored (s : State) (p : Nat) : List SwFrame := Tab.get (fun _ => []) s.swx.store p
def State.storedBytes (s : State) (p : Nat) : Nat := ((s.stored p).map (·.len)).sum

/-- A classified frame offered for admission: one of HOST at once, another behind what its port's 64 KiB ingress store holds, or
dropped at the tail and counted (R324). -/
def State.offerFrame (s : State) (x : SwFrame) : State :=
  if x.ingress = PORT.HOST then s.admitFrame x
  else if 65536 < s.storedBytes x.ingress + x.len then s.incHi SWX.DROP_CNT
  else s.modSwx (fun w => { w with store := Tab.put (fun _ => []) w.store x.ingress (s.stored x.ingress ++ [x]) })

/-- The next port whose store holds a frame, in round robin after the one served last (R321). -/
def State.nextPort (s : State) : Option Nat :=
  let ps := s.swx.store.map (·.1)
  (ps.filter (s.swx.turn < ·) ++ ps.filter (· ≤ s.swx.turn)).head?

/-- The oldest frame of the port whose turn it is admitted, or dropped and counted (R318, R321). -/
def State.admitTurn (s : State) : State :=
  match s.nextPort with
  | none => s
  | some p => match s.stored p with
    | [] => s
    | x :: l => (s.modSwx (fun w => { w with store := Tab.put (fun _ => []) w.store p l, turn := p })).admitFrame x

/-- A frame dropped at entry (R315, R316). -/
def State.dropEntry (s : State) : State := s.incLo SWX.DROP_CNT

/-! ### Uplink choice (R322) -/

/-- Uplink `u` is up. -/
def State.upLink (s : State) (u : Nat) : Bool := s.fld (UPL.P_STAT u) 1 0 ≠ 0

/-- The primary of class 0 or 1, and the uplink the class uses. -/
def State.primary (s : State) (k : Nat) : Nat := (s.rbit SWX.PRIMARY (1 - k)).toNat
def State.classUplink (s : State) (k : Nat) : Nat :=
  let p := s.primary k
  let away := if k = 0 then s.swx.away0 else s.swx.away1
  if s.upLink p ∧ !away then p else 1 - p

/-! ### PTP event messages (R329) -/

/-- The number a field of a frame spells. -/
def frameField (b : List Byte) (o n : Nat) : Nat := natBE ((b.drop o).take n)

/-- The domainNumber of a PTP event message, by the three mappings. -/
def ptpEvent (b : List Byte) : Option Nat :=
  let at_ := fun (o : Nat) => if frameField b o 1 % 16 < 4 then some (frameField b (o + 4) 1) else none
  let e := frameField b 12 2
  let ihl := frameField b 14 1 % 16 * 4
  if e = 0x88F7 then at_ 14
  else if e = 0x0800 ∧ frameField b 23 1 = 17 ∧ frameField b (14 + ihl + 2) 2 = 319 then at_ (14 + ihl + 8)
  else if e = 0x86DD ∧ frameField b 20 1 = 17 ∧ frameField b 56 2 = 319 then at_ 62
  else none

/-- The base a receive timestamp is given in: TB1 or TB2 for a domain they track, else TB0. -/
def State.ptpBase (s : State) (domain : Nat) : Nat :=
  match (List.range 2).find? (fun k => s.rbit (TIM.DOM_CFG k) 0 && s.fld (TIM.DOM_CFG k) 15 8 = domain) with
  | some k => k + 1
  | none => 0

/-- Ingress and egress latency of uplink `u` at its speed, in ns. -/
def State.latency (s : State) (u hi lo : Nat) : Nat :=
  if s.fld (UPL.P_STAT u) 1 0 = 2 then s.fld (UPL.TS_LAT10 u) hi lo else s.fld (UPL.TS_LAT25 u) hi lo

/-! ### Ingress (R315 to R317) -/

/-- The endpoints of TYPE 5, ENABLED, with a VLAN, ascending. -/
def State.vlanEps (s : State) (vid : Nat) : List Nat :=
  s.eps.filter (fun e => s.ep e P.TYPE 1 = 5 && (s.ep e P.EFLAGS 1).testBit 0 && s.ep e P.VLAN 2 = vid)

/-- A candidate for endpoint `e`'s downward flow, or a drop (R316, R317). -/
def State.toEndpoint (s : State) (ingress e vid : Nat) (data : List Byte) : State :=
  let i := s.ep e P.NODE 2
  if s.node i N.STATE 1 ≠ ND.JOINED then s.dropEntry
  else if !s.driving then s.incHi SWX.HOST_CNT
  else s.offerFrame { flow := 2 * e, cls := 0, ingress, egress := 4 + s.node i N.FEEDER 1, vid, ticket := 0,
                      len := data.length, data }

/-- The module's MAC address. -/
def State.macAddr (s : State) : Nat := s.fld SWX.MAC_HI 15 0 * 2 ^ 32 + (s.reg SWX.MAC_LO).toNat

/-- The switch works. -/
def State.swxOn (s : State) : Bool := s.rbit (regCTRL SWX.page) 0 && s.domainUp (domainOf SWX.page)

/-- A frame from uplink `u`: counted, then taken while the switch works. -/
def State.fromUplink (s : State) (u : Nat) (f : List Byte) : State :=
  let b := f.take (f.length - 4)
  let fcs := f.drop (f.length - 4)
  if natLE fcs ≠ crc32 b then s.incLo (UPL.RX_ERR u)
  else
    let s := s.incReg (UPL.RX_FRAMES u)
    let vid := frameField b 14 2 % 4096
    if !s.swxOn then s
    else if f.length < 64 ∨ 1522 < f.length ∨ frameField b 12 2 ≠ 0x8100 ∨ vid = 0 then s.dropEntry
    else
      let data := b.take 12 ++ b.drop 16
      if vid = s.fld SWX.VID_MGMT 11 0 then
        if frameField b 0 6 = s.macAddr ∨ frameField b 0 1 % 2 = 1 then
          s.offerFrame { flow := 32768 + 4 + u, cls := 1, ingress := u, egress := PORT.HOST, vid, ticket := 0, len := data.length, data }
        else s.dropEntry
      else if vid = s.fld SWX.VID_PTP 11 0 then
        let base := (ptpEvent data).map s.ptpBase
        s.offerFrame { flow := 32768 + 8 + u, cls := 2, ingress := u, egress := PORT.HOST, vid, ticket := 0, len := data.length,
                       data, rxBase := base, rxTime := match base with
                         | some k => s.tb k - s.latency u 15 0 * 65536
                         | none => 0 }
      else if vid = s.fld SWX.VID_TWIN 11 0 then s.dropEntry
      else match s.vlanEps vid with
        | [] => s.dropEntry
        | e :: l =>
          let s := if l = [] then s
            else (s.modSwx (fun x => { x with vidDup := x.vidDup + 1 })).raise SWX.page 1
          s.toEndpoint u e vid data

/-- A PAYLOAD element from a feeder. -/
def State.fromFeeder (s : State) (f : Nat) (h : HeldElem) : State :=
  if !s.driving then s.incHi SWX.HOST_CNT
  else if frameField h.body 12 2 = 0x8100 then s.dropEntry
  else s.offerFrame { flow := 2 * h.ep + 1, cls := 0, ingress := 4 + f, egress := s.classUplink 0, vid := s.ep h.ep P.VLAN 2,
                      ticket := 0, len := h.body.length + 4, data := h.body }

/-- A class 3 frame from the twin link (R443). -/
def State.fromTwin (s : State) (b : List Byte) : State :=
  let vid := frameField b 14 2 % 4096
  if frameField b 12 2 = 0x8100 ∧ vid = s.fld SWX.VID_TWIN 11 0 then
    let data := b.take 12 ++ b.drop 16
    s.offerFrame { flow := 32768 + 15, cls := 3, ingress := PORT.TWIN, egress := PORT.HOST, vid, ticket := 0,
                   len := data.length, data }
  else s.dropEntry

/-- FRAME_INGRESS (R316, R321, R324): a frame arrives on an uplink or from a feeder's MAC, is classified and joins its port's
ingress store, or the port whose turn it is has its oldest frame admitted. -/
def execFrameIngress (i : SwitchIn) (s : State) : Res State :=
  .next (match i with
    | .uplink u f errors =>
      let s := (List.range (min errors 65535)).foldl (fun t _ => t.incHi (UPL.RX_ERR u)) s
      if s.upLink u then s.fromUplink u f else s
    | .feeder f =>
      match s.ntb.upward.find? (fun h => s.node (s.ep h.ep P.NODE 2) N.FEEDER 1 = f) with
      | some h =>
        if s.swxOn then
          ({ s with ntb := { s.ntb with upward := s.ntb.upward.erase h } } : State).fromFeeder f h
        else s
      | none => s
    | .turn => if s.swxOn then s.admitTurn else s)

/-! ### Engines and release (R321, R322) -/

/-- The idle engine with the lowest number. -/
def State.freeEngine (s : State) : Option Nat :=
  (List.range 8).find? (fun e => !s.swx.frames.any (fun x => x.stage = .engine e))

/-- The frames with the first one that satisfies `p` changed. -/
def changeFirst (p : SwFrame → Bool) (g : SwFrame → SwFrame) : List SwFrame → List SwFrame
  | [] => []
  | x :: l => if p x then g x :: l else x :: changeFirst p g l

/-- ENGINE_DISPATCH (R321). -/
def execEngineDispatch (s : State) : Res State :=
  .next (match s.freeEngine, s.swx.frames.find? (fun x => x.stage = .queued) with
    | some e, some x =>
      let t := s.modSwx (fun w => { w with
        frames := changeFirst (fun y => y.stage = .queued) (fun y => { y with stage := .engine e }) w.frames })
      t.flowTrace 4 e x
    | _, _ => s)

/-- The frame whose turn it is in flow `f`, if it is done. -/
def State.turnOf (s : State) (f : Nat) : Option (SwFrame × Bool) :=
  match s.swx.frames.find? (fun x => x.flow = f && x.ticket = (s.flow f).release) with
  | some x => match x.stage with
    | .done b => some (x, b)
    | _ => none
  | none => none

/-- A frame of class 0 or 1 that goes to the other uplink takes its class there (R322). -/
def State.goAway (s : State) (k u : Nat) : State :=
  s.modSwx (fun w => if k = 0 then { w with away0 := w.away0 || decide (u ≠ s.primary 0) } else { w with away1 := w.away1 || decide (u ≠ s.primary 1) })

/-- A frame released: to its egress queue, or its cells freed. The uplink of class 0 and 1 is chosen now. -/
def State.releaseFrame (s : State) (x : SwFrame) (forward : Bool) : State :=
  let t := s.modFlow x.flow (fun f => { f with release := (f.release + 1) % 2 ^ 32 })
  let t := t.modSwx (fun w => { w with frames := w.frames.filter (fun y => !(y.flow = x.flow && y.ticket = x.ticket)) })
  if forward then
    let free := decide (x.egress < 2) && decide (x.cls < 2)
    let egress := if free then s.classUplink x.cls else x.egress
    let y := { x with stage := .egress, egress }
    let t := if free then t.goAway x.cls egress else t
    (t.modSwx (fun w => { w with out := w.out ++ [y] })).flowTrace 6 0xFF y
  else t.flowTrace 7 0xFF x

/-- The releases of flow `f` in ticket order. -/
def State.releaseFlow (f : Nat) : Nat → State → State
  | 0, s => s
  | fuel + 1, s => match s.turnOf f with
    | some (x, b) => State.releaseFlow f fuel (s.releaseFrame x b)
    | none => s

/-- ENGINE_DONE (R321): `bad` is a parity or SECDED error in the buffer read. -/
def execEngineDone (e : Fin 8) (bad : Bool) (s : State) : Res State :=
  .next (match s.swx.frames.find? (fun x => x.stage = .engine e) with
    | some x =>
      let t := s.modSwx (fun w => { w with
        frames := changeFirst (fun y => y.stage = .engine e) (fun y => { y with stage := .done (!bad) }) w.frames })
      let t := if bad then (t.incLo OFS.ENG_ERR).raise OFS.page 0 else t
      let t := (t.incReg (OFS.ENG_CNT e)).flowTrace 5 e x
      let flows := sortNats (t.swx.frames.map (·.flow))
      (flows.foldl (fun u f => State.releaseFlow f (u.swx.frames.length) u) t).ofsPeaks
    | none => s)

/-! ### Egress (R320, R322, R323, R326) -/

/-- A frame as it leaves tagged. -/
def State.tagged (s : State) (x : SwFrame) : List Byte :=
  let k := x.cls
  let lo := if k = 0 then 0 else if k = 1 then 4 else if k = 2 then 8 else 12
  x.data.take 12 ++ bytesBE 2 0x8100 ++ bytesBE 2 (s.fld SWX.PCP (lo + 2) lo * 8192 + x.vid) ++ x.data.drop 12

/-- A frame's cells freed. -/
def State.freeFrame (s : State) (x : SwFrame) : State := s.modSwx (fun w => { w with out := w.out.erase x })

/-- The next frame of an uplink: PTP, management, payload, each first in, first out. -/
def State.nextOut (s : State) (u : Nat) : Option SwFrame :=
  let q := fun k => s.swx.out.find? (fun x => x.egress = u && x.cls = k)
  match q 2 with
  | some x => some x
  | none => match q 1 with
    | some x => some x
    | none => q 0

/-- The transmit timestamp a frame asked for goes to the FIFO (R329). -/
def State.txStamp (s : State) (u : Nat) (x : SwFrame) : State :=
  match x.txReq, ptpEvent x.data with
  | some b, some _ =>
    if 16 ≤ (s.uplink u).fifo.length then (s.incLo (UPL.TS_OVF u)).raise UPL.page 5
    else s.modUplink u (fun p => { p with
      fifo := p.fifo ++ [{ tag := x.tag, base := b, time := s.tb b + s.latency u 31 16 * 65536 }] })
  | _, _ => s

/-- EGRESS_DONE (R320): the frame at the head of uplink 0 or 1, or of TWIN (3), has left. HOST and the feeders free their
cells by HOST_RX_WRITE and PAYLOAD_HANDOFF. -/
def execEgressDone (port : Fin 4) (s : State) : Res State :=
  .next (if port.val < 2 then
      match s.nextOut port with
      | some x =>
        if s.upLink port then
          let b := s.tagged x
          let t := (s.freeFrame x).emit (.uplinkFrame port (b ++ bytesLE 4 (crc32 b)))
          (t.incReg (UPL.TX_FRAMES port)).txStamp port x
        else s
      | none => s
    else if port.val = PORT.TWIN then
      match s.swx.out.find? (fun x => x.egress = PORT.TWIN) with
      | some x => if s.twn.link then (s.freeFrame x).sendTwin 1 6 s.now (s.tagged x) else s
      | none => s
    else s)

/-- PAYLOAD_HANDOFF (R320): the MAC takes the next PAYLOAD element of endpoint `e` within its BURST_DN. -/
def execPayloadHandoff (e : Fin 16384) (s : State) : Res State :=
  .next (match s.swx.out.find? (fun x => x.flow = 2 * e.val && decide (4 ≤ x.egress)) with
    | some x =>
      let waiting := ((s.ntb.held.filter (fun h => h.ep = e.val)).map (fun h => h.body.length)).sum
      if waiting + x.data.length ≤ s.ep e P.BURST_DN 4 ∧ s.ep e P.TYPE 1 ≠ 0 then
        (s.freeFrame x).holdDown { ep := e, cls := 4, body := x.data }
      else s
    | none => s)

/-- The address of slot `r` of a ring (R326). -/
def State.ringSlot (s : State) (lo hi size r : Nat) : Nat :=
  (s.reg64 lo hi).toNat + r % s.fld size 16 0 * 2048

/-- HOST_RX_WRITE (R320, R326): the next frame for HOST is written to the receive ring, or dropped when it is full. -/
def execHostRxWrite (s : State) : Res State :=
  .next (match s.swx.out.find? (fun x => x.egress = PORT.HOST) with
    | some x =>
      let t := s.freeFrame x
      let wr := s.reg SWX.HRX_WR
      if s.fld SWX.HRX_SIZE 16 0 ≤ (wr - s.reg SWX.HRX_RD).toNat then (t.incLo SWX.HOST_CNT).raise SWX.page 2
      else
        let a := s.ringSlot SWX.HRX_BASE_LO SWX.HRX_BASE_HI SWX.HRX_SIZE wr.toNat
        let fl := match x.rxBase with | some k => 1 + 4 * k | none => 0
        let slot := fields [(2, x.len), (1, x.ingress), (1, x.cls), (2, x.vid), (1, fl), (1, 0),
            (12, if x.rxBase.isSome then tbFormat x.rxTime else 0), (12, 0)] ++ x.data
        let t := if inDram a 2048 then t.setBytes a slot else t
        t.setReg SWX.HRX_WR (wr + 1)
    | none => s)

/-- HOST_TX_FRAME (R326): the next slot of the transmit ring. -/
def execHostTxFrame (s : State) : Res State :=
  .next (let rd := s.reg SWX.HTX_RD
    if !s.swxOn ∨ rd = s.reg SWX.HTX_WR then s
    else
      let a := s.ringSlot SWX.HTX_BASE_LO SWX.HTX_BASE_HI SWX.HTX_SIZE rd.toNat
      let t := s.setReg SWX.HTX_RD (rd + 1)
      let len := s.memBE a 2
      let dst := s.memBE (a + 2) 1
      let k := s.memBE (a + 3) 1
      let e := s.memBE (a + 4) 2
      let fl := s.memBE (a + 6) 1
      let data := s.bytes (a + 32) (min len 2016)
      if 2016 < len then t.dropEntry
      else if dst = 4 ∧ k = 0 then
        if e < 16384 ∧ s.ep e P.TYPE 1 = 5 ∧ (s.ep e P.EFLAGS 1).testBit 0 then
          t.toEndpoint PORT.HOST e (s.ep e P.VLAN 2) data
        else t.dropEntry
      else if (dst < 2 ∧ (k = 1 ∨ k = 2)) ∨ (dst = 3 ∧ k = 3) then
        let vid := if k = 1 then SWX.VID_MGMT else if k = 2 then SWX.VID_PTP else SWX.VID_TWIN
        t.offerFrame { flow := 32768 + 4 * k + 2, cls := k, ingress := PORT.HOST, egress := dst, vid := s.fld vid 11 0,
                       ticket := 0, len := len + 4, data, txReq := if fl % 2 = 1 ∧ k = 2 then some (fl / 4 % 4) else none,
                       tag := s.memBE (a + 7) 1 }
      else t.dropEntry)

/-! ### Uplinks (R322, R327, R328) -/

/-- The speed uplink `u` tries: as SPEED names, else as found. -/
def State.trySpeed (s : State) (u : Nat) : Nat :=
  if s.fld (UPL.P_CTRL u) 2 1 = 0 then (s.uplink u).tried else s.fld (UPL.P_CTRL u) 2 1

/-- RS0 and RS1 of uplink `u`: the speed tried, both asserted for 25 Gbit/s (R327, log entry 103). -/
def State.rateSelect (s : State) (u : Nat) : Bool := s.trySpeed u = 1

/-- Tx_Disable of uplink `u` (R328). -/
def State.txDisable (s : State) (u : Nat) : Bool :=
  !s.rbit (UPL.P_CTRL u) 0 || !s.rbit (regCTRL UPL.page) 0 || !s.domainUp (domainOf UPL.page)
    || s.rbit (UPL.P_STAT u) 6 || (s.uplink u).hold

/-- The queue of class `k` moved to uplink `v`, behind what waits there (R322). -/
def State.moveQueue (s : State) (k u v : Nat) : State :=
  let mine := s.swx.out.filter (fun x => x.egress = u && x.cls = k)
  let rest := s.swx.out.filter (fun x => !(x.egress = u && x.cls = k))
  s.modSwx (fun w => { w with out := rest ++ mine.map (fun x => { x with egress := v }) })

/-- The classes whose primary goes down move to the other uplink (R322). -/
def State.failover (s : State) (u : Nat) : State :=
  [0, 1].foldl (fun t k =>
    if t.primary k = u then
      let t := (t.moveQueue k u (1 - u)).raise SWX.page 3
      t.modSwx (fun w => if k = 0 then { w with away0 := true } else { w with away1 := true })
    else t) s

/-- Uplink `u` goes down (R328). -/
def State.linkDown (s : State) (u : Nat) : State :=
  if s.upLink u then
    let t := ((s.setFld (UPL.P_STAT u) 1 0 0).setRbit (UPL.P_STAT u) 8 false).incLo (UPL.LINK_CNT u)
    (t.raise UPL.page 1).failover u
  else s

/-- UPLINK_UP (R328): after 10 ms of block lock without a fault signal. -/
def execUplinkUp (u : Fin 2) (s : State) : Res State :=
  .next (if s.rbit (UPL.P_STAT u) 7 ∧ s.rbit (UPL.P_STAT u) 4 ∧ !s.rbit (UPL.P_STAT u) 5 ∧ !s.rbit (UPL.P_STAT u) 6
      ∧ !s.upLink u ∧ s.rbit (UPL.P_CTRL u) 0 ∧ s.rbit (regCTRL UPL.page) 0 ∧ s.domainUp (domainOf UPL.page) then
      let v := s.trySpeed u
      let t := (s.setFld (UPL.P_STAT u) 1 0 v).setRbit (UPL.P_STAT u) 8 (v = 1 && s.rbit (UPL.P_CTRL u) 4)
      t.raise UPL.page 0
    else s)

/-- UPLINK_DOWN (R328): Rx_LOS takes the level given; the link is down with Rx_LOS, or after 1 ms without block lock. -/
def execUplinkDown (u : Fin 2) (los : Bool) (s : State) : Res State :=
  .next (let t := s.setRbit (UPL.P_STAT u) 5 los
    if los || !s.rbit (UPL.P_STAT u) 7 then t.linkDown u else t)

/-- BLOCK_LOCK_CHANGE (R327, R328): the receiver gains or loses block lock, with Rx_LOS at the level given. -/
def execBlockLockChange (u : Fin 2) (lock los : Bool) (s : State) : Res State :=
  .next (if s.rbit (UPL.P_CTRL u) 0 ∧ s.domainUp (domainOf UPL.page) then
      let t := (s.setRbit (UPL.P_STAT u) 7 lock).setRbit (UPL.P_STAT u) 5 los
      if los then t.linkDown u else t
    else s)

/-- CLASS_REVERT (R322): class 0 or 1 returns to its primary, which is up, once its queue on the other uplink is empty. -/
def execClassRevert (k : Fin 2) (s : State) : Res State :=
  .next (let p := s.primary k
    if s.upLink p ∧ !s.swx.out.any (fun x => x.egress = 1 - p && x.cls = k) then
      s.modSwx (fun w => if k.val = 0 then { w with away0 := false } else { w with away1 := false })
    else s)

/-- SPEED_TRY (R327): with SPEED auto and no block lock the other speed is tried. -/
def execSpeedTry (u : Fin 2) (s : State) : Res State :=
  .next (if s.rbit (UPL.P_CTRL u) 0 ∧ s.fld (UPL.P_CTRL u) 2 1 = 0 ∧ !s.rbit (UPL.P_STAT u) 7
      ∧ s.domainUp (domainOf UPL.page) then
      s.modUplink u (fun p => { p with tried := 3 - p.tried })
    else s)

/-- SFP_MODULE_CHANGE (R332, R327): a module goes out, or comes in with byte 12 of its A0h page. -/
def execSfpModuleChange (u : Fin 2) (inserted : Option Byte) (s : State) : Res State :=
  .next (match inserted with
    | none =>
      let t := (s.modUplink u (fun p => { p with absent := true })).setRbit (UPL.P_STAT u) 4 false
      ((t.setRbit (UPL.P_STAT u) 7 false).raise UPL.page 3).linkDown u
    | some b =>
      let t := s.modUplink u (fun p => { p with absent := false, tried := if b = 0xFF then 1 else 2 })
      (t.setRbit (UPL.P_STAT u) 4 true).raise UPL.page 2)

/-- TX_FAULT_CHANGE (R328): Tx_Fault takes a level; Tx_Disable follows it. -/
def execTxFaultChange (u : Fin 2) (fault : Bool) (s : State) : Res State :=
  .next (let t := s.setRbit (UPL.P_STAT u) 6 fault
    if fault then ((t.modUplink u (fun p => { p with hold := true })).raise UPL.page 4).linkDown u else t)

/-- TX_DISABLE_RELEASE (R328): 100 ms after Tx_Fault cleared. -/
def execTxDisableRelease (u : Fin 2) (s : State) : Res State :=
  .next (if s.rbit (UPL.P_STAT u) 6 then s else s.modUplink u (fun p => { p with hold := false }))

/-- Bytes of the SFP data buffer of port `u`, byte 0 in bits [7:0] of the first word. -/
def State.sfpBytes (s : State) (u n : Nat) : List Byte :=
  (List.range n).map (fun i => BitVec.ofNat 8 (bits (s.reg (UPL.SFP_BUF (32 * u + i / 4))) (8 * (i % 4) + 7) (8 * (i % 4))))
def State.setSfpBytes (s : State) (u : Nat) (l : List Byte) : State :=
  l.zipIdx.foldl (fun t x => t.setFld (UPL.SFP_BUF (32 * u + x.2 / 4)) (8 * (x.2 % 4) + 7) (8 * (x.2 % 4)) x.1.toNat) s

/-- A write of SFP_CMD (R328, R332). -/
def sfpCmdEff (u : Nat) (v : Word) (s : State) : State × WriteResult :=
  if s.rbit (UPL.SFP_STAT u) 0 ∨ (s.uplink u).absent then (s, .refused)
  else
    let n := clampN 1 128 (bits v 15 8)
    let w := putBits v 15 8 n
    ((s.modUplink u (fun p => { p with cmd := some w })).setReg (UPL.SFP_STAT u) 1, .ofClamp (n ≠ bits v 15 8))

/-- SFP_DONE (R332): the access ends with NAK, or with the bytes read. -/
def execSfpDone (u : Fin 2) (nak : Bool) (data : List Byte) (s : State) : Res State :=
  .next (match (s.uplink u).cmd with
    | some w =>
      let n := bits w 15 8
      let t := s.modUplink u (fun p => { p with cmd := none })
      let t := if bit w 17 then t.emit (.sfpAccess u w (s.sfpBytes u n))
        else if nak then t.emit (.sfpAccess u w [])
        else (t.emit (.sfpAccess u w [])).setSfpBytes u (data.take n)
      (t.setReg (UPL.SFP_STAT u) (word (2 * nak.toNat))).raise UPL.page 6
    | none => s)

/-- A read of TSF_0 pops the oldest timestamp (R332): what the read answers, and TSF_1 to TSF_3. -/
def State.tsfPop (s : State) (u : Nat) : State × Word :=
  match (s.uplink u).fifo with
  | x :: l =>
    let sec := x.time / 65536 / 1000000000
    let ns := x.time / 65536 % 1000000000
    let t := s.modUplink u (fun p => { p with fifo := l })
    let t := t.setReg (UPL.TSF_1 u) (word sec)
    let t := t.setReg (UPL.TSF_2 u) (word (sec / 2 ^ 32 % 65536 + x.time % 65536 * 65536))
    (t.setReg (UPL.TSF_3 u) (word ns), word (x.tag + 256 + x.base * 1024))
  | [] => (s, 0)

/-! ### Writes and views (R319, R330 to R332) -/

/-- A write of a class VID: refused when another class or an endpoint of TYPE 5 has it (R316). -/
def vidEff (a : Nat) (v : Word) (s : State) : State × WriteResult :=
  let (w, c) := s.fitted a v
  let n := bits w 11 0
  let others := [SWX.VID_MGMT, SWX.VID_PTP, SWX.VID_TWIN].filter (fun b => b ≠ a)
  if others.any (fun b => s.fld b 11 0 = n) || s.eps.any (fun e => s.ep e P.TYPE 1 = 5 && s.ep e P.VLAN 2 = n) then
    (s, .refused)
  else (s.setReg a w, .ofClamp c)

/-- The ring base and size registers, and the counters the module owns. -/
def ringShape (a : Nat) : Bool :=
  [SWX.HRX_BASE_LO, SWX.HRX_BASE_HI, SWX.HRX_SIZE, SWX.HTX_BASE_LO, SWX.HTX_BASE_HI, SWX.HTX_SIZE].contains a

/-- The effect of a write on the SWX page. -/
def swxEff (req a : Nat) (v : Word) (s : State) : State × WriteResult :=
  if a = regCTRL SWX.page then
    if bit v 1 then
      if s.rbit a 0 then (s, .refused) else ({ s.resetPageRegs SWX.page with swx := {} }, .done)
    else (s.setReg a (word (bits v 0 0)), .done)
  else if a = SWX.VID_MGMT ∨ a = SWX.VID_PTP ∨ a = SWX.VID_TWIN then vidEff a v s
  else if a = SWX.FLOW_QUOTA then
    let q := min v.toNat 65536
    (s.modFlow (s.fld SWX.FLOW_SEL 15 0) (fun f => { f with quota := some q }), .ofClamp (q ≠ v.toNat))
  else if a = SWX.FLOW_CNT then
    (s.modFlow (s.fld SWX.FLOW_SEL 15 0) (fun f => { f with admitted := 0, refused := 0 }), .done)
  else if a = SWX.HRX_WR ∨ a = SWX.HTX_RD then (s, .refused)
  else if ringShape a ∧ s.rbit (regCTRL SWX.page) 0 then (s, .refused)
  else if a = SWX.PRIMARY then
    let (t, r) := s.store a v
    (t.modSwx (fun w => { w with away0 := w.away0 && s.primary 0 = t.primary 0, away1 := w.away1 && s.primary 1 = t.primary 1 }), r)
  else if a = SWX.RES_MGMT ∨ a = SWX.RES_PTP ∨ a = SWX.RES_TWIN then
    let (t, r) := s.store a v
    (s.poolCheck t, r)
  else s.plainWrite req a v

/-- The engines and the reorder stage at reset (R79): the frames they hold are lost and every ticket starts at 0 (log entry
88). -/
def State.ofsReset (s : State) : State :=
  let flows := s.swx.flows.map (fun p => (p.1, { p.2 with ticket := 0, release := 0 }))
  { s.resetPageRegs OFS.page with swx := { s.swx with frames := [], flows := flows.filter (fun p => p.2 ≠ {}) } }

/-- The effect of a write on the OFS page; CTRL bit 0 ignores writes. -/
def ofsEff (req a : Nat) (v : Word) (s : State) : State × WriteResult :=
  if a = regCTRL OFS.page then (if bit v 1 then s.ofsReset else s, .done) else s.plainWrite req a v

/-- A write of P_CTRL: a change of SPEED or FEC restarts the link; clearing EN takes it down (R328, R332). -/
def portCtrlEff (u : Nat) (v : Word) (s : State) : State × WriteResult :=
  let a := UPL.P_CTRL u
  let (w, c) := s.fitted a v
  let old := s.reg a
  let t := s.setReg a w
  let t := if !bit w 0 ∨ bits w 2 1 ≠ bits old 2 1 ∨ bit w 4 ≠ bit old 4 then
      (t.setRbit (UPL.P_STAT u) 7 false).linkDown u
    else t
  (t, .ofClamp c)

/-- The effect of a write on the UPL page. -/
def uplEff (req a : Nat) (v : Word) (s : State) : State × WriteResult :=
  let u := (a % 0x1000 - 0x100) / 0x80
  if a = regCTRL UPL.page then
    let down := fun (t : State) => [0, 1].foldl (fun t u => (t.setRbit (UPL.P_STAT u) 7 false).linkDown u) t
    if bit v 1 then
      let t := (down s).resetPageRegs UPL.page
      let t := [0, 1].foldl (fun t u => (t.setFld (UPL.P_STAT u) 6 4 (s.fld (UPL.P_STAT u) 6 4)).modUplink u
        (fun p => { p with fifo := [], cmd := none })) t
      (t, .done)
    else
      let t := s.setReg a (word (bits v 0 0))
      (if bit v 0 then t else down t, .done)
  else if a = UPL.P_CTRL u ∧ u < 2 then portCtrlEff u v s
  else if a = UPL.SFP_CMD u ∧ u < 2 then sfpCmdEff u v s
  else s.plainWrite req a v

/-- The computed registers of the SWX page and of the OFS page. -/
def State.swxView (s : State) (a : Nat) : Option Word :=
  let f := s.fld SWX.FLOW_SEL 15 0
  if a = SWX.POOL_FREE then some (word (s.sharedFree % 2 ^ 17))
  else if a = SWX.FLOW_QUOTA then some (word (s.quota f))
  else if a = SWX.FLOW_HELD then some (word (s.heldBy f % 2 ^ 17))
  else if a = SWX.FLOW_CNT then some (word ((s.flow f).admitted + (s.flow f).refused * 65536))
  else none
def State.ofsView (s : State) (a : Nat) : Option Word :=
  let f := s.flow (s.fld OFS.FLOW_SEL 15 0)
  if a = regCTRL OFS.page then some 1
  else if a = OFS.ENG_STAT then
    some (word (bitsOf ((List.range 8).filter (fun e => s.swx.frames.any (fun x => x.stage = .engine e)))))
  else if a = OFS.DISP_DEPTH then
    some (putBits (s.reg a) 15 0 (s.swx.frames.filter (fun x => x.stage = .queued)).length)
  else if a = OFS.REORDER then
    some (putBits (s.reg a) 15 0 (s.swx.frames.filter (fun x => x.stage = .done true || x.stage = .done false)).length)
  else if a = OFS.TICKET then some (word f.ticket)
  else if a = OFS.RELEASE then some (word f.release)
  else none

/-- SFP_ACCESS (R328): a write of SFP_CMD. -/
def execSfpAccess (req : Req) (u : Fin 2) (v : Word) (s : State) : Res State :=
  .next (s.busWrite req (UPL.SFP_CMD u) v (sfpCmdEff u v))

end Sys2Proof.Machine
end

