-- ==== Sys2Proof/Machine/Tally.lean ====
section
/-!
DEFINITION. The Tally log (spec/18): records, segments, recovery, rate limiting, reading, firmware records.
-/

namespace Sys2Proof.Machine

/-- The state with the log changed. -/
def State.modEvr (s : State) (f : Evr → Evr) : State := { s with evr := f s.evr }

/-! ### Segments (R389, R397) -/

/-- Bytes of a segment: 64 KiB in a bank, 4 KiB in the stump buffer. -/
def segSize (g : Nat) : Nat := if g < 128 then 65536 else 4096

/-- Where segment `g` lies: behind W9 for a bank, behind W10 for the stump buffer. -/
def segBase (g : Nat) : Nat := if g < 128 then 0x52000000 + 65536 * g else 0x52801000 + 4096 * (g - 128)

/-- An address as HEAD_ADDR and SEEK_RES give it: a W9 offset, or a W10 offset with bit 24 set (R398). -/
def logAddr (g p : Nat) : Nat := if g < 128 then 65536 * g + p else 0x1001000 + 4096 * (g - 128) + p

/-- The segments of the ring in order (R389, R395). -/
def State.ring (s : State) : List Nat :=
  if s.evr.failA && s.evr.failB then (List.range 15).map (· + 128)
  else (if s.evr.failA then [] else List.range 64) ++ (if s.evr.failB then [] else (List.range 64).map (· + 64))

/-- A segment has a valid header (R392); those of a returned bank count as empty (R396). -/
def State.segValid (s : State) (g : Nat) : Bool :=
  let b := segBase g
  !s.evr.void.contains g && s.memBE b 4 = 0x544C4701 && s.memBE (b + 12) 4 = crc32 (s.bytes b 12)

/-- EPOCH and FIRST_SEQ of a segment. -/
def State.segEpoch (s : State) (g : Nat) : Nat := s.memBE (segBase g + 4) 4
def State.segFirst (s : State) (g : Nat) : Nat := s.memBE (segBase g + 8) 4

/-- The valid segment of a list with the lowest, and with the highest EPOCH. -/
def State.lowestSeg (s : State) (l : List Nat) : Option Nat :=
  (l.filter s.segValid).foldl (fun (b : Option Nat) g =>
    match b with
    | some h => if s.segEpoch g < s.segEpoch h then some g else some h
    | none => some g) none
def State.highestSeg (s : State) (l : List Nat) : Option Nat :=
  (l.filter s.segValid).foldl (fun (b : Option Nat) g =>
    match b with
    | some h => if s.segEpoch h < s.segEpoch g then some g else some h
    | none => some g) none

/-- The segment of the ring after `g`. -/
def State.segAfter (s : State) (g : Nat) : Nat :=
  let r := s.ring
  match r.find? (fun h => g < h) with
  | some h => h
  | none => r.headD 0

/-- Header bytes of a segment. -/
def segHeader (epoch first : Nat) : List Byte :=
  let h := fields [(4, 0x544C4701), (4, epoch), (4, first)]
  h ++ bytesBE 4 (crc32 h)

/-- Segment `g` opened (R390). -/
def State.openSegAt (s : State) (g : Nat) : State :=
  let s := s.modEvr (fun e => { e with void := e.void.filter (fun x => x ≠ g) })
  let n := s.segAfter g
  let held := s.lowestSeg (s.ring.filter (fun x => x ≠ g))
  let old := if n ≠ g ∧ s.segValid n then some n else held
  let (os, oa) := match old with
    | some x => (word (s.segFirst x), logAddr x 16)
    | none => (s.evr.nextSeq, logAddr g 16)
  let ep := s.evr.epoch + 1
  let t := s.setBytes (segBase g) (segHeader ep.toNat s.evr.nextSeq.toNat)
  t.modEvr (fun e => { e with oldestSeq := os, oldestAddr := oa, seg := g, pos := 16, epoch := ep })

/-- The next segment opened: the first of a returned bank, else the one after the present (R390, R396). -/
def State.openSeg (s : State) : State :=
  match s.evr.returned with
  | g :: l => (s.modEvr (fun e => { e with returned := l, stump := false })).openSegAt g
  | [] => s.openSegAt (s.segAfter s.evr.seg)

/-! ### The stump buffer's control area (R388, R397) -/

/-- A copy of the control block is valid. -/
def State.ctlValid (s : State) (o : Nat) : Bool :=
  s.memBE (0x52800000 + o) 4 = 0x53544D01 && s.memBE (0x52800000 + o + 12) 4 = crc32 (s.bytes (0x52800000 + o) 12)

/-- The control block written, alternately to its two copies. -/
def State.ctlWrite (s : State) : State :=
  let gen := (s.evr.ctlGen + 1) % 2 ^ 24
  let b := fields [(4, 0x53544D01), (4, gen * 256 + s.evr.failA.toNat + 2 * s.evr.failB.toNat), (4, s.evr.opsec.toNat)]
  let t := s.setBytes (0x52800000 + (if s.evr.ctlSecond then 2048 else 0)) (b ++ bytesBE 4 (crc32 b))
  t.modEvr (fun e => { e with ctlGen := gen, ctlSecond := !e.ctlSecond })

/-! ### Writing records (R386, R390, R394, R395) -/

/-- A record without its COMMIT. -/
def recordBytes (seq opsec pcycle : Word) (e : LogEntry) : List Byte :=
  fields [(2, 24 + e.payload.length), (2, e.code), (4, seq.toNat), (4, opsec.toNat), (4, pcycle.toNat), (8, e.stamp.toNat)]
    ++ e.payload

/-- The next record opens a segment: it does not fit, or a bank has been returned while the stump buffer held the log (R390,
R396, R397). -/
def State.needSeg (s : State) (n : Nat) : Bool :=
  decide (segSize s.evr.seg < s.evr.pos + n + 4) || (decide (128 ≤ s.evr.seg) && !(s.evr.failA && s.evr.failB))

/-- A record committed at the write position. -/
def State.commitRecord (s : State) (e : LogEntry) : State :=
  let r := recordBytes s.evr.nextSeq s.evr.opsec s.pwr.pcycle e
  let t := if s.needSeg r.length then s.openSeg else s
  let a := segBase t.evr.seg + t.evr.pos
  let t := (t.setBytes a r).setBytes (a + r.length) (bytesBE 4 (crc32 r ^^^ 0x54414C59))
  let t := t.modEvr (fun v => { v with
    headSeq := v.nextSeq, headAddr := logAddr v.seg v.pos, nextSeq := v.nextSeq + 1, pos := v.pos + r.length + 4 })
  let t := t.incLo EVR.CNT
  let t := if e.code = 0x261 then t.raise EVR.page 2 else t
  let t := if e.code = 0x262 then t.raise EVR.page 3 else t
  let b := r ++ bytesBE 4 (crc32 r ^^^ 0x54414C59)
  (if bit (t.bucket e.code).force 24 then (t.raise EVR.page 4).kspAlarm s.evr.nextSeq b else t).kspStream s.evr.nextSeq e.code b

/-- The bank of a segment: 0 A, 1 B, 2 the stump buffer. -/
def segBank (g : Nat) : Nat := if g < 64 then 0 else if g < 128 then 1 else 2

/-- A second write failure at one position (R395, R397): the bank drops out, the log moves on, and BANK_FAIL and the
abandoned record follow; a failure in the stump buffer loses the record. -/
def State.bankFail (s : State) (e : LogEntry) : State :=
  let g := s.evr.seg
  let b := segBank g
  let p := s.evr.pos
  if b = 2 then
    ((s.modEvr (fun v => { v with stumpFailed := true })).raise EVR.page 1).incLo EVR.LOST_CNT
  else
    let t := s.modEvr (fun v => { v with
      failA := v.failA || b = 0, failB := v.failB || b = 1, returned := v.returned.filter (fun x => segBank x ≠ b) })
    let t := t.ctlWrite.raise EVR.page 0
    let t := if t.evr.failA && t.evr.failB then
        let from_ := match t.highestSeg t.ring with | some h => t.segAfter h | none => 128
        (t.modEvr (fun v => { v with stump := true })).openSegAt from_
      else t.openSeg
    let f : LogEntry := { code := 0x263, stamp := s.now, payload := fields [(1, b), (1, g % 64), (2, 0), (4, p)] }
    (t.commitRecord f).commitRecord e

/-- The next queued record written; `fails` write failures occur at its position, 0 to 2 (R390, R394). -/
def State.writeNext (s : State) (fails : Nat) : State :=
  match s.evr.queue with
  | [] => s
  | e :: l =>
    let t := s.modEvr (fun v => { v with queue := l })
    if s.pwr.mramProtect then s
    else if s.evr.stumpFailed && s.evr.stump then t.incLo EVR.LOST_CNT
    else if fails = 0 then t.commitRecord e
    else
      let t := t.incLo EVR.ERR_CNT
      if fails = 1 then t.commitRecord e else t.bankFail e

/-! ### Recovery (R392) -/

/-- A record at byte `p` of segment `g` with SEQ `x`: its length when it is valid. -/
def State.recordAt (s : State) (g p x : Nat) : Option Nat :=
  let a := segBase g + p
  let len := s.memBE a 2
  if segSize g < p + 28 then none
  else if 24 ≤ len ∧ len ≤ 256 ∧ len % 4 = 0 ∧ p + len + 4 ≤ segSize g ∧ s.memBE (a + 4) 4 = x
      ∧ s.memBE (a + len) 4 = crc32 (s.bytes a len) ^^^ 0x54414C59 then some len
  else none

/-- The walk of R392 from byte `p` and SEQ `x`: where it ends. -/
def State.walk (s : State) (g : Nat) : Nat → Nat → Nat → Nat × Nat
  | 0, p, x => (p, x)
  | fuel + 1, p, x => match s.recordAt g p x with
    | some len => s.walk g fuel (p + len + 4) ((x + 1) % 2 ^ 32)
    | none => (p, x)

/-- The byte at which the record with SEQ `q` starts in segment `g`, and the SEQ it holds. -/
def State.walkTo (s : State) (g q : Nat) : Nat → Nat → Nat → Option Nat
  | 0, _, _ => none
  | fuel + 1, p, x => match s.recordAt g p x with
    | some len => if x = q then some p else s.walkTo g q fuel (p + len + 4) ((x + 1) % 2 ^ 32)
    | none => none

/-- The last valid record of a segment before byte `end_`. -/
def State.lastRecord (s : State) (g : Nat) : Nat → Nat → Nat → Option Nat → Option Nat
  | 0, _, _, b => b
  | fuel + 1, p, x, b => match s.recordAt g p x with
    | some len => s.lastRecord g fuel (p + len + 4) ((x + 1) % 2 ^ 32) (some p)
    | none => b

/-- The bank status and OPSEC the control area holds (R397). -/
def State.ctlRead (s : State) : State :=
  let gen := fun (o : Nat) => s.memBE (0x52800000 + o + 4) 4 / 256
  let pick := match s.ctlValid 0, s.ctlValid 2048 with
    | true, true => if gen 0 < gen 2048 then some 2048 else some 0
    | true, false => some 0
    | false, true => some 2048
    | false, false => none
  match pick with
  | some o =>
    let a := 0x52800000 + o
    let st := s.memBE (a + 4) 4
    s.modEvr (fun e => { e with
      failA := st.testBit 0, failB := st.testBit 1, stump := st.testBit 0 && st.testBit 1, opsec := word (s.memBE (a + 8) 4),
      ctlGen := st / 256, ctlSecond := o = 0 })
  | none => s.modEvr (fun e => { e with failA := false, failB := false, stump := false, opsec := 0, ctlGen := 0, ctlSecond := false })

/-- Recovery at PD1 power-up (R392): `warm` is the kind of start. Tokens are full and nothing is suppressed (R393). -/
def State.recoverLog (s : State) (warm : Bool) : State :=
  let s := s.modEvr (fun e => { e with buckets := [], queue := [], seeking := none, stumpFailed := false })
  let s := s.ctlRead
  let s := match s.highestSeg s.ring with
    | none =>
      let g := s.ring.headD 0
      let t := s.setBytes (segBase g) (segHeader 1 1)
      t.modEvr (fun e => { e with nextSeq := 1, headSeq := 0, headAddr := 0, oldestSeq := 1, oldestAddr := logAddr g 16, seg := g,
                                  pos := 16, epoch := 1, void := e.void.filter (fun x => x ≠ g) })
    | some g =>
      let x0 := s.segFirst g
      let (p, x) := s.walk g 2400 16 x0
      let len := s.memBE (segBase g + p) 2
      let torn := decide (p + 28 ≤ segSize g ∧ s.memBE (segBase g + p + 4) 4 = x ∧ 24 ≤ len ∧ len ≤ 256)
      let code := s.memBE (segBase g + p + 2) 2
      let old := (s.lowestSeg s.ring).getD g
      let t := s.modEvr (fun e => { e with
        nextSeq := word x, headSeq := word x - 1, headAddr := logAddr g ((s.lastRecord g 2400 16 x0 none).getD 0), seg := g, pos := p,
        epoch := word (s.segEpoch g), oldestSeq := word (s.segFirst old), oldestAddr := logAddr old 16 })
      if torn then t.queueLog { code := 0x262, stamp := s.now, payload := fields [(2, code), (2, len), (4, x)] } else t
  s.queueLog { code := 0x260, stamp := s.now,
               payload := fields [(1, warm.toNat), (1, s.evr.failA.toNat + 2 * s.evr.failB.toNat), (2, 0),
                 (4, (s.reg SYS.RST_CAUSE).toNat)] }

/-! ### Rate limiting (R393) -/

/-- The SUPPRESSED record of a code. -/
def suppressedEntry (at_ : Stamp) (code : Nat) (b : Bucket) : LogEntry :=
  { code := 0x261, stamp := at_, payload := fields [(2, code), (2, 0), (4, b.sup), (8, b.first.toNat), (8, b.last.toNat)] }

/-- The refill of a code's bucket at angle 0: CODE_CFG comes into force, tokens come in, and a pending suppression is
reported once the queue has room (log entry 107). -/
def State.refillCode (s : State) (code : Nat) : State :=
  let b := s.bucket code
  let full := bits b.cfg 7 0 * 65536
  let b := { b with force := b.cfg, tok := min (b.tok + bits b.cfg 23 8) full }
  if 0 < b.sup ∧ 65536 ≤ b.tok ∧ s.evr.queue.length < 64 then
    (s.queueLog (suppressedEntry s.now code b)).setBucket code { b with sup := 0, first := 0, last := 0 }
  else s.setBucket code b

/-- The codes whose bucket is not as a power-up leaves it, ascending; the others are full. -/
def State.codesInUse (s : State) : List Nat := s.evr.buckets.map (·.1)

/-- At input loss a SUPPRESSED record for every code with suppressions, ascending (R393). -/
def State.reportSuppressed (s : State) : State :=
  s.codesInUse.foldl (fun t code =>
    let b := t.bucket code
    if 0 < b.sup then
      (t.queueLog (suppressedEntry t.now code b)).setBucket code { b with sup := 0, first := 0, last := 0 }
    else t) s

/-! ### Writes and views (R396, R398, R399, R401) -/

/-- A write of CODE_CFG of the selected code. -/
def codeCfgEff (v : Word) (s : State) : State × WriteResult :=
  let code := s.fld EVR.CODE_SEL 9 0
  let b := s.bucket code
  let w := word (bits v 25 0)
  let w' := if neverLimited code then putBit (putBits w 7 0 0) 25 false else w
  (s.setBucket code { b with cfg := w' }, .ofClamp (w' ≠ w))

/-- A write of BANK_CLR (R396). -/
def bankClrEff (v : Word) (s : State) : State × WriteResult :=
  if bits v 31 16 ≠ 0xBA4C then (s, .done)
  else
    let a := bit v 0 && s.evr.failA
    let b := bit v 1 && s.evr.failB
    if !a && !b then (s, .done)
    else
      let t := s.modEvr (fun e => { e with
        failA := e.failA && !a, failB := e.failB && !b, stumpFailed := false, stump := false,
        returned := e.returned ++ (if a then [0] else []) ++ (if b then [64] else []),
        void := e.void ++ (if a then List.range 64 else []) ++ (if b then (List.range 64).map (· + 64) else []) })
      (t.ctlWrite, .done)

/-- A requester's payload word and WR_CTRL (R399). -/
def wrBuf (r w : Nat) : Nat := 0x40026100 + 0x100 * r + 4 * w
def wrCtrl (r : Nat) : Nat := 0x400261F0 + 0x100 * r

/-- A write of WR_CTRL of write set `r` (R399): GO enters the record at once, so BUSY reads 0. -/
def wrCtrlEff (r : Nat) (v : Word) (s : State) : State × WriteResult :=
  let code := clampN 0x300 0x3FF (bits v 9 0)
  let n := (min 232 (bits v 23 16) + 3) / 4 * 4
  let t := s.setReg (wrCtrl r) (word (code + n * 65536))
  let c := WriteResult.ofClamp (decide (code ≠ bits v 9 0 ∨ n ≠ bits v 23 16))
  if bit v 31 then
    (t.log code ((List.range (n / 4)).flatMap (fun w => bytesBE 4 (s.reg (wrBuf r w)).toNat)), c)
  else (t, c)

/-- A write of SEEK starts a search (R398). -/
def seekEff (v : Word) (s : State) : State × WriteResult :=
  ((s.modEvr (fun e => { e with seeking := some v })).setReg EVR.SEEK_RES (word (2 ^ 31)), .done)

/-- A write of EVR.CTRL: bit 1 resets the registers and every CODE_CFG and fills the buckets (R79, R401). -/
def evrCtrlEff (v : Word) (s : State) : State × WriteResult :=
  if bit v 1 then
    (s.codesInUse.foldl (fun t code => t.setBucket code
      { t.bucket code with cfg := codeCfgReset code, tok := bits (codeCfgReset code) 7 0 * 65536 }) (s.resetPageRegs EVR.page), .done)
  else (s, .done)

/-- The effect of a write on the EVR page. -/
def evrEff (req a : Nat) (v : Word) (s : State) : State × WriteResult :=
  let o := a % 0x1000
  if a = regCTRL EVR.page then evrCtrlEff v s
  else if a = EVR.CODE_CFG then codeCfgEff v s
  else if a = EVR.BANK_CLR then bankClrEff v s
  else if a = EVR.SEEK then seekEff v s
  else if 0x100 ≤ o ∧ o < 0x600 ∧ o % 0x100 = 0xF0 then wrCtrlEff ((o - 0x100) / 0x100) v s
  else s.plainWrite req a v

/-- The computed registers of the EVR page. -/
def State.evrView (s : State) (a : Nat) : Option Word :=
  let e := s.evr
  let b := s.bucket (s.fld EVR.CODE_SEL 9 0)
  if a = regCTRL EVR.page then some 1
  else if a = regSTAT EVR.page then
    some (word (e.failA.toNat + 2 * e.failB.toNat + 4 * e.stump.toNat + 8 * e.stumpFailed.toNat
      + min e.queue.length 127 * 256 + e.seg * 65536))
  else if a = EVR.HEAD_SEQ then some e.headSeq
  else if a = EVR.HEAD_ADDR then some (word e.headAddr)
  else if a = EVR.OLDEST_SEQ then some e.oldestSeq
  else if a = EVR.OLDEST_ADDR then some (word e.oldestAddr)
  else if a = EVR.OPSEC then some e.opsec
  else if a = EVR.CODE_CFG then some b.cfg
  else if a = EVR.CODE_TOK then some (word b.tok)
  else if a = EVR.CODE_SUP then some (word b.sup)
  else none

/-! ### The commands -/

/-- LOG_EVENT (R393): an event of a code with its payload words, at most 58. -/
def execLogEvent (code : BitVec 10) (payload : List Word) (s : State) : Res State :=
  .next (s.log code.toNat ((payload.take 58).flatMap (fun w => bytesBE 4 w.toNat)))

/-- Corrected errors met in the log's memory, counted (R394). -/
def State.countCorrected (s : State) (n : Nat) : State := (List.range n).foldl (fun t _ => t.incHi EVR.ERR_CNT) s

/-- LOG_RECORD_WRITE (R390): the next queued record, with 0, 1 or 2 write failures at its position and the corrected errors of
its read-back (R394). -/
def execLogRecordWrite (w : LogWrite) (s : State) : Res State :=
  .next (if s.domainUp 1 then (s.countCorrected w.corrected).writeNext w.fails else s)

/-- LOG_TOKEN_REFILL (R393): at the strobe of angle 0. -/
def execLogTokenRefill (s : State) : Res State :=
  .next (if s.domainUp 1 ∧ angleOf s.now = 0 then s.codesInUse.foldl State.refillCode s else s)

/-- OPSEC_SECOND (R388): a carry into the seconds of TB0. -/
def execOpsecSecond (s : State) : Res State :=
  .next (if !s.domainUp 1 then s
    else
      let n := satInc 32 s.evr.opsec.toNat
      let t := s.modEvr (fun e => { e with opsec := word n })
      if n % 64 = 0 then t.ctlWrite else t)

/-- LOG_SEEK (R398): a write of SEEK. -/
def execLogSeek (req : Req) (seq : Word) (s : State) : Res State := .next (s.busWrite req EVR.SEEK seq (seekEff seq))

/-- Where the record with SEQ `q` lies, among the records from OLDEST_SEQ to HEAD_SEQ. -/
def State.findRecord (s : State) (q : Word) : Option Nat :=
  if (q - s.evr.oldestSeq).toNat ≤ (s.evr.headSeq - s.evr.oldestSeq).toNat then
    (((List.range 143).filter s.segValid).findSome? (fun g => (s.walkTo g q.toNat 2400 16 (s.segFirst g)).map (logAddr g)))
  else none

/-- SEEK_DONE (R398). -/
def execSeekDone (s : State) : Res State :=
  .next (match s.evr.seeking with
    | some q =>
      let t := s.modEvr (fun e => { e with seeking := none })
      match s.findRecord q with
      | some a => t.setReg EVR.SEEK_RES (word (a + 2 ^ 30))
      | none => t.setReg EVR.SEEK_RES 0
    | none => s)

/-- BANK_CLR (R396): a write of BANK_CLR with a key. -/
def execBankClr (req : Req) (key : BitVec 16) (a b : Bool) (s : State) : Res State :=
  let v := word (key.toNat * 65536 + a.toNat + 2 * b.toNat)
  .next (s.busWrite req EVR.BANK_CLR v (bankClrEff v))

/-- FIRMWARE_RECORD (R399): a requester's WR_CTRL write with GO. -/
def execFirmwareRecord (req : Req) (v : Word) (s : State) : Res State :=
  let w := putBit v 31 true
  .next (s.busWrite req (wrCtrl req) w (evrEff req (wrCtrl req) w))

end Sys2Proof.Machine
end

