-- ==== Sys2Proof/Machine/Boot.lean ====
section
/-!
DEFINITION. The boot control record, the checks of an image, and the boot ROM (spec/20, R422 to R430).
-/

namespace Sys2Proof.Machine

/-- The state with the update engine changed. -/
def State.modUpd (s : State) (f : Upd → Upd) : State := { s with upd := f s.upd }

/-! ### Flash and the record (R422, R428) -/

/-- Execution bank `b`, the staging area, metering partition slot `m`, and their sizes. -/
def bankBase (b : Nat) : Nat := if b = 0 then 0x20000000 else 0x28000000
def stagingBase : Nat := 0x30000000
def stagingSize : Nat := 0x7E00000
def mpBase (m : Nat) : Nat := if m = 0 then 0x37E00000 else 0x37F00000

/-- A region of memory as an unlisted byte reads. -/
def State.eraseMem (s : State) (a n : Nat) : State := { s with mem := Tab.dropIf (fun k => a ≤ k && k < a + n) s.mem }

/-- Copy `c` of the record. -/
def recBase (c : Nat) : Nat := 0x60000000 + 0x800 * c

/-- The record in force; the factory record when neither copy is valid. -/
def State.bootRec (s : State) : BootRec :=
  match s.copyInForce (recBase 0) (recBase 1) with
  | none => {}
  | some b =>
    let f := fun o n => s.memBE (b + o) n
    { gen := f 4 4, active := f 8 1, trial := f 9 1, boots := f 10 1, flags := f 11 1, cfgA := f 12 1, cfgB := f 13 1, mpSlot := f 14 1,
      landing := f 15 1, verA := f 16 4, verB := f 20 4, mpVer0 := f 24 4, mpVer1 := f 28 4, landVer := f 32 4 }

/-- The record written to the copy that does not hold the one in force. -/
def State.writeRec (s : State) (r : BootRec) : State :=
  let c := if s.copyInForce (recBase 0) (recBase 1) = some (recBase 0) then 1 else 0
  let b := fields [(4, 0x42435201), (4, s.bootRec.gen + 1), (1, r.active), (1, r.trial), (1, r.boots), (1, r.flags), (1, r.cfgA),
    (1, r.cfgB), (1, r.mpSlot), (1, r.landing), (4, r.verA), (4, r.verB), (4, r.mpVer0), (4, r.mpVer1), (4, r.landVer), (24, 0)]
  s.setBytes (recBase c) (b ++ bytesBE 4 (crc32 b))

/-- Flags of the record. -/
def BootRec.fallback (r : BootRec) : Bool := r.flags.testBit 0
def BootRec.setFallback (r : BootRec) (b : Bool) : BootRec := { r with flags := r.flags / 2 * 2 + b.toNat }
def BootRec.cfgOf (r : BootRec) (b : Nat) : Nat := if b = 0 then r.cfgA else r.cfgB
def BootRec.setCfg (r : BootRec) (b v : Nat) : BootRec := if b = 0 then { r with cfgA := v } else { r with cfgB := v }
def BootRec.setVer (r : BootRec) (b v : Nat) : BootRec := if b = 0 then { r with verA := v } else { r with verB := v }
def BootRec.setMpVer (r : BootRec) (m v : Nat) : BootRec := if m = 0 then { r with mpVer0 := v } else { r with mpVer1 := v }

/-- The bank of the image on trial, or the active one. -/
def BootRec.trialBank (r : BootRec) : Nat := if r.trial = 1 then 1 - r.active else r.active

/-! ### Checks of an image (R424 to R427) -/

/-- Result codes of the UPD page. -/
def UR.OK : Nat := 0
def UR.BUSY : Nat := 1
def UR.NOT_OWNER : Nat := 2
def UR.SEQUENCE : Nat := 3
def UR.BAD_HEADER : Nat := 4
def UR.WRONG_TARGET : Nat := 5
def UR.ROLLBACK : Nat := 6
def UR.SIG_ECDSA : Nat := 7
def UR.SIG_MLDSA : Nat := 8
def UR.DIGEST : Nat := 9
def UR.LENGTH : Nat := 10
def UR.TRIAL : Nat := 11
def UR.SCHEMA : Nat := 12
def UR.STATE : Nat := 13
def UR.FLASH : Nat := 14
def UR.KEY : Nat := 15
def UR.TWIN : Nat := 16

/-- Fields of the image at a base. -/
def State.imgKind (s : State) (b : Nat) : Nat := s.memBE (b + 6) 1
def State.imgVersion (s : State) (b : Nat) : Nat := s.memBE (b + 12) 4
def State.imgSvn (s : State) (b : Nat) : Nat := s.memBE (b + 16) 2
def State.imgSchema (s : State) (b : Nat) : Nat := s.memBE (b + 18) 2
def State.imgLen (s : State) (b : Nat) : Nat := s.memBE (b + 20) 4
def State.fslLen (s : State) (b : Nat) : Nat := s.memBE (b + 24) 4

/-- Every byte of a range is 0. -/
def State.zeros (s : State) (a n : Nat) : Bool := (s.bytes a n).all (fun x => x = 0)

/-- Step 2: KIND, lengths, reserved bytes, the zero bytes of the signature block. -/
def State.headerForm (s : State) (b : Nat) : Bool :=
  let k := s.imgKind b
  let len := s.imgLen b
  let fsl := s.fslLen b
  let per := if k = 1 then
      decide (s.imgSvn b ≤ 63 ∧ 4096 ≤ len ∧ len ≤ 0x7DFC000 ∧ 4096 ≤ fsl ∧ fsl ≤ 524288 ∧ fsl % 4096 = 0 ∧ fsl ≤ len
        ∧ s.memBE (b + 28) 4 < fsl) && s.zeros (b + 128) 4
    else if k = 2 then
      decide (s.imgSvn b ≤ 31 ∧ 4 ≤ len ∧ len ≤ 0xFC000) && s.zeros (b + 18) 2 && s.zeros (b + 24) 8 && s.zeros (b + 80) 48
    else false
  per && s.zeros (b + 7) 1 && s.zeros (b + 12) 1 && s.zeros (b + 140) 880 && s.zeros (b + 0x18ED) (0x4000 - 0x18ED)

/-- The header checks, steps 1 to 7 (R426): the result code. -/
def State.headerCheck (s : State) (b : Nat) : Nat :=
  let k := s.imgKind b
  let hw := s.fld SYS.HW_REV 7 0
  let head := s.bytes b 1024
  let ec := if k = 1 then 1 else 3
  let ml := if k = 1 then 2 else 4
  let pk := s.bytes (b + 0x460) 1952
  if s.memBE b 4 ≠ 0x4B57494D ∨ s.memBE (b + 4) 2 ≠ 1 ∨ s.memBE (b + 1020) 4 ≠ crc32 (s.bytes b 1020) then UR.BAD_HEADER
  else if !s.headerForm b then UR.BAD_HEADER
  else if s.memBE (b + 8) 2 ≠ 0x4816 ∨ hw < s.memBE (b + 10) 1 ∨ s.memBE (b + 11) 1 < hw then UR.WRONG_TARGET
  else if s.imgSvn b < (if k = 1 then s.upd.fuse1 else s.upd.fuse2) then UR.ROLLBACK
  else if !s.keyUsable ec || !s.keyUsable ml then UR.KEY
  else if !Config.ecdsaVerify (s.keyValue ec) (Config.sha384 head) (s.bytes (b + 0x400) 96) then UR.SIG_ECDSA
  else if Config.sha384 pk ≠ s.keyValue ml || !Config.mldsaVerify pk head (s.bytes (b + 0xC00) 3309) then UR.SIG_MLDSA
  else UR.OK

/-- Step 8, and the check of the first-stage loader. -/
def State.payloadGood (s : State) (b : Nat) : Bool := Config.sha384 (s.bytes (b + 0x4000) (s.imgLen b)) = s.bytes (b + 32) 48
def State.fslGood (s : State) (b : Nat) : Bool := Config.sha384 (s.bytes (b + 0x4000) (s.fslLen b)) = s.bytes (b + 80) 48

/-- Steps 1 to 8. -/
def State.imageCheck (s : State) (b : Nat) : Nat :=
  if s.headerCheck b ≠ UR.OK then s.headerCheck b else if s.payloadGood b then UR.OK else UR.DIGEST

/-- Bank `b` may boot: steps 1 to 7 and FSL_DIGEST (R429). -/
def State.bankBoots (s : State) (b : Nat) : Bool := s.headerCheck (bankBase b) = UR.OK && s.fslGood (bankBase b)

/-- The fuses of a kind blown up to a target (R427). -/
def State.blow (s : State) (kind svn : Nat) : State :=
  s.modUpd (fun u => if kind = 1 then { u with fuse1 := max u.fuse1 (min svn 64) } else { u with fuse2 := max u.fuse2 (min svn 32) })

/-! ### The ROM (R429, R430) -/

/-- The record UPD_FALLBACK (R437): the cause and the version left. -/
def State.logFallback (s : State) (cause : Nat) (r : BootRec) : State :=
  let v := if r.trial = 1 then s.imgVersion (bankBase (1 - r.active)) else s.imgVersion (mpBase (1 - r.mpSlot))
  s.log 0x286 (fields [(1, cause), (3, 0), (4, v)])

/-- The loader of a bank copied to scratch SRAM, the jump, and on a trial boot the window's start (R429, R430, R435). -/
def State.enterLoader (s : State) (b : Nat) : State :=
  let r := s.bootRec
  let t := s.setBytes 0x08000000 (s.bytes (bankBase b + 0x4000) (min (s.fslLen (bankBase b)) 524288))
  let window := if r.trial ≠ 0 then some s.tb0s else none
  let t := t.modUpd (fun u => { u with bank := b, recovery := false, migDone := false, warned := false, window })
  if r.trial ≠ 0 then t.log 0x284 (fields [(1, r.boots), (1, b), (2, 0)]) else t

/-- Hart 0 in the ROM selects a bank (R429). Every reset that resets the cores has ended the session. -/
def State.romBoot (s : State) : State :=
  let s := s.modUpd (fun u => { u with sess := 0, op := none, land := 0, window := none, migDone := false, warned := false })
  let r := s.bootRec
  let s := if r.trial = 0 then
      (s.blow 1 (if s.bankBoots r.active then s.imgSvn (bankBase r.active) else 0)).blow 2
        (if s.imageCheck (mpBase r.mpSlot) = UR.OK then s.imgSvn (mpBase r.mpSlot) else 0)
    else if 3 ≤ r.boots ∨ (r.trial = 1 ∧ !s.bankBoots (1 - r.active)) then
      (s.logFallback (if 3 ≤ r.boots then 2 else 3) r).writeRec ({ r with trial := 0 }.setFallback true)
    else s.writeRec { r with boots := r.boots + 1 }
  let r := s.bootRec
  let b := r.trialBank
  if s.bankBoots b then s.enterLoader b
  else if r.trial = 0 ∧ s.bankBoots (1 - b) then
    let t := s.writeRec { r with active := 1 - b, flags := r.flags ||| 2 }
    (t.log 0x288 (fields [(1, 1 - b), (3, 0)])).enterLoader (1 - b)
  else s.modUpd (fun u => { u with bank := b, recovery := true })

end Sys2Proof.Machine
end

