-- ==== Sys2Proof/Machine/Metering.lean ====
section
/-!
DEFINITION. Metering (spec/09): the metering tick, energy, per-cycle results, correction, voltage events, pulse outputs,
the commit ring, restoration, and the seal of the legal parameters.
-/

namespace Sys2Proof.Machine

/-! ### Helpers -/

/-- The state with metering's own record changed. -/
def State.modMtr (s : State) (f : Mtr → Mtr) : State := { s with mtr := f s.mtr }

/-- The record of a pair, by sensor index. -/
def State.mtrPair (s : State) (p : Nat) : MtrPair := Tab.get (fun _ => {}) s.mtr.pairs p

/-- The state with a pair's record changed. -/
def State.modPair (s : State) (p : Nat) (f : MtrPair → MtrPair) : State :=
  s.modMtr (fun m => { m with pairs := Tab.put (fun _ => {}) m.pairs p (f (s.mtrPair p)) })

/-- MTR.STAT, and SEALED (R203). -/
def mtrSTAT : Nat := regSTAT MTR.page
def State.sealed (s : State) : Bool := s.rbit mtrSTAT 1

/-- Whether channel `k` is metered (R183). -/
def State.chMetered (s : State) (k : Nat) : Bool :=
  if k < 32 then s.rbit MTR.CH_EN_LO k else s.rbit MTR.CH_EN_HI (k - 32)

/-- The metered channels, and the metered pairs by sensor index. -/
def State.meteredChannels (s : State) : List Nat := (List.range 48).filter s.chMetered
def State.meteredPairs (s : State) : List Nat := s.meteredChannels ++ [48, 49, 50, 51]

/-- The voltage and current inputs of a pair (R183); the neutral has no voltage. -/
def pairV (p : Nat) : Nat := if p < 48 then chVoltage p else if p < 51 then 96 + (p - 48) else 103
def pairI (p : Nat) : Nat := if p < 48 then chCurrent p else if p < 51 then 99 + (p - 48) else 103

/-- The metered inputs in ascending order. -/
def State.meteredInputs (s : State) : List Nat :=
  (List.range 104).filter (fun i => s.meteredPairs.any (fun p => pairV p = i || pairI p = i))

/-- The number of a pair in a log record: L1 to L3 are 0 to 2, CHk is 3 + k (log entry 30). -/
def pairNumber (p : Nat) : Nat := if p < 48 then 3 + p else p - 48

/-- The billing set advances, by the metering tick processed last (R196). -/
def State.billingAdvances (s : State) : Bool :=
  !s.mtr.play && s.driving && s.sealed

/-- The gap cause of a metering tick in which the billing set does not advance: 3 playback, 6 standby, 4 unsealed. -/
def State.pauseCause (s : State) : Option Nat :=
  if s.mtr.play then some 3
  else if !s.driving then none
  else if !s.sealed then some 4
  else none

/-- The pulse process runs: the outputs are driven, not open (R195, R196, R460), or a standby computes them (R455). -/
def State.pulsesDriven (s : State) : Bool :=
  !s.playbackOn && !s.mtr.play && (s.driving || s.twn.role = .standby) && s.twn.pulseAt.isNone && !s.pwr.pf && s.domainUp 1 && s.rbit (regCTRL MTR.page) 0

/-- The set that advances. -/
def State.mtrSet (s : State) : MtrSet := if s.billingAdvances then s.mtr.billing else s.mtr.test

/-- The state with the advancing set changed. -/
def State.modSet (s : State) (f : MtrSet → MtrSet) : State :=
  if s.billingAdvances then s.modMtr (fun m => { m with billing := f m.billing })
  else s.modMtr (fun m => { m with test := f m.test })

/-- A count of a set's table. -/
def cntOf (t : Tab Nat) (k : Nat) : Nat := Tab.get (fun _ => 0) t k
def setCnt (t : Tab Nat) (k v : Nat) : Tab Nat := Tab.put (fun _ => 0) t k v

/-! ### Correction (R191, R192) -/

/-- A word of sensor `p`'s table in the active bank. -/
def State.corWord (s : State) (p off : Nat) : Word := s.winWord (0x50110000 + 0x80 * p + off)

/-- Breakpoint j of sensor `p` in the active bank: I, G and P. -/
def State.corPoint (s : State) (p j : Nat) : Int × Int × Int :=
  ((s.corWord p (0x10 + 12 * j)).toNat, (s.corWord p (0x14 + 12 * j)).toNat, (s.corWord p (0x18 + 12 * j)).toInt)

/-- Linear interpolation between two breakpoints, rounded half away from zero. -/
def interpolate (a b r i0 i1 : Int) : Int := a + roundAway ((b - a) * (r - i0)) (i1 - i0).toNat

/-- The gain and phase of sensor `p` at current RMS `r` (R191). -/
def State.correction (s : State) (p : Nat) (r : Int) : Int × Int :=
  let (i0, g0, p0) := s.corPoint p 0
  let (i8, g8, p8) := s.corPoint p 8
  if r ≤ i0 then (g0, p0)
  else if i8 ≤ r then (g8, p8)
  else match (List.range 8).find? (fun j => decide ((s.corPoint p j).1 ≤ r) && decide (r < (s.corPoint p (j + 1)).1)) with
    | some j =>
      let (i0, g0, p0) := s.corPoint p j
      let (i1, g1, p1) := s.corPoint p (j + 1)
      (interpolate g0 g1 r i0 i1, interpolate p0 p1 r i0 i1)
    | none => (g8, p8)

/-- g and ph fixed for the coming cycle; DC pairs and the neutral use ph = 0 (R185, R191). -/
def State.fixCorrection (s : State) : State :=
  s.meteredPairs.foldl (fun t p =>
    let (g, ph) := s.correction p (s.mtrPair p).rms
    t.modPair p (fun q => { q with g := g, ph := if 48 ≤ p ∧ p ≤ 50 then ph else 0 })) s

/-- The first shadow table whose currents are not strictly increasing (R192). -/
def State.corFault (s : State) : Option Nat :=
  (List.range 52).find? (fun p =>
    let i := fun j => (s.winWord (0x50100000 + 0x80 * p + 0x10 + 12 * j)).toNat
    (List.range 8).any (fun j => i (j + 1) ≤ i j))

/-- A write of COR_CTRL (R192, R203). -/
def corCtrlEff (v : Word) (s : State) : State × WriteResult :=
  if s.sealed then (s, .refused)
  else if bit v 0 then
    match s.corFault with
    | some p => ((s.setReg MTR.COR_STAT (word (1 + p * 256))).raise MTR.page 9, .refused)
    | none =>
      (((s.setReg MTR.COR_STAT 0).setRbit MTR.COR_CTRL 0 true).modMtr (fun m => { m with corPending := true }), .done)
  else if bit v 1 then
    if s.mtr.corPending then (s, .refused) else (s.modMtr (fun m => { m with copying := true }), .done)
  else (s, .done)

/-- A write at an address of W1 (R192, R203, R207). -/
def w1Eff (a : Nat) (v : Word) (s : State) : State × WriteResult :=
  let off := a % 0x100000
  let o := off % 0x80
  if 0x1A00 ≤ off then (s, .refused)
  else if (0x04 ≤ o ∧ o < 0x10) ∨ o = 0x7C then (s, .ignored)
  else if s.sealed || s.mtr.corPending then (s, .refused)
  else
    let fit : Fit := if o = 0 then .within 0 8388607
      else if (o - 0x10) % 12 = 0 then .within 0 8388608
      else if (o - 0x10) % 12 = 4 then .within 0x33333333 0x50000000
      else .twos (-2097152) 2097151
    let hi := if o = 0 ∨ (o - 0x10) % 12 = 0 then 23 else 31
    let (w, c) := fitWord [{ hi := hi, lo := 0, fit := fit }] 0 v
    (s.setWin a w, .ofClamp c)

/-! ### Gaps (R186, R196) -/

/-- A gap closes: its record, GAP_CNT and GAP. -/
def State.gapRecord (s : State) (pair : Nat) (g : MtrGap) : State :=
  let t := s.log 0x120 (fields [(1, pair), (1, g.cause), (2, 0), (8, g.first.toNat), (8, g.last.toNat), (4, g.ticks),
    (4, g.pcycle)])
  (t.incLo MTR.GAP_CNT).raise MTR.page 5

/-- The gap of a pair closed, if one is open. -/
def State.closeGap (s : State) (p : Nat) : State :=
  match (s.mtrPair p).gap with
  | some g => (s.modPair p (fun q => { q with gap := none })).gapRecord (pairNumber p) g
  | none => s

/-- A tick of a pair that lies in a gap of a cause, or in none. -/
def State.gapTick (s : State) (p : Nat) (m : Stamp) (cause : Option Nat) : State :=
  match cause with
  | none => s.closeGap p
  | some c =>
    match (s.mtrPair p).gap with
    | some g =>
      if g.cause = c then s.modPair p (fun q => { q with gap := some { g with last := m, ticks := g.ticks + 1 } })
      else (s.closeGap p).modPair p (fun q => { q with
        gap := some { first := m, last := m, ticks := 1, cause := c, pcycle := s.pwr.pcycle.toNat } })
    | none => s.modPair p (fun q => { q with
        gap := some { first := m, last := m, ticks := 1, cause := c, pcycle := s.pwr.pcycle.toNat } })

/-! ### The metering tick (R185 to R189) -/

/-- The newest sample of every input pushed into the histories, and with metering on the tick itself (R185). DEDUCED (log
entry 95), unsafe: the first metering tick after a start is the first tick that begins with metering on. -/
def State.pushSamples (s : State) : State :=
  let hist := (List.range 104).foldl (fun h i =>
    Tab.put (fun _ => []) h i ((s.lastSample i :: Tab.get (fun _ => []) h i).take 65)) s.mtr.hist
  let tick : MtrTick := { at_ := s.now, play := s.playbackOn || decide (s.sns.sincePlay < 4) }
  s.modMtr (fun m => { m with
    hist := hist, labels := if s.rbit (regCTRL MTR.page) 0 then (tick :: m.labels).take 66 else [] })

/-- The sample of input `i` at offset `d` ticks from the metering tick: 0 is tick m, 32 the newest. -/
def State.histAt (s : State) (i : Nat) (d : Int) : Sample :=
  ((Tab.get (fun _ => []) s.mtr.hist i)[(32 - d).toNat]?).getD {}

/-- The label of the tick after the metering tick. -/
def State.meterNext (s : State) : Stamp := ((s.mtr.labels[32]?).map (·.at_)).getD (s.now - 32)

/-- What a metering tick yields for a pair: voltage, corrected current and OVR; none when it is absent (R185, R186). -/
def State.pairTick (s : State) (p : Nat) : Option (Int × Int × Bool) :=
  let q := s.mtrPair p
  let k := q.ph / 65536
  let fr := q.ph % 65536
  let v := s.histAt (pairV p) 0
  let i0 := s.histAt (pairI p) k
  let i1 := s.histAt (pairI p) (k + 1)
  let ok := fun (x : Sample) => x.valid && !x.settle
  if ok v && ok i0 && ok i1 then
    let ia := i0.value + ((i1.value - i0.value) * fr + 32768) / 65536
    let ic := clampI (-8388608) 8388607 (roundAway (ia * q.g) (2 ^ 30))
    some (v.value, ic, v.ovr || i0.ovr || i1.ovr)
  else none

/-- Whether a present sample of a pair's metering tick carries OVR (R190). -/
def State.pairOvr (s : State) (p : Nat) : Bool :=
  let k := (s.mtrPair p).ph / 65536
  [s.histAt (pairV p) 0, s.histAt (pairI p) k, s.histAt (pairI p) (k + 1)].any (fun x => x.valid && x.ovr)

/-- A present tick's values added to the sums of a pair (R190). -/
def MtrPair.addSums (q : MtrPair) (c sn v i : Int) (ovr : Bool) : MtrPair :=
  { q with vSq := q.vSq + (v * v).toNat, iSq := q.iSq + (i * i).toNat, vxc := q.vxc + v * c, vxs := q.vxs + v * sn,
           ixc := q.ixc + i * c, ixs := q.ixs + i * sn, sp := q.sp + v * i, ovr := q.ovr || ovr }

/-- One pair in the metering tick of label `m`: its sums, its gap, and the p that counts toward energy. -/
def State.meterPair (s : State) (m : Stamp) (c sn : Int) (p : Nat) : State × Int :=
  let q := s.mtrPair p
  match s.pairTick p with
  | some (v, ic, ovr) =>
    let v := if p = 51 then 0 else v
    let t := s.modPair p (fun q => { q.addSums c sn v ic ovr with held := v * ic, absent := 0 })
    let t := if p = 51 then t else t.gapTick p m s.pauseCause
    (t, if q.noload then 0 else v * ic)
  | none =>
    let n := min (q.absent + 1) 17
    let t := s.modPair p (fun q => { q with absent := n, invalid := true, ovr := q.ovr || s.pairOvr p })
    let cause := match s.pauseCause with | some c => some c | none => if n = 17 then some 1 else none
    let t := if p = 51 then t else t.gapTick p m cause
    (t, if q.noload ∨ n = 17 then 0 else q.held)

/-- The energy factors of the metering tick (R187), by the frequency of the angle clock in that tick. -/
def State.energyFactors (s : State) : Nat × Nat :=
  let f := s.rct.clkAt (s.rct.ticks - 33)
  (2 ^ 49 * 2500 / (9 * f), 2 ^ 44 * 2500 / (9 * f))

/-- Energy added to the import or export accumulator of a pair or total; `j` is the import index (R188). -/
def addEnergy (acc : Tab Nat) (j : Nat) (p : Int) (ke : Nat) : Tab Nat :=
  let e := p.natAbs * ke
  if 0 < p then setCnt acc j ((cntOf acc j + e) % 2 ^ 128)
  else if p < 0 then setCnt acc (j + 1) ((cntOf acc (j + 1) + e) % 2 ^ 128)
  else acc

/-- A pulse accumulator after the tick's energy (R194): `p` is the total's power and `cfg` PULSE_AC or PULSE_DC. -/
def addPulse (m : MtrSet) (x : Nat) (cfg : Word) (p : Int) (ke : Nat) : MtrSet :=
  let src := bits cfg 21 20
  let es := if src = 2 ∨ (src = 0 ∧ 0 < p) ∨ (src = 1 ∧ p < 0) then p.natAbs * ke else 0
  let pacc := cntOf m.pacc x + es * bits cfg 16 0
  let t := 1000000000 * 2 ^ 64
  { m with pacc := setCnt m.pacc x (pacc % t), pend := setCnt m.pend x (min (cntOf m.pend x + pacc / t) 65535) }

/-- The accumulators and pulse state of the advancing set after a tick's powers (R188, R194). -/
def State.addTick (s : State) (ps : List (Nat × Int)) : State :=
  let (keA, keD) := s.energyFactors
  let ac := ps.filter (fun q => 48 ≤ q.1)
  let dc := ps.filter (fun q => q.1 < 48)
  let pt := (ac.map (·.2)).foldl (· + ·) 0
  let pd := (dc.map (·.2)).foldl (· + ·) 0
  s.modSet (fun st =>
    let acc := ac.foldl (fun a q => addEnergy a (2 * (q.1 - 48)) q.2 keA) st.acc
    let acc := dc.foldl (fun a q => addEnergy a (10 + 2 * q.1) q.2 keD) acc
    let acc := addEnergy (addEnergy acc 6 pt keA) 8 pd keD
    addPulse (addPulse { st with acc := acc } 0 (s.reg MTR.PULSE_AC) pt keA) 1 (s.reg MTR.PULSE_DC) pd keD)

/-- The gap that the first metered tick after a restart closes (R201): cause 2, pair 0xFF for all. -/
def State.resumeGap (s : State) (m : Stamp) : State :=
  match s.mtr.resume with
  | some (st, pc) =>
    (s.modMtr (fun x => { x with resume := none })).gapRecord 0xFF
      { first := st, last := m, ticks := 0, cause := 2, pcycle := pc }
  | none => s

/-- The metering tick of label `m`, processed in the present tick (R185 to R189, R194). -/
def State.processTick (s : State) (m : Stamp) : State :=
  let t := s.resumeGap m
  let a := angleOf m
  let c := cosTable a
  let sn := sinTable a
  let (t, ps) := t.meteredPairs.foldl (fun (acc : State × List (Nat × Int)) p =>
    let (u, x) := acc.1.meterPair m c sn p
    (u, if p = 51 then acc.2 else acc.2 ++ [(p, x)])) (t, [])
  let t := t.addTick ps
  let ends := cycleOf t.meterNext ≠ cycleOf m
  t.modMtr (fun x => { x with
    unlocked := x.unlocked || s.rctState ≠ RCT.LOCKED,
    pubDue := if ends then some (stamp (cycleOf m) 0) else x.pubDue })

/-- The present tick's samples taken, and metering tick m of the tick 33 ticks before it processed (R185). -/
def State.meteringTick (s : State) : State :=
  let t := s.pushSamples
  match t.mtr.labels[33]? with
  | some m => (t.modMtr (fun x => { x with play := m.play })).processTick m.at_
  | none => t

/-! ### Publication (R190) -/

/-- RMS in sample units, and the square of the fundamental's RMS. -/
def rmsOf (sq : Nat) : Nat := isqrt (sq / 4096)
def fundSq (xc xs : Int) : Nat :=
  let a := xc / 2 ^ 24
  let b := xs / 2 ^ 24
  ((a * a + b * b) / 2 ^ 35).toNat

/-- THD of R190. -/
def thdOf (sq : Nat) (xc xs : Int) : Nat :=
  let f2 := fundSq xc xs
  if f2 = 0 then 65535 else min 65535 (isqrt (10 ^ 8 * (sq / 4096 - f2) / f2))

/-- NOLOAD of a sensor. -/
def State.noloadOf (s : State) (p : Nat) : Nat := (s.corWord p 0).toNat

/-- A pair after a valid cycle: its RMS and no-load state (R189, R191); every pair starts its sums afresh. -/
def State.endCycle (s : State) (p : Nat) : State :=
  let q := s.mtrPair p
  let r := rmsOf q.iSq
  let th := s.noloadOf p
  let nl := if q.noload then !decide (th + th / 8 ≤ r) else decide (r < th)
  s.modPair p (fun q =>
    let q := if q.invalid then q else { q with rms := r, noload := nl }
    { q with vSq := 0, iSq := 0, vxc := 0, vxs := 0, ixc := 0, ixs := 0, sp := 0, invalid := false, ovr := false })

/-- The results of a phase written to its registers (R190). -/
def State.publishPhase (s : State) (k : Nat) : State :=
  let q := s.mtrPair (48 + k)
  if q.invalid then s
  else
    let t := s.setReg (MTR.VRMS k) (word (rmsOf q.vSq * 125 / 2048))
    let t := t.setReg (MTR.IRMS k) (word (rmsOf q.iSq * 125 / 1024))
    let t := t.setReg (MTR.P k) (iword (q.sp * 1000 / 2 ^ 39))
    let it := if q.noload then 0 else thdOf q.iSq q.ixc q.ixs
    t.setReg (MTR.THD k) (word (thdOf q.vSq q.vxc q.vxs + it * 65536))

/-- The results of a metered channel written to its registers (R190). -/
def State.publishChannel (s : State) (k : Nat) : State :=
  let q := s.mtrPair k
  let t :=
    if q.invalid then s
    else
      let t := s.setReg (MTR.CH_VRMS k) (word (rmsOf q.vSq * 125 / 2048))
      let t := t.setReg (MTR.CH_IRMS k) (word (rmsOf q.iSq * 125 / 32768))
      t.setReg (MTR.CH_P k) (iword (q.sp * 1000 / 2 ^ 44))
  t.setReg (MTR.CH_FLAGS k) (word (q.invalid.toNat + q.noload.toNat * 2 + q.gap.isSome.toNat * 4 + q.ovr.toNat * 8))

/-- Class of a voltage RMS `u` mV from class `cls` (R193): 0 none, 1 sag, 2 swell, 3 interruption. -/
def State.classify (s : State) (cls u : Nat) : Nat :=
  let vn := s.fld MTR.VNOM 9 0
  let sag := s.fld MTR.EVT_CFG 7 0
  let swell := s.fld MTR.EVT_CFG 15 8
  let intr := s.fld MTR.EVT_CFG 23 16
  let h := s.fld MTR.EVT_CFG 31 24
  let fresh := if u < vn * intr * 10 then 3 else if u < vn * sag * 10 then 1 else if vn * swell * 10 < u then 2 else 0
  if cls = 3 ∧ u < vn * (intr * 10 + h) then 3
  else if cls = 1 ∧ vn * intr * 10 ≤ u ∧ u < vn * (sag * 10 + h) then 1
  else if cls = 2 ∧ vn * (swell * 10 - h) < u then 2
  else fresh

/-- An event of phase `k` ends at `end_` (R193): EVT_END and its record. -/
def State.endEvent (s : State) (k : Nat) (e : MtrEvent) (end_ : Stamp) (flags : Nat) : State :=
  let t := (s.modMtr (fun m => { m with events := Tab.put (fun _ => none) m.events k none })).raise MTR.page 4
  let t := t.log 0x124 (fields [(1, k), (1, e.cls), (1, flags), (1, 0), (8, e.start.toNat), (8, end_.toNat), (4, e.extreme)])
  t.telemetry 6 17 [dword [(0, k), (8, e.cls), (16, flags)], e.start, end_, dword [(0, e.extreme % 2 ^ 32)]]

/-- The classification of a valid cycle `c0` of phase `k` (R193). -/
def State.phaseEvent (s : State) (k : Nat) (c0 : Stamp) : State :=
  let q := s.mtrPair (48 + k)
  if q.invalid then s
  else
    let u := rmsOf q.vSq * 125 / 2048
    let old := Tab.get (fun _ => none) s.mtr.events k
    let cls := match old with | some e => e.cls | none => 0
    let new := s.classify cls u
    let t := s.setFld MTR.EVT_STATE (2 * k + 1) (2 * k) new
    if new = cls then
      match old with
      | some e =>
        let x := if cls = 2 then max e.extreme u else min e.extreme u
        t.modMtr (fun m => { m with events := Tab.put (fun _ => none) m.events k (some { e with extreme := x }) })
      | none => t
    else
      let t := match old with | some e => t.endEvent k e c0 0 | none => t
      if new = 0 then t
      else
        let t := t.modMtr (fun m => { m with
          events := Tab.put (fun _ => none) m.events k (some { cls := new, start := c0, extreme := u }) })
        (t.raise MTR.page new).log 0x123 (fields [(1, k), (1, new), (2, 0)])

/-- The publication of cycle C with C:0 = `c0` (R190), then the correction of the next cycle (R191). -/
def State.publish (s : State) (c0 : Stamp) : State :=
  let inv := fun p => (s.mtrPair p).invalid
  let flags := bitsOf ([0, 1, 2, 3].filter (fun k => inv (48 + k))) + s.mtr.unlocked.toNat * 2 ^ 8
    + ([48, 49, 50, 51].any (fun p => (s.mtrPair p).ovr)).toNat * 2 ^ 9 + (!s.billingAdvances : Bool).toNat * 2 ^ 10
  let t := (List.range 3).foldl (fun t k => (t.publishPhase k).phaseEvent k c0) s
  let t := if inv 51 then t else t.setReg MTR.IRMS_N (word (rmsOf (s.mtrPair 51).iSq * 125 / 1024))
  let t := t.setReg MTR.P_TOT (t.reg (MTR.P 0) + t.reg (MTR.P 1) + t.reg (MTR.P 2))
  let t := s.meteredChannels.foldl State.publishChannel t
  let t := (t.setReg MTR.CYC_FLAGS (word flags)).setReg64 MTR.PUB_AT_LO MTR.PUB_AT_HI c0
  let t := s.meteredPairs.foldl State.endCycle t
  let t := t.modMtr (fun m => { m with
    pubDue := none, unlocked := false, pubBilling := m.billing.acc, pubTest := m.test.acc,
    snap := if (cycleOf c0 + 1) % s.cyclesPerSecond = 0 then some (m.test, c0 + 4095) else m.snap,
    due := if (cycleOf c0 + 1) % s.cyclesPerSecond = 0 ∧ s.twn.role ≠ .standby then some { set := m.billing, last := c0 + 4095 }
      else m.due })
  t.fixCorrection.raise MTR.page 0

/-! ### The commit ring (R197 to R201) -/

/-- Where the model keeps the commit ring: 16 slots of 16 KiB of MRAM, at a key of its own (log entry 31). -/
def mtrSlot (n : Nat) : Nat := 0x54000000 + n * 0x4000

/-- Bytes 0 to 2 039 of a slot (R197). -/
def State.slotBytes (s : State) (st : MtrSet) (last : Stamp) (seq flags : Nat) : List Byte :=
  let accs := (List.range 106).flatMap (fun j => bytesBE 16 (cntOf st.acc j))
  let pulse := fun x =>
    bytesBE 16 (cntOf st.pacc x) ++ bytesBE 4 (cntOf st.cnt x) ++ bytesBE 2 (cntOf st.pend x) ++ bytesBE 10 0
  bytesBE 4 0x4D544301 ++ bytesBE 4 seq ++ bytesBE 8 last.toNat ++ bytesBE 4 s.pwr.pcycle.toNat
    ++ bytesBE 4 (s.reg MTR.LEGAL_CRC).toNat ++ bytesBE 2 flags ++ bytesBE 6 0 ++ accs ++ pulse 0 ++ pulse 1
    ++ List.replicate 248 0

/-- A whole slot written with its CRC and valid mark (R198). -/
def State.writeSlot (s : State) (n : Nat) (body : List Byte) : State :=
  s.setBytes (mtrSlot n) (body ++ bytesBE 4 (crc32 body) ++ bytesBE 4 0xA55AC33C)

/-- Flags of a slot: FINAL, SEALED, TRUNCATED events, GAP open (R197). -/
def State.slotFlags (s : State) (final truncated : Bool) : Nat :=
  final.toNat + s.sealed.toNat * 2 + truncated.toNat * 4
    + (s.meteredPairs.any (fun p => (s.mtrPair p).gap.isSome)).toNat * 8

/-- The slot after the last one written. -/
def State.nextSlot (s : State) : Nat := match s.mtr.lastSlot with | some n => (n + 1) % 16 | none => 0

/-- A commit begins in the next slot, its valid mark written as 0 first (R198). -/
def State.startCommit (s : State) (c : MtrCommit) : State :=
  let n := s.nextSlot
  let seq := (s.reg MTR.COMMIT_SEQ).toNat + 1
  let body := s.slotBytes c.set c.last seq (s.slotFlags c.final.isSome (c.final.getD false))
  (s.setBytes (mtrSlot n + 2044) (bytesBE 4 0)).modMtr (fun m => { m with
    due := none, writing := some { slot := n, seq := seq, body := body } })

/-- The slot in progress completed, or failed (R198); a final commit that waits begins then (R200). -/
def State.finishCommit (s : State) (ok : Bool) : State :=
  match s.mtr.writing with
  | none => s
  | some w =>
    let t := s.modMtr (fun m => { m with writing := none, lastSlot := some w.slot })
    let t :=
      if ok then
        let t := (t.writeSlot w.slot w.body).setReg MTR.COMMIT_SEQ (word w.seq)
        if s.twn.role = .active ∧ !s.pwr.pf then
          let u := t.sendTwin 1 3 s.now (t.bytes (mtrSlot w.slot) 2048)
          { u with twn := { u.twn with mseq := w.seq } }
        else t
      else (t.raise MTR.page 6).log 0x121 (fields [(1, w.slot), (3, 0)])
    match t.mtr.due with
    | some d => if d.final.isSome then t.startCommit d else t
    | none => t

/-- The final commit of the hold, in tick P (R200): outputs and events closed, and the commit of the last metering tick begun
once a periodic commit in progress completes. -/
def State.finalCommit (s : State) : State :=
  let p := s.now
  let t := s.openPulses
  let truncated := (List.range 3).any (fun k => (Tab.get (fun _ => none) s.mtr.events k).isSome)
  let t := (List.range 3).foldl (fun t k =>
    match Tab.get (fun _ => none) t.mtr.events k with | some e => t.endEvent k e p 1 | none => t) t
  let c : MtrCommit := { set := t.mtr.billing, last := p - 33, final := some truncated }
  let t := t.modMtr (fun m => { m with resume := some (p - 33, s.pwr.pcycle.toNat), due := some c })
  if t.mtr.writing.isSome then t else t.startCommit c

/-- A slot is valid: magic, valid mark and CRC (R199); `bad` lists slots an uncorrectable error touches. -/
def State.commitValid (s : State) (bad : List Nat) (n : Nat) : Bool :=
  !bad.contains n && s.memBE (mtrSlot n) 4 = 0x4D544301 && s.memBE (mtrSlot n + 2044) 4 = 0xA55AC33C
  && crc32 (s.bytes (mtrSlot n) 2040) = s.memBE (mtrSlot n + 2040) 4

/-- The set the bytes of a slot hold (R197). -/
def setOfSlot (l : List Byte) : MtrSet :=
  let f := fun o n => natBE ((l.drop o).take n)
  let acc := (List.range 106).foldl (fun t j => setCnt t j (f (32 + 16 * j) 16)) []
  let two := fun (g : Nat → Nat) => setCnt (setCnt [] 0 (g 0)) 1 (g 1)
  { acc := acc, pacc := two (fun x => f (1728 + 32 * x) 16),
    cnt := two (fun x => f (1744 + 32 * x) 4), pend := two (fun x => f (1748 + 32 * x) 2) }

/-- The set a slot holds. -/
def State.slotSet (s : State) (n : Nat) : MtrSet := setOfSlot (s.bytes (mtrSlot n) 2048)

/-- Restoration at PD1 power-up (R199): the valid slot with the highest SEQ, or zero with RESTORE_FAIL. -/
def State.restoreMetering (s : State) (bad : List Nat) : State :=
  let valid := (List.range 16).filter (s.commitValid bad)
  let best := valid.foldl (fun (b : Option Nat) n =>
    match b with
    | none => some n
    | some k => if s.memBE (mtrSlot k + 4) 4 < s.memBE (mtrSlot n + 4) 4 then some n else b) none
  match best with
  | some n =>
    let st := s.slotSet n
    let t := s.modMtr (fun _ => {
      billing := st, pubBilling := st.acc, lastSlot := some n,
      restoredLast := BitVec.ofNat 64 (s.memBE (mtrSlot n + 8) 8),
      resume := some (BitVec.ofNat 64 (s.memBE (mtrSlot n + 8) 8), s.memBE (mtrSlot n + 16) 4) })
    (t.setReg MTR.COMMIT_SEQ (word (s.memBE (mtrSlot n + 4) 4))).setRbit mtrSTAT 3 true
  | none =>
    let t := s.modMtr (fun _ => {})
    (t.raise MTR.page 11).log 0x122 []

/-! ### The seal (R202, R203) -/

/-- The bytes of the legal parameter set (R202). -/
def State.legalSet (s : State) : List Byte :=
  let w := fun (a : Nat) => bytesBE 4 (s.reg a).toNat
  w MTR.LEGAL_VER ++ w MTR.CH_EN_LO ++ w MTR.CH_EN_HI ++ w MTR.PULSE_AC ++ w MTR.PULSE_DC ++ w MTR.PULSE_PW
    ++ (List.range 1664).flatMap (fun j => bytesBE 4 (s.winWord (0x50110000 + 4 * j)).toNat)
    ++ s.meteredInputs.flatMap (fun i => w (SNS.CFG i) ++ w (SNS.OFFSET i) ++ w (SNS.GAIN i) ++ w (SNS.DLY i))

/-- A word of the legal set, or LEGAL_EXP: refused while SEALED (R203). -/
def State.legalRefuses (s : State) (a : Nat) : Bool :=
  s.sealed && ([MTR.LEGAL_VER, MTR.CH_EN_LO, MTR.CH_EN_HI, MTR.PULSE_AC, MTR.PULSE_DC, MTR.PULSE_PW, MTR.LEGAL_EXP].contains a
    || s.meteredInputs.any (fun i => a = SNS.CFG i || a = SNS.OFFSET i || a = SNS.GAIN i || a = SNS.DLY i))

/-- A write of SEAL (R203). -/
def sealEff (v : Word) (s : State) : State × WriteResult :=
  if v = 0x5EA10001 then
    let crc := word (crc32 s.legalSet)
    let t := s.setReg MTR.LEGAL_CRC crc
    if crc = s.reg MTR.LEGAL_EXP then ((t.setRbit mtrSTAT 1 true).setReg MTR.SEAL 1, .done)
    else (t.raise MTR.page 10, .refused)
  else (s, .done)

/-- A write of ACC_CLEAR (R206). -/
def accClearEff (v : Word) (s : State) : State × WriteResult :=
  if bits v 31 16 ≠ 0xC1EA then (s, .done)
  else if bit v 0 && s.sealed then (s, .refused)
  else
    let t := if bit v 0 then s.modMtr (fun m => { m with billing := {} }) else s
    ((if bit v 1 then t.modMtr (fun m => { m with test := {} }) else t), .done)

/-- Metering starts: pairs and ticks empty, the correction fixed at r = 0 (R184, R191). -/
def State.meterStart (s : State) : State :=
  (s.modMtr (fun m => { m with pairs := [], labels := [], play := false, pubDue := none, unlocked := false })).fixCorrection

/-- Metering stops: open gaps close and the outputs open. -/
def State.meterStop (s : State) : State := (List.range 51).foldl State.closeGap s.openPulses

/-- A write of MTR.CTRL (R184, R206). -/
def mtrCtrlEff (v : Word) (s : State) : State × WriteResult :=
  let a := regCTRL MTR.page
  if bit v 1 then
    if s.sealed then (s, .refused)
    else
      let t := s.meterStop
      let u := t.resetPageRegs MTR.page
      let u := (u.setReg MTR.COMMIT_SEQ (s.reg MTR.COMMIT_SEQ)).setRbit mtrSTAT 3 (s.rbit mtrSTAT 3)
      (u.modMtr (fun m => { m with pairs := [], labels := [], play := false, pubDue := none, events := [],
                                   corPending := false, copying := false }), .done)
  else if bit v 0 then (if s.rbit a 0 then (s, .done) else ((s.setReg a 1).meterStart, .done))
  else if s.rbit a 0 then ((s.setReg a 0).meterStop, .done)
  else (s, .done)

/-- A channel no longer metered closes its gap and leaves no sums behind. -/
def chEnEff (req a : Nat) (v : Word) (s : State) : State × WriteResult :=
  let (t, r) := s.plainWrite req a v
  ((List.range 48).foldl (fun u k =>
    if s.chMetered k && !t.chMetered k then (u.closeGap k).modPair k (fun _ => {})
    else if !s.chMetered k && t.chMetered k then
      let (g, _) := t.correction k 0
      u.modPair k (fun _ => { g := g })
    else u) t, r)

/-- The effect of a write on the MTR page. -/
def mtrEff (req a : Nat) (v : Word) (s : State) : State × WriteResult :=
  if s.legalRefuses a then (s, .refused)
  else if a = regCTRL MTR.page then mtrCtrlEff v s
  else if a = MTR.COR_CTRL then corCtrlEff v s
  else if a = MTR.SEAL then sealEff v s
  else if a = MTR.ACC_CLEAR then accClearEff v s
  else if a = MTR.CH_EN_LO ∨ a = MTR.CH_EN_HI then chEnEff req a v s
  else s.plainWrite req a v

/-- The published accumulators and the pulse state of the set VIEW selects. -/
def State.viewAcc (s : State) : Tab Nat := if s.rbit MTR.VIEW 0 then s.mtr.pubTest else s.mtr.pubBilling
def State.viewSet (s : State) : MtrSet := if s.rbit MTR.VIEW 0 then s.mtr.test else s.mtr.billing

/-- The computed registers of the MTR page: STAT, accumulator counts and pulse state of the viewed set. -/
def State.mtrView (s : State) (a : Nat) : Option Word :=
  let off := a % 0x1000
  let acc := fun (j : Nat) (hi : Bool) =>
    let c := cntOf s.viewAcc j / 2 ^ 64
    some (word (if hi then c / 2 ^ 32 else c))
  if a = mtrSTAT then
    some (word ((s.rbit (regCTRL MTR.page) 0).toNat + s.sealed.toNat * 2 + (s.rbit (regCTRL MTR.page) 0 && !s.billingAdvances : Bool).toNat * 4
      + (s.rbit mtrSTAT 3).toNat * 8 + s.mtr.writing.isSome.toNat * 16 + s.mtr.corPending.toNat * 32
      + s.mtr.lastSlot.getD 0 * 2 ^ 8))
  else if a = MTR.PULSE_AC_CNT then some (word (cntOf s.viewSet.cnt 0))
  else if a = MTR.PULSE_DC_CNT then some (word (cntOf s.viewSet.cnt 1))
  else if a = MTR.PULSE_PEND then some (word (cntOf s.viewSet.pend 0 + cntOf s.viewSet.pend 1 * 65536))
  else if 0x100 ≤ off ∧ off < 0x150 then acc ((off - 0x100) / 8) (off % 8 = 4)
  else if 0x200 ≤ off ∧ off < 0x800 ∧ off % 0x20 < 0x10 then
    acc (10 + 2 * ((off - 0x200) / 0x20) + off % 0x20 / 8) (off % 8 = 4)
  else none

/-! ### The commands -/

/-- METERING_TICK (R185): the tick's samples taken and, while metering runs, metering tick m processed in tick m + 33; nothing
once an input loss is declared (R200). -/
def execMeteringTick (s : State) : Res State :=
  .next (if s.domainUp 1 ∧ s.domainUp 5 ∧ !s.pwr.pf then s.meteringTick else s)

/-- CYCLE_PUBLISH (R190): the cycle whose last metering tick has been processed is published. -/
def execCyclePublish (s : State) : Res State :=
  .next (match s.mtr.pubDue with
    | some c0 => if s.rbit (regCTRL MTR.page) 0 ∧ !s.pwr.pf then s.publish c0 else s
    | none => s)

/-- PW of a pulse output, and its output record. -/
def State.pulseWidth (s : State) (x : Nat) : Nat := if x = 0 then s.fld MTR.PULSE_PW 15 0 else s.fld MTR.PULSE_PW 31 16
def State.pulse (s : State) (x : Nat) : MtrPulse := Tab.get (fun _ => {}) s.mtr.pulses x

/-- PULSE_ON (R195): an output off for PW ticks with pend above 0 turns on. -/
def execPulseOn (x : Fin 2) (s : State) : Res State :=
  let p := s.pulse x
  let pend := cntOf s.mtrSet.pend x
  .next (if s.pulsesDriven ∧ !p.on ∧ p.edge + s.pulseWidth x ≤ s.rct.ticks ∧ 0 < pend then
      let t := s.modSet (fun m => { m with pend := setCnt m.pend x (pend - 1) })
      let t := t.modMtr (fun m => { m with
        pulses := Tab.put (fun _ => {}) m.pulses x { on := true, edge := s.rct.ticks, billing := s.billingAdvances } })
      if 1 < pend then t.raise MTR.page 7 else t
    else s)

/-- PULSE_OFF (R195): after PW ticks on, the output turns off and its pulse counts. -/
def execPulseOff (x : Fin 2) (s : State) : Res State :=
  let p := s.pulse x
  .next (if p.on ∧ p.edge + s.pulseWidth x ≤ s.rct.ticks then
      let up := fun (m : MtrSet) => { m with cnt := setCnt m.cnt x ((cntOf m.cnt x + 1) % 2 ^ 32) }
      let t := if p.billing then s.modMtr (fun m => { m with billing := up m.billing })
        else s.modMtr (fun m => { m with test := up m.test })
      t.modMtr (fun m => { m with
        pulses := Tab.put (fun _ => {}) m.pulses x { on := false, edge := s.rct.ticks, billing := p.billing } })
    else s)

/-- COR_REQ (R192): a write of COR_CTRL with REQ. -/
def execCorReq (req : Req) (s : State) : Res State := .next (s.busWrite req MTR.COR_CTRL 1 (corCtrlEff 1))

/-- COR_SWAP (R192): at the first metering tick with angle 0 after the request the banks exchange and g and ph are fixed
from the new one. -/
def execCorSwap (s : State) : Res State :=
  .next (if s.mtr.corPending ∧ s.rbit (regCTRL MTR.page) 0 ∧ angleOf s.meterNext = 0 then
      let t := (s.swapWin 0x50100000 0x50110000 0x1A00).modMtr (fun m => { m with corPending := false })
      ((t.setRbit MTR.COR_CTRL 0 false).fixCorrection).raise MTR.page 8
    else s)

/-- COR_COPY (R192): a write of COR_CTRL with COPY. -/
def execCorCopy (req : Req) (s : State) : Res State := .next (s.busWrite req MTR.COR_CTRL 2 (corCtrlEff 2))

/-- COR_COPY_DONE (R192): the shadow bank holds the active one. -/
def execCorCopyDone (s : State) : Res State :=
  .next (if s.mtr.copying then
      (s.copyWin 0x50110000 0x50100000 0x1A00).modMtr (fun m => { m with copying := false })
    else s)

/-- PERIODIC_COMMIT (R198): at C+1:34 the write of the billing set after C:4 095 begins. -/
def execPeriodicCommit (s : State) : Res State :=
  .next (match s.mtr.due with
    | some c => if s.mtr.writing.isNone ∧ !s.pwr.pf then s.startCommit c else s
    | none => s)

/-- COMMIT_WRITE_DONE (R198): the write in progress completes, or fails. -/
def execCommitWriteDone (ok : Bool) (s : State) : Res State := .next (s.finishCommit ok)

/-- METER_SEAL (R203): a write of 0x5EA1_0001 to SEAL. -/
def execMeterSeal (req : Req) (s : State) : Res State := .next (s.busWrite req MTR.SEAL 0x5EA10001 (sealEff 0x5EA10001))

/-- ACC_CLEAR_BILLING (R206): a write of ACC_CLEAR with a key and bit 0. -/
def execAccClearBilling (req : Req) (key : BitVec 16) (s : State) : Res State :=
  let v := word (key.toNat * 65536 + 1)
  .next (s.busWrite req MTR.ACC_CLEAR v (accClearEff v))

/-- ACC_CLEAR_TEST (R206): a write of ACC_CLEAR with a key and bit 1. -/
def execAccClearTest (req : Req) (key : BitVec 16) (s : State) : Res State :=
  let v := word (key.toNat * 65536 + 2)
  .next (s.busWrite req MTR.ACC_CLEAR v (accClearEff v))

/-- MTR_ENABLE (R184): a write of MTR.CTRL with bit 0 set or clear. -/
def execMtrEnable (req : Req) (on : Bool) (s : State) : Res State :=
  let v := word on.toNat
  .next (s.busWrite req (regCTRL MTR.page) v (mtrCtrlEff v))

end Sys2Proof.Machine
end

