-- ==== Sys2Proof/Machine/Resets.lean ====
section
/-!
DEFINITION. Power domains going on and off, and the five kinds of reset (spec/03, R72, R78, R80; spec/02, R54 to R60).
-/

namespace Sys2Proof.Machine

/-- The state with the power state changed. -/
def State.modPwr (s : State) (f : Pwr → Pwr) : State := { s with pwr := f s.pwr }

/-! ### Registers through a power change or a reset -/

/-- A register's access, none at a reserved offset. -/
def accessOf (a : Nat) : Option Access := (lookupReg a).map (fun r => r.1.acc)

/-- Pages of blocks in PD1 and PD2 (R54): TIM, MTR, EVR and KVT. -/
def essentialPage (p : Nat) : Bool := p = 0x03 || p = 0x12 || p = 0x26 || p = 0x27

/-- Registers that hold running state of PD1 and PD2, or what PD1 measures, and the rows marked Preserved: they stay as the
register file is lost or returns to reset values (R78, log entry 39). -/
def heldByPd1 (a : Nat) : Bool :=
  let p := pageOf a
  let o := a % 0x1000
  let ro := accessOf a = some .ro
  if essentialPage p then
    o = 0x014 || (ro && o < 0x040) || a = MTR.COMMIT_SEQ || a = EVR.OPSEC || a = TIM.CIV_STAT
      || [0, 1].any (fun k => a = TIM.DOM_STAT k) || [0, 1, 2, 3].any (fun k => a = TIM.RATE k)
  else if p = 0x01 then o = 0x014 || (ro && a ≠ PWR.PF_CNT && a ≠ PWR.LAST_PF_LO && a ≠ PWR.LAST_PF_HI)
  else a = SYS.RST_CAUSE

/-- Registers of the RTC, which PD0 holds. -/
def heldByPd0 (a : Nat) : Bool := pageOf a = 0x04 && (0x040 ≤ a % 0x1000 || a % 0x1000 = 0x00C || a % 0x1000 = 0x014)

/-- Registers that keep their value through a system reset (R78): those of PD0 and PD1, and CTRL, INT_EN and INT_FLAG of
pages whose blocks run on. -/
def heldBySystem (a : Nat) : Bool :=
  let o := a % 0x1000
  heldByPd0 a || heldByPd1 a || ((essentialPage (pageOf a) || pageOf a = 0x01 || pageOf a = 0x04) && (o = 0x008 || o = 0x010 || o = 0x014))

/-- The register file with only the registers that satisfy a test. -/
def State.keepRegs (s : State) (keep : Nat → Bool) : State := { s with regs := Tab.dropIf (fun a => !keep a) s.regs }

/-- A register that stays while its block's domain is off (R72): RW fields, LOCK, CLAMP_CNT and PARITY_CNT. -/
def keptOff (a : Nat) : Bool :=
  match accessOf a with
  | some .ro | some .rw1c => false
  | some .counter => a % 0x1000 < 0x040
  | _ => true

/-! ### Blocks at reset -/

/-- The feeders of a modem domain. -/
def feedersOf (d : Nat) (f : Nat) : Bool := f / 24 + 6 = d

/-- The class-2 latches, which MRAM holds through every reset and power loss (R159). -/
def State.lockouts (s : State) : Tab AxeSrc :=
  (s.axe.srcs.filter (fun c => c.2.latch = some 2)).map (fun c =>
    (c.1, { latch := some 2, latchPb := c.2.latchPb, tripAt := c.2.tripAt }))

/-- A block's state outside its registers at reset, by domain (R72); what lies physically at a connector stays. -/
def State.blockReset (s : State) (d : Nat) : State :=
  match d with
  | 4 => { s with cen := {}, mfe := {}, chs := [], lgt := {}, stl := {}, axe := { srcs := s.lockouts } }
  | 5 =>
    let m := { s.mtr with hist := [], labels := [], play := false, pulses := s.mtr.pulses.map (fun p => (p.1, { p.2 with edge := 0 })) }
    { s with rct := {}, sns := {}, now := 0, mtr := m }
  | 6 | 7 =>
    { s with modems := Tab.dropIf (feedersOf d) s.modems, macs := Tab.dropIf (feedersOf d) s.macs }
  | 8 =>
    { s with swx := { flows := s.swx.flows.map (fun p => (p.1, { quota := p.2.quota })) },
             uplinks := (s.uplinks.map (fun p => (p.1, ({ absent := p.2.absent } : Uplink)))).filter (fun p => !p.2.absent) }
  | 9 => { s with twn := { s.twn with link := false, ref := false, alive := false, txSeq := [], rxSeq := [], broken := 0,
                                       handover := none, named := false, drill := false, ret := 0 } }
  | 10 => s.setPort 4 {}
  | _ => s

/-- A domain other than PD0 to PD3 off: its blocks and their outputs at reset, its registers as R72 leaves them.
Links that were LINKED are lost as PD4 goes off (R173). -/
def State.domainOff (s : State) (d : Nat) : State :=
  let s := if d = 4 then s.dropLinks else s
  let t := (s.keepRegs (fun a => domainOf (pageOf a) ≠ d || keptOff a)).blockReset d
  let t := t.modPwr (fun p => { p with up := bitsOf ((setBits 12 p.up).filter (· ≠ d)) })
  if d = 4 then t.setRbit CEN.COMMIT_CTRL 0 false else t

/-- The relays that energise as PD11 comes up or RLY_CTRL is written, counted (R49, R65). -/
def State.countRelays (s : State) (old new : Nat) : State :=
  (setBits 4 new).foldl (fun t n =>
    if old.testBit n then t
    else t.modPwr (fun p => { p with rlyCnt := Tab.put (fun _ => 0) p.rlyCnt n (Tab.get (fun _ => 0) p.rlyCnt n + 1) })) s

/-- A domain on (R72): its blocks start from the stored configuration. -/
def State.domainOn (s : State) (d : Nat) : State :=
  if s.domainUp d then s
  else
    let t := s.modPwr (fun p => { p with up := bitsOf (d :: setBits 12 p.up) })
    match d with
    | 4 => t.stlRefresh
    | 5 => (List.range 13).foldl State.refreshLane t
    | 11 => if t.driving then t.countRelays 0 (t.fld HKP.RLY_CTRL 3 0) else t
    | _ => t

/-- PD4 to PD11 off. -/
def State.shedDomains (s : State) : State := (List.range 8).foldl (fun t k => t.domainOff (k + 4)) s

/-! ### Resets -/

/-- CODE_CFG of every code at its reset value, its tokens as they are (R78, R401). -/
def State.resetCodes (s : State) : State :=
  s.codesInUse.foldl (fun t code => t.setBucket code { t.bucket code with cfg := codeCfgReset code }) s

/-- Metering as a reset that clears LOCK leaves it: the seal gone, both correction banks at reset contents, the sets, the
pulse state and a commit in progress as they are (R78, R192, R203). -/
def State.unsealMeter (s : State) : State :=
  let t := (s.setRbit (regSTAT MTR.page) 1 false).setRbit (regSTAT MTR.page) 5 false
  let t := t.modMtr (fun m => { m with corPending := false, copying := false })
  { t with win := Tab.dropIf (fun a => 0x50100000 ≤ a && a < 0x50140000) t.win }

/-- The blocks of PD3 outside the cores at reset. -/
def State.fabricReset (s : State) : State :=
  { s with yrd := {}, sch := {}, tqu := {}, ntb := {}, trc := {}, sys := {}, twn := {},
           ths := {}, upd := { fuse1 := s.upd.fuse1, fuse2 := s.upd.fuse2 },
           ksp := { s.ksp with sessions := [], op := none } }

/-- PD3 removed: the register file, the windows, DRAM, scratch SRAM and the trace buffer are lost (R72, R78). -/
def State.pd3Loss (s : State) : State :=
  let t := s.kvtFlush.fabricReset
  let t := t.keepRegs (fun a => heldByPd0 a || heldByPd1 a)
  let mem := Tab.dropIf (fun a => (0x80000000 ≤ a && a < 0x160000000) || (0x08000000 ≤ a && a < 0x08100000)
    || (0x53000000 ≤ a && a < 0x53100000)) t.mem
  let t := { t with win := [], mem := mem }
  let t := t.modKsp (fun k => { head := k.head })
  let t := t.modMtr (fun m => { m with pairs := [], hist := [], labels := [], play := false, pubDue := none, unlocked := false, events := [] })
  t.unsealMeter.resetCodes.modPwr (fun p =>
    { p with up := bitsOf ((setBits 12 p.up).filter (· ≠ 3)), pd3Released := false, deferred := [] })

/-- PD3 to PD11 removed (R58), the pulse outputs open. -/
def State.removeLoad (s : State) : State := s.openPulses.shedDomains.pd3Loss

/-- The volatile slots cleared and the persistent ones loaded again, unless the vault is in ERROR (R78, R418, R487). -/
def State.vaultReload (s : State) : State :=
  let t := s.clearVolatile.resealStop
  if t.kvt.state = 2 then t else t.kvtPowerUp none

/-- A bit of RST_CAUSE set (R78, R81). -/
def State.resetCause (s : State) (b : Nat) : State := s.setRbit SYS.RST_CAUSE b true

/-- The system reset of R78: PD3 is held until PD3_RELEASE, PD5 and PD10 start again as in R482, and W0 returns to its reset
values (R128). -/
def State.systemReset (s : State) (cause : Nat) : State :=
  let t := s.openPulses.kvtFlush.shedDomains.fabricReset
  let t := t.keepRegs heldBySystem
  let t := { t with win := Tab.dropIf (fun a => a < 0x50100000) t.win }
  let t := t.unsealMeter.resetCodes
  let t := t.vaultReload.modPwr (fun p => { p with pd3Released := false, deferred := [] })
  t.resetCause cause

/-- The watchdog's count restarts with the TIMEOUT in force (R80). -/
def State.wdogRestart (s : State) : State :=
  if s.rbit SYS.WDOG_CFG 16 then
    { s with sys := { s.sys with wdogTaken := s.fld SYS.WDOG_CFG 15 0, wdogWarned := false } }
  else s

/-- The core reset of R78: cores and THS reset, hart 0 in the ROM, the pipeline running on. -/
def State.coreReset (s : State) (cause : Nat) : State :=
  let t := s.thsReset
  let t := (List.range 4).foldl (fun t c => t.setPort c {}) t
  let t := { t with ths := { t.ths with msip := 0, mtimecmp := [] } }
  let t := t.modKsp (fun k => { k with sessions := [] })
  (t.resetCause cause).romBoot.wdogRestart

/-- A warm start from PD5 (R60, R487): PCYCLE_CNT counts it, the log queues LOG_START of kind 1, Heartwood reloads. -/
def State.warmStart (s : State) (cause : Nat) : State :=
  let t := s.modPwr (fun p => { p with pf := false, shed := false, finalDone := false, warm := true, pcycle := p.pcycle + 1 })
  let t := t.resetCause cause
  let t := t.queueLog { code := 0x260, stamp := t.now,
                        payload := fields [(1, 1), (1, t.evr.failA.toNat + 2 * t.evr.failB.toNat), (2, 0), (4, (t.reg SYS.RST_CAUSE).toNat)] }
  t.vaultReload

/-- Every domain but PD0 removed (R56, R59). MRAM, flash and the fuses keep what they hold. -/
def State.powerLost (s : State) : State :=
  let t := s.removeLoad.clearVolatile
  let t := (t.keepRegs heldByPd0).modKvt (fun v => { v with state := 0, reseal := false, entropyFailed := false })
  let t := { t with tim := {}, mtr := {}, evr := { t.evr with queue := [], buckets := [], seeking := none } }
  t.modPwr (fun p => { vinOk := p.vinOk, bankMj := p.bankMj, pcycle := p.pcycle, rlyCnt := p.rlyCnt })

end Sys2Proof.Machine
end

