-- ==== Sys2Proof/Machine/Twin.lean ====
section
/-!
DEFINITION. Twin operation (spec/21): roles, pairing, the angle clock, heartbeats, epochs, claims, takeover, handover
and drill. The journal's application stands in Fabric.lean, which knows every page.
-/

namespace Sys2Proof.Machine

/-- The state with the twin block changed. -/
def State.modTwn (s : State) (f : Twn → Twn) : State := { s with twn := f s.twn }

/-- The status register of the page. -/
def twnSTAT : Nat := regSTAT TWN.page

/-- A frame of a kind whose bytes the spec does not give, sent on a lane. -/
def State.sendTwinOut (s : State) (lane : Nat) (f : Nat → Output) : State := (s.emit (f (s.twinSeq lane))).bumpTwin lane

/-- A CONTROL frame sent. -/
def State.sendControl (s : State) (c : ControlFrame) : State := s.sendTwinOut 1 (fun q => .controlFrame q c)

/-- The partner is paired: it is STANDBY to this module's ACTIVE, or ACTIVE to its STANDBY (R446). -/
def State.paired (s : State) : Bool :=
  s.twn.link && ((s.twn.role = .active && s.twn.peerRole = 4) || (s.twn.role = .standby && s.twn.peerRole = 3))

/-! ### Eligibility and roles (R441, R442, R450) -/

/-- The last metering epoch's snapshot lies after the end of the last playback, its four further ticks included (R450, R453). -/
def State.meterFresh (s : State) : Bool :=
  s.twn.meterSeen && (match s.sns.lastPlay with | some p => decide (p.toNat + 4 < s.twn.meterAt.toNat) | none => true)

/-- ELIGIBLE (R450). -/
def State.twinEligible (s : State) : Bool :=
  s.twn.role = .standby && s.upd.window.isNone && decide (4096 ≤ s.sns.sincePlay) && !s.playbackOn && decide (64 ≤ s.twn.whole)
  && !s.twn.gap && s.meterFresh && s.twn.inStep

/-- The partner is ELIGIBLE by its last heartbeat. -/
def State.peerEligible (s : State) : Bool := s.twn.link && s.twn.peerRole = 4 && s.twn.peerFlags.testBit 1

/-- A change of role: outputs follow (R441). A module that stops driving opens its pulse outputs; axe lines and links
follow the role. -/
def State.setRole (s : State) (r : Role) : State :=
  let drove := s.driving
  let t := s.modTwn (fun w => { w with role := r })
  let t := if drove && !t.driving then t.openPulses else t
  let t := if !drove && t.driving && t.domainUp 11 then t.countRelays 0 (t.fld HKP.RLY_CTRL 3 0) else t
  t.axeRefresh.stlRefresh

/-- CNT of a module that becomes ACTIVE (R457). -/
def State.nextCnt (s : State) : Nat :=
  (List.range 13).foldl (fun m n => max m ((s.reg (STL.CLAIM_SEEN n)).toNat / 2))
    (max s.claimCnt ((s.reg TWN.PEER_CLAIM).toNat / 2)) + 1

/-- CNT stored, unless it is at its end (R457). -/
def State.raiseClaim (s : State) : Option State :=
  if 2 ^ 31 ≤ s.nextCnt then none else some (s.storeClaim s.nextCnt)

/-- The module becomes ACTIVE from HUNT (R442, R457). -/
def State.becomeActive (s : State) : State :=
  match s.raiseClaim with
  | some t => t.setRole .active
  | none => s.raise TWN.page 8

/-- What the twin block forgets as it starts to look for, or to pair with, a partner. -/
def Twn.fresh (w : Twn) : Twn :=
  { role := w.role, link := w.link, ref := w.ref, txSeq := w.txSeq, rxSeq := w.rxSeq, broken := w.broken, peerRole := w.peerRole,
    peerFlags := w.peerFlags, heard := w.heard, alive := w.alive, digests := w.digests, jseqTx := w.jseqTx, differed := w.differed }

/-- The module enters HUNT. -/
def State.enterHunt (s : State) : State := (s.modTwn Twn.fresh).setRole .hunt

/-- A PAIR body sent with an ephemeral key in KS12 and a nonce (R446). -/
def State.sendPairBody (s : State) : State :=
  let priv := s.random 0 48
  let p : PairFrame := { ver := 1, serial := (s.reg64 SYS.SERIAL_LO SYS.SERIAL_HI).toNat, chain := Config.idevChain,
                         pub := Config.ecPublic priv, nonce := s.random 1 32, sig := none }
  let t := s.fillKey 12 (({ typ := KT.ecPrivate, origin := 1 } : KeySlot).withValue priv (s.random 2 48))
  let t := t.draw.modTwn (fun w => { w with ownPair := some p, priv := priv })
  t.sendTwinOut 1 (fun q => .pairFrame q p)

/-- The module enters PAIRING (R448): RCT to IDLE and out of it, without the refusals of R27. -/
def State.enterPairing (s : State) : State :=
  let t := (s.modTwn Twn.fresh).setRole .pairing
  let t := { t.resetPageRegs RCT.page with rct := { ({} : Rct) with ticks := s.rct.ticks }, now := 0 }
  let t := (t.setReg (regCTRL RCT.page) 1).setFld rctSTAT 2 0 RCT.ACQUIRE
  (t.modTwn (fun w => { w with ref := true })).sendPairBody

/-- A partner that is not there, or CTRL bit 0 clear, makes the module SOLO; a partner and bit 0 send SOLO to HUNT (R441). A
module that follows an active decides a takeover instead (R459). -/
def State.twinRole (s : State) : State :=
  let on := s.rbit (regCTRL TWN.page) 0
  if on && s.pwr.twinPresent then (if s.twn.role = .solo && s.domainUp 9 then s.enterHunt else s)
  else if !on || s.twn.role = .hunt || s.twn.role = .active || s.twn.role = .demoted then
    (if s.twn.role = .solo then s else (s.modTwn Twn.fresh).setRole .solo)
  else s

/-! ### Frames in (R444) -/

/-- A received frame of a lane against TSEQ and its tag: the state, and whether it is taken. A frame that fails makes every
later one of the lane count as lost until a loop epoch begins; the next frame of the lane then sets its TSEQ anew. -/
def State.twinTake (s : State) (lane : Nat) (h : TwinHead) (epoch : Bool) : State × Bool :=
  let broken := if epoch then 0 else s.twn.broken
  let s := s.modTwn (fun w => { w with broken := broken, rxSeq := if epoch then w.rxSeq.filter (fun p => !w.broken.testBit p.1) else w.rxSeq })
  let next := match s.twn.rxSeq.find? (fun p => p.1 = lane) with | some p => (p.2 + 1) % 2 ^ 32 | none => h.seq
  let seqOk := decide (h.seq = next) || epoch
  if !s.domainUp 9 then (s, false)
  else if broken.testBit lane then (s, false)
  else if !h.good || !seqOk then (s.modTwn (fun w => { w with broken := broken ||| 2 ^ lane }), false)
  else
    let rx := (lane, h.seq) :: s.twn.rxSeq.filter (fun p => p.1 ≠ lane)
    (s.modTwn (fun w => { w with rxSeq := rx }), true)

/-! ### Digests and mismatch (R445, R455, R456) -/

/-- DIGEST over the outputs of tick `n`, the last one (R445). -/
def State.digest (s : State) (n : Stamp) : Nat :=
  let frames := if s.stl.launchedAt = n then s.stl.launched else []
  let trips := if s.axe.trippedAt = n then (s.axe.tripped.mergeSort (· ≤ ·)).flatMap (bytesBE 2) else []
  let on := fun (x : Nat) => (Tab.get (fun _ => ({} : MtrPulse)) s.mtr.pulses x).on.toNat
  crc32 (frames ++ trips ++ bytesBE 1 (on 0 + 2 * on 1))

/-- The digest of a tick the module computed. -/
def State.ownDigest (s : State) (n : Stamp) : Option Nat :=
  (s.twn.digests.find? (fun p => p.1 = n.toNat)).map (·.2)

/-- A mismatch tick is not counted within 16 ticks of an entry without a stamp, or while a load is pending (R455). -/
def State.mismatchCounts (s : State) (n : Stamp) : Bool :=
  s.twn.load = [] && (match s.twn.plainAt with | some a => decide (a.toNat + 16 < n.toNat) | none => true)

/-- A mismatch tick (R455, R456). -/
def State.mismatch (s : State) (n : Stamp) : State :=
  let f := n.toNat / 8
  let w := s.twn
  let t := s.incHi TWN.CNT_A
  let t := if w.misRun ≠ 0 ∧ f = w.misFrame then t
    else if w.misRun ≠ 0 ∧ f = w.misFrame + 1 then t.modTwn (fun w => { w with misRun := w.misRun + 1, misFrame := f })
    else t.modTwn (fun w => { w with misRun := 1, misFrame := f, misTick := n })
  if s.fld TWN.CFG 11 8 ≤ t.twn.misRun then
    let u := (t.raise TWN.page 4).log 0x294 (fields [(1, t.twn.misRun), (3, 0), (8, t.twn.misTick.toNat)])
    (u.log 0x291 (fields [(1, 2), (3, 0)])).setRole .suspect
  else t

/-- The shadow comparison of a heartbeat's tick (R455); suspended while a playback runs (R449). -/
def State.compareDigest (s : State) (n : Stamp) (d : Nat) : State :=
  match s.ownDigest n with
  | some own => if own ≠ d && s.mismatchCounts n && !s.playbackOn then s.mismatch n else s
  | none => s

/-! ### The loop epoch (R448, R452) -/

/-- The loop epoch of the present frame boundary. -/
def State.loopEpoch (s : State) (b : Stamp) : LoopEpoch :=
  let r := s.rct
  { at_ := b, loops := s.cen.snap, mfe := s.mfe, chs := s.chs, latches := s.axe.srcs,
    links := (List.range 13).map (fun n => (n, s.linkState n)), vers := (List.range 13).map (fun n => (n, (s.stlBoard n).ver)),
    status := (mfeSTAT, s.reg mfeSTAT) :: (List.range 48).map (fun k => (CHN.STAT_K k, s.reg (CHN.STAT_K k))),
    pulses := s.mtr.pulses, pend := s.mtr.billing.pend, cnt := s.mtr.billing.cnt, pacc := s.mtr.billing.pacc,
    rctStat := s.reg rctSTAT, freq := s.freq, integ := r.integ, bigCount := r.bigCount, convCount := r.convCount,
    lockCount := r.lockCount, pullCycles := r.pullCycles, runCount := r.runCount, runSum := r.runSum }

/-- The records LR0 to LR51 whose loop state differs from the module's own at the last boundary. -/
def State.differing (s : State) (e : LoopEpoch) : List Nat :=
  (List.range 52).filter (fun r => Tab.get (fun _ => ({} : Loop)) e.loops r ≠ Tab.get (fun _ => ({} : Loop)) s.cen.snap r)

/-- The epoch's state in the records of a list (R452). -/
def State.loadRecords (s : State) (e : LoopEpoch) (recs : List Nat) : State :=
  recs.foldl (fun t r => t.modLoop r (fun _ => Tab.get (fun _ => {}) e.loops r)) s

/-- All of the epoch's state, as a pairing module takes it (R448). -/
def State.loadEpoch (s : State) (e : LoopEpoch) : State :=
  let t := s.loadRecords e (List.range 52)
  let t := { t with mfe := e.mfe, chs := e.chs, axe := { t.axe with srcs := e.latches } }
  e.status.foldl (fun t p => t.setReg p.1 p.2) t

/-- The links as the last loop epoch reports them (R441). -/
def State.showLinks (s : State) (e : LoopEpoch) : State :=
  (List.range 13).foldl (fun t n => t.setFld (STL.BRD_STAT n) 2 0 (Tab.get (fun _ => 0) e.links n)) s

/-- Pairing is complete once the first loop, metering and Yarder epochs stand (R446). -/
def State.pairDone (s : State) : State :=
  let w := s.twn
  if w.role = .pairing ∧ w.aligned.isSome ∧ w.whole ≠ 0 ∧ w.meterSeen ∧ w.yardSeen then
    let t := (s.setRole .standby).raise TWN.page 1
    t.log 0x290 (fields [(1, 4), (3, 0), (8, (w.peerPair.map (·.serial)).getD 0)])
  else s

/-- A partial epoch (R452, R456). -/
def State.epochTorn (s : State) (ttype : Nat) (b : Stamp) : State :=
  ((s.raise TWN.page 5).incLo TWN.CNT_B).log 0x295 (fields [(1, ttype), (3, 0), (8, b.toNat)])

/-- A complete loop epoch taken (R452). -/
def State.takeEpoch (s : State) (e : LoopEpoch) : State :=
  let diff := if s.twn.role = .standby then s.differing e else []
  let t := (s.setReg TWN.LEPOCH (shortOf e.at_)).modTwn (fun w => { w with
    epoch := some e, whole := min (w.whole + 1) 64, torn := 0, load := diff,
    differed := w.differed + (if w.role = .standby then diff.length else 0) })
  (t.showLinks e).pairDone

/-! ### Pairing (R446) -/

/-- The body of a PAIR frame as signed. -/
def PairFrame.body (p : PairFrame) : List Byte := p.chain ++ p.pub ++ p.nonce

/-- Both bodies, slot A's first. -/
def State.pairBodies (s : State) (own peer : PairFrame) : List Byte :=
  if s.pwr.slotB then peer.body ++ own.body else own.body ++ peer.body

/-- ASCII of an info string. -/
def ascii (t : String) : List Byte := t.toList.map (fun c => BitVec.ofNat 8 c.toNat)

/-- The keys of the link from the shared secret (R446): KS8 by AGREE, with both nonces as salt and no info (log entry 71), then
KS9, KS10 and KS11 derived from it; KS12 deleted. -/
def State.pairKeys (s : State) (z : List Byte) (own peer : PairFrame) : State :=
  let salt := if s.pwr.slotB then peer.nonce ++ own.nonce else own.nonce ++ peer.nonce
  let base := Config.hkdf z salt [] 48
  let der := fun (i : String) => Config.hkdf base salt (ascii i) 32
  let mine := if s.pwr.slotB then "TX-B" else "TX-A"
  let theirs := if s.pwr.slotB then "TX-A" else "TX-B"
  let put := fun (t : State) (i typ usage : Nat) (parent : Option Nat) (v : List Byte) =>
    t.fillKey i (({ typ := typ, usage := usage, origin := 3, parent := parent,
                    pgen := (parent.map (fun p => (t.key p).gen)).getD 0,
                    depth := (parent.map (fun p => (t.key p).depth + 1)).getD 0 } : KeySlot).withValue v (t.random i v.length))
  let t := put s 8 KT.SECRET KU.DERIVE (some 12) base
  let t := put t 9 KT.AES KU.ENCRYPT (some 8) (der mine)
  let t := put t 10 KT.AES KU.DECRYPT (some 8) (der theirs)
  let t := put t 11 KT.AES KU.WRAP (some 8) (der "WRAP")
  (t.emptyKey 12).draw.modTwn (fun w => { w with keyed := true, priv := [] })

/-- The readable and writable registers of the journalled pages, and whether one is a LOCK register. -/
def copyRegs : List Nat :=
  ((List.range 0x2E).filter (fun p => journalled (pageBase p))).flatMap (fun p => (pageRegs p).flatMap (fun r =>
    if r.acc = .rw then (List.range r.count).map (fun i => pageBase p + r.off + i * r.stride) else []))
def isLock (a : Nat) : Bool := a = regLOCK (pageOf a)

/-- The initial copy (R446), as journal entries: the registers of the journalled pages, their window words that are not 0, the
LOCK registers after all others (log entry 71), and KS16 to KS19 wrapped under KS11. -/
def State.sendCopy (s : State) : State :=
  let t := (copyRegs.filter (fun a => !isLock a)).foldl (fun t a => t.sendJournal 0 0 a [s.reg a]) s
  let t := (s.win.filter (fun p => journalled p.1)).foldl (fun t p => t.sendJournal 1 0 p.1 [p.2]) t
  let t := (copyRegs.filter isLock).foldl (fun t a => t.sendJournal 0 0 a [s.reg a]) t
  (List.range 4).foldl (fun t i =>
    if (t.key (16 + i)).st = KS.ACTIVE then t.sendJournal 3 0 (16 + i) (wordsOf (Config.kwWrap (t.keyValue 11) (t.keyValue (16 + i))))
    else t) t

/-- A PAIR frame with its signature (R446): verified, it yields the keys; the active then sends the initial copy. -/
def State.pairSigned (s : State) (own peer : PairFrame) (sig : List Byte) : State :=
  let ok := match Config.chainKey peer.chain with
    | some pk => Config.ecdsaVerify pk (Config.sha384 (s.pairBodies own peer)) sig
    | none => false
  match (if ok then Config.ecdh s.twn.priv peer.pub else none) with
  | some z =>
    let t := s.pairKeys z own peer
    if t.twn.role = .active then t.sendCopy else t
  | none => s

/-- PAIR_RECEIVE (R443, R446). -/
def State.pairReceive (s : State) (p : PairFrame) : State :=
  if p.ver ≠ 1 then
    let t := s.raise TWN.page 7
    if s.twn.role = .pairing then t.enterHunt else t
  else if s.twn.role ≠ .pairing ∧ s.twn.role ≠ .active then s
  else
    match p.sig with
    | none =>
      let t := if s.twn.ownPair.isSome && s.twn.role = .pairing then s else s.sendPairBody
      let t := t.modTwn (fun w => { w with peerPair := some p, keyed := false })
      match t.twn.ownPair with
      | some own =>
        let sig := Config.ecdsaSign Config.idevKey (Config.sha384 (t.pairBodies own p)) (t.random 3 48)
        t.draw.sendTwinOut 1 (fun q => .pairFrame q { own with sig := some sig })
      | none => t
    | some sig =>
      match s.twn.ownPair, s.twn.peerPair with
      | some own, some peer => s.pairSigned own peer sig
      | _, _ => s

/-! ### Takeover (R457, R459, R460) -/

/-- The condition of causes 1 to 4 (R459). Nothing but HB_LOST and REMOVED hands the cabinet to a module in its
confirmation window (R463). -/
def State.causeHolds (s : State) (c : Nat) : Bool :=
  let trial := s.upd.window.isSome
  match c with
  | 1 => s.rbit TWN.CFG 16 && decide (s.fld TWN.CFG 3 0 ≤ s.twn.missed)
  | 2 => s.twn.peerFlags.testBit 0 && !trial
  | 3 => (match s.twn.handover with | some b => decide (b.toNat ≤ s.now.toNat) | none => false) && !trial
  | 4 => !s.pwr.twinPresent
  | _ => false

/-- The decision to take over (R457, R459): CNT raised and stored, B named. -/
def State.decideTakeover (s : State) (c : Nat) (b : Stamp) : State :=
  let cause := if s.twinEligible then c else 5
  match s.raiseClaim with
  | none => s.raise TWN.page 8
  | some t =>
    let t := ((t.modTwn (fun w => { w with decided := some (cause, b) })).raise TWN.page 2).incLo TWN.CNT_A
    t.log 0x292 (fields [(1, cause), (3, 0), (4, s.claim), (4, t.claim), (8, b.toNat), (8, s.twn.heard.toNat)])

/-- The billing set of a new active (R460): the mirror, with the pulse state the last epoch shows, and a pulse the old active
had begun counted as made. -/
def State.takeBilling (s : State) : State :=
  let m := s.mtr
  let on := fun (e : LoopEpoch) (x : Nat) => (Tab.get (fun _ => ({} : MtrPulse)) e.pulses x).on.toNat
  let fix := fun (st : MtrSet) => match s.twn.epoch with
    | some e => { st with pend := e.pend, cnt := [0, 1].foldl (fun t x => setCnt t x ((cntOf t x + on e x) % 2 ^ 32)) e.cnt }
    | none => st
  { s with mtr := { m with billing := fix m.test, pulses := [] } }

/-- A cold takeover (R460): every channel restarts, and a gap of cause 6 runs from the last metering epoch to B. -/
def State.coldStart (s : State) (b : Stamp) : State :=
  let t := (List.range 48).foldl (fun t k => (t.setCh k CH.OFF).modChan k (fun _ => {})) s
  t.gapRecord 0xFF { first := s.twn.meterAt, last := b, ticks := 0, cause := 6, pcycle := s.pwr.pcycle.toNat }

/-- The takeover at B (R460). -/
def State.takeOver (s : State) (c : Nat) (b : Stamp) : State :=
  let e := s.twn.epoch
  let t := match e with
    | some e => if s.twn.load ≠ [] ∧ c ≠ 5 then s.loadRecords e s.twn.load else s
    | none => s
  let t := if c = 5 then t else t.takeBilling
  let t := t.setRole .active
  let t := match e with
    | some e => (List.range 13).foldl (fun (u : State) n =>
        if Tab.get (fun _ => 0) e.links n = LINK.LINKED then
          (u.setFld (STL.BRD_STAT n) 2 0 LINK.LINKED).modBoard n (fun x => { x with ver := Tab.get (fun _ => 0) e.vers n, heard := s.now })
        else u.modBoard n (fun x => { x with limit := u.fld STL.VER_LIMIT 1 0 })) t
    | none => t
  let t := if c = 5 then t.coldStart b else t
  let back := if s.twn.ret = 0 then none else some (stamp (cycleOf b + s.twn.ret) 0)
  (t.setReg64 TWN.LAST_TO_LO TWN.LAST_TO_HI b).modTwn (fun w => { w with
    decided := none, load := [], pulseAt := some (b + 64), handover := back, named := back.isSome, drill := false, ret := 0,
    feedAt := stamp (cycleOf b + 1) 0, missed := 0, whole := 0, returnAt := none, peerRole := if c = 3 then w.peerRole else 0 })

/-! ### Handover and drill (R462) -/

/-- The active enters STANDBY at S. -/
def State.handOver (s : State) (b : Stamp) : State :=
  let w := s.twn
  let back := if w.drill ∧ w.ret ≠ 0 then some (stamp (cycleOf b + w.ret) 0) else none
  let t := s.modTwn (fun w => { w with
    handover := none, named := false, returnAt := back, drill := back.isSome, aligned := some s.now, whole := 0, torn := 0, load := [],
    gap := false, jseqRx := 0, meterSeen := false, inStep := true, missed := 0, heard := s.now })
  let t := t.setRole .standby
  if w.drill ∧ back.isNone then t.raise TWN.page 6 else t

/-- A write of HANDOVER. -/
def handoverEff (v : Word) (s : State) : State × WriteResult :=
  if bits v 31 16 ≠ 0x7A4E then (s, .done)
  else if s.twn.role ≠ .active ∨ !s.peerEligible ∨ s.twn.handover.isSome then (s, .refused)
  else
    let b := nextMult 8 s.now
    ((s.modTwn (fun w => { w with handover := some b, named := true, drill := false, ret := 0 })).sendControl (.handover b 0), .done)

/-- A write of DRILL_AT_HI arms a drill. -/
def drillEff (req : Nat) (v : Word) (s : State) : State × WriteResult :=
  if s.twn.role ≠ .active ∨ !s.peerEligible ∨ s.twn.handover.isSome then (s, .refused)
  else
    let (t, r) := s.loadPair req TWN.DRILL_AT_HI v
    let at_ := t.reg64 TWN.DRILL_AT_LO TWN.DRILL_AT_HI
    let b := if at_.toNat ≤ s.now.toNat then nextMult 8 s.now else roundUp 8 at_
    let n := s.fld TWN.DRILL_CTRL 15 0
    let t := t.modTwn (fun w => { w with handover := some b, named := false, drill := true, ret := n })
    (t.log 0x296 (fields [(8, b.toNat), (8, if n = 0 then 0 else cycleOf b + n)]), r)

/-- A write of DRILL_CTRL: CANCEL withdraws a drill before S is sent. -/
def drillCtrlEff (v : Word) (s : State) : State × WriteResult :=
  let (t, r) := s.store TWN.DRILL_CTRL v
  (if bit v 31 && s.twn.drill && !s.twn.named && s.twn.handover.isSome then
    t.modTwn (fun w => { w with handover := none, drill := false, ret := 0 }) else t, r)

/-- A write of REARM. -/
def rearmEff (v : Word) (s : State) : State × WriteResult :=
  (if bit v 0 && s.twn.role = .suspect then s.enterPairing else s, .done)

/-- A write of TWN.CTRL (R441, R465). -/
def twnCtrlEff (v : Word) (s : State) : State × WriteResult :=
  if bit v 1 then
    if s.twn.role = .solo ∨ s.twn.role = .hunt then
      ((s.resetPageRegs TWN.page).modTwn (fun w => { ({} : Twn) with link := w.link, jseqTx := w.jseqTx }) |>.stlRefresh, .done)
    else (s, .refused)
  else ((s.setReg (regCTRL TWN.page) (word (bits v 0 0))).twinRole, .done)

/-- The effect of a write on the TWN page. -/
def twnEff (req a : Nat) (v : Word) (s : State) : State × WriteResult :=
  if a = regCTRL TWN.page then twnCtrlEff v s
  else if a = TWN.DRILL_AT_LO then (if s.twn.drill ∧ s.twn.handover.isSome then (s, .refused) else s.plainWrite req a v)
  else if a = TWN.DRILL_AT_HI then drillEff req v s
  else if a = TWN.DRILL_CTRL then drillCtrlEff v s
  else if a = TWN.HANDOVER then handoverEff v s
  else if a = TWN.REARM then rearmEff v s
  else s.plainWrite req a v

/-- The computed registers of the TWN page. -/
def State.twnView (s : State) (a : Nat) : Option Word :=
  let w := s.twn
  if a = twnSTAT then
    some (word (w.role.code + s.pwr.slotB.toNat * 16 + s.pwr.twinPresent.toNat * 32 + w.link.toNat * 64 + s.twinEligible.toNat * 128
      + w.ref.toNat * 256 + w.inStep.toNat * 512))
  else if a = TWN.CLAIM then some (word s.claim)
  else none

/-! ### The commands -/

/-- TWIN_ENABLE (R441): a write of CTRL with bit 0. -/
def execTwinEnable (req : Req) (s : State) : Res State := .next (s.busWrite req (regCTRL TWN.page) 1 (twnCtrlEff 1))

/-- HUNT_TIMEOUT (R442). -/
def execHuntTimeout (s : State) : Res State := .next (if s.twn.role = .hunt then s.becomeActive else s)

/-- TWIN_LINK_UP (R441, R443). -/
def execTwinLinkUp (s : State) : Res State :=
  .next (if s.domainUp 9 ∧ s.rbit (regCTRL TWN.page) 0 ∧ s.pwr.twinPresent ∧ !s.twn.link then
      let t := (s.modTwn (fun w => { w with link := true, rxSeq := [], broken := 0 })).raise TWN.page 0
      if s.twn.role = .demoted then t.enterPairing else t
    else s)

/-- TWIN_LINK_DOWN (R441, R456): a standby that will not take over returns to HUNT. -/
def execTwinLinkDown (s : State) : Res State :=
  .next (
    let t := s.modTwn (fun w => { w with link := false, ref := false, alive := w.role = .standby && w.alive })
    let t := if s.paired then t.log 0x291 (fields [(1, 0), (3, 0)]) else t
    let stays := s.twn.role = .standby && s.rbit TWN.CFG 16
    if (s.twn.role = .standby ∨ s.twn.role = .pairing) ∧ !stays then t.enterHunt else t)

/-- HEARTBEAT_DUE (R445, R459): the heartbeat of the tick before last has not arrived. -/
def execHeartbeatDue (s : State) : Res State :=
  .next (if s.twn.alive ∧ s.twn.heard.toNat + 2 < s.now.toNat ∧ s.twn.role ≠ .solo then
      (s.incHi TWN.CNT_B).modTwn (fun w => { w with missed := w.missed + 1 })
    else s)

/-- PAIR_RECEIVE (R446). -/
def execPairReceive (h : TwinHead) (p : PairFrame) (s : State) : Res State :=
  .next (let (t, ok) := s.twinTake 1 h false
    if ok then t.pairReceive p else t)

/-- CONTROL_RECEIVE (R448, R453, R462). -/
def execControlReceive (h : TwinHead) (c : ControlFrame) (s : State) : Res State :=
  .next (let (t, ok) := s.twinTake 1 h false
    if !ok then t
    else match c with
      | .align b => if t.twn.role = .pairing then t.modTwn (fun w => { w with alignAt := some b }) else t
      | .handover b r => if t.twn.role = .standby then t.modTwn (fun w => { w with handover := some b, ret := r }) else t
      | .yarderRequest => if t.twn.role = .active then t.modTwn (fun w => { w with yardAsked := true }) else t
      | .txEntry e => if t.twn.role = .pairing ∨ t.twn.role = .standby ∨ t.twn.role = .suspect then t.txjReceive e else t)

/-- ALIGNMENT_STEP (R448): the RCT state of the named boundary's loop epoch, then one step of `slip` ticks. -/
def execAlignmentStep (slip : BitVec 12) (s : State) : Res State :=
  .next (match s.twn.role, s.twn.alignAt, s.twn.epoch with
    | .pairing, some b, some e =>
      if e.at_ = b ∧ s.twn.aligned.isNone then
        let now := e.at_ + BitVec.ofNat 64 slip.toNat
        let t := { s with now := now }.modRct (fun r => { (r.setClk e.freq) with
          integ := e.integ, fq := e.freq, qual := none, bigCount := e.bigCount,
          convCount := e.convCount, lockCount := e.lockCount, pullCycles := e.pullCycles, runCount := e.runCount, runSum := e.runSum })
        let t := ((t.setReg rctSTAT e.rctStat).setFreq e.freq).setReg RCT.SLIP (word slip.toNat)
        let t := t.modSns (fun r => { r with lastPlay := if r.sincePlay < 4096 then some now else none })
        (t.mapReset.loadEpoch e).modTwn (fun w => { w with aligned := some now, load := [] })
      else s
    | _, _, _ => s)

/-- ACLK_TRIM (R448): the latency measured in ns and the trim that it calls for, in steps of 50 ps; after the alignment the
trim moves by at most one step. -/
def execAclkTrim (lat : BitVec 16) (want : Int) (s : State) : Res State :=
  .next (if s.twn.role = .pairing ∨ s.twn.role = .standby then
      let old := sbits (s.reg TWN.LAT) 31 16
      let aim := clampI (-160) 160 want
      let new := if s.twn.aligned.isNone then aim else clampI (old - 1) (old + 1) aim
      s.setReg TWN.LAT (word (lat.toNat + unsigned 16 new * 65536))
    else s)

/-- REFERENCE_LOSS (R447, R456): the synthesiser holds its last ratio, so nothing changes on the angle clock. -/
def execReferenceLoss (s : State) : Res State :=
  .next (let t := s.modTwn (fun w => { w with ref := false })
    if s.twn.role = .standby ∧ !s.rbit TWN.CFG 16 then t.enterHunt else t)

/-- LOOP_EPOCH_SEND (R448, R452): the active's epoch of the last frame boundary; while the partner pairs, the boundary is
also named for its alignment. -/
def execLoopEpochSend (s : State) : Res State :=
  .next (if s.twn.role = .active ∧ s.twn.link ∧ s.domainUp 9 then
      let b := stamp (cycleOf s.now) (angleOf s.now / 8 * 8)
      let t := s.sendTwinOut 0 (fun q => .loopEpoch q (s.loopEpoch b))
      let t := t.setReg TWN.LEPOCH (shortOf b)
      if s.twn.keyed ∧ s.twn.peerRole = 2 then t.sendControl (.align b) else t
    else s)

/-- LOOP_EPOCH_RECEIVE (R452, R456): an epoch whose segments came complete, or torn. -/
def execLoopEpochReceive (h : TwinHead) (e : LoopEpoch) (complete : Bool) (s : State) : Res State :=
  .next (
    let (t, ok) := s.twinTake 0 h true
    if t.twn.role ≠ .pairing ∧ t.twn.role ≠ .standby ∧ t.twn.role ≠ .suspect then t
    else if ok ∧ complete then t.takeEpoch e
    else
      let u := (t.epochTorn 2 e.at_).modTwn (fun w => { w with whole := 0, torn := w.torn + 1 })
      if 64 ≤ u.twn.torn ∧ u.twn.role = .standby then u.enterHunt else u)

/-- METER_EPOCH_RECEIVE (R453): bytes 0 to 2 047 of the slot the active wrote. -/
def execMeterEpochReceive (h : TwinHead) (slot : List Byte) (s : State) : Res State :=
  .next (
    let (t, ok) := s.twinTake 1 h false
    if !ok ∨ (t.twn.role ≠ .pairing ∧ t.twn.role ≠ .standby) ∨ slot.length ≠ 2048 then t
    else
      let st := setOfSlot slot
      let last : Stamp := BitVec.ofNat 64 (natBE ((slot.drop 8).take 8))
      let add := fun (base test snap : Tab Nat) (n : Nat) => (List.range n).foldl (fun u j =>
        setCnt u j ((cntOf base j + cntOf test j + 2 ^ 128 - cntOf snap j) % 2 ^ 128)) ([] : Tab Nat)
      let test := match t.mtr.snap with
        | some (sn, m) => if m = last then
            { st with acc := add st.acc t.mtr.test.acc sn.acc 106, pacc := add st.pacc t.mtr.test.pacc sn.pacc 2 } else t.mtr.test
        | none => st
      let t := { t with mtr := { t.mtr with billing := st, test := test, due := some { set := st, last := last } } }
      (t.modTwn (fun w => { w with
        meterSeen := true, mseq := natBE ((slot.drop 4).take 4), meterAt := last })).pairDone)

/-- YARDER_EPOCH_SEND (R453): at C:0 the active's epoch, or a copy of its whole Yarder state that was asked for. -/
def execYarderEpochSend (s : State) : Res State :=
  .next (if s.twn.role = .active ∧ s.twn.link ∧ s.domainUp 9 ∧ angleOf s.now = 0 then
      let t := s.sendTwinOut 1 (fun q => .yarderEpoch q (cycleOf s.now) s.yrd.newEvents s.yrd.newReports)
      let t := t.modYrd (fun y => { y with newEvents := [], newReports := [] })
      if s.twn.yardAsked then (t.sendTwinOut 1 (fun q => .yarderState q t.yrd t.sch)).modTwn (fun w => { w with yardAsked := false })
      else t
    else s)

/-- YARDER_EPOCH_RECEIVE (R453): the epoch of pass C, complete or not. -/
def execYarderEpochReceive (h : TwinHead) (c : Nat) (events : List LampEvent) (reports : List MacReport) (complete : Bool) (s : State) :
    Res State :=
  .next (
    let (t, ok) := s.twinTake 1 h false
    if t.twn.role ≠ .pairing ∧ t.twn.role ≠ .standby then t
    else if ok ∧ complete then
      let t := t.modYrd (fun y => { y with events := y.events ++ events, reports := y.reports ++ reports })
      let t := if t.twn.inStep then t.yarderPass c else t
      let ask := !t.twn.inStep && !t.twn.yardSeen
      let t := t.modTwn (fun w => { w with yardSeen := true })
      (if ask then t.sendControl .yarderRequest else t).pairDone
    else
      (t.modTwn (fun w => { w with inStep := false })).sendControl .yarderRequest)

/-- YARDER_RESYNC (R453): a full copy of the active's Yarder and schedule state. -/
def execYarderResync (h : TwinHead) (y : Yrd) (c : Sch) (s : State) : Res State :=
  .next (
    let (t, ok) := s.twinTake 1 h false
    if ok ∧ (t.twn.role = .pairing ∨ t.twn.role = .standby) then
      { t with yrd := y, sch := c }.modTwn (fun w => { w with inStep := true })
    else t)

/-- SWITCH_FRAME_RECEIVE (R443). -/
def execSwitchFrameReceive (h : TwinHead) (b : List Byte) (s : State) : Res State :=
  .next (let (t, ok) := s.twinTake 1 h false
    if ok then t.fromTwin b else t)

/-- TAKEOVER_DECISION (R459): for a cause of 1 to 4 whose condition holds. -/
def execTakeoverDecision (c : Fin 5) (s : State) : Res State :=
  .next (if (s.twn.role = .solo ∨ s.twn.role = .active) ∨ !s.causeHolds c ∨ s.twn.decided.isSome then s
    else s.decideTakeover c (if c.val = 3 then (s.twn.handover.getD s.now) else nextMult 8 s.now))

/-- TAKEOVER (R460): boundary B. -/
def execTakeover (s : State) : Res State :=
  .next (match s.twn.decided with
    | some (c, b) => if b.toNat ≤ s.now.toNat then s.takeOver c b else s
    | none => s)

/-- PULSE_RESUME (R460): B + 64. -/
def execPulseResume (s : State) : Res State :=
  .next (match s.twn.pulseAt with
    | some b => if b.toNat ≤ s.now.toNat then s.modTwn (fun w => { w with pulseAt := none }) else s
    | none => s)

/-- LINK_LOST was raised for two boards within 32 ticks, the last 32 (R461). -/
def State.twoLost (s : State) : Bool :=
  s.stl.lostAt.any (fun p => s.stl.lostAt.any (fun q => p.1 ≠ q.1 && decide (s.now.toNat < p.2.toNat + 32) && decide (s.now.toNat < q.2.toNat + 32)))

/-- DEMOTE (R461). -/
def execDemote (s : State) : Res State :=
  let out := (List.range 13).any (fun n => s.rbit (STL.BRD_STAT n) 14)
  .next (if s.twn.role = .active ∧ !s.twn.link ∧ s.pwr.twinPresent ∧ (out ∨ s.twoLost) then
      let lost := bitsOf ((List.range 13).filter (fun n => s.linkState n ≠ LINK.LINKED && s.pwr.boards.testBit n))
      let seen := (List.range 13).foldl (fun m n => max m (s.reg (STL.CLAIM_SEEN n)).toNat) 0
      let t := (s.raise TWN.page 3).log 0x293 (fields [(2, lost), (2, 0), (4, seen)])
      t.setRole .demoted
    else s)

/-- HANDOVER (R462): a write of HANDOVER with a key. -/
def execHandover (req : Req) (key : BitVec 16) (s : State) : Res State :=
  let v := word (key.toNat * 65536)
  .next (s.busWrite req TWN.HANDOVER v (handoverEff v))

/-- DRILL_ARM (R462): a write of DRILL_AT_HI. -/
def execDrillArm (req : Req) (hi : Word) (s : State) : Res State :=
  .next (s.busWrite req TWN.DRILL_AT_HI hi (drillEff req hi))

/-- DRILL_CANCEL (R465): a write of DRILL_CTRL with CANCEL; its other bits are RETURN. -/
def execDrillCancel (req : Req) (ret : BitVec 16) (s : State) : Res State :=
  let v := word (ret.toNat + 2 ^ 31)
  .next (s.busWrite req TWN.DRILL_CTRL v (drillCtrlEff v))

/-- HANDOVER_EXECUTE (R462): S. -/
def execHandoverExecute (s : State) : Res State :=
  .next (match s.twn.handover with
    | some b => if s.twn.role = .active ∧ s.twn.named ∧ b.toNat ≤ s.now.toNat then s.handOver b else s
    | none => s)

/-- DRILL_RETURN (R462): the drill hands back at the boundary of its return. -/
def execDrillReturn (s : State) : Res State :=
  .next (match s.twn.returnAt with
    | some b =>
      if s.twn.role = .standby ∧ b.toNat ≤ s.now.toNat then
        ((s.modTwn (fun w => { w with returnAt := none, drill := false, ret := 0 })).decideTakeover 3 b).raise TWN.page 6
      else s
    | none => s)

/-- TWIN_REARM (R465). -/
def execTwinRearm (req : Req) (s : State) : Res State := .next (s.busWrite req TWN.REARM 1 (rearmEff 1))

end Sys2Proof.Machine
end

