-- ==== Sys2Proof/Machine/Power.lean ====
section
/-!
DEFINITION. Power, presence and housekeeping (spec/02, spec/23): start and warm start, input loss and hold, domain
faults, the PWR and HKP pages, boards and relays.
-/

namespace Sys2Proof.Machine

/-! ### Start (R54, R482) -/

/-- POWER_ON (R482): PD1 powered; `bad` names the metering commit slots an uncorrectable error touches (R199). -/
def execPowerOn (bad : BitVec 16) (s : State) : Res State :=
  .next (if s.domainUp 1 then s
    else
      let t := s.modPwr (fun p => { p with up := 3, vinOk := true, warm := false, mramProtect := false, pcycle := p.pcycle + 1 })
      let t := (t.keepRegs heldByPd0).setReg SYS.RST_CAUSE 1
      ((((t.recoverLog false).restoreMetering (setBits 16 bad.toNat)).timPowerUp).txjPowerUp))

/-- The domain that must be up before an automatic domain starts (R54). -/
def autoAfter (d : Nat) : Option Nat := match d with | 2 => some 1 | 5 => some 2 | 3 => some 5 | 10 => some 3 | _ => none

/-- A write made while PD4 was off, taking effect now that it is up (R72). -/
def State.runDeferred (s : State) : Deferred → State
  | .setPoint k n st => s.armSetPoint k n st
  | .busSetPoint n st => s.armBusSetPoint n st
  | .level k n st => s.armLevel k n st
  | .engine e st => s.armEngine e st
  | .commit table => s.commitReq table
  | .check withTable => s.askCheck withTable
  | .rearm mask => s.askRearm mask

/-- A domain that firmware may turn on comes up (R55, R72): its block starts, then the writes made while it was off take
effect as though they were made now. -/
def State.domainStart (s : State) (d : Nat) : State :=
  let t := s.domainOn d
  if d = 4 then s.pwr.deferred.foldl State.runDeferred (t.modPwr (fun p => { p with deferred := [] })) else t

/-- DOMAIN_POWER_GOOD (R54, R56, R482): an automatic domain reports power-good in its order, unless a fault keeps it off;
`bad` names an algorithm whose self-test fails in Heartwood (R418). -/
def execDomainPowerGood (d : Fin 12) (bad : Option (BitVec 8)) (s : State) : Res State :=
  .next (match autoAfter d with
    | none => s
    | some b =>
      if s.domainUp d ∨ !s.domainUp b ∨ s.pwr.pf ∨ s.rbit PWR.DOM_FAULT d ∨ !s.rbit PWR.DOM_EN d then s
      else
        let t := s.domainOn d
        if d.val = 2 then t.kvtPowerUp (bad.map (·.toNat)) else t)

/-- PD3_RELEASE (R45, R482): SLOT_ID sampled, `open_` for slot B; hart 0 runs the ROM. -/
def execPd3Release (open_ : Bool) (s : State) : Res State :=
  .next (if s.domainUp 3 ∧ !s.pwr.pd3Released ∧ s.kvt.state ≠ 0 then
      ((s.modPwr (fun p => { p with pd3Released := true, slotB := open_ })).romBoot).wdogRestart
    else s)

/-! ### Input loss, hold and return (R57 to R60) -/

/-- INPUT_LOSS (R57, R58, R391, R393): declared 200 µs after VIN24 crossed the threshold, with the voltage measured. The power-fail
record and the summaries of what was suppressed go ahead of the records that wait. -/
def execInputLoss (mv : BitVec 16) (s : State) : Res State :=
  .next (
    let t := (s.modPwr (fun p => { p with vinOk := false })).setReg PWR.VIN_MV (word mv.toNat)
    if !s.domainUp 1 ∨ s.pwr.pf ∨ !s.pwr.vinOk then t
    else
      let t := t.modPwr (fun p => { p with pf := true, shed := false, finalDone := false, holdReady := false, testRunning := false })
      let t := (t.raise PWR.page 0).incLo PWR.PF_CNT
      let t := t.setReg64 PWR.LAST_PF_LO PWR.LAST_PF_HI s.now
      let old := t.evr.queue
      let t := (t.modEvr (fun e => { e with queue := [] })).log 0x010 (fields [(2, mv.toNat), (2, t.fld PWR.HOLD_EST 15 0)])
      (t.reportSuppressed.modEvr (fun e => { e with queue := e.queue ++ old })).ctlWrite.finalCommit)

/-- LOAD_SHED (R58). -/
def execLoadShed (s : State) : Res State :=
  .next (if s.pwr.pf ∧ !s.pwr.shed then s.removeLoad.modPwr (fun p => { p with shed := true }) else s)

/-- FINAL_COMMIT_DONE (R200): the final commit, and before it a periodic commit still in progress, stand in MRAM. -/
def execFinalCommitDone (s : State) : Res State :=
  .next (if s.pwr.pf then ((s.finishCommit true).finishCommit true).modPwr (fun p => { p with finalDone := true }) else s)

/-- HOLD_END (R59): write protect, then PD1 and PD2 removed. -/
def execHoldEnd (s : State) : Res State :=
  .next (if s.pwr.pf then s.powerLost.modPwr (fun p => { p with mramProtect := true }) else s)

/-- VIN_RETURN (R60): VIN24 above the power-fail threshold again. -/
def execVinReturn (mv : BitVec 16) (s : State) : Res State :=
  .next (if s.domainUp 1 ∧ !s.pwr.vinOk then
      ((s.modPwr (fun p => { p with vinOk := true })).setReg PWR.VIN_MV (word mv.toNat)).raise PWR.page 1
    else s)

/-- WARM_START (R60, R487): every step of R58 that is due, then the automatic start from PD5. -/
def execWarmStart (s : State) : Res State :=
  .next (if s.domainUp 1 ∧ s.pwr.pf ∧ s.pwr.vinOk then
      (if s.pwr.shed then s else s.removeLoad).warmStart 1
    else s)

/-! ### Domain faults (R56) -/

/-- DOMAIN_FAULT (R56): PD4, PD6 to PD11. -/
def execDomainFault (d : Fin 12) (s : State) : Res State :=
  .next (if s.domainUp d ∧ (d.val = 4 ∨ 6 ≤ d.val) then
      let t := s.domainOff d
      let t := (t.setRbit PWR.DOM_EN d false).setRbit PWR.DOM_FAULT d true
      ((t.raise PWR.page 4).log 0x011 (fields [(1, d.val), (3, 0)])).axeRefresh
    else s)

/-- CORE_DOMAIN_FAULT (R56): PD5 (`pd5`), whose lanes leave DATA (R153), or PD3 loses power-good; a warm start without input loss, which leaves PF_CNT and
LAST_PF as they are. -/
def execCoreDomainFault (pd5 : Bool) (s : State) : Res State :=
  let d := if pd5 then 5 else 3
  .next (if s.domainUp d ∧ !s.pwr.pf then
      let resume := match s.mtr.labels[33]? with
        | some m => some (m.at_, s.pwr.pcycle.toNat)
        | none => s.mtr.resume
      let t := s.log 0x011 (fields [(1, d), (3, 0)])
      let lost := (List.range 13).filter (fun n => s.laneState n = LANE.DATA)
      let t := if pd5 && s.domainUp 4 then lost.foldl State.laneTrip t else t
      let t := ((t.removeLoad.modMtr (fun m => { m with resume := resume })).warmStart 7).setReg PWR.PF_CNT (s.reg PWR.PF_CNT)
      t.setReg64 PWR.LAST_PF_LO PWR.LAST_PF_HI (s.reg64 PWR.LAST_PF_LO PWR.LAST_PF_HI)
    else s)

/-- ESSENTIAL_DOMAIN_FAULT (R56): PD1 or PD2 loses power-good. -/
def execEssentialDomainFault (s : State) : Res State :=
  .next (if s.domainUp 1 ∨ s.domainUp 2 then s.powerLost else s)

/-! ### The PWR page (R55, R61, R64) -/

/-- A block of domain `d` has a writable CTRL bit 0 that is set (R55). -/
def State.blockEnabled (s : State) (d : Nat) : Bool :=
  (List.range 0x2E).any (fun p => domainOf p = d && regReset (regCTRL p) = 0 && s.rbit (regCTRL p) 0)

/-- A write of DOM_EN that R55 refuses. -/
def State.domEnRefused (s : State) (v : Nat) : Bool :=
  let old := s.fld PWR.DOM_EN 11 0
  let clears := fun (d : Nat) => old.testBit d && !v.testBit d
  [0, 1, 2, 3, 5].any clears || [4, 6, 7, 9].any (fun d => clears d && s.blockEnabled d)
  || (clears 4 && s.fld AXE.RUN_EN 12 0 ≠ 0) || (!old.testBit 4 && v.testBit 4 && !s.pwr.holdReady)

/-- A write of DOM_EN (R55, R56): firmware domains go on and off; a faulted one stays off. -/
def domEnEff (v : Word) (s : State) : State × WriteResult :=
  if s.domEnRefused (bits v 11 0) then (s, .refused)
  else
    let t := s.setReg PWR.DOM_EN (word (bits v 11 0))
    ([4, 6, 7, 8, 9, 10, 11].foldl (fun t d =>
      if !bit v d then (if t.domainUp d then t.domainOff d else t)
      else if t.rbit PWR.DOM_FAULT d then t else t.domainStart d) t |>.axeRefresh.twinRole, .done)

/-- A write of PWR.CTRL: bit 1 clears PF_CNT and DOM_FAULT (R64). -/
def pwrCtrlEff (v : Word) (s : State) : State × WriteResult :=
  (if bit v 1 then (s.setReg PWR.PF_CNT 0).setReg PWR.DOM_FAULT 0 else s, .done)

/-- A write of BANK_TEST: GO asks for a test (R61). -/
def bankTestEff (v : Word) (s : State) : State × WriteResult :=
  let (t, r) := s.store PWR.BANK_TEST v
  (if bit v 0 then t.modPwr (fun p => { p with testAsked := true }) else t, r)

/-- The effect of a write on the PWR page. -/
def pwrEff (req a : Nat) (v : Word) (s : State) : State × WriteResult :=
  if a = regCTRL PWR.page then pwrCtrlEff v s
  else if a = PWR.DOM_EN then domEnEff v s
  else if a = PWR.BANK_TEST then bankTestEff v s
  else s.plainWrite req a v

/-- The computed registers of the PWR page. -/
def State.pwrView (s : State) (a : Nat) : Option Word :=
  let p := s.pwr
  if a = regSTAT PWR.page then
    some (word (p.vinOk.toNat + p.pf.toNat * 2 + p.holdReady.toNat * 4 + p.holdLow.toNat * 8 + p.cellLow.toNat * 16
      + p.vinOv.toNat * 32 + p.tempHigh.toNat * 64 + p.warm.toNat * 128))
  else if a = PWR.DOM_PG then some (word p.up)
  else if a = PWR.BANK_MJ then some (word (p.bankMj.getD 6000))
  else if a = PWR.PCYCLE_CNT then some p.pcycle
  else none

/-- DOM_EN_WRITE (R55). -/
def execDomEnWrite (req : Req) (v : Word) (s : State) : Res State := .next (s.busWrite req PWR.DOM_EN v (domEnEff v))

/-- PWR_CLEAR_COUNTS (R64). -/
def execPwrClearCounts (req : Req) (s : State) : Res State :=
  .next (s.busWrite req (regCTRL PWR.page) 2 (pwrCtrlEff 2))

/-- BANK_TEST_GO (R61): a write of BANK_TEST with GO. -/
def execBankTestGo (req : Req) (v : Word) (s : State) : Res State :=
  let w := putBit v 0 true
  .next (s.busWrite req PWR.BANK_TEST w (bankTestEff w))

/-- BANK_TEST_START (R61): at the interval, or for GO, only with the bank fully charged. -/
def execBankTestStart (s : State) : Res State :=
  .next (if s.domainUp 1 ∧ !s.pwr.pf ∧ !s.pwr.testRunning ∧ 24500 ≤ s.fld PWR.BANK_MV 15 0 then
      s.modPwr (fun p => { p with testRunning := true, testAsked := false })
    else s)

/-- The result of a bank test: the usable energy, and HOLD_LOW with its interrupt (R61). -/
def State.testResult (s : State) (mj : Nat) (low : Bool) : State :=
  let t := s.modPwr (fun p => { p with testRunning := false, bankMj := some mj, holdLow := low })
  if low then t.raise PWR.page 2 else t

/-- BANK_TEST_DONE (R61): the usable energy the test derived, in mJ; below 3 s at 1.8 W sets HOLD_LOW. -/
def execBankTestDone (mj : BitVec 16) (s : State) : Res State :=
  .next (if s.pwr.testRunning then
      s.testResult mj.toNat (decide (mj.toNat < 5400))
    else s)

/-- The hold in ms at 1.8 W of a bank of `mj` at full charge, from a voltage in mV down to 8.0 V (R61). -/
def holdEst (mj mv : Nat) : Nat := min 65535 (mj * (mv * mv - 64000000) * 10 / (561000000 * 18))

/-- The measurements and the estimate stored, and HOLD_READY from it (R61). -/
def State.holdUpdate (s : State) (bankMv vinMv : BitVec 16) (est : Nat) : State :=
  let t := (s.setReg PWR.BANK_MV (word bankMv.toNat)).setReg PWR.VIN_MV (word vinMv.toNat)
  (t.setReg PWR.HOLD_EST (word est)).modPwr (fun p => { p with holdReady := decide (3000 ≤ est) && !p.pf })

/-- HOLD_EST_UPDATE (R61): every 1 ms, with the voltages measured. -/
def execHoldEstUpdate (bankMv vinMv : BitVec 16) (s : State) : Res State :=
  .next (if s.domainUp 1 then
      s.holdUpdate bankMv vinMv (holdEst (s.pwr.bankMj.getD 6000) bankMv.toNat)
    else s)

/-- VIN_OV (R53): VIN24 crosses the over-voltage flag, up (`over`) or down. -/
def execVinOv (above : Bool) (mv : BitVec 16) (s : State) : Res State :=
  .next (if s.domainUp 1 then
      let t := (s.modPwr (fun p => { p with vinOv := above })).setReg PWR.VIN_MV (word mv.toNat)
      if above && !s.pwr.vinOv then t.raise PWR.page 5 else t
    else s)

/-- TEMP_HIGH (R64): the two temperatures measured, in 1/16 °C, the hottest point against TEMP_LIM. -/
def execTempHigh (edge hot : BitVec 16) (s : State) : Res State :=
  .next (if s.domainUp 1 then
      let high := decide ((16 * s.fld PWR.TEMP_LIM 7 0 : Nat) < signed 16 hot.toNat)
      let t := (s.modPwr (fun p => { p with tempHigh := high })).setReg PWR.TEMP (word (edge.toNat + hot.toNat * 65536))
      if high && !s.pwr.tempHigh then t.raise PWR.page 6 else t
    else s)

/-- CELL_LOW (R62): the cell's voltage under load, in mV. -/
def execCellLow (mv : BitVec 12) (s : State) : Res State :=
  .next (if s.domainUp 1 then
      let low := decide (mv.toNat < 2500)
      let t := (s.modPwr (fun p => { p with cellLow := low })).setReg PWR.CELL_MV (word mv.toNat)
      if low && !s.pwr.cellLow then t.raise PWR.page 3 else t
    else s)

/-! ### Boards, partner, housekeeping (R41, R45, R48, R49, R65) -/

/-- BOARD_PRESENT (R41). -/
def execBoardPresent (n : Fin 13) (s : State) : Res State :=
  .next (((s.modPwr (fun p => { p with boards := bitsOf (n.val :: setBits 13 p.boards) })).refreshLane n).stlRefresh)

/-- BOARD_ABSENT (R41, R88, R154, R173): the lane off, the link ABSENT, PINn disarmed and its open pair reading TRIP. -/
def execBoardAbsent (n : Fin 13) (s : State) : Res State :=
  .next (let t := s.modPwr (fun p => { p with boards := bitsOf ((setBits 13 p.boards).filter (· ≠ n.val)) })
    ((((t.refreshLane n).stlRefresh).setRbit AXE.PIN_ARMED n false).setRbit AXE.PIN_STATE n true).axeRefresh)

/-- TWIN_PRESENT_CHANGE (R45). -/
def execTwinPresentChange (present : Bool) (s : State) : Res State :=
  .next (let t := (s.modPwr (fun p => { p with twinPresent := present })).twinRole
    if s.paired && !present then t.log 0x291 (fields [(1, 1), (3, 0)]) else t)

/-- HK_INPUT_CHANGE (R48, R65): input `n`, after INVERT, has held a new level for DEBOUNCE samples. -/
def execHkInputChange (n : Fin 8) (on : Bool) (s : State) : Res State :=
  .next (if s.domainUp 11 ∧ s.rbit HKP.IN_STATE n ≠ on then
      let cfg := s.reg (HKP.IN_CFG n)
      let raw := if on != bit cfg 8 then bitsOf (n.val :: setBits 8 s.pwr.hkRaw) else bitsOf ((setBits 8 s.pwr.hkRaw).filter (· ≠ n.val))
      let t := (s.setRbit HKP.IN_STATE n on).modPwr (fun p => { p with hkRaw := raw })
      let t := (t.incLo (HKP.IN_CNT n)).raise HKP.page n
      if bit cfg 9 then t.log 0x2B0 (fields [(1, n.val), (1, bits cfg 14 12), (1, on.toNat), (1, 0)]) else t
    else s)

/-- A write of RLY_CTRL (R49, R65). -/
def rlyCtrlEff (v : Word) (s : State) : State × WriteResult :=
  let (t, r) := s.store HKP.RLY_CTRL v
  (if s.domainUp 11 && s.driving then t.countRelays (s.fld HKP.RLY_CTRL 3 0) (t.fld HKP.RLY_CTRL 3 0) else t, r)

/-- A write of HKP.CTRL: the soft reset releases the relays (R79). DESIGN CHOICE (log entry 86), unsafe: bit 0 is stored, and
inputs and relays work whatever it is. -/
def hkpCtrlEff (v : Word) (s : State) : State × WriteResult :=
  if bit v 1 then (s.resetPageRegs HKP.page, .done) else (s.setReg (regCTRL HKP.page) (word (bits v 0 0)), .done)

/-- The effect of a write on the HKP page. -/
def hkpEff (req a : Nat) (v : Word) (s : State) : State × WriteResult :=
  if a = regCTRL HKP.page then hkpCtrlEff v s
  else if a = HKP.RLY_CTRL then rlyCtrlEff v s
  else s.plainWrite req a v

/-- The computed registers of the HKP page. -/
def State.hkpView (s : State) (a : Nat) : Option Word :=
  if a = HKP.IN_RAW then some (word s.pwr.hkRaw)
  else if a = HKP.RLY_STATE then some (if s.domainUp 11 && s.driving then word (s.fld HKP.RLY_CTRL 3 0) else 0)
  else if HKP.RLY_CNT 0 ≤ a ∧ a ≤ HKP.RLY_CNT 3 then some (Tab.get (fun _ => 0) s.pwr.rlyCnt ((a - HKP.RLY_CNT 0) / 4))
  else none

/-- RELAY_CTRL_WRITE (R49, R65). -/
def execRelayCtrlWrite (req : Req) (v : Word) (s : State) : Res State := .next (s.busWrite req HKP.RLY_CTRL v (rlyCtrlEff v))

/-! ### Front-panel LEDs (R52) -/

/-- What a LED shows. -/
inductive Led where
  | off | green | amber | red | flashGreen
  deriving DecidableEq, Repr

/-- PWR, RUN, MAINS, TWIN, FAULT, and the two pulse LEDs of R47; the two link LEDs. DESIGN CHOICE (log entry
87), unsafe: TWIN is off with a partner in the roles R52 does not name, and RUN is amber while the module stays in the ROM. -/
def State.ledPwr (s : State) : Led := if s.pwr.pf then .flashGreen else if s.pwr.vinOk then .green else .off
def State.ledRun (s : State) : Led :=
  if !s.pwr.pd3Released then .off else if s.upd.recovery then .amber else if s.upd.window.isSome then .flashGreen else .green
def State.ledMains (s : State) : Led :=
  if s.rctState = RCT.IDLE then .off
  else if s.rctState = RCT.LOCKED ∧ s.rbit rctSTAT 16 then .green
  else if s.rctState = RCT.ACQUIRE ∨ s.rctState = RCT.PULLIN ∨ s.rctState = RCT.LOCKED then .flashGreen
  else .amber
def State.ledTwin (s : State) : Led :=
  if !s.pwr.twinPresent then .off
  else match s.twn.role with | .active => .green | .standby => .amber | _ => .off
/-- PULSE_AC (`x` = 0) and PULSE_DC (1) light while their outputs are on. -/
def State.ledPulse (s : State) (x : Nat) : Led := if (Tab.get (fun _ => ({} : MtrPulse)) s.mtr.pulses x).on then .red else .off
/-- U0 LINK and U1 LINK: green at 25 Gbit/s, amber at 10 Gbit/s. -/
def State.ledLink (s : State) (u : Nat) : Led :=
  if s.fld (UPL.P_STAT u) 1 0 = 1 then .green else if s.fld (UPL.P_STAT u) 1 0 = 2 then .amber else .off
def State.ledFault (s : State) : Led := if s.latched ≠ [] ∨ s.reg PWR.DOM_FAULT ≠ 0 then .red else .off

end Sys2Proof.Machine
end

