-- ==== Sys2Proof/Machine/Update.lean ====
section
/-!
DEFINITION. The update engine: sessions, transfers, verification, activation, trial and confirmation (spec/20, R431 to R438).
-/

namespace Sys2Proof.Machine

/-- Session states (UPD.STAT). -/
def US.IDLE : Nat := 0
def US.OPEN : Nat := 1
def US.VERIFYING : Nat := 2
def US.STAGED : Nat := 3
def US.ACTIVATING : Nat := 4
def US.ACTIVATED : Nat := 5

/-- The engine is at work. -/
def State.updBusy (s : State) : Bool := s.upd.op.isSome

/-- The state with a result code. -/
def State.updResult (s : State) (code : Nat) : State := s.setReg UPD.RESULT (word code)

/-- A refused command (R431, R437). -/
def State.updRefuse (s : State) (cmd code req : Nat) : State × WriteResult :=
  let t := (s.updResult code).raise UPD.page 4
  (t.draw.log 0x281 (fields [(1, Config.updCommand cmd), (1, code), (1, req), (1, 0)]), .refused)

/-- The owner's last XFER or command (R431). -/
def State.updTouch (s : State) (req : Nat) : State :=
  if s.upd.owner = req then s.modUpd (fun u => { u with lastAct := s.tb0s }) else s

/-- The session ended with UPD_ABORT: cause 0 ABORT, 1 CLOSE, 2 timeout, 3 failed check. -/
def State.updEnd (s : State) (cause code : Nat) : State :=
  (s.modUpd (fun u => { u with sess := US.IDLE, op := none })).log 0x287 (fields [(1, s.upd.sess), (1, cause), (1, code), (1, 0)])

/-! ### Commands (R431) -/

/-- OPEN. -/
def State.updOpen (s : State) (req src : Nat) : State × WriteResult :=
  if s.upd.sess ≠ US.IDLE then s.updRefuse 6 UR.BUSY req
  else if s.bootRec.trial ≠ 0 then s.updRefuse 6 UR.TRIAL req
  else if 2 < src then s.updRefuse 6 UR.STATE req
  else
    let t := (s.writeRec { s.bootRec with landing := 0 }).eraseMem stagingBase stagingSize
    let t := t.modUpd (fun u => { u with sess := US.OPEN, owner := req, src := src, land := 0, lastAct := s.tb0s })
    ((t.updResult UR.OK).log 0x280 (fields [(1, src), (1, req), (2, 0)]), .done)

/-- CLOSE and ABORT. -/
def State.updClose (s : State) (req : Nat) (abort : Bool) : State × WriteResult :=
  if s.upd.sess = US.VERIFYING ∨ s.upd.sess = US.ACTIVATING then s.updRefuse (if abort then 8 else 7) UR.STATE req
  else if s.upd.sess = US.IDLE then (s.updResult UR.OK, .done)
  else ((s.updEnd (if abort then 0 else 1) UR.OK).updResult UR.OK, .done)

/-- A write of SESSION. -/
def sessionEff (req : Nat) (v : Word) (s : State) : State × WriteResult :=
  let s := s.updTouch req
  if bit v 4 then s.updOpen req (bits v 1 0)
  else if bit v 5 then s.updClose req false
  else if bit v 6 then s.updClose req true
  else (s, .done)

/-- The largest image the staging area takes (R424, R431): by KIND, which is known once byte 6 of the header is in the staging
area or among the first bytes `head` of the transfer. -/
def State.updLimit (s : State) (head : List Byte) : Nat :=
  let kind := if 6 < s.upd.land then s.imgKind stagingBase else (head.getD (6 - s.upd.land) 0).toNat
  if kind = 1 then stagingSize else 0x100000

/-- The bytes a transfer takes from DRAM or the page buffer; words of the buffer most significant byte first (R8). -/
def State.xferBytes (s : State) (n : Nat) (buf : Bool) (src : Nat) : List Byte :=
  if buf then ((List.range (n / 4)).flatMap (fun j => bytesBE 4 (s.reg (UPD.BUF j)).toNat)) else s.bytes src n

/-- A write of XFER_CTRL: LEN clamped; GO starts a transfer. -/
def xferEff (req : Nat) (v : Word) (s : State) : State × WriteResult :=
  let buf := bit v 30
  let n := clampN 4 (if buf then 2048 else 4194304) (bits v 22 0) / 4 * 4
  let t := (s.setReg UPD.XFER_CTRL (word (n + buf.toNat * 2 ^ 30))).updTouch req
  let c := WriteResult.ofClamp (n ≠ bits v 22 0)
  if !bit v 31 then (t, c)
  else
    let off := s.fld UPD.XFER_OFF 26 0
    let src := (s.reg64 UPD.XFER_SRC_LO UPD.XFER_SRC_HI).toNat
    if s.updBusy then t.updRefuse 9 UR.BUSY req
    else if req ≠ s.upd.owner then t.updRefuse 9 UR.NOT_OWNER req
    else if s.upd.sess ≠ US.OPEN then t.updRefuse 9 UR.STATE req
    else if off ≠ s.upd.land then t.updRefuse 9 UR.SEQUENCE req
    else if s.updLimit (s.xferBytes (min n 8) buf src) < s.upd.land + n ∨ (!buf && !inDram src n) then t.updRefuse 9 UR.LENGTH req
    else ((t.modUpd (fun u => { u with op := some (.xfer off n buf src) })).setReg UPD.PROGRESS 0, c)

/-- VERIFY. -/
def State.updVerify (s : State) (req : Nat) : State × WriteResult :=
  if req ≠ s.upd.owner then s.updRefuse 1 UR.NOT_OWNER req
  else if s.upd.sess ≠ US.OPEN ∨ s.upd.land ≠ 0x4000 + s.imgLen stagingBase then s.updRefuse 1 UR.STATE req
  else if s.updBusy then s.updRefuse 1 UR.BUSY req
  else ((s.modUpd (fun u => { u with sess := US.VERIFYING, op := some .verify })).setReg UPD.PROGRESS 0, .done)

/-- The partner is paired with an active module, which withholds activation (R463). -/
def State.twinWithholds (s : State) : Bool := s.twn.role = .active && s.paired

/-- The bank or slot an activation copies to, and its base and size (R431). -/
def State.actTarget (s : State) : Nat := if s.imgKind stagingBase = 1 then 1 - s.bootRec.active else 1 - s.bootRec.mpSlot
def State.actBase (s : State) : Nat := if s.imgKind stagingBase = 1 then bankBase s.actTarget else mpBase s.actTarget
def State.actSize (s : State) : Nat := if s.imgKind stagingBase = 1 then 0x8000000 else 0x100000

/-- The target erased before the copy, unless the staging area fails its second check (R431, R436). -/
def State.actErase (s : State) (idle : Bool) : State :=
  if !idle ∨ s.imageCheck stagingBase = UR.OK then s.eraseMem s.actBase s.actSize else s

/-- ACTIVATE. -/
def State.updActivate (s : State) (req : Nat) : State × WriteResult :=
  let u := s.upd
  if u.sess = US.STAGED ∧ req ≠ u.owner then s.updRefuse 2 UR.NOT_OWNER req
  else if u.sess ≠ US.STAGED ∧ ¬(u.sess = US.IDLE ∧ s.bootRec.landing ≠ 0) then s.updRefuse 2 UR.STATE req
  else if s.bootRec.trial ≠ 0 then s.updRefuse 2 UR.TRIAL req
  else if s.twinWithholds then s.updRefuse 2 UR.TWIN req
  else if s.imgKind stagingBase = 1 ∧ s.imgSchema stagingBase < s.imgSchema (bankBase s.bootRec.active) then s.updRefuse 2 UR.SCHEMA req
  else (((s.actErase (u.sess = US.IDLE)).modUpd (fun x => { x with
      sess := US.ACTIVATING, owner := req, op := some (.activate (u.sess = US.IDLE)) })).setReg UPD.PROGRESS 0, .done)

/-! ### Confirmation and fall-back (R433 to R435) -/

/-- CONFIRM. -/
def State.updConfirm (s : State) (req : Nat) (key : Nat) : State × WriteResult :=
  let r := s.bootRec
  let ok := (r.trial = 1 && s.upd.migDone) || (r.trial = 2 && s.rbit (regSTAT MTR.page) 1)
  if key ≠ 0xC0F1 then s.updRefuse 3 UR.KEY req
  else if !ok then s.updRefuse 3 UR.STATE req
  else
    let kind := r.trial
    let r' := { r with trial := 0, boots := 0, active := r.trialBank,
                       mpSlot := if kind = 2 then 1 - r.mpSlot else r.mpSlot }.setFallback false
    let base := if kind = 1 then bankBase r'.active else mpBase r'.mpSlot
    let ver := if kind = 1 then (if r'.active = 0 then r'.verA else r'.verB) else (if r'.mpSlot = 0 then r'.mpVer0 else r'.mpVer1)
    let t := (s.writeRec r').blow kind (s.imgSvn base)
    let t := ((t.modUpd (fun u => { u with window := none, warned := false })).raise UPD.page 6).updResult UR.OK
    (t.log 0x285 (fields [(1, kind), (1, 0), (2, if kind = 1 then t.upd.fuse1 else t.upd.fuse2), (4, ver)]), .done)

/-- The trial ended by the command (0) or the window (1), then a system reset by firmware. -/
def State.fallBack (s : State) (cause : Nat) : State :=
  let r := s.bootRec
  let t := (s.logFallback cause r).writeRec ({ r with trial := 0 }.setFallback true)
  t.systemReset 2

/-- FALLBACK. -/
def State.updFallback (s : State) (req : Nat) (key : Nat) : State × WriteResult :=
  if key ≠ 0xC0F1 then s.updRefuse 4 UR.KEY req
  else if s.bootRec.trial = 0 then s.updRefuse 4 UR.STATE req
  else (s.fallBack 0, .done)

/-- The base of a configuration area (R423). -/
def areaBase (a : Nat) : Nat := if a = 0 then 0x60010000 else 0x60210000

/-- MIG_DONE. -/
def State.updMigDone (s : State) (req : Nat) : State × WriteResult :=
  let r := s.bootRec
  let b := areaBase (r.cfgOf (1 - r.active))
  let ok := r.trial = 1 && s.memBE b 4 = 0x43464701 && s.memBE (b + 6) 1 = 2
    && s.memBE (b + 4) 2 = s.imgSchema (bankBase (1 - r.active)) && s.memBE (b + 28) 4 = crc32 (s.bytes b 28)
  if ok then ((s.modUpd (fun u => { u with migDone := true })).updResult UR.OK, .done) else s.updRefuse 5 UR.STATE req

/-- A write of CMD. -/
def updCmdEff (req : Nat) (v : Word) (s : State) : State × WriteResult :=
  let s := s.updTouch req
  match bits v 3 0 with
  | 1 => s.updVerify req
  | 2 => s.updActivate req
  | 3 => s.updConfirm req (bits v 31 16)
  | 4 => s.updFallback req (bits v 31 16)
  | 5 => s.updMigDone req
  | n => s.updRefuse n UR.STATE req

/-! ### Completions -/

/-- A transfer complete: header checks when `land` first reaches 0x4000, before any payload byte is taken (R426, R431). -/
def State.xferPut (s : State) (off : Nat) (l : List Byte) : State :=
  let n := l.length
  let t := (s.modUpd (fun u => { u with op := none })).setReg UPD.PROGRESS (word n)
  if off < 0x4000 ∧ 0x4000 ≤ off + n then
    let h := t.setBytes (stagingBase + off) (l.take (0x4000 - off))
    let code := h.headerCheck stagingBase
    if code = UR.OK then
      let u := (h.setBytes (stagingBase + off) l).modUpd (fun u => { u with land := off + n })
      ((u.updResult UR.OK).raise UPD.page 0).raise UPD.page 1
    else (((h.updEnd 3 code).updResult code).raise UPD.page 0).raise UPD.page 1
  else
    let u := (t.setBytes (stagingBase + off) l).modUpd (fun u => { u with land := off + n })
    (u.updResult UR.OK).raise UPD.page 1

/-- The transfer under way done, from DRAM or the page buffer (R432). -/
def State.xferDone (s : State) (off n : Nat) (buf : Bool) (src : Nat) : State := s.xferPut off (s.xferBytes n buf src)

/-- A verification ends. -/
def State.verifyDone (s : State) : State :=
  let b := stagingBase
  let code := s.imageCheck b
  let t := (s.modUpd (fun u => { u with op := none })).setReg UPD.PROGRESS (word (0x4000 + s.imgLen b))
  let t := if code = UR.OK then
      let u := t.writeRec { t.bootRec with landing := t.imgKind b, landVer := t.imgVersion b }
      (u.modUpd (fun x => { x with sess := US.STAGED })).log 0x282
        (fields [(1, t.imgKind b), (1, 0), (2, t.imgSvn b), (4, t.imgVersion b)])
    else t.updEnd 3 code
  (t.updResult code).raise UPD.page 2

/-- An activation ends: the copy, its checks and the record; `flashOk` says the flash took it. -/
def State.activateDone (s : State) (idle flashOk : Bool) : State :=
  let b := stagingBase
  let r := s.bootRec
  let kind := s.imgKind b
  let pre := if idle then s.imageCheck b else UR.OK
  let tgt := s.actTarget
  let base := s.actBase
  let n := 0x4000 + s.imgLen b
  let c := if pre = UR.OK then (s.eraseMem base s.actSize).setBytes base (s.bytes b n) else s
  let code := if pre ≠ UR.OK then pre
    else if !flashOk then UR.FLASH
    else if c.imageCheck base ≠ UR.OK then c.imageCheck base
    else if kind = 1 ∧ !c.fslGood base then UR.DIGEST else UR.OK
  let t := (c.modUpd (fun u => { u with op := none })).setReg UPD.PROGRESS (word n)
  let t := if code = UR.OK then
      let v := s.imgVersion b
      let r := { r with trial := kind, boots := 0, landing := 0 }
      let r := if kind = 1 then (r.setVer tgt v).setCfg tgt (1 - r.cfgOf r.active) else r.setMpVer tgt v
      ((t.writeRec r).modUpd (fun x => { x with sess := US.ACTIVATED })).log 0x283 (fields [(1, kind), (1, tgt), (2, 0), (4, v)])
    else t.updEnd 3 code
  (t.updResult code).raise UPD.page 3

/-! ### Writes and views (R438) -/

/-- A write of UPD.CTRL. -/
def updCtrlEff (v : Word) (s : State) : State × WriteResult :=
  if bit v 1 then
    if s.upd.sess = US.VERIFYING ∨ s.upd.sess = US.ACTIVATING then (s, .refused)
    else ((s.resetPageRegs UPD.page).modUpd (fun u => { u with sess := US.IDLE, op := none, land := 0 }), .done)
  else (s, .done)

/-- The effect of a write on the UPD page. -/
def updEff (req a : Nat) (v : Word) (s : State) : State × WriteResult :=
  if a = regCTRL UPD.page then updCtrlEff v s
  else if a = UPD.SESSION then sessionEff req v s
  else if a = UPD.XFER_CTRL then xferEff req v s
  else if a = UPD.CMD then updCmdEff req v s
  else s.plainWrite req a v

/-- Seconds of TB0 since the window began. -/
def State.windowAge (s : State) : Option Nat := s.upd.window.map (fun t => s.tb0s - t)

/-- The computed registers of the UPD page. -/
def State.updView (s : State) (a : Nat) : Option Word :=
  let u := s.upd
  let r := s.bootRec
  if a = regSTAT UPD.page then some (word (u.sess + u.owner * 16 + u.src * 256 + s.updBusy.toNat * 4096))
  else if a = UPD.LAND then some (word u.land)
  else if a = UPD.BOOT then
    some (word (r.active + r.trial * 2 + r.boots % 16 * 16 + u.bank * 256 + r.cfgOf u.bank % 2 * 512 + r.mpSlot * 1024
      + r.landing % 4 * 4096 + r.flags % 4 * 16384))
  else if a = UPD.WINDOW then some (word (match s.windowAge with | some n => 900 - n | none => 0))
  else if a = UPD.RUN_VER then some (word (s.imgVersion (bankBase u.bank)))
  else if a = UPD.LAND_VER then some (word r.landVer)
  else if a = UPD.MP_VER then some (word (if (r.mpSlot = 0) = (r.trial ≠ 2) then r.mpVer0 else r.mpVer1))
  else if a = UPD.MIN_SVN then some (word (u.fuse1 + u.fuse2 * 65536))
  else none

/-! ### The commands -/

/-- A command of CMD by operation and key. -/
def updCmdWord (op key : Nat) : Word := word (key * 65536 + op)

/-- SESSION_OPEN (R431). -/
def execSessionOpen (req : Req) (src : Fin 4) (s : State) : Res State :=
  let v := word (16 + src.val)
  .next (s.busWrite req UPD.SESSION v (sessionEff req v))

/-- SESSION_CLOSE (R431). -/
def execSessionClose (req : Req) (s : State) : Res State := .next (s.busWrite req UPD.SESSION 32 (sessionEff req 32))

/-- SESSION_ABORT (R431). -/
def execSessionAbort (req : Req) (s : State) : Res State := .next (s.busWrite req UPD.SESSION 64 (sessionEff req 64))

/-- XFER (R431): a write of XFER_CTRL with GO. -/
def execXfer (req : Req) (v : Word) (s : State) : Res State :=
  let w := putBit v 31 true
  .next (s.busWrite req UPD.XFER_CTRL w (xferEff req w))

/-- XFER_DONE (R431). -/
def execXferDone (s : State) : Res State :=
  .next (match s.upd.op with | some (.xfer off n buf src) => s.xferDone off n buf src | _ => s)

/-- VERIFY (R431). -/
def execVerify (req : Req) (s : State) : Res State :=
  .next (s.busWrite req UPD.CMD (updCmdWord 1 0) (updCmdEff req (updCmdWord 1 0)))

/-- VERIFY_DONE (R431). -/
def execVerifyDone (s : State) : Res State := .next (match s.upd.op with | some .verify => s.verifyDone | _ => s)

/-- ACTIVATE (R431). -/
def execActivate (req : Req) (s : State) : Res State :=
  .next (s.busWrite req UPD.CMD (updCmdWord 2 0) (updCmdEff req (updCmdWord 2 0)))

/-- ACTIVATE_DONE (R431). -/
def execActivateDone (flashOk : Bool) (s : State) : Res State :=
  .next (match s.upd.op with | some (.activate idle) => s.activateDone idle flashOk | _ => s)

/-- CONFIRM (R434). -/
def execConfirm (req : Req) (key : BitVec 16) (s : State) : Res State :=
  .next (s.busWrite req UPD.CMD (updCmdWord 3 key.toNat) (updCmdEff req (updCmdWord 3 key.toNat)))

/-- FALLBACK (R434). -/
def execFallback (req : Req) (key : BitVec 16) (s : State) : Res State :=
  .next (s.busWrite req UPD.CMD (updCmdWord 4 key.toNat) (updCmdEff req (updCmdWord 4 key.toNat)))

/-- MIG_DONE (R433). -/
def execMigDone (req : Req) (s : State) : Res State :=
  .next (s.busWrite req UPD.CMD (updCmdWord 5 0) (updCmdEff req (updCmdWord 5 0)))

/-- SESSION_TIMEOUT (R431). -/
def execSessionTimeout (s : State) : Res State :=
  .next (if (s.upd.sess = US.OPEN ∨ s.upd.sess = US.STAGED) ∧ s.upd.lastAct + s.fld UPD.SESS_TO 11 0 ≤ s.tb0s then
      (s.updEnd 2 UR.OK).raise UPD.page 7
    else s)

/-- WINDOW_WARN (R435). -/
def execWindowWarn (s : State) : Res State :=
  .next (match s.windowAge with
    | some n => if 840 ≤ n ∧ !s.upd.warned then (s.modUpd (fun u => { u with warned := true })).raise UPD.page 5 else s
    | none => s)

/-- WINDOW_EXPIRY (R435). -/
def execWindowExpiry (s : State) : Res State :=
  .next (match s.windowAge with | some n => if 900 ≤ n then s.fallBack 1 else s | none => s)

end Sys2Proof.Machine
end

