-- ==== Sys2Proof/Machine/Fabric.lean ====
section
/-!
DEFINITION. The register fabric (spec/03): the address map, what a write at each address does, what a read answers, the
resets by register, parity, and the SYS and TRC pages.
-/

namespace Sys2Proof.Machine

/-! ### The address map (R66, R67, R361) -/

/-- An address of a table window. -/
def isWindow (a : Nat) : Bool :=
  (0x50000000 ≤ a && a < 0x50140000) || (0x50200000 ≤ a && a < 0x50300000) || (0x50400000 ≤ a && a < 0x50880000)
  || (0x50900000 ≤ a && a < 0x50940000) || (0x50A00000 ≤ a && a < 0x50C00000) || (0x51000000 ≤ a && a < 0x51800000)
  || (0x52000000 ≤ a && a < 0x52810000) || (0x53000000 ≤ a && a < 0x53100000)

/-- The ranges of R361 that only cores reach: interrupt and timer registers, scratch SRAM, the configuration store, DRAM. -/
def isClint (a : Nat) : Bool := 0x02000000 ≤ a && a < 0x0200C000
def isScratch (a : Nat) : Bool := 0x08000000 ≤ a && a < 0x08100000
def isFlash (a : Nat) : Bool := 0x20000000 ≤ a && a < 0x38000000
def isConfig (a : Nat) : Bool := 0x60000000 ≤ a && a < 0x60400000
def isDram (a : Nat) : Bool := 0x80000000 ≤ a && a < 0x160000000
def isRom (a : Nat) : Bool := a < 0x10000

/-- Whether an access of requester `req` at an address is mapped. The service-port bridge reaches pages and windows. -/
def mapped (req a : Nat) (write : Bool) : Bool :=
  isPageAddr a || isWindow a
  || (req < 4 && (isClint a || isScratch a || isConfig a || isDram a || (!write && (isRom a || isFlash a))))

/-- The kind of fault of an access of `size` bytes, in the order of R69: 2 unmapped, 0 width, 1 alignment. -/
def faultKind (req a size : Nat) (write : Bool) : Option Nat :=
  if !mapped req a write then some 2
  else if isPageAddr a && size ≠ 4 then some 0
  else if isWindow a && size ≠ 4 && !(size = 8 && req < 4) then some 0
  else if isConfig a && size ≠ 4 && size ≠ 8 then some 0
  else if (isPageAddr a || isWindow a || isConfig a || isClint a) && a % size ≠ 0 then some 1
  else none

/-- A faulted access (R69): recorded in SYS, BUS_ERR raised, the requester answered with a fault. -/
def State.accessFault (s : State) (req a : Nat) (write : Bool) (kind : Nat) : State :=
  let t := (s.setReg SYS.ERR_ADDR (word a)).setReg SYS.ERR_INFO (word (req + write.toNat * 16 + kind * 256))
  (t.raise SYS.page 2).emit (.busFault req a write)

/-! ### SYS and TRC (R78 to R83) -/

/-- A write of SYS.CTRL: bit 1 clears every PARITY_CNT, and with them PAR_SUMMARY (R81). -/
def sysCtrlEff (v : Word) (s : State) : State × WriteResult :=
  (if bit v 1 then (List.range 0x2E).foldl (fun t p => t.setReg (regPARITY_CNT p) 0) s else s, .done)

/-- A write of RST_CTRL (R78, R81). -/
def rstCtrlEff (req : Nat) (v : Word) (s : State) : State × WriteResult :=
  if bits v 31 16 ≠ 0xA5C3 then (s, .done)
  else if bit v 0 then (s.systemReset (if req = 4 then 4 else 2), .done)
  else if bit v 1 then (s.coreReset 5, .done)
  else (s, .done)

/-- A write of WDOG_CFG (R80): EN is set-only, and its setting starts the count. -/
def wdogCfgEff (v : Word) (s : State) : State × WriteResult :=
  let on := s.rbit SYS.WDOG_CFG 16
  let (t, r) := s.store SYS.WDOG_CFG (if on then putBit v 16 true else v)
  (if !on && bit v 16 then t.wdogRestart else t, r)

/-- A write of WDOG_KICK (R80). -/
def wdogKickEff (v : Word) (s : State) : State × WriteResult :=
  if v = 0x0000C0DE then (s.wdogRestart, .done) else (s, .refused)

/-- The effect of a write on the SYS page. -/
def sysEff (req a : Nat) (v : Word) (s : State) : State × WriteResult :=
  if a = regCTRL SYS.page then sysCtrlEff v s
  else if a = SYS.RST_CTRL then rstCtrlEff req v s
  else if a = SYS.WDOG_CFG then wdogCfgEff v s
  else if a = SYS.WDOG_KICK then wdogKickEff v s
  else if SYS.INT_ROUTE 46 ≤ a ∧ a ≤ SYS.INT_ROUTE 63 then (s, .ignored)
  else s.plainWrite req a v

/-- The effect of a write on the TRC page: a soft reset loses the trace buffer (R78), and capture that stopped at the end
resumes once MODE no longer stops (R83). -/
def trcEff (req a : Nat) (v : Word) (s : State) : State × WriteResult :=
  if a = regCTRL TRC.page then
    if bit v 1 then
      ({ (s.resetPageRegs TRC.page).eraseMem 0x53000000 traceSize with trc := {} }, .done)
    else (s.setReg a (word (bits v 0 0)), .done)
  else if a = TRC.MODE then
    let (t, r) := s.plainWrite req a v
    (if bit v 0 then t else { t with trc := { t.trc with halted := false } }, r)
  else s.plainWrite req a v

/-! ### The blocks whose pages gather several effects -/

/-- The effect of a write on the RCT page. -/
def rctEff (req a : Nat) (v : Word) (s : State) : State × WriteResult :=
  if a = regCTRL RCT.page then rctCtrlEff v s
  else if a = RCT.RING_SET_HI then ringSetEff req v s
  else if a = RCT.CFG then rctCfgEff v s
  else if a = RCT.FORCE then rctForceEff v s
  else if a = RCT.CONV_CTRL then convCtrlEff v s
  else if a = regINT_FLAG RCT.page ∧ bit v 6 then (s.setRbit rctSTAT 18 false).plainWrite req a v
  else s.plainWrite req a v

/-- The effect of a write on an SNS page; SNS3 holds the playback registers. -/
def snsEff (req a : Nat) (v : Word) (s : State) : State × WriteResult :=
  let p := pageOf a - 0x05
  let o := a % 0x1000
  let b := 4 * p + (o - 0x100) / 0x20
  let i := 32 * p + (o - 0x400) / 0x20
  if a = regCTRL (SNS.page p) then snsCtrlEff p v s
  else if p = 3 ∧ ((0x120 ≤ o ∧ o < 0x180) ∨ (0x500 ≤ o ∧ o < 0x800)) then (s, .refused)
  else if s.legalRefuses a then (s, .refused)
  else if 0x100 ≤ o ∧ o < 0x180 ∧ a = SNS.LANE_CFG b then laneCfgEff b v s
  else if 0x400 ≤ o ∧ o < 0x800 ∧ a = SNS.CFG i then inputCfgEff i v s
  else if p = 3 ∧ a = PB.PB_CTRL then pbCtrlEff v s
  else if p = 3 ∧ 0x208 ≤ o ∧ o < 0x228 then pbRegEff req a v s
  else s.plainWrite req a v

/-- A write of AXE.CTRL: the soft reset is refused while a RUN_EN bit is set, and keeps class-2 latches, with
FIRST_SRC while one stands (R161, R166). -/
def axeCtrlEff (v : Word) (s : State) : State × WriteResult :=
  if !bit v 1 then (s, .done)
  else if s.fld AXE.RUN_EN 12 0 ≠ 0 then (s, .refused)
  else
    let kept := s.axe.srcs.filter (fun c => c.2.latch = some 2)
    let t := s.resetPageRegs AXE.page
    let fw := if kept.any (fun c => c.1 = 0x020) then s.axe.fwMask else 0
    let t := if kept.isEmpty then t
      else (t.setReg AXE.FIRST_SRC (s.reg AXE.FIRST_SRC)).setReg64 AXE.FIRST_AT_LO AXE.FIRST_AT_HI (s.reg64 AXE.FIRST_AT_LO AXE.FIRST_AT_HI)
    ({ t with axe := { ({} : Axe) with srcs := kept, fwMask := fw, firstSlot := if kept.isEmpty then none else s.axe.firstSlot } }.axeRefresh, .done)

/-- The effect of a write on the AXE page. -/
def axeEff (req a : Nat) (v : Word) (s : State) : State × WriteResult :=
  let o := a % 0x1000
  if a = regCTRL AXE.page then axeCtrlEff v s
  else if a = AXE.CLEAR then axeClearEff v s
  else if a = AXE.FORCE then axeForceEff v s
  else if a = AXE.RUN_EN then axeRunEnEff v s
  else if 0x100 ≤ o ∧ o < 0x134 then axeCfgEff a [(o - 0x100) / 4] none v s
  else if 0x180 ≤ o ∧ o < 0x1B4 then axeCfgEff a [0x010 + (o - 0x180) / 4] none v s
  else if 0x200 ≤ o ∧ o < 0x880 ∧ o % 0x10 = 0 then
    let i := (o - 0x200) / 0x10
    axeCfgEff a [0x100 + i, 0x180 + i] (some i) v s
  else s.plainWrite req a v

/-! ### Writes -/

/-- The effect of a write on the part of a page that all blocks share (R68, R74, R76); none elsewhere. -/
def commonEff (req a : Nat) (v : Word) (s : State) : Option (State × WriteResult) :=
  let p := pageOf a
  let o := a % 0x1000
  if o = 0x010 then
    let (t, r) := s.plainWrite req a v
    some (s.noteEdge t p, r)
  else if o = 0x018 then
    let ints := match lookupReg (regINT_FLAG p) with
      | some (r, _) => (fitWord r.flds 0 v).1
      | none => 0
    some (s.noteEdge (s.modReg (regINT_FLAG p) (fun w => w ||| ints)) p, .done)
  else if o = 0x01C then some (s.modReg a (fun w => w ||| word (bits v 1 0)), .done)
  else if (p = 0x0A ∨ p = 0x13) ∧ o = 0x008 then some (s, if bit v 1 then .refused else .done)
  else none

/-- A write of a block that has no effect of its own: the soft reset of R79, and CTRL bit 0. -/
def bareEff (req a : Nat) (v : Word) (s : State) : State × WriteResult :=
  if a % 0x1000 = 0x008 then
    if bit v 1 then (s.resetPageRegs (pageOf a), .done) else (s.setReg a (word (bits v 0 0)), .done)
  else s.plainWrite req a v

/-- The effect of a write on a page. -/
def pageEff (req a : Nat) (v : Word) (s : State) : State × WriteResult :=
  match commonEff req a v s with
  | some x => x
  | none =>
    match pageOf a with
    | 0x00 => sysEff req a v s
    | 0x01 => pwrEff req a v s
    | 0x02 => rctEff req a v s
    | 0x03 => timEff req a v s
    | 0x04 => rtcEff req a v s
    | 0x05 | 0x06 | 0x07 | 0x08 => snsEff req a v s
    | 0x09 => cenEff req a v s
    | 0x0B => mfeEff req a v s
    | 0x0C | 0x0D | 0x0E | 0x0F => chnEff req a v s
    | 0x10 => axeEff req a v s
    | 0x11 => stlEff req a v s
    | 0x12 => mtrEff req a v s
    | 0x14 => lgtEff req a v s
    | 0x15 => diaEff req a v s
    | 0x16 | 0x17 | 0x18 | 0x19 => fphEff req a v s
    | 0x1A | 0x1B | 0x1C | 0x1D => fmaEff req a v s
    | 0x1E => ntbEff req a v s
    | 0x1F => yrdEff req a v s
    | 0x20 => schEff req a v s
    | 0x21 => swxEff req a v s
    | 0x22 => ofsEff req a v s
    | 0x23 => uplEff req a v s
    | 0x24 => thsEff req a v s
    | 0x25 => tquEff req a v s
    | 0x26 => evrEff req a v s
    | 0x27 => kvtEff req a v s
    | 0x28 => updEff req a v s
    | 0x29 => twnEff req a v s
    | 0x2A => kspEff req a v s
    | 0x2B => hkpEff req a v s
    | 0x2D => trcEff req a v s
    | _ => bareEff req a v s

/-- The effect of a write on a table window (R67): W8 to W11 are read-only. -/
def winEff (a : Nat) (v : Word) (s : State) : State × WriteResult :=
  if a < 0x50100000 then w0Eff a v s
  else if a < 0x50140000 then w1Eff a v s
  else if a < 0x50300000 then w2Eff a v s
  else if a < 0x50800000 then w3Eff a v s
  else if a < 0x50840000 then w4Eff a v s
  else if a < 0x50880000 then w5Eff a v s
  else if a < 0x50940000 then w6Eff a v s
  else if a < 0x50C00000 then w7Eff a v s
  else (s, .refused)

/-- The effect of a write on a page or a window. -/
def writeEff (req a : Nat) (v : Word) (s : State) : State × WriteResult :=
  if isPageAddr a then pageEff req a v s else winEff a v s

/-- A write of a page register or a window word by a requester, and how it ended. -/
def State.fabricWriteR (s : State) (req a : Nat) (v : Word) : State × WriteResult := s.busWriteR req a v (writeEff req a v)

/-- A write of a page register or a window word by a requester. -/
def State.fabricWrite (s : State) (req a : Nat) (v : Word) : State := (s.fabricWriteR req a v).1

/-- The first byte of the configuration area that is held while a migration runs (R433): CFG of bank ACTIVE. -/
def State.oldArea (s : State) : Nat := if s.bootRec.cfgOf s.bootRec.active % 2 = 0 then 0x60010000 else 0x60210000

/-- A core's write to the configuration store (R59, R361, R423, R433). -/
def State.configWrite (s : State) (req a : Nat) (v : Word) : State :=
  let old := s.bootRec.trial = 1 && decide (s.oldArea ≤ a) && decide (a < s.oldArea + 0x1F0000)
  if a < 0x60010000 || old then s.countClamp req a
  else if s.pwr.mramProtect then s
  else s.setBytes a (bytesLE 4 v.toNat)

/-- mtime: the count at 100 MHz from the reference oscillator (R359). -/
def State.mtime (s : State) : Nat := (s.tim.osc / 5 + s.tim.mtimeOff) % 2 ^ 64

/-- mtimecmp of a hart. -/
def State.mtimecmp (s : State) (h : Nat) : Nat := Tab.get (fun _ => 0) s.ths.mtimecmp h

/-- Half of a 64-bit number replaced: the high one when `hi`. -/
def putHalf (x : Nat) (hi : Bool) (v : Word) : Nat :=
  if hi then x % 2 ^ 32 + v.toNat * 2 ^ 32 else x / 2 ^ 32 * 2 ^ 32 + v.toNat

/-- A hart's write to msip, mtimecmp or mtime (R361). -/
def State.clintWrite (s : State) (a : Nat) (v : Word) : State :=
  let o := a % 0x1000000
  if o < 0x10 then
    { s with ths := { s.ths with msip := bitsOf ((setBits 4 s.ths.msip).filter (· ≠ o / 4) ++ (if bit v 0 then [o / 4] else [])) } }
  else if 0x4000 ≤ o ∧ o < 0x4020 then
    let h := (o - 0x4000) / 8
    { s with ths := { s.ths with mtimecmp := Tab.put (fun _ => 0) s.ths.mtimecmp h (putHalf (s.mtimecmp h) (o % 8 = 4) v) } }
  else if o = 0xBFF8 ∨ o = 0xBFFC then
    let want := putHalf s.mtime (o = 0xBFFC) v
    s.modTim (fun m => { m with mtimeOff := (want + 2 ^ 64 + m.mtimeOff - s.mtime) % 2 ^ 64 })
  else s

/-- A write of a word by a requester anywhere in its address space. -/
def State.wordWrite (s : State) (req a : Nat) (v : Word) : State :=
  match faultKind req a 4 true with
  | some k => s.accessFault req a true k
  | none =>
    if isPageAddr a || isWindow a then s.fabricWrite req a v
    else if isClint a then s.clintWrite a v
    else if isConfig a then s.configWrite req a v
    else s.setBytes a (bytesLE 4 v.toNat)

/-! ### Reads (R71, R72, R75) -/

/-- The pages of a range whose bit of a summary is set. -/
def summary (from_ : Nat) (p : Nat → Bool) : Word := word (bitsOf ((List.range 32).filter (fun k => p (from_ + k))))

/-- The computed registers of the SYS page. -/
def State.sysView (s : State) (a : Nat) : Option Word :=
  let par := fun p => decide (p < 0x2E) && decide (s.fld (regPARITY_CNT p) 15 0 ≠ 0)
  let int := fun p => decide (p < 0x2E) && s.pendingInt p
  if a = SYS.INT_SUMMARY_LO then some (summary 0 int)
  else if a = SYS.INT_SUMMARY_HI then some (summary 32 int)
  else if a = SYS.PAR_SUMMARY_LO then some (summary 0 par)
  else if a = SYS.PAR_SUMMARY_HI then some (summary 32 par)
  else if SYS.INT_ROUTE 46 ≤ a ∧ a ≤ SYS.INT_ROUTE 63 then some 0
  else none

/-- The external interrupt line of core `c` (R75): asserted while a page that INT_ROUTE sends to it is pending. -/
def State.irqLine (s : State) (c : Nat) : Bool :=
  (List.range 0x2E).any (fun p => s.pendingInt p && decide (c < 4) && s.rbit (SYS.INT_ROUTE p) c)

/-- The interrupt sources of hart `h` as `mip` shows them (R360): bit 3 software, 7 timer, 11 external, 16 the dispatch line,
asserted while NEXT differs from CUR (R368). -/
def State.mip (s : State) (h : Nat) : Nat :=
  (s.ths.msip.testBit h).toNat * 2 ^ 3 + (decide (s.mtimecmp h ≤ s.mtime)).toNat * 2 ^ 7 + (s.irqLine h).toNat * 2 ^ 11
    + (decide (s.nextRead h ≠ s.cur h)).toNat * 2 ^ 16

/-- The interrupts the service-port bridge receives (R75): the pending pages whose INT_ROUTE has bit 8. -/
def State.bridgeInterrupts (s : State) : List Nat :=
  (List.range 0x2E).filter (fun p => s.pendingInt p && s.rbit (SYS.INT_ROUTE p) 8)

/-- The computed registers of the RCT page: the ring stamp, and the correspondence entries, each its cycle count (two
words), TB3 and TB0 (three words each, both in TB3 format: log entry 85), low word first. -/
def State.rctView (s : State) (a : Nat) : Option Word :=
  let o := a % 0x1000
  if a = RCT.NOW_LO then some (lo32 s.now)
  else if a = RCT.NOW_HI then some (hi32 s.now)
  else if 0x100 ≤ o ∧ o < 0x300 then
    match s.rct.map[(o - 0x100) / 0x20]? with
    | some m =>
      let w := o % 0x20 / 4
      some (word (if w < 2 then m.cycle / 2 ^ (32 * w) else if w < 5 then tbFormat m.tb3 / 2 ^ (32 * (w - 2)) else tbFormat m.tb0 / 2 ^ (32 * (w - 5))))
    | none => some 0
  else none

/-- The computed registers of the TIM page. -/
def State.timView (s : State) (a : Nat) : Option Word :=
  if a = TIM.TZ_NOW then some (s.tim.zone.report ((s.tb 3 / tbSecond : Nat) : Int))
  else if a = TIM.DOM_STAT 0 then some (putBit (s.reg a) 4 (s.eligible 0))
  else if a = TIM.DOM_STAT 1 then some (putBit (s.reg a) 4 (s.eligible 1))
  else none

/-- The computed registers of the AXE page (R166): lines at KILL and latches. -/
def State.axeView (s : State) (a : Nat) : Option Word :=
  let o := a % 0x1000
  let set := fun (base n : Nat) => word (bitsOf ((List.range n).filter (fun i => s.latched.contains (base + i))))
  if a = regSTAT AXE.page then
    let kill := bitsOf ((List.range 13).filter (fun n => !s.axe.out.testBit n))
    some (word (kill + (!s.latched.isEmpty : Bool).toNat * 2 ^ 16
      + (s.latched.any (fun k => (s.axeSrc k).latch = some 2)).toNat * 2 ^ 17))
  else if a = AXE.LATCH_PIN then some (set 0 13)
  else if a = AXE.LATCH_LANE then some (set 0x010 17)
  else if 0x910 ≤ o ∧ o < 0x920 then some (set (0x100 + (o - 0x910) / 4 * 32) 32)
  else if 0x920 ≤ o ∧ o < 0x930 then some (set (0x180 + (o - 0x920) / 4 * 32) 32)
  else none

/-- The computed registers of the UPL page: the entry TSF_0 shows. -/
def State.uplView (s : State) (a : Nat) : Option Word :=
  if a = UPL.TSF_0 0 then some (s.tsfPop 0).2 else if a = UPL.TSF_0 1 then some (s.tsfPop 1).2 else none

/-- A register whose value the module computes when it is read. -/
def State.computed (s : State) (a : Nat) : Option Word :=
  match pageOf a with
  | 0x00 => s.sysView a
  | 0x01 => s.pwrView a
  | 0x02 => s.rctView a
  | 0x03 => s.timView a
  | 0x09 => s.cenView a
  | 0x0B => s.mfeView a
  | 0x0C | 0x0D | 0x0E | 0x0F => s.chnView a
  | 0x10 => s.axeView a
  | 0x11 => s.stlView a
  | 0x12 => s.mtrView a
  | 0x14 => s.lgtView a
  | 0x16 | 0x17 | 0x18 | 0x19 => s.fphView a
  | 0x1A | 0x1B | 0x1C | 0x1D => s.fmaView a
  | 0x1E => s.ntbView a
  | 0x1F => s.yrdView a
  | 0x20 => s.schView a
  | 0x21 => s.swxView a
  | 0x22 => s.ofsView a
  | 0x23 => s.uplView a
  | 0x24 => s.thsView a
  | 0x25 => s.tquView a
  | 0x26 => s.evrView a
  | 0x27 => s.kvtView a
  | 0x28 => s.updView a
  | 0x29 => s.twnView a
  | 0x2A => s.kspView a
  | 0x2B => s.hkpView a
  | _ => none

/-- What a read of a page register answers, without what the read itself does. Of a block whose domain is off, RW fields
read as stored and RO registers at reset (R72). -/
def State.view (s : State) (a : Nat) : Word :=
  if accessOf a = some .wo then 0
  else if !s.domainUp (domainOf (pageOf a)) then (if accessOf a = some .ro then regReset a else s.reg a)
  else (s.computed a).getD (s.reg a)

/-- What a read of a window word answers (R67, R382). -/
def State.winView (s : State) (a : Nat) : Word :=
  if a < 0x50100000 then s.w0View (a % 0x100000)
  else if 0x50870000 ≤ a ∧ a < 0x50880000 then s.trackWord a
  else if 0x51000000 ≤ a ∧ a < 0x51800000 then s.tqRead a
  else if a < 0x52000000 then s.winWord a
  else word (s.memBE a 4)

/-- A read of a page register by a requester (R71): the low word of a 64-bit register latches the high one, whose read
returns the latched value while the tag matches; a read of TSF_0 pops (R332). -/
def State.pageRead (s : State) (req a : Nat) : State × Word :=
  let p := s.port req
  match lookupReg a with
  | none => (s, 0)
  | some (r, _) =>
    let pop := if a = UPL.TSF_0 0 then some 0 else if a = UPL.TSF_0 1 then some 1 else none
    match r.half, pop with
    | .lo, _ => (s.setPort req { p with latchTag := a, latchHi := s.view (a + 4) }, s.view a)
    | .hi, _ => (s, if p.latchTag = a - 4 then p.latchHi else s.view a)
    | .none, some u => if s.domainUp 8 then s.tsfPop u else (s, 0)
    | .none, none => (s, s.view a)

/-- What a hart reads in the range of msip, mtimecmp and mtime. -/
def State.clintRead (s : State) (a : Nat) : Word :=
  let o := a % 0x1000000
  if o < 0x10 then word (s.ths.msip.testBit (o / 4)).toNat
  else if 0x4000 ≤ o ∧ o < 0x4020 then word (s.mtimecmp ((o - 0x4000) / 8) / 2 ^ (if o % 8 = 4 then 32 else 0))
  else if o = 0xBFF8 then word s.mtime
  else if o = 0xBFFC then word (s.mtime / 2 ^ 32)
  else 0

/-- A read of a word by a requester: what it answers goes to its port's read data. -/
def State.wordRead (s : State) (req a : Nat) : State :=
  match faultKind req a 4 false with
  | some k => s.accessFault req a false k
  | none =>
    let (t, w) : State × Word :=
      if isPageAddr a then s.pageRead req a
      else if isWindow a then (s, s.winView a)
      else if isClint a then (s, s.clintRead a)
      else (s, word (s.memLE a 4))
    t.setPort req { t.port req with rdata := w }

/-! ### The commands -/

/-- ACCESS_FAULT (R69): an access of 2^`size` bytes. One that is not faulty is no fault. -/
def execAccessFault (req : Req) (a : BitVec 64) (size : Fin 4) (write : Bool) (s : State) : Res State :=
  .next (match faultKind req a.toNat (2 ^ size.val) write with
    | some k => s.accessFault req a.toNat write k
    | none => s)

/-- REGISTER_WRITE (R73). -/
def execRegisterWrite (req : Req) (a : BitVec 64) (v : Word) (s : State) : Res State := .next (s.wordWrite req a.toNat v)

/-- LATCHED_READ (R71). -/
def execLatchedRead (req : Req) (a : BitVec 64) (s : State) : Res State := .next (s.wordRead req a.toNat)

/-- INT_FLAG_CLEAR (R74): a write of ones to an RW1C register. -/
def execIntFlagClear (req : Req) (a : Word) (v : Word) (s : State) : Res State :=
  .next (if accessOf a.toNat = some .rw1c then s.fabricWrite req a.toNat v else s)

/-- INT_FORCE (R68). -/
def execIntForce (req : Req) (p : Fin 46) (v : Word) (s : State) : Res State := .next (s.fabricWrite req (regINT_FORCE p) v)

/-- LOCK_WRITE (R76). -/
def execLockWrite (req : Req) (p : Fin 46) (v : Word) (s : State) : Res State := .next (s.fabricWrite req (regLOCK p) v)

/-- A parity error counted by the page of its consumer (R77). -/
def State.parityError (s : State) (p : Nat) : State :=
  let t := if s.fld (regPARITY_CNT p) 15 0 = 0 then s.raise SYS.page 0 else s
  t.incLo (regPARITY_CNT p)

/-- A word in error made absent for its consumer (R77): the sample that is formed of an input (R95), a sample in its store
(R121), or a word of queue memory (R382). -/
def State.spoil (s : State) : BadWord → State
  | .sample i => s.setIn i { s.snsIn i with perr := true }
  | .stored i => s.setIn i { s.snsIn i with unread := true }
  | .queueWord x => { s with tqu := { s.tqu with bad := x.val :: s.tqu.bad } }
  | _ => s

/-- PARITY_ERROR (R77): a datapath word in error is absent for its consumer, whose page counts it; a register write in error
is discarded (R82). -/
def execParityError (p : Fin 46) (w : BadWord) (s : State) : Res State :=
  .next (match w with
    | .write req a v =>
      if isPageAddr a.toNat || isWindow a.toNat then (s.parityError (countPage a.toNat)).traceWrite req a.toNat v 4 else s
    | w => (s.parityError p).spoil w)

/-- SRAM_ECC_ERROR (R77): an uncorrectable word is absent for its consumer as well. -/
def execSramEccError (e : EccError) (s : State) : Res State :=
  .next (match e with
    | .corrected => s.incLo SYS.SRAM_CE
    | .uncorrectable w => (s.incLo SYS.SRAM_UE).spoil w)

/-- MEMORY_ERROR (R362): a DRAM or cache error, corrected, or uncorrectable and met by a hart, or by a block's access, whose word
is absent. -/
def execMemoryError (e : EccError) (hart : Option (Fin 4)) (s : State) : Res State :=
  .next (match e with
    | .corrected => s.incLo THS.MEM_CE
    | .uncorrectable w =>
      let t := (s.incLo THS.MEM_UE).raise THS.page 1
      match hart with
      | some h => t.emit (.memoryFault h)
      | none => t.spoil w)

/-- PARITY_CLEAR (R81). -/
def execParityClear (req : Req) (s : State) : Res State := .next (s.fabricWrite req (regCTRL SYS.page) 2)

/-- SYSTEM_RESET (R78): a write of RST_CTRL with bit 0; `core` is bit 1. -/
def execSystemReset (req : Req) (key : BitVec 16) (core : Bool) (s : State) : Res State :=
  .next (s.fabricWrite req SYS.RST_CTRL (word (key.toNat * 65536 + 1 + 2 * core.toNat)))

/-- CORE_RESET (R78): a write of RST_CTRL with bit 1 alone. -/
def execCoreReset (req : Req) (key : BitVec 16) (s : State) : Res State :=
  .next (s.fabricWrite req SYS.RST_CTRL (word (key.toNat * 65536 + 2)))

/-- PAGE_SOFT_RESET (R79): a write of CTRL with bit 1. -/
def execPageSoftReset (req : Req) (p : Fin 46) (s : State) : Res State := .next (s.fabricWrite req (regCTRL p) 2)

/-- WDOG_ENABLE (R80): a write of WDOG_CFG. -/
def execWdogEnable (req : Req) (v : Word) (s : State) : Res State := .next (s.fabricWrite req SYS.WDOG_CFG v)

/-- WDOG_KICK (R80). -/
def execWdogKick (req : Req) (v : Word) (s : State) : Res State := .next (s.fabricWrite req SYS.WDOG_KICK v)

/-- WDOG_WARN (R80): half of the taken timeout. -/
def execWdogWarn (s : State) : Res State :=
  .next (if s.rbit SYS.WDOG_CFG 16 ∧ !s.sys.wdogWarned then
      { s with sys := { s.sys with wdogWarned := true } }.raise SYS.page 3
    else s)

/-- WDOG_TIMEOUT (R80): the taken timeout; ACTION selects the reset. -/
def execWdogTimeout (s : State) : Res State :=
  .next (if s.rbit SYS.WDOG_CFG 16 then (if s.rbit SYS.WDOG_CFG 17 then s.systemReset 3 else s.coreReset 6) else s)

/-- TIMESTAMP_POP (R332): a read of TSF_0 of a port. -/
def execTimestampPop (req : Req) (u : Fin 2) (s : State) : Res State := .next (s.wordRead req (UPL.TSF_0 u))

end Sys2Proof.Machine
end

