-- ==== Sys2Proof/Machine/TwinLink.lean ====
section
/-!
DEFINITION. What the twin link brings once every page is known (spec/21): heartbeats, journal entries, images.
-/

namespace Sys2Proof.Machine

/-! ### Heartbeats (R445, R452, R462) -/

/-- The own digest of a tick kept, with those of the three ticks before it. -/
def State.keepDigest (s : State) (n : Stamp) : State :=
  s.modTwn (fun w => { w with digests := (n.toNat, s.digest n) :: w.digests.filter (fun p => decide (p.1 < n.toNat) && decide (n.toNat < p.1 + 4)) })

/-- FLAGS of the own heartbeat: ELIGIBLE, TRIAL, PLAYBACK. RELINQUISH is never set (no rule of the spec sets it). -/
def State.hbFlags (s : State) : Nat :=
  s.twinEligible.toNat * 2 + s.upd.window.isSome.toNat * 4 + s.playbackOn.toNat * 8

/-- The body of the HEARTBEAT of tick `n` (R445). -/
def State.hbBody (s : State) (n : Stamp) : List Byte :=
  fields [(4, s.claim), (1, s.twn.role.code), (1, s.hbFlags), (2, 0), (4, s.digest n), (4, (s.reg TWN.LEPOCH).toNat),
    (4, (s.reg TWN.JSEQ).toNat), (4, s.twn.mseq), (8, s.mtr.restoredLast.toNat)]

/-- The stamp of a drill sent ahead of it (R462). -/
def State.nameDrill (s : State) : State :=
  match s.twn.handover with
  | some b =>
    if s.twn.role = .active ∧ !s.twn.named ∧ b.toNat ≤ s.now.toNat + 8 then
      (s.modTwn (fun w => { w with named := true })).sendControl (.handover b s.twn.ret)
    else s
  | none => s

/-- Records whose state differed take the epoch's at the next frame boundary (R452). -/
def State.loadDiffering (s : State) : State :=
  match s.twn.epoch with
  | some e =>
    if s.twn.load ≠ [] ∧ s.now.toNat % 8 = 0 ∧ s.twn.role = .standby then
      (s.loadRecords e s.twn.load).modTwn (fun w => { w with load := [] })
    else s
  | none => s

/-! ### The journal on the receiver (R451) -/

/-- Whether an entry is written to a register that carries a stamp (R455). -/
def stamped (e : JournalEntry) : Bool :=
  let a := e.addr
  let any := fun (f : Nat → Nat) (n : Nat) => (List.range n).any (fun i => a = f i)
  e.kind = 0 && (a = CEN.COMMIT_AT_HI || a = CEN.COMMIT_CTRL || a = MFE.BUS_SP_AT_HI || a = YRD.SCENE_AT_HI || a = YRD.OVR_ARM
    || a = YRD.COMMIT_CTRL || a = SCH.COMMIT_CTRL || any CHN.SP_AT_HI 48 || any LGT.LVL_AT_HI 48 || any LGT.PE_START_HI 8
    || any CHN.SP_AT_LO 48 || any LGT.LVL_AT_LO 48 || any LGT.PE_START_LO 8 || any CHN.SP_NEXT 48 || any LGT.LVL_NEXT 48)

/-- Consecutive words written through the pages and windows as the requester the entry names. -/
def State.applyWords (s : State) (req : Nat) : Nat → List Word → State × Bool
  | _, [] => (s, true)
  | a, w :: ws =>
    let p := writeEff req a w s
    let q := State.applyWords p.1 req (a + 4) ws
    (q.1, q.2 && p.2 ≠ .refused)

/-- Consecutive words of a window stored as they are. -/
def State.storeWords (s : State) : Nat → List Word → State
  | _, [] => s
  | a, w :: ws => (s.setWin a w).storeWords (a + 4) ws

/-- A wrapped key of the initial copy taken into its slot (R404, R446): KS16 and KS18 ENCRYPT, KS17 and KS19 DECRYPT. -/
def State.takeKey (s : State) (i : Nat) (ws : List Word) : State :=
  match Config.kwUnwrap (s.keyValue 11) (ws.flatMap (fun w => bytesBE 4 w.toNat)) with
  | some v =>
    if 16 ≤ i ∧ i < 20 then
      s.fillKey i (({ typ := KT.AES, usage := i % 2, origin := 2, exp := true, parent := some 11,
                        pgen := (s.key 11).gen, depth := (s.key 11).depth + 1 } : KeySlot).withValue v (s.random 0 v.length)) |>.draw
    else s
  | none => s

/-- A journal entry applied: the state, and whether nothing refused it. -/
def State.applyEntry (s : State) (e : JournalEntry) : State × Bool :=
  let p : State × Bool := match e.kind with
    | 0 | 1 => if journalled e.addr && (isPageAddr e.addr || isWindow e.addr) then s.applyWords e.req e.addr e.words else (s, true)
    | 2 => (s.storeWords e.addr e.words, true)
    | _ => (s.takeKey e.addr e.words, true)
  (if stamped e then p.1 else p.1.modTwn (fun w => { w with plainAt := some s.now }), p.2)

/-- Entries that were refused before the alignment, applied in the tick after it (R448). -/
def State.applyHeld (s : State) : State :=
  match s.twn.aligned with
  | some a =>
    if s.twn.held ≠ [] ∧ a.toNat < s.now.toNat then
      s.twn.held.foldl (fun t e => (t.applyEntry e).1) (s.modTwn (fun w => { w with held := [] }))
    else s
  | none => s

/-- An entry in its turn: held when it is refused, or follows a held one, before the alignment. -/
def State.journalEntry (s : State) (e : JournalEntry) : State :=
  let t := (s.modTwn (fun w => { w with jseqRx := e.jseq })).setReg TWN.JSEQ (word e.jseq)
  let early := s.twn.role = .pairing && s.twn.aligned.isNone
  let hold := t.modTwn (fun w => { w with held := w.held ++ [e] })
  if early && s.twn.held ≠ [] then hold
  else
    let (u, ok) := t.applyEntry e
    if early && !ok then hold else u

/-! ### The commands -/

/-- HEARTBEAT_SEND (R445): at the strobe of the tick after the one it covers. -/
def execHeartbeatSend (s : State) : Res State :=
  .next (if s.twn.role = .solo ∨ !s.domainUp 9 then s
    else
      let n := s.now - 1
      let t := s.keepDigest n
      let t := if s.twn.link then t.sendTwin 0 1 n (t.hbBody n) else t
      t.loadDiffering.applyHeld.nameDrill)

/-- HEARTBEAT_RECEIVE (R442, R445, R455, R457, R459): the heartbeat of tick `at_`. -/
def execHeartbeatReceive (h : TwinHead) (at_ : Stamp) (b : Heartbeat) (s : State) : Res State :=
  .next (
    let (t, ok) := s.twinTake 0 h false
    if !ok then t
    else
      let was := t.twn.peerRole
      let t := (t.setReg TWN.PEER_CLAIM b.claim).modTwn (fun w => { w with
        heard := at_, alive := true, missed := 0, peerRole := b.role, peerFlags := b.flags })
      match t.twn.role with
      | .hunt =>
        if b.role = 3 then t.enterPairing
        else if b.role = 1 ∧ (b.meterLast.toNat < t.mtr.restoredLast.toNat ∨ (b.meterLast = t.mtr.restoredLast ∧ !t.pwr.slotB)) then
          t.becomeActive
        else t
      | .standby => t.compareDigest at_ b.digest.toNat
      | .active =>
        if b.role = 4 ∧ was ≠ 4 then
          (t.raise TWN.page 1).log 0x290 (fields [(1, 3), (3, 0), (8, (t.twn.peerPair.map (·.serial)).getD 0)])
        else t
      | _ => t)

/-- JOURNAL_RECEIVE (R450, R451). -/
def execJournalReceive (h : TwinHead) (e : JournalEntry) (s : State) : Res State :=
  .next (
    let (t, ok) := s.twinTake 1 h false
    if !ok ∨ (t.twn.role ≠ .pairing ∧ t.twn.role ≠ .standby ∧ t.twn.role ≠ .suspect) then t
    else if t.twn.jseqRx = 0 ∨ e.jseq = t.twn.jseqRx + 1 then t.journalEntry e
    else t.modTwn (fun w => { w with gap := true }))

/-- IMAGE_RECEIVE (R432, R463): image bytes from the partner at an offset of the staging area. -/
def execImageReceive (h : TwinHead) (off : BitVec 27) (bytes : List Byte) (s : State) : Res State :=
  .next (
    let (t, ok) := s.twinTake 1 h false
    if ok ∧ t.upd.sess = US.OPEN ∧ t.upd.src = 2 ∧ t.upd.op.isNone ∧ off.toNat = t.upd.land ∧ bytes ≠ []
        ∧ off.toNat + bytes.length ≤ t.updLimit bytes then
      (t.modUpd (fun u => { u with lastAct := s.tb0s })).xferPut off.toNat bytes
    else t)

end Sys2Proof.Machine
end

