-- ==== Sys2Proof/Machine/Segment.lean ====
section
/-!
DEFINITION. The Kwaval Segment Protocol (spec/22): sessions, messages, transactions, bundles, alarms and log streams. The
firmware that runs it acts on the fabric as requester 0 (log entry 50).
-/

namespace Sys2Proof.Machine

/-- RESULT codes (R469). -/
def KP.OK : Nat := 0
def KP.VERSION : Nat := 1
def KP.DENIED : Nat := 2
def KP.UNKNOWN_MSG : Nat := 3
def KP.UNKNOWN_CRITICAL : Nat := 4
def KP.MALFORMED : Nat := 5
def KP.TXID_CONFLICT : Nat := 6
def KP.NOT_ACTIVE : Nat := 7
def KP.CONFLICT : Nat := 8
def KP.REFUSED : Nat := 10
def KP.BUSY : Nat := 11
def KP.TOO_LATE : Nat := 12

/-- Roles (R467). -/
def ROLE.VIEW : Nat := 0
def ROLE.OPERATE : Nat := 1
def ROLE.ENGINEER : Nat := 2
def ROLE.TIME : Nat := 3
def ROLE.UPDATE : Nat := 4

/-! ### Sessions (R466 to R470) -/

/-- A refused connection or session: logged and raised (R480, R481). -/
def State.kspRefused (s : State) (reason ident : Nat) : State :=
  (s.raise KSP.page 1).log 0x2A1 (fields [(1, reason), (3, 0), (8, ident)])

/-- A session's record of KSP_SESSION: event 0 open, 1 closed (R480). -/
def State.kspSessionLog (s : State) (i : Nat) (x : KspSession) (event : Nat) : State :=
  (s.raise KSP.page 0).log 0x2A0 (fields [(8, x.ident), (1, x.roles), (1, x.ver), (1, i), (1, event)])

/-- A session gone. -/
def State.kspClose (s : State) (i : Nat) : State := (s.setSession i none).setReg (KSP.S_STAT i) 0

/-- The connection of a client (R466 to R468). -/
def State.kspConnect (s : State) (c : KspClient) : State :=
  let listens := s.rbit (regCTRL KSP.page) 0 && decide (c.port.toNat = s.fld KSP.LISTEN 15 0)
    && s.rbit KSP.LISTEN (if c.ipv6 then 17 else 16)
  if !listens then s
  else
    match (List.range 8).find? (fun i => s.kspSession i = none) with
    | none => (s.incLo KSP.REFUSED_CNT).kspRefused 0 0
    | some i =>
      match c.tls, c.roles with
      | false, _ => s.kspRefused 1 0
      | true, none => s.kspRefused 2 c.ident.toNat
      | true, some r =>
        let t := s.setSession i (some { roles := r.toNat, ident := c.ident.toNat, since := s.tb0s })
        let t := (t.setReg (KSP.S_STAT i) (word (1 + r.toNat * 256))).setReg64 (KSP.S_ID_LO i) (KSP.S_ID_HI i) c.ident
        (t.setReg (KSP.S_RX i) 0).setReg (KSP.S_TX i) 0

/-- The client's HELLO on a session (R470). -/
def State.kspHello (s : State) (i vmin vmax : Nat) : State :=
  match s.kspSession i with
  | some x =>
    if x.opened then s
    else
      let lo := max vmin 1
      let hi := min vmax (s.fld KSP.LISTEN 21 20)
      let t := s.incReg (KSP.S_RX i)
      if hi < lo then
        ((t.kspSend i 1 0x0001 0 (tlvResult KP.VERSION 0)).kspClose i).kspRefused 3 x.ident
      else
        let y := { x with opened := true, ver := hi, since := s.tb0s }
        let t := (t.setSession i (some y)).setReg (KSP.S_STAT i) (word (2 + hi * 16 + x.roles * 256))
        (t.kspSend i 1 0x0001 0 (tlvResult KP.OK 0)).kspSessionLog i y 0
  | none => s

/-! ### Messages (R469, R472) -/

/-- What the module answers to a message: RESULT, STATE and RING_STAMP where they apply, then further TLVs. -/
structure KspAnswer where
  code : Nat := 0
  index : Nat := 0
  st : Option Nat := none
  at_ : Option Stamp := none
  data : List Byte := []
  deriving DecidableEq, Repr

/-- The body of a response (log entry 102). -/
def KspAnswer.body (a : KspAnswer) : List Byte :=
  tlvResult a.code a.index ++ ((a.st.map tlvState).getD []) ++ ((a.at_.map tlvStamp).getD []) ++ a.data

/-- A response, if the session still stands. -/
def State.kspReply (s : State) (h : KspHead) (msg : Nat) (a : KspAnswer) (replayed : Bool) : State :=
  if (s.kspSession h.sess).isSome then
    s.kspSend h.sess (1 + 4 * replayed.toNat) msg h.txid.toNat a.body
  else s

/-- A message counted on its open session. -/
def State.kspTake (s : State) (i : Nat) (x : KspSession) : State :=
  (s.incReg (KSP.S_RX i)).setSession i (some { x with since := s.tb0s })

/-- A message answered DENIED: counted and logged (R467). -/
def State.kspDenied (s : State) (msg : Nat) (x : KspSession) : State :=
  (s.modKsp (fun k => { k with denied := k.denied + 1 })).log 0x2A2 (fields [(2, msg), (1, x.roles), (1, 0), (8, x.ident)])

/-- The checks of every message: its version, an unknown critical TLV, its role. -/
def kspCheck (x : KspSession) (h : KspHead) (ver : Nat) (role : Option Nat) : Option Nat :=
  if x.ver < ver then some KP.UNKNOWN_MSG
  else if h.critical then some KP.UNKNOWN_CRITICAL
  else match role with
    | some r => if x.roles.testBit r then none else some KP.DENIED
    | none => none

/-- A read-class message: checked, executed at every arrival, answered (R472). -/
def State.kspRead (s : State) (h : KspHead) (msg ver : Nat) (role : Option Nat) (f : KspSession → State → State × KspAnswer) : State :=
  match s.kspSession h.sess with
  | some x =>
    if !x.opened then s
    else
      let t := s.kspTake h.sess x
      match kspCheck x h ver role with
      | some c => (if c = KP.DENIED then t.kspDenied msg x else t).kspReply h msg { code := c } false
      | none =>
        let p := f x t
        p.1.kspReply h msg p.2 false
  | none => s

/-- The journal entry of an executed message, put through the KSP page (R472, R481): TXJ_BUF, TXJ_RES and TXJ_DONE as a PUT
leaves them, after one that is still under way. -/
def State.kspJournal (s : State) (body : List Byte) : State :=
  let t := if s.ksp.op.isSome then s.txjDone else s
  let t := (List.range 7).foldl (fun (u : State) w => u.setReg (KSP.TXJ_BUF w) ((wordsOf body).getD w 0)) t
  ((t.setReg KSP.TXJ_RES (word t.ksp.head)).txjAppend body).raise KSP.page 2

/-- A message that changes state, executed: its answer is entered in the journal and sent (R471, R472). -/
def State.kspRun (s : State) (h : KspHead) (msg : Nat) (x : KspSession) (f : KspSession → State → State × KspAnswer) : State :=
  let p := f x s
  let body := txjBody x.ident h.txid.toNat h.digest.toNat p.2.code p.2.index (p.2.st.getD TX.DONE)
  (p.1.kspJournal body).kspReply h msg p.2 false

/-- A write-class message: checked, looked up in the journal, executed unless it was before, journalled, answered (R472, R477). -/
def State.kspWrite (s : State) (h : KspHead) (msg ver : Nat) (role : Option Nat) (f : KspSession → State → State × KspAnswer) : State :=
  match s.kspSession h.sess with
  | some x =>
    if !x.opened then s
    else
      let t := s.kspTake h.sess x
      let fail := fun c => t.kspReply h msg { code := c } false
      match kspCheck x h ver role with
      | some c => (if c = KP.DENIED then t.kspDenied msg x else t).kspReply h msg { code := c } false
      | none =>
        if h.txid = 0 then fail KP.MALFORMED
        else if t.twn.role ≠ .solo ∧ t.twn.role ≠ .active then fail KP.NOT_ACTIVE
        else
          match t.txjFind x.ident h.txid.toNat with
          | some i =>
            if t.txjState i = TX.LOST then t.kspRun h msg x f
            else if t.txjDigest i = h.digest.toNat then
              t.kspReply h msg { code := t.txjCode i, index := t.txjIndex i, st := some (t.txjState i) } true
            else fail KP.TXID_CONFLICT
          | none => t.kspRun h msg x f
  | none => s

/-! ### Members (R473, R479) -/

/-- The code, the version and the role of a member's message. -/
def memberCode : KspMember → Nat
  | .regWrite .. => 0x0101 | .winWrite .. => 0x0103 | .bankCommit .. => 0x0202 | .override .. => 0x0210 | .sceneSwitch .. => 0x0211
  | .setpoint .. => 0x0212 | .level .. => 0x0213 | .patternStart .. => 0x0214 | .endpointBudget .. => 0x0215

def memberVer : KspMember → Nat
  | .patternStart .. | .endpointBudget .. => 3
  | _ => 1

def memberRole : KspMember → Nat
  | .regWrite .. | .winWrite .. | .bankCommit .. | .endpointBudget .. => ROLE.ENGINEER
  | _ => ROLE.OPERATE

/-- A stamp's two halves, low word first, in registers. -/
def stampWrites (lo hi : Nat) (at_ : Stamp) : List (Nat × Word) := [(lo, lo32 at_), (hi, hi32 at_)]

/-- The writes that put a member in its staging registers with stamp S (R474, R479); stamp 0 without a commit point. -/
def State.memberWrites (s : State) (m : KspMember) (at_ : Stamp) : List (Nat × Word) :=
  match m with
  | .regWrite l => l.map (fun p => (p.1.toNat, p.2))
  | .winWrite a d => (d.zip (List.range d.length)).map (fun p => (a.toNat + 4 * p.2, p.1))
  | .bankCommit b =>
    match b.val with
    | 0 => stampWrites CEN.COMMIT_AT_LO CEN.COMMIT_AT_HI at_ ++ [(CEN.COMMIT_CTRL, word (1 + 4 * (s.rbit CEN.COMMIT_CTRL 2).toNat))]
    | 1 => stampWrites YRD.COMMIT_AT_LO YRD.COMMIT_AT_HI at_ ++ [(YRD.COMMIT_CTRL, 1)]
    | 2 => stampWrites SCH.COMMIT_AT_LO SCH.COMMIT_AT_HI at_ ++ [(SCH.COMMIT_CTRL, 1)]
    | _ => [(MTR.COR_CTRL, 1)]
  | .override n c =>
    let a := 0x50860000 + 0x20 * n.val
    let w := fun i => c.getD i 0
    [(a, putBits (w 0) 23 16 1), (a + 4, w 1), (a + 8, w 2), (a + 16, hi32 at_), (a + 20, lo32 at_), (a + 24, w 6), (a + 28, w 7),
      (YRD.OVR_ARM, word n.val)]
  | .sceneSwitch n on => (YRD.SCENE_SEL, word (n.val + on.toNat * 256)) :: stampWrites YRD.SCENE_AT_LO YRD.SCENE_AT_HI at_
  | .setpoint (some k) v => (CHN.SP_NEXT k, v) :: stampWrites (CHN.SP_AT_LO k) (CHN.SP_AT_HI k) at_
  | .setpoint none v => (MFE.BUS_SP_NEXT, v) :: stampWrites MFE.BUS_SP_AT_LO MFE.BUS_SP_AT_HI at_
  | .level k v => (LGT.LVL_NEXT k, v) :: stampWrites (LGT.LVL_AT_LO k) (LGT.LVL_AT_HI k) at_
  | .patternStart e => stampWrites (LGT.PE_START_LO e) (LGT.PE_START_HI e) at_
  | .endpointBudget e r b r' b' =>
    let a := 0x50400000 + 0x40 * e.val
    [(a + 16, r), (a + 20, b), (a + 24, r'), (a + 28, b')]

/-- A write the firmware makes of a page register or a window word, and whether the module took it. -/
def State.fwWrite (s : State) (a : Nat) (v : Word) : State × Bool :=
  if (isPageAddr a || isWindow a) && a % 4 = 0 then
    let p := s.fabricWriteR 0 a v
    (p.1, p.2 ≠ .refused)
  else (s, false)

/-- Writes in order; the index of the first one that was refused. -/
def State.fwWrites (s : State) (l : List (Nat × Word)) : State × Option Nat :=
  (l.zip (List.range l.length)).foldl (fun acc p =>
    let q := acc.1.fwWrite p.1.1 p.1.2
    (q.1, match acc.2 with | some i => some i | none => if q.2 then none else some p.2)) (s, none)

/-- A member put in force: the state and whether a write of it was refused. -/
def State.applyMember (s : State) (m : KspMember) (at_ : Stamp) : State × Option Nat := s.fwWrites (s.memberWrites m at_)

/-- What a member answers beside its result: REG_WRITE reads each value back. -/
def State.memberData (s : State) (m : KspMember) : List Byte :=
  match m with
  | .regWrite l => l.flatMap (fun p => tlvAddrVal p.1 (s.view p.1.toNat))
  | _ => []

/-- When a member put in its staging registers now takes effect, and whether its chapter records it as late (R125, R147, R209,
R216, R282, R308). -/
def State.memberEffect (s : State) (m : KspMember) (at_ : Stamp) : Stamp × Bool :=
  let pass := cycleOf s.now + 1
  let cs := (at_.toNat + 4095) / 4096
  let plain : Stamp × Bool := (if at_.toNat < s.now.toNat then s.now else at_, false)
  let yardBank : Stamp × Bool := (stamp (max cs pass) 0, at_ ≠ 0 && decide (cs < pass))
  let yardInput : Stamp × Bool := (stamp (max cs pass) 0, at_ ≠ 0 && decide ((cycleOf at_ : Int) - s.relLead < pass))
  match m with
  | .setpoint .. | .level .. => s.boundFor 8 at_
  | .patternStart _ => s.boundFor 64 at_
  | .bankCommit b => if b.val = 0 then s.boundFor 8 at_ else if b.val = 3 then (stamp (max cs pass) 0, false) else yardBank
  | .override .. | .sceneSwitch .. => yardInput
  | _ => plain

/-- The targets that hold one pending value (R476), each a kind and an index. -/
def addrTarget (a : Nat) (v : Word) : List (Nat × Nat) :=
  ((List.range 48).filter (fun k => a = CHN.SP_NEXT k)).map (fun k => (0, k))
    ++ (if a = MFE.BUS_SP_NEXT then [(1, 0)] else [])
    ++ ((List.range 48).filter (fun k => a = LGT.LVL_NEXT k)).map (fun k => (2, k))
    ++ ((List.range 8).filter (fun e => a = LGT.PE_START_LO e || a = LGT.PE_START_HI e)).map (fun e => (3, e))
    ++ (if a = YRD.SCENE_SEL then [(4, bits v 5 0)] else [])
    ++ (if a = CEN.COMMIT_CTRL then [(5, 0)] else []) ++ (if a = YRD.COMMIT_CTRL then [(5, 1)] else [])
    ++ (if a = SCH.COMMIT_CTRL then [(5, 2)] else [])

def State.targets (s : State) (m : KspMember) : List (Nat × Nat) := (s.memberWrites m 0).flatMap (fun p => addrTarget p.1 p.2)

/-! ### Bundles (R473 to R476) -/

/-- A commit point as a ring stamp, now for none; none when its conversion fails. -/
def State.pointStamp (s : State) (p : CommitPoint) : Option Stamp :=
  match p with
  | .none => some s.now
  | .ring t => some t
  | .civil t => match civilToRing s.rct.map (tbParse t.toNat) with | .value v => some (BitVec.ofNat 64 v) | .failed _ => none

/-- A commit point as a civil time in 2^-16 ns. -/
def State.pointCivil (s : State) (p : CommitPoint) : Option Nat :=
  let ring := fun (t : Stamp) => match ringToCivil s.rct.map t.toNat with | .value v => some v | .failed _ => none
  match p with
  | .none => ring s.now
  | .ring t => ring t
  | .civil t => some (tbParse t.toNat)

/-- Two commit points lie too close (R476): fewer than 16 cycles apart, or 1 s where a conversion fails; two that cannot be
compared count as close (log entry 53). -/
def State.close (s : State) (frozen : Option Stamp) (p q : CommitPoint) : Bool :=
  let far := fun (d a b : Nat) => decide (a + d ≤ b) || decide (b + d ≤ a)
  match (match frozen with | some t => some t | none => s.pointStamp p), s.pointStamp q with
  | some a, some b => !far 65536 a.toNat b.toNat
  | _, _ =>
    match s.pointCivil p, s.pointCivil q with
    | some a, some b => !far (1000000000 * 65536) a b
    | _, _ => true

/-- A pending bundle holds a member on a target of `ms` too close to the point `q` (R476). -/
def State.conflicts (s : State) (ms : List KspMember) (q : CommitPoint) : Bool :=
  let ts := ms.flatMap s.targets
  s.ksp.bundles.any (fun b => (b.members.flatMap s.targets).any (fun t => ts.contains t) && s.close b.at_ b.point q)

/-- The commit point frozen, if it can be (R474). -/
def State.freezeBundle (s : State) (b : KspBundle) : KspBundle :=
  match b.at_, b.point with
  | some _, _ => b
  | none, .none => { b with at_ := some 0 }
  | none, .ring t => { b with at_ := some t }
  | none, .civil _ =>
    match s.pointStamp b.point with
    | some t => if cycleOf t < cycleOf s.now + 512 then { b with at_ := some t } else b
    | none => b

/-- The arm point of a frozen bundle has passed (R474): angle 0 of cycle c(S) − 16. -/
def State.atArmPoint (s : State) (b : KspBundle) : Bool :=
  match b.at_ with
  | some t => decide ((cycleOf t - 16) * 4096 ≤ s.now.toNat)
  | none => false

/-- Every member of a bundle written to its staging registers in order (R474), with the result of each and the stamp at which
the last has taken effect. -/
def State.armBundle (s : State) (b : KspBundle) : State × KspBundle :=
  let t := b.at_.getD 0
  let p := b.members.foldl (fun (acc : State × List Nat × Nat) m =>
    let e := acc.1.memberEffect m t
    let q := acc.1.applyMember m t
    let r := if q.2.isSome then KP.REFUSED else if e.2 then KP.TOO_LATE else KP.OK
    (q.1, acc.2.1 ++ [r], max acc.2.2 e.1.toNat)) (s, [], s.now.toNat)
  (p.1, { b with results := p.2.1, done := some (BitVec.ofNat 64 p.2.2) })

/-- What is wrong with a member at receipt (R473): its version, its role, or a write its chapter refuses. -/
def State.memberFault (s : State) (x : KspSession) (m : KspMember) (t : Stamp) : Option Nat :=
  if x.ver < (memberVer m) then some KP.UNKNOWN_MSG
  else if !x.roles.testBit (memberRole m) then some KP.DENIED
  else if (s.applyMember m t).2.isSome then some KP.REFUSED
  else none

/-- The first member that fails, with its code, each checked on the state the earlier ones leave. -/
def State.membersFault (s : State) (x : KspSession) (t : Stamp) : List KspMember → Nat → Option (Nat × Nat)
  | [], _ => none
  | m :: ms, i =>
    match s.memberFault x m t with
    | some c => some (c, i)
    | none => (s.applyMember m t).1.membersFault x t ms (i + 1)

/-- A bundle received (R473 to R476): checked, and queued for its commit point, or armed at once. -/
def State.takeBundle (s : State) (h : KspHead) (x : KspSession) (msg : Nat) (ms : List KspMember) (p : CommitPoint) : State × KspAnswer :=
  let early := match p with | .civil _ => decide (x.ver < 2) | _ => false
  if early || ms.isEmpty || decide (64 < ms.length) then (s, { code := KP.MALFORMED })
  else
    let b := s.freezeBundle { sess := h.sess, ident := x.ident, txid := h.txid.toNat, msg := msg, members := ms, point := p, entry := s.ksp.head }
    match s.membersFault x (b.at_.getD 0) ms 0 with
    | some (c, i) => ((if c = KP.DENIED then s.kspDenied msg x else s), { code := c, index := i })
    | none =>
      if s.conflicts ms p then (s, { code := KP.CONFLICT })
      else if 256 ≤ s.ksp.bundles.length then (s, { code := KP.BUSY })
      else if s.atArmPoint b then
        let q := s.armBundle b
        (q.1.modKsp (fun k => { k with bundles := k.bundles ++ [q.2] }), { st := some TX.ARMED, at_ := b.at_ })
      else (s.modKsp (fun k => { k with bundles := k.bundles ++ [b] }), { st := some TX.PENDING, at_ := b.at_ })

/-- A message of the bundleable kind (R473): with a commit point a bundle of one, else applied at once with stamp 0. -/
def State.kspMember (s : State) (h : KspHead) (m : KspMember) (p : CommitPoint) : State :=
  s.kspWrite h (memberCode m) (memberVer m) (some (memberRole m)) (fun x t =>
    match p with
    | .none =>
      let q := t.applyMember m 0
      (q.1, { code := if q.2.isSome then KP.REFUSED else KP.OK, index := q.2.getD 0, st := some TX.DONE, data := q.1.memberData m })
    | _ => t.takeBundle h x (memberCode m) [m] p)

/-- The session a bundle's event goes to: the one it came on, or another of the same client. -/
def State.bundleSession (s : State) (b : KspBundle) : Option Nat :=
  let fits := fun (i : Nat) => match s.kspSession i with | some x => x.opened && x.ident = b.ident | none => false
  (b.sess :: List.range 8).find? fits

/-- BUNDLE_DONE (R475), with the journal entry DONE. -/
def State.bundleDone (s : State) (b : KspBundle) : State :=
  let t := s.txjMark b.entry TX.DONE
  match t.bundleSession b with
  | some i => t.kspSend i 2 0x0013 b.txid (b.results.zipIdx.flatMap (fun r => tlvResult r.1 r.2))
  | none => t

/-! ### The configuration store (R423) -/

/-- A configuration area, by CFG, and its end. -/
def cfgArea (c : Nat) : Nat := if c % 2 = 0 then 0x60010000 else 0x60210000
def cfgSize : Nat := 0x1F0000

/-- The records of an area from byte `o`: LEN counts the whole record, and a LEN below 8 ends the list (log entry 54). -/
def State.cfgRecords (s : State) (base : Nat) : Nat → Nat → List (Nat × ConfigRecord)
  | 0, _ => []
  | fuel + 1, o =>
    let len := s.memBE (base + o) 2
    if len < 8 ∨ cfgSize < o + len then []
    else
      (o, { typ := BitVec.ofNat 16 (s.memBE (base + o + 2) 2), schema := BitVec.ofNat 16 (s.memBE (base + o + 4) 2),
            body := s.bytes (base + o + 8) (len - 8) }) :: s.cfgRecords base fuel (o + len)

/-- The configuration area of the running bank. -/
def State.runningArea (s : State) : Nat := cfgArea (s.bootRec.cfgOf s.upd.bank)

/-- The bytes of a record. -/
def recordOf (r : ConfigRecord) : List Byte :=
  bytesBE 2 (r.body.length + 8) ++ bytesBE 2 r.typ.toNat ++ bytesBE 2 r.schema.toNat ++ [0, 0] ++ r.body

/-- A record put in the place of the one of its TYPE, or after the last. -/
def putRecord (l : List ConfigRecord) (r : ConfigRecord) : List ConfigRecord :=
  if l.any (fun x => x.typ = r.typ) then l.map (fun x => if x.typ = r.typ then r else x) else l ++ [r]

/-- CONFIG_PUT: the records of the running bank's area with those of the message, if they fit and the area may be written. -/
def State.configPut (s : State) (rs : List ConfigRecord) : State × KspAnswer :=
  let base := s.runningArea
  let old := (s.cfgRecords base 4096 32).map (·.2)
  let all := (rs.foldl putRecord old).flatMap recordOf
  let held := s.bootRec.trial = 1 && decide (s.oldArea = base)
  if s.pwr.mramProtect || held || rs.any (fun r => decide (65527 < r.body.length)) || decide (cfgSize < 34 + all.length) then
    (s, { code := KP.REFUSED })
  else (s.setBytes (base + 32) (all ++ [0, 0]), {})

/-! ### Reading (R478, R479) -/

/-- Registers as they read, in ADDR_VALs. -/
def State.readRegs (s : State) (a n : Nat) : State × List Byte :=
  (List.range n).foldl (fun (acc : State × List Byte) i =>
    let p := acc.1.pageRead 0 (a + 4 * i)
    (p.1, acc.2 ++ tlvAddrVal (word (a + 4 * i)) p.2)) (s, [])

/-- Code and bytes of the record with a SEQ, commit word included, when the log still holds it (R398). -/
def State.recordBytes (s : State) (q : Word) : Option (Nat × List Byte) :=
  match s.findRecord q with
  | some x =>
    let a := if x < 0x1000000 then 0x52000000 + x else 0x52800000 + (x - 0x1000000)
    some (s.memBE (a + 2) 2 % 1024, s.bytes a (s.memBE a 2 + 4))
  | none => none

/-- The record of a sequence number sent on a stream, if it stands and its code is subscribed. -/
def State.streamOne (s : State) (i mask : Nat) (q : Word) : State :=
  match s.recordBytes q with
  | some (code, b) => if mask.testBit code then s.kspSend i 2 0x0501 0 (tlvRecord b) else s
  | none => s

/-- The records from a SEQ on, sent on a stream (R478). -/
def State.streamFrom (s : State) (i : Nat) (mask : Nat) : Nat → Word → State
  | 0, _ => s
  | n + 1, q => (s.streamOne i mask q).streamFrom i mask n (q + 1)

/-- LOG_SUBSCRIBE: a gap below OLDEST_SEQ is told first; the records that stand are sent, and the stream follows (R478). -/
def State.subscribe (s : State) (h : KspHead) (x : KspSession) (from_ : Word) (mask : Nat) : State :=
  let i := h.sess.val
  let below := decide (2 ^ 31 ≤ (from_ - s.evr.oldestSeq).toNat)
  let start := if below then s.evr.oldestSeq else from_
  let t := if below then s.kspSend i 2 0x0503 0 (tlvWords [s.evr.oldestSeq]) else s
  let n := (s.evr.nextSeq - start).toNat
  let here := decide (n < 2 ^ 31)
  let t := if here then t.streamFrom i mask n start else t
  t.setSession i (some { x with since := s.tb0s, stream := some { next := if here then s.evr.nextSeq else start, mask := mask } })

/-- The words of one publication: PUB_AT, the cycle flags, and the accumulators of the billing set (R190). -/
def State.meterWords (s : State) : List Word :=
  [s.reg MTR.PUB_AT_HI, s.reg MTR.PUB_AT_LO, s.reg MTR.CYC_FLAGS]
    ++ (List.range 106).flatMap (fun j => let c := cntOf s.mtr.pubBilling j / 2 ^ 64; [word (c / 2 ^ 32), word c])

/-- The per-cycle results of that publication. -/
def State.cycleWords (s : State) : List Word :=
  [s.reg MTR.PUB_AT_HI, s.reg MTR.PUB_AT_LO, s.reg MTR.CYC_FLAGS, s.reg MTR.IRMS_N, s.reg MTR.P_TOT]
    ++ (List.range 3).flatMap (fun k => [s.reg (MTR.VRMS k), s.reg (MTR.IRMS k), s.reg (MTR.P k), s.reg (MTR.THD k)])
    ++ (List.range 48).flatMap (fun k => [s.reg (MTR.CH_VRMS k), s.reg (MTR.CH_IRMS k), s.reg (MTR.CH_P k), s.reg (MTR.CH_FLAGS k)])

/-- The commit slot with the highest SEQ. -/
def State.newestSlot (s : State) : Option Nat :=
  ((List.range 16).filter (s.commitValid [])).foldl (fun (b : Option Nat) n =>
    match b with
    | some m => if s.memBE (mtrSlot m + 4) 4 < s.memBE (mtrSlot n + 4) 4 then some n else some m
    | none => some n) none

/-- Writes of a message that is not bundleable, answered. -/
def State.fwAnswer (s : State) (l : List (Nat × Word)) : State × KspAnswer :=
  let p := s.fwWrites l
  (p.1, { code := if p.2.isSome then KP.REFUSED else KP.OK, index := p.2.getD 0 })

/-- The time order's record (R480). -/
def State.timeOrder (s : State) (kind : Nat) (x : KspSession) : State := s.log 0x2A3 (fields [(1, kind), (3, 0), (8, x.ident)])

/-! ### The commands -/

/-- KSP_CONNECT (R466 to R468). -/
def execKspConnect (c : KspClient) (s : State) : Res State := .next (s.kspConnect c)

/-- HELLO (R470). -/
def execHello (i : Fin 8) (vmin vmax : BitVec 8) (s : State) : Res State := .next (s.kspHello i vmin.toNat vmax.toNat)

/-- HELLO_TIMEOUT (R468): 10 s after the handshake. -/
def execHelloTimeout (i : Fin 8) (s : State) : Res State :=
  .next (match s.kspSession i with
    | some x => if !x.opened ∧ x.since + 10 ≤ s.tb0s then (s.kspClose i).kspRefused 4 x.ident else s
    | none => s)

/-- SESSION_IDLE_TIMEOUT (R468): 90 s of TB0 without a record. -/
def execSessionIdleTimeout (i : Fin 8) (s : State) : Res State :=
  .next (match s.kspSession i with
    | some x => if x.opened ∧ x.since + 90 ≤ s.tb0s then (s.kspClose i).kspSessionLog i x 1 else s
    | none => s)

/-- PING (R479). -/
def execPing (h : KspHead) (s : State) : Res State := .next (s.kspRead h 0x0002 1 none (fun _ t => (t, {})))

/-- BUNDLE (R473): members that carry a commit point of their own make it MALFORMED. -/
def execBundle (h : KspHead) (ms : List BundleMember) (p : CommitPoint) (s : State) : Res State :=
  .next (s.kspWrite h 0x0010 1 none (fun x t =>
    if ms.any (·.stamped) then (t, { code := KP.MALFORMED }) else t.takeBundle h x 0x0010 (ms.map (·.msg)) p))

/-- BUNDLE_CANCEL (R475). -/
def execBundleCancel (h : KspHead) (txid : BitVec 64) (s : State) : Res State :=
  .next (s.kspWrite h 0x0011 2 none (fun x t =>
    match t.ksp.bundles.find? (fun b => b.ident = x.ident && b.txid = txid.toNat) with
    | none => (t, { code := KP.REFUSED })
    | some b =>
      if b.members.any (fun m => !x.roles.testBit (memberRole m)) then (t.kspDenied 0x0011 x, { code := KP.DENIED })
      else if b.done.isSome || t.atArmPoint b then (t, { code := KP.BUSY })
      else ((t.modKsp (fun k => { k with bundles := k.bundles.filter (fun c => c ≠ b) })).txjMark b.entry TX.CANCELLED, {})))

/-- TX_QUERY (R477): each TXID as DATA, with its STATE where an entry of this client holds it. -/
def execTxQuery (h : KspHead) (txids : List (BitVec 64)) (s : State) : Res State :=
  .next (s.kspRead h 0x0012 2 (some ROLE.VIEW) (fun x t => (t, { data := txids.flatMap (fun q =>
    tlvData (bytesBE 8 q.toNat) ++ (match t.txjFind x.ident q.toNat with | some i => tlvState (t.txjState i) | none => [])) })))

/-- BUNDLE_CONVERT (R474): angle 0 of a cycle whose count is a multiple of 256. -/
def execBundleConvert (s : State) : Res State :=
  .next (if s.now.toNat % (256 * 4096) = 0 then s.modKsp (fun k => { k with bundles := k.bundles.map s.freezeBundle }) else s)

/-- BUNDLE_ARM (R474): the bundles whose arm point has passed, oldest first. -/
def execBundleArm (s : State) : Res State :=
  .next (s.ksp.bundles.foldl (fun (t : State) b =>
    if b.done.isNone && t.atArmPoint b then
      let q := t.armBundle b
      (q.1.modKsp (fun k => { k with bundles := k.bundles.map (fun c => if c = b then q.2 else c) })).txjMark b.entry TX.ARMED
    else t) s)

/-- BUNDLE_COMPLETE (R475): the bundles whose last member has taken effect. -/
def execBundleComplete (s : State) : Res State :=
  .next (s.ksp.bundles.foldl (fun (t : State) b =>
    match b.done with
    | some d =>
      if d.toNat ≤ t.now.toNat then (t.modKsp (fun k => { k with bundles := k.bundles.filter (fun c => c ≠ b) })).bundleDone b else t
    | none => t) s)

/-- REG_READ (R479): `n` registers from an address. -/
def execRegRead (h : KspHead) (a : Word) (n : BitVec 10) (s : State) : Res State :=
  .next (s.kspRead h 0x0100 1 (some ROLE.VIEW) (fun _ t =>
    if isPageAddr a.toNat && a.toNat % 4 = 0 && isPageAddr (a.toNat + 4 * (n.toNat - 1)) then
      let p := t.readRegs a.toNat n.toNat
      (p.1, { data := p.2 })
    else (t, { code := KP.REFUSED })))

/-- REG_WRITE (R479). -/
def execRegWrite (h : KspHead) (l : List (Word × Word)) (p : CommitPoint) (s : State) : Res State := .next (s.kspMember h (.regWrite l) p)

/-- WIN_READ (R479): `n` words from a window address. -/
def execWinRead (h : KspHead) (a : Word) (n : BitVec 14) (s : State) : Res State :=
  .next (s.kspRead h 0x0102 1 (some ROLE.VIEW) (fun _ t =>
    if (List.range n.toNat).all (fun i => isWindow (a.toNat + 4 * i)) && a.toNat % 4 = 0 then
      (t, { data := tlvWords ((List.range n.toNat).map (fun i => t.winView (a.toNat + 4 * i))) })
    else (t, { code := KP.REFUSED })))

/-- WIN_WRITE (R479). -/
def execWinWrite (h : KspHead) (a : Word) (d : List Word) (p : CommitPoint) (s : State) : Res State :=
  .next (s.kspMember h (.winWrite a d) p)

/-- CONFIG_GET (R471, R479): the records of a TYPE, each as DATA. -/
def execConfigGet (h : KspHead) (typ : BitVec 16) (s : State) : Res State :=
  .next (s.kspRead h 0x0110 1 (some ROLE.VIEW) (fun _ t =>
    let l := (t.cfgRecords t.runningArea 4096 32).filter (fun r => r.2.typ = typ)
    (t, { data := l.flatMap (fun r => tlvData (recordOf r.2)) })))

/-- CONFIG_PUT (R471, R479). -/
def execConfigPut (h : KspHead) (rs : List ConfigRecord) (s : State) : Res State :=
  .next (s.kspWrite h 0x0111 1 (some ROLE.ENGINEER) (fun _ t => t.configPut rs))

/-- SCHEDULE_LOAD (R479): entries of the shadow W4 bank. -/
def execScheduleLoad (h : KspHead) (l : List (Fin 1024 × List Word)) (s : State) : Res State :=
  .next (s.kspWrite h 0x0200 1 (some ROLE.ENGINEER) (fun _ t =>
    t.fwAnswer (l.flatMap (fun e => (e.2.take 8).zipIdx.map (fun w => (0x50800000 + 0x20 * e.1.val + 4 * w.2, w.1))))))

/-- RULES_LOAD (R479): rules and scenes of the shadow W5 banks. -/
def execRulesLoad (h : KspHead) (rules : List (Fin 256 × List Word)) (scenes : List (Fin 64 × List Word)) (s : State) : Res State :=
  let at_ := fun (base : Nat) (d : List Word) => (d.take 16).zipIdx.map (fun w => (base + 4 * w.2, w.1))
  .next (s.kspWrite h 0x0201 1 (some ROLE.ENGINEER) (fun _ t =>
    t.fwAnswer (rules.flatMap (fun r => at_ (0x50840000 + 0x40 * r.1.val) r.2)
      ++ scenes.flatMap (fun r => at_ (0x50844000 + 0x40 * r.1.val) r.2))))

/-- BANK_COMMIT (R479): 0 CEN, 1 YRD, 2 SCH, 3 MTR correction. -/
def execBankCommit (h : KspHead) (b : Fin 4) (p : CommitPoint) (s : State) : Res State := .next (s.kspMember h (.bankCommit b) p)

/-- OVERRIDE (R294, R479). -/
def execOverride (h : KspHead) (slot : Fin 256) (content : List Word) (p : CommitPoint) (s : State) : Res State :=
  .next (s.kspMember h (.override slot content) p)

/-- SCENE_SWITCH (R293, R479). -/
def execSceneSwitch (h : KspHead) (scene : Fin 64) (on : Bool) (p : CommitPoint) (s : State) : Res State :=
  .next (s.kspMember h (.sceneSwitch scene on) p)

/-- SETPOINT (R147, R479): of a channel, or of the bus. -/
def execSetpoint (h : KspHead) (target : Option (Fin 48)) (v : Word) (p : CommitPoint) (s : State) : Res State :=
  .next (s.kspMember h (.setpoint target v) p)

/-- LEVEL (R209, R479). -/
def execLevel (h : KspHead) (ch : Fin 48) (v : Word) (p : CommitPoint) (s : State) : Res State := .next (s.kspMember h (.level ch v) p)

/-- PATTERN_START (R216, R479). -/
def execPatternStart (h : KspHead) (e : Fin 8) (p : CommitPoint) (s : State) : Res State := .next (s.kspMember h (.patternStart e) p)

/-- ENDPOINT_BUDGET (R275, R479). -/
def execEndpointBudget (h : KspHead) (e : Fin 16384) (rateDn burstDn rateUp burstUp : Word) (p : CommitPoint) (s : State) : Res State :=
  .next (s.kspMember h (.endpointBudget e rateDn burstDn rateUp burstUp) p)

/-- METER_READ (R479). -/
def execMeterRead (h : KspHead) (s : State) : Res State :=
  .next (s.kspRead h 0x0300 1 (some ROLE.VIEW) (fun _ t => (t, { data := tlvWords t.meterWords })))

/-- METER_CYCLE (R479). -/
def execMeterCycle (h : KspHead) (s : State) : Res State :=
  .next (s.kspRead h 0x0301 1 (some ROLE.VIEW) (fun _ t => (t, { data := tlvWords t.cycleWords })))

/-- METER_SLOT (R479): bytes 0 to 2 047 of the newest commit slot. -/
def execMeterSlot (h : KspHead) (s : State) : Res State :=
  .next (s.kspRead h 0x0302 1 (some ROLE.VIEW) (fun _ t =>
    match t.newestSlot with
    | some n => (t, { data := tlvData (t.bytes (mtrSlot n) 2048) })
    | none => (t, { code := KP.REFUSED })))

/-- ALARM_ACK (R478): the other sessions are told. -/
def execAlarmAck (h : KspHead) (seqs : List Word) (s : State) : Res State :=
  .next (s.kspWrite h 0x0401 1 (some ROLE.OPERATE) (fun _ t =>
    let t := t.modKsp (fun k => { k with alarms := k.alarms.filter (fun q => !seqs.contains q) })
    ((List.range 8).foldl (fun (u : State) i =>
      match u.kspSession i with
      | some y => if y.opened && i ≠ h.sess.val then u.kspSend i 2 0x0403 0 (tlvWords seqs) else u
      | none => u) t, {})))

/-- ALARM_LIST (R478): the RECORD of each unacknowledged alarm, or its SEQ as DATA where the log no longer holds it. -/
def execAlarmList (h : KspHead) (s : State) : Res State :=
  .next (s.kspRead h 0x0402 1 (some ROLE.VIEW) (fun _ t => (t, { data := (t.ksp.alarms.take 1024).flatMap (fun q =>
    match t.recordBytes q with | some (_, b) => tlvRecord b | none => tlvWords [q]) })))

/-- LOG_SUBSCRIBE (R478): the answer comes before the records. -/
def execLogSubscribe (h : KspHead) (from_ : Word) (mask : BitVec 1024) (s : State) : Res State :=
  let t := s.kspRead h 0x0500 1 (some ROLE.VIEW) (fun _ t => (t, {}))
  .next (match s.kspSession h.sess with
    | some x => if x.opened ∧ (kspCheck x h 1 (some ROLE.VIEW)).isNone then t.subscribe h x from_ mask.toNat else t
    | none => t)

/-- LOG_STOP (R479). -/
def execLogStop (h : KspHead) (s : State) : Res State :=
  .next (s.kspRead h 0x0502 1 (some ROLE.VIEW) (fun x t => (t.setSession h.sess (some { x with since := t.tb0s, stream := none }), {})))

/-- TIME_READ (R479): TB0 to TB3 from one SNAP, CIV_STAT, and the RTC calendar from one SNAP of its page. -/
def execTimeRead (h : KspHead) (s : State) : Res State :=
  .next (s.kspRead h 0x0600 1 (some ROLE.VIEW) (fun _ t =>
    let u := (t.fabricWrite 0 (regCTRL TIM.page) 4).fabricWrite 0 (regCTRL RTC.page) 4
    (u, { data := tlvWords ((List.range 4).flatMap (fun k => [u.reg (TIM.TB_S_HI k), u.reg (TIM.TB_S_LO k), u.reg (TIM.TB_NS k)])
      ++ [u.view TIM.CIV_STAT, u.reg RTC.DATE, u.reg RTC.TIME]) })))

/-- TIME_STEP (R346, R479). -/
def execTimeStep (h : KspHead) (k : TimeStep) (s : State) : Res State :=
  .next (s.kspWrite h 0x0601 1 (some ROLE.TIME) (fun x t =>
    match k with
    | .snap => (t.timeOrder 1 x).fwAnswer [(TIM.CIV_STEP, 0x57E90001)]
    | .value v =>
      let sec := v.toNat / 2 ^ 48
      (t.timeOrder 2 x).fwAnswer [(TIM.STEP_VAL_S_LO, word sec), (TIM.STEP_VAL_S_HI, word (sec / 2 ^ 32 % 65536 + v.toNat % 65536 * 65536)),
        (TIM.STEP_VAL_NS, word (v.toNat / 65536)), (TIM.CIV_STEP, 0x57E90002)]))

/-- TZ_LOAD (R348, R479): the table and the rules, then the zone word that names how many entries count. -/
def execTzLoad (h : KspHead) (z : ZoneLoad) (s : State) : Res State :=
  .next (s.kspWrite h 0x0602 1 (some ROLE.TIME) (fun _ t =>
    t.fwAnswer ((z.table.take 32).zipIdx.flatMap (fun e => [(TIM.TZ_ENT_LO e.2, e.1.getD 0 0), (TIM.TZ_ENT_HI e.2, e.1.getD 1 0)])
      ++ [(TIM.DST_START, z.rules.getD 0 0), (TIM.DST_END, z.rules.getD 1 0), (TIM.TZ_CFG, z.cfg)])))

/-- UPD_OPEN (R431, R479): source 0. -/
def execUpdOpen (h : KspHead) (s : State) : Res State :=
  .next (s.kspWrite h 0x0700 1 (some ROLE.UPDATE) (fun _ t => t.fwAnswer [(UPD.SESSION, 16)]))

/-- UPD_DATA (R431, R479): image bytes at an offset, which the firmware lays down in DRAM at `buf` and has the engine transfer. -/
def execUpdData (h : KspHead) (buf : BitVec 33) (off : Word) (bytes : List Byte) (s : State) : Res State :=
  .next (s.kspWrite h 0x0701 1 (some ROLE.UPDATE) (fun _ t =>
    let t := if isDram buf.toNat && isDram (buf.toNat + bytes.length) then t.setBytes buf.toNat bytes else t
    t.fwAnswer [(UPD.XFER_SRC_LO, word buf.toNat), (UPD.XFER_SRC_HI, word (buf.toNat / 2 ^ 32)), (UPD.XFER_OFF, off),
      (UPD.XFER_CTRL, word (bytes.length + 2 ^ 31))]))

/-- UPD_VERIFY (R431, R479). -/
def execUpdVerify (h : KspHead) (s : State) : Res State :=
  .next (s.kspWrite h 0x0702 1 (some ROLE.UPDATE) (fun _ t => t.fwAnswer [(UPD.CMD, updCmdWord 1 0)]))

/-- UPD_ACTIVATE (R431, R479). -/
def execUpdActivate (h : KspHead) (s : State) : Res State :=
  .next (s.kspWrite h 0x0703 1 (some ROLE.UPDATE) (fun _ t => t.fwAnswer [(UPD.CMD, updCmdWord 2 0)]))

/-- UPD_CONFIRM (R434, R479): CONFIRM, or FALLBACK. -/
def execUpdConfirm (h : KspHead) (fallback : Bool) (s : State) : Res State :=
  .next (s.kspWrite h 0x0704 1 (some ROLE.UPDATE) (fun _ t =>
    t.fwAnswer [(UPD.CMD, updCmdWord (if fallback then 4 else 3) 0xC0F1)]))

/-- UPD_STATUS (R479). -/
def execUpdStatus (h : KspHead) (s : State) : Res State :=
  .next (s.kspRead h 0x0705 1 (some ROLE.UPDATE) (fun _ t =>
    (t, { data := tlvWords ([regSTAT UPD.page, UPD.RESULT, UPD.LAND, UPD.PROGRESS, UPD.BOOT, UPD.WINDOW, UPD.RUN_VER, UPD.LAND_VER,
      UPD.MP_VER].map t.view) })))

/-- TWIN_CMD (R462, R479). -/
def execTwinCmd (h : KspHead) (c : TwinCmd) (s : State) : Res State :=
  .next (s.kspWrite h 0x0800 3 (some ROLE.ENGINEER) (fun _ t =>
    match c with
    | .handover => t.fwAnswer [(TWN.HANDOVER, 0x7A4E0000)]
    | .drill a r => t.fwAnswer ((TWN.DRILL_CTRL, word r.toNat) :: stampWrites TWN.DRILL_AT_LO TWN.DRILL_AT_HI a)))

end Sys2Proof.Machine
end

