-- ==== Sys2Proof/Machine/Dispatch.lean ====
section
/-!
DEFINITION. What each command does: one arm per constructor, each one call of its meaning.
-/

namespace Sys2Proof.Machine

/-- The effect of a command on everything but the queue. -/
def exec (i : Instr) (s : State) : Host.Outcome State Fault Refusal :=
  match i with
  | .powerOn bad => Sys2Proof.Machine.execPowerOn bad s
  | .domainPowerGood d bad => Sys2Proof.Machine.execDomainPowerGood d bad s
  | .pd3Release open_ => Sys2Proof.Machine.execPd3Release open_ s
  | .inputLoss mv => Sys2Proof.Machine.execInputLoss mv s
  | .loadShed => Sys2Proof.Machine.execLoadShed s
  | .finalCommitDone => Sys2Proof.Machine.execFinalCommitDone s
  | .holdEnd => Sys2Proof.Machine.execHoldEnd s
  | .warmStart => Sys2Proof.Machine.execWarmStart s
  | .domainFault d => Sys2Proof.Machine.execDomainFault d s
  | .coreDomainFault pd5 => Sys2Proof.Machine.execCoreDomainFault pd5 s
  | .essentialDomainFault => Sys2Proof.Machine.execEssentialDomainFault s
  | .domEnWrite req v => Sys2Proof.Machine.execDomEnWrite req v s
  | .pwrClearCounts req => Sys2Proof.Machine.execPwrClearCounts req s
  | .bankTestGo req v => Sys2Proof.Machine.execBankTestGo req v s
  | .bankTestStart => Sys2Proof.Machine.execBankTestStart s
  | .bankTestDone mj => Sys2Proof.Machine.execBankTestDone mj s
  | .holdEstUpdate bankMv vinMv => Sys2Proof.Machine.execHoldEstUpdate bankMv vinMv s
  | .vinOv above mv => Sys2Proof.Machine.execVinOv above mv s
  | .tempHigh edge hot => Sys2Proof.Machine.execTempHigh edge hot s
  | .cellLow mv => Sys2Proof.Machine.execCellLow mv s
  | .boardPresent n => Sys2Proof.Machine.execBoardPresent n s
  | .boardAbsent n => Sys2Proof.Machine.execBoardAbsent n s
  | .twinPresentChange present => Sys2Proof.Machine.execTwinPresentChange present s
  | .hkInputChange n on => Sys2Proof.Machine.execHkInputChange n on s
  | .relayCtrlWrite req v => Sys2Proof.Machine.execRelayCtrlWrite req v s
  | .accessFault req a size write => Sys2Proof.Machine.execAccessFault req a size write s
  | .registerWrite req a v => Sys2Proof.Machine.execRegisterWrite req a v s
  | .latchedRead req a => Sys2Proof.Machine.execLatchedRead req a s
  | .intFlagClear req a v => Sys2Proof.Machine.execIntFlagClear req a v s
  | .intForce req p v => Sys2Proof.Machine.execIntForce req p v s
  | .lockWrite req p v => Sys2Proof.Machine.execLockWrite req p v s
  | .parityError p w => Sys2Proof.Machine.execParityError p w s
  | .sramEccError e => Sys2Proof.Machine.execSramEccError e s
  | .parityClear req => Sys2Proof.Machine.execParityClear req s
  | .systemReset req key core => Sys2Proof.Machine.execSystemReset req key core s
  | .coreReset req key => Sys2Proof.Machine.execCoreReset req key s
  | .pageSoftReset req p => Sys2Proof.Machine.execPageSoftReset req p s
  | .wdogEnable req v => Sys2Proof.Machine.execWdogEnable req v s
  | .wdogKick req v => Sys2Proof.Machine.execWdogKick req v s
  | .wdogWarn => Sys2Proof.Machine.execWdogWarn s
  | .wdogTimeout => Sys2Proof.Machine.execWdogTimeout s
  | .rctEnable req => Sys2Proof.Machine.execRctEnable req s
  | .rctDisable req => Sys2Proof.Machine.execRctDisable req s
  | .rctSoftReset req => Sys2Proof.Machine.execRctSoftReset req s
  | .ringSet req hi => Sys2Proof.Machine.execRingSet req hi s
  | .sampleRelease live perr => Sys2Proof.Machine.execSampleRelease live perr s
  | .firstLockStep => Sys2Proof.Machine.execFirstLockStep s
  | .loopUpdate => Sys2Proof.Machine.execLoopUpdate s
  | .freqTakesEffect => Sys2Proof.Machine.execFreqTakesEffect s
  | .phaseLoss k => Sys2Proof.Machine.execPhaseLoss k s
  | .forceFly req => Sys2Proof.Machine.execForceFly req s
  | .forceRelease req => Sys2Proof.Machine.execForceRelease req s
  | .pullTimeout => Sys2Proof.Machine.execPullTimeout s
  | .mapCapture => Sys2Proof.Machine.execMapCapture s
  | .convert req toCivil => Sys2Proof.Machine.execConvert req toCivil s
  | .convertDone => Sys2Proof.Machine.execConvertDone s
  | .laneEnable req b v => Sys2Proof.Machine.execLaneEnable req b v s
  | .trainSuccess b => Sys2Proof.Machine.execTrainSuccess b s
  | .laneUp b => Sys2Proof.Machine.execLaneUp b s
  | .trainFail b => Sys2Proof.Machine.execTrainFail b s
  | .laneLost b => Sys2Proof.Machine.execLaneLost b s
  | .fastOutput k0 q live perr => Sys2Proof.Machine.execFastOutput k0 q live perr s
  | .integratorSettled k0 => Sys2Proof.Machine.execIntegratorSettled k0 s
  | .playbackArm req check => Sys2Proof.Machine.execPlaybackArm req check s
  | .captureArm req => Sys2Proof.Machine.execCaptureArm req s
  | .sourceStart => Sys2Proof.Machine.execSourceStart s
  | .playbackFetch => Sys2Proof.Machine.execPlaybackFetch s
  | .captureRecord live bad => Sys2Proof.Machine.execCaptureRecord live bad s
  | .playbackCountDone => Sys2Proof.Machine.execPlaybackCountDone s
  | .playbackStop req => Sys2Proof.Machine.execPlaybackStop req s
  | .cenTickExec => Sys2Proof.Machine.execCenTickExec s
  | .tableCheck req withTable => Sys2Proof.Machine.execTableCheck req withTable s
  | .tableCheckDone => Sys2Proof.Machine.execTableCheckDone s
  | .cenCommitReq req table => Sys2Proof.Machine.execCenCommitReq req table s
  | .cenCommitCancel req => Sys2Proof.Machine.execCenCommitCancel req s
  | .cenCopy req => Sys2Proof.Machine.execCenCopy req s
  | .cenCopyDone => Sys2Proof.Machine.execCenCopyDone s
  | .cenCommitSwap => Sys2Proof.Machine.execCenCommitSwap s
  | .fallbackEnter r => Sys2Proof.Machine.execFallbackEnter r s
  | .fallbackExit r => Sys2Proof.Machine.execFallbackExit r s
  | .rearm req lo hi => Sys2Proof.Machine.execRearm req lo hi s
  | .rearmApply r => Sys2Proof.Machine.execRearmApply r s
  | .cenEnable req => Sys2Proof.Machine.execCenEnable req s
  | .cenDisable req => Sys2Proof.Machine.execCenDisable req s
  | .mfeEnable req => Sys2Proof.Machine.execMfeEnable req s
  | .mfeDisable req => Sys2Proof.Machine.execMfeDisable req s
  | .mainsOutEnter => Sys2Proof.Machine.execMainsOutEnter s
  | .prechargeEnter => Sys2Proof.Machine.execPrechargeEnter s
  | .busSettled => Sys2Proof.Machine.execBusSettled s
  | .prechargeTimeout => Sys2Proof.Machine.execPrechargeTimeout s
  | .feHalted => Sys2Proof.Machine.execFeHalted s
  | .feGateOff => Sys2Proof.Machine.execFeGateOff s
  | .sagDetect => Sys2Proof.Machine.execSagDetect s
  | .classShed => Sys2Proof.Machine.execClassShed s
  | .busUndervoltage => Sys2Proof.Machine.execBusUndervoltage s
  | .restoreBegin => Sys2Proof.Machine.execRestoreBegin s
  | .classRestore => Sys2Proof.Machine.execClassRestore s
  | .channelRestoreStart k => Sys2Proof.Machine.execChannelRestoreStart k s
  | .channelEnable req k v => Sys2Proof.Machine.execChannelEnable req k v s
  | .channelDisable req k v => Sys2Proof.Machine.execChannelDisable req k v s
  | .channelStart k => Sys2Proof.Machine.execChannelStart k s
  | .startDone k => Sys2Proof.Machine.execStartDone k s
  | .channelHalt k => Sys2Proof.Machine.execChannelHalt k s
  | .channelSafeOff k => Sys2Proof.Machine.execChannelSafeOff k s
  | .setpointStage req k v => Sys2Proof.Machine.execSetpointStage req k v s
  | .setpointArm req k hi => Sys2Proof.Machine.execSetpointArm req k hi s
  | .setpointApply k => Sys2Proof.Machine.execSetpointApply k s
  | .busSetpointArm req hi => Sys2Proof.Machine.execBusSetpointArm req hi s
  | .busSetpointApply => Sys2Proof.Machine.execBusSetpointApply s
  | .pinTrip n clocks held => Sys2Proof.Machine.execPinTrip n clocks held s
  | .pinArmed n => Sys2Proof.Machine.execPinArmed n s
  | .forceTrip req v => Sys2Proof.Machine.execForceTrip req v s
  | .autoClear src => Sys2Proof.Machine.execAutoClear src s
  | .latchClear req => Sys2Proof.Machine.execLatchClear req s
  | .lockoutClear req key also => Sys2Proof.Machine.execLockoutClear req key also s
  | .maskClassWrite req src v => Sys2Proof.Machine.execMaskClassWrite req src v s
  | .channelTripped k => Sys2Proof.Machine.execChannelTripped k s
  | .runEnWrite req v => Sys2Proof.Machine.execRunEnWrite req v s
  | .boardRelease n => Sys2Proof.Machine.execBoardRelease n s
  | .tripRestart k => Sys2Proof.Machine.execTripRestart k s
  | .commandFrameLaunch => Sys2Proof.Machine.execCommandFrameLaunch s
  | .statusFrameReceive n clean f => Sys2Proof.Machine.execStatusFrameReceive n clean f s
  | .answerMissing n => Sys2Proof.Machine.execAnswerMissing n s
  | .stlLinkLost n => Sys2Proof.Machine.execStlLinkLost n s
  | .stlEnable req => Sys2Proof.Machine.execStlEnable req s
  | .stlDisable req => Sys2Proof.Machine.execStlDisable req s
  | .verLimitWrite req v => Sys2Proof.Machine.execVerLimitWrite req v s
  | .meteringTick => Sys2Proof.Machine.execMeteringTick s
  | .cyclePublish => Sys2Proof.Machine.execCyclePublish s
  | .pulseOn x => Sys2Proof.Machine.execPulseOn x s
  | .pulseOff x => Sys2Proof.Machine.execPulseOff x s
  | .corReq req => Sys2Proof.Machine.execCorReq req s
  | .corSwap => Sys2Proof.Machine.execCorSwap s
  | .corCopy req => Sys2Proof.Machine.execCorCopy req s
  | .corCopyDone => Sys2Proof.Machine.execCorCopyDone s
  | .periodicCommit => Sys2Proof.Machine.execPeriodicCommit s
  | .commitWriteDone ok => Sys2Proof.Machine.execCommitWriteDone ok s
  | .meterSeal req => Sys2Proof.Machine.execMeterSeal req s
  | .accClearBilling req key => Sys2Proof.Machine.execAccClearBilling req key s
  | .accClearTest req key => Sys2Proof.Machine.execAccClearTest req key s
  | .mtrEnable req on => Sys2Proof.Machine.execMtrEnable req on s
  | .dimPeriod => Sys2Proof.Machine.execDimPeriod s
  | .patternErrorIdle e => Sys2Proof.Machine.execPatternErrorIdle e s
  | .levelArm req k hi => Sys2Proof.Machine.execLevelArm req k hi s
  | .levelApply k => Sys2Proof.Machine.execLevelApply k s
  | .patternArm req e hi => Sys2Proof.Machine.execPatternArm req e hi s
  | .patternBegin e => Sys2Proof.Machine.execPatternBegin e s
  | .patternStop req e => Sys2Proof.Machine.execPatternStop req e s
  | .stringCheck k => Sys2Proof.Machine.execStringCheck k s
  | .feederCheck k => Sys2Proof.Machine.execFeederCheck k s
  | .diagClear req k => Sys2Proof.Machine.execDiagClear req k s
  | .txStart f => Sys2Proof.Machine.execTxStart f s
  | .txTruncate f => Sys2Proof.Machine.execTxTruncate f s
  | .phyFrameReceive f x => Sys2Proof.Machine.execPhyFrameReceive f x s
  | .maskCommitReq req p v => Sys2Proof.Machine.execMaskCommitReq req p v s
  | .maskCommitApply f => Sys2Proof.Machine.execMaskCommitApply f s
  | .fphEnable req which => Sys2Proof.Machine.execFphEnable req which s
  | .macCycleStart f => Sys2Proof.Machine.execMacCycleStart f s
  | .beaconTransmit f => Sys2Proof.Machine.execBeaconTransmit f s
  | .macFrameReceive f => Sys2Proof.Machine.execMacFrameReceive f s
  | .ackReceive f => Sys2Proof.Machine.execAckReceive f s
  | .retransmit f => Sys2Proof.Machine.execRetransmit f s
  | .deliveryTimeout f => Sys2Proof.Machine.execDeliveryTimeout f s
  | .joinRequest f => Sys2Proof.Machine.execJoinRequest f s
  | .joinAuth f => Sys2Proof.Machine.execJoinAuth f s
  | .joinConfirm f => Sys2Proof.Machine.execJoinConfirm f s
  | .joinTimeout f => Sys2Proof.Machine.execJoinTimeout f s
  | .nodeLost k0 => Sys2Proof.Machine.execNodeLost k0 s
  | .maskDistGo req f force => Sys2Proof.Machine.execMaskDistGo req f force s
  | .maskDistCommit f => Sys2Proof.Machine.execMaskDistCommit f s
  | .maskSwitch f => Sys2Proof.Machine.execMaskSwitch f s
  | .cruiseGo req f => Sys2Proof.Machine.execCruiseGo req f s
  | .probeReceive f => Sys2Proof.Machine.execProbeReceive f s
  | .cruiseDone f => Sys2Proof.Machine.execCruiseDone f s
  | .cruiseApply req f => Sys2Proof.Machine.execCruiseApply req f s
  | .routeEffective f => Sys2Proof.Machine.execRouteEffective f s
  | .routeAbandon f => Sys2Proof.Machine.execRouteAbandon f s
  | .bucketRefill => Sys2Proof.Machine.execBucketRefill s
  | .nodeBlock req k0 => Sys2Proof.Machine.execNodeBlock req k0 s
  | .nodeFree req k0 => Sys2Proof.Machine.execNodeFree req k0 s
  | .nodeLeave req k0 => Sys2Proof.Machine.execNodeLeave req k0 s
  | .euiLookup req hi => Sys2Proof.Machine.execEuiLookup req hi s
  | .euiLookupDone => Sys2Proof.Machine.execEuiLookupDone s
  | .yarderPass => Sys2Proof.Machine.execYarderPass s
  | .releaseHandoff => Sys2Proof.Machine.execReleaseHandoff s
  | .yrdEnable req => Sys2Proof.Machine.execYrdEnable req s
  | .sceneArm req hi => Sys2Proof.Machine.execSceneArm req hi s
  | .overrideArm req slot => Sys2Proof.Machine.execOverrideArm req slot s
  | .yrdCommitReq req => Sys2Proof.Machine.execYrdCommitReq req s
  | .yrdCopy req => Sys2Proof.Machine.execYrdCopy req s
  | .schCommitReq req => Sys2Proof.Machine.execSchCommitReq req s
  | .schCopy req => Sys2Proof.Machine.execSchCopy req s
  | .solarMinute => Sys2Proof.Machine.execSolarMinute s
  | .solarRecompute req lon v => Sys2Proof.Machine.execSolarRecompute req lon v s
  | .frameIngress k0 => Sys2Proof.Machine.execFrameIngress k0 s
  | .engineDispatch => Sys2Proof.Machine.execEngineDispatch s
  | .engineDone e bad => Sys2Proof.Machine.execEngineDone e bad s
  | .egressDone port => Sys2Proof.Machine.execEgressDone port s
  | .payloadHandoff e => Sys2Proof.Machine.execPayloadHandoff e s
  | .hostRxWrite => Sys2Proof.Machine.execHostRxWrite s
  | .hostTxFrame => Sys2Proof.Machine.execHostTxFrame s
  | .uplinkUp u => Sys2Proof.Machine.execUplinkUp u s
  | .uplinkDown u los => Sys2Proof.Machine.execUplinkDown u los s
  | .classRevert k => Sys2Proof.Machine.execClassRevert k s
  | .speedTry u => Sys2Proof.Machine.execSpeedTry u s
  | .sfpAccess req u v => Sys2Proof.Machine.execSfpAccess req u v s
  | .sfpDone u nak data => Sys2Proof.Machine.execSfpDone u nak data s
  | .sfpModuleChange u inserted => Sys2Proof.Machine.execSfpModuleChange u inserted s
  | .txFaultChange u fault => Sys2Proof.Machine.execTxFaultChange u fault s
  | .timestampPop req u => Sys2Proof.Machine.execTimestampPop req u s
  | .ptpMeasurement req k => Sys2Proof.Machine.execPtpMeasurement req k s
  | .domainHoldover k => Sys2Proof.Machine.execDomainHoldover k s
  | .domainEnable req k v => Sys2Proof.Machine.execDomainEnable req k v s
  | .domainDisable req k v => Sys2Proof.Machine.execDomainDisable req k v s
  | .civilUpdate => Sys2Proof.Machine.execCivilUpdate s
  | .civilStepSnap req key => Sys2Proof.Machine.execCivilStepSnap req key s
  | .civilStepValue req key => Sys2Proof.Machine.execCivilStepValue req key s
  | .rtcLoadFromTb3 => Sys2Proof.Machine.execRtcLoadFromTb3 s
  | .timeAlarm a => Sys2Proof.Machine.execTimeAlarm a s
  | .timeSnap req => Sys2Proof.Machine.execTimeSnap req s
  | .rtcSecond => Sys2Proof.Machine.execRtcSecond s
  | .rtcSet req v => Sys2Proof.Machine.execRtcSet req v s
  | .trimWindowDone edges => Sys2Proof.Machine.execTrimWindowDone edges s
  | .rtcAlarm n => Sys2Proof.Machine.execRtcAlarm n s
  | .rtcSnap req => Sys2Proof.Machine.execRtcSnap req s
  | .pd0Loss => Sys2Proof.Machine.execPd0Loss s
  | .threadInit req t => Sys2Proof.Machine.execThreadInit req t s
  | .threadReady req t => Sys2Proof.Machine.execThreadReady req t s
  | .threadBlock req t => Sys2Proof.Machine.execThreadBlock req t s
  | .threadCancel req t => Sys2Proof.Machine.execThreadCancel req t s
  | .threadSetprio req t => Sys2Proof.Machine.execThreadSetprio req t s
  | .threadSetaff req t => Sys2Proof.Machine.execThreadSetaff req t s
  | .threadYield req t => Sys2Proof.Machine.execThreadYield req t s
  | .threadWait req t => Sys2Proof.Machine.execThreadWait req t s
  | .waitDeadline t => Sys2Proof.Machine.execWaitDeadline t s
  | .bindWake p => Sys2Proof.Machine.execBindWake p s
  | .dispatchDecision => Sys2Proof.Machine.execDispatchDecision s
  | .threadTake req c t => Sys2Proof.Machine.execThreadTake req c t s
  | .memoryError e hart => Sys2Proof.Machine.execMemoryError e hart s
  | .queuePush req q hi => Sys2Proof.Machine.execQueuePush req q hi s
  | .itemOffer => Sys2Proof.Machine.execItemOffer s
  | .itemCommit q => Sys2Proof.Machine.execItemCommit q s
  | .queueMark req q => Sys2Proof.Machine.execQueueMark req q s
  | .queueRewind req q => Sys2Proof.Machine.execQueueRewind req q s
  | .queueFlush req q => Sys2Proof.Machine.execQueueFlush req q s
  | .queueAbort req q => Sys2Proof.Machine.execQueueAbort req q s
  | .queueRdWrite req q v => Sys2Proof.Machine.execQueueRdWrite req q v s
  | .queueRelease req q v => Sys2Proof.Machine.execQueueRelease req q v s
  | .queueCopy req q words => Sys2Proof.Machine.execQueueCopy req q words s
  | .queueCopyDone => Sys2Proof.Machine.execQueueCopyDone s
  | .queueEnable req q v => Sys2Proof.Machine.execQueueEnable req q v s
  | .queueDisable req q => Sys2Proof.Machine.execQueueDisable req q s
  | .logEvent code payload => Sys2Proof.Machine.execLogEvent code payload s
  | .logRecordWrite w => Sys2Proof.Machine.execLogRecordWrite w s
  | .logTokenRefill => Sys2Proof.Machine.execLogTokenRefill s
  | .opsecSecond => Sys2Proof.Machine.execOpsecSecond s
  | .logSeek req seq => Sys2Proof.Machine.execLogSeek req seq s
  | .bankClr req key a b => Sys2Proof.Machine.execBankClr req key a b s
  | .firmwareRecord req v => Sys2Proof.Machine.execFirmwareRecord req v s
  | .generate => Sys2Proof.Machine.execGenerate s
  | .importPlain => Sys2Proof.Machine.execImportPlain s
  | .unwrap => Sys2Proof.Machine.execUnwrap s
  | .wrap => Sys2Proof.Machine.execWrap s
  | .derive => Sys2Proof.Machine.execDerive s
  | .agree => Sys2Proof.Machine.execAgree s
  | .seal => Sys2Proof.Machine.execSeal s
  | .kvtOpen => Sys2Proof.Machine.execOpen s
  | .sign => Sys2Proof.Machine.execSign s
  | .verifyEcdsa => Sys2Proof.Machine.execVerifyEcdsa s
  | .verifyMldsa => Sys2Proof.Machine.execVerifyMldsa s
  | .attest => Sys2Proof.Machine.execAttest s
  | .store => Sys2Proof.Machine.execStore s
  | .exportPublic => Sys2Proof.Machine.execExportPublic s
  | .random => Sys2Proof.Machine.execRandom s
  | .readCert => Sys2Proof.Machine.execReadCert s
  | .keyCommandDone engine => Sys2Proof.Machine.execKeyCommandDone engine s
  | .revoke req slot => Sys2Proof.Machine.execRevoke req slot s
  | .delete req slot => Sys2Proof.Machine.execDelete req slot s
  | .zeroizeVolatile req => Sys2Proof.Machine.execZeroizeVolatile req s
  | .zeroizePersistent req => Sys2Proof.Machine.execZeroizePersistent req s
  | .zeroizeFactory req => Sys2Proof.Machine.execZeroizeFactory req s
  | .reseal req => Sys2Proof.Machine.execReseal req s
  | .resealDone => Sys2Proof.Machine.execResealDone s
  | .maskingPass => Sys2Proof.Machine.execMaskingPass s
  | .entropyFail test => Sys2Proof.Machine.execEntropyFail test s
  | .entropyRecovered => Sys2Proof.Machine.execEntropyRecovered s
  | .sessionOpen req src => Sys2Proof.Machine.execSessionOpen req src s
  | .sessionClose req => Sys2Proof.Machine.execSessionClose req s
  | .sessionAbort req => Sys2Proof.Machine.execSessionAbort req s
  | .xfer req v => Sys2Proof.Machine.execXfer req v s
  | .xferDone => Sys2Proof.Machine.execXferDone s
  | .verify req => Sys2Proof.Machine.execVerify req s
  | .verifyDone => Sys2Proof.Machine.execVerifyDone s
  | .activate req => Sys2Proof.Machine.execActivate req s
  | .activateDone flashOk => Sys2Proof.Machine.execActivateDone flashOk s
  | .confirm req key => Sys2Proof.Machine.execConfirm req key s
  | .fallback req key => Sys2Proof.Machine.execFallback req key s
  | .migDone req => Sys2Proof.Machine.execMigDone req s
  | .sessionTimeout => Sys2Proof.Machine.execSessionTimeout s
  | .windowWarn => Sys2Proof.Machine.execWindowWarn s
  | .windowExpiry => Sys2Proof.Machine.execWindowExpiry s
  | .twinEnable req => Sys2Proof.Machine.execTwinEnable req s
  | .huntTimeout => Sys2Proof.Machine.execHuntTimeout s
  | .twinLinkUp => Sys2Proof.Machine.execTwinLinkUp s
  | .twinLinkDown => Sys2Proof.Machine.execTwinLinkDown s
  | .heartbeatSend => Sys2Proof.Machine.execHeartbeatSend s
  | .heartbeatReceive h at_ b => Sys2Proof.Machine.execHeartbeatReceive h at_ b s
  | .heartbeatDue => Sys2Proof.Machine.execHeartbeatDue s
  | .pairReceive h p => Sys2Proof.Machine.execPairReceive h p s
  | .controlReceive h c => Sys2Proof.Machine.execControlReceive h c s
  | .alignmentStep slip => Sys2Proof.Machine.execAlignmentStep slip s
  | .aclkTrim lat want => Sys2Proof.Machine.execAclkTrim lat want s
  | .referenceLoss => Sys2Proof.Machine.execReferenceLoss s
  | .loopEpochSend => Sys2Proof.Machine.execLoopEpochSend s
  | .loopEpochReceive h e complete => Sys2Proof.Machine.execLoopEpochReceive h e complete s
  | .meterEpochReceive h slot => Sys2Proof.Machine.execMeterEpochReceive h slot s
  | .journalReceive h e => Sys2Proof.Machine.execJournalReceive h e s
  | .yarderEpochSend => Sys2Proof.Machine.execYarderEpochSend s
  | .yarderEpochReceive h c events reports complete => Sys2Proof.Machine.execYarderEpochReceive h c events reports complete s
  | .yarderResync h y c => Sys2Proof.Machine.execYarderResync h y c s
  | .switchFrameReceive h b => Sys2Proof.Machine.execSwitchFrameReceive h b s
  | .imageReceive h off bytes => Sys2Proof.Machine.execImageReceive h off bytes s
  | .takeoverDecision c => Sys2Proof.Machine.execTakeoverDecision c s
  | .takeover => Sys2Proof.Machine.execTakeover s
  | .pulseResume => Sys2Proof.Machine.execPulseResume s
  | .demote => Sys2Proof.Machine.execDemote s
  | .handover req key => Sys2Proof.Machine.execHandover req key s
  | .drillArm req hi => Sys2Proof.Machine.execDrillArm req hi s
  | .drillCancel req ret => Sys2Proof.Machine.execDrillCancel req ret s
  | .handoverExecute => Sys2Proof.Machine.execHandoverExecute s
  | .drillReturn => Sys2Proof.Machine.execDrillReturn s
  | .twinRearm req => Sys2Proof.Machine.execTwinRearm req s
  | .kspConnect c => Sys2Proof.Machine.execKspConnect c s
  | .hello k0 vmin vmax => Sys2Proof.Machine.execHello k0 vmin vmax s
  | .helloTimeout k0 => Sys2Proof.Machine.execHelloTimeout k0 s
  | .sessionIdleTimeout k0 => Sys2Proof.Machine.execSessionIdleTimeout k0 s
  | .ping h => Sys2Proof.Machine.execPing h s
  | .bundle h ms p => Sys2Proof.Machine.execBundle h ms p s
  | .bundleCancel h txid => Sys2Proof.Machine.execBundleCancel h txid s
  | .txQuery h txids => Sys2Proof.Machine.execTxQuery h txids s
  | .bundleConvert => Sys2Proof.Machine.execBundleConvert s
  | .bundleArm => Sys2Proof.Machine.execBundleArm s
  | .bundleComplete => Sys2Proof.Machine.execBundleComplete s
  | .regRead h a n => Sys2Proof.Machine.execRegRead h a n s
  | .regWrite h l p => Sys2Proof.Machine.execRegWrite h l p s
  | .winRead h a n => Sys2Proof.Machine.execWinRead h a n s
  | .winWrite h a d p => Sys2Proof.Machine.execWinWrite h a d p s
  | .configGet h typ => Sys2Proof.Machine.execConfigGet h typ s
  | .configPut h rs => Sys2Proof.Machine.execConfigPut h rs s
  | .scheduleLoad h l => Sys2Proof.Machine.execScheduleLoad h l s
  | .rulesLoad h rules scenes => Sys2Proof.Machine.execRulesLoad h rules scenes s
  | .bankCommit h b p => Sys2Proof.Machine.execBankCommit h b p s
  | .override h slot content p => Sys2Proof.Machine.execOverride h slot content p s
  | .sceneSwitch h scene on p => Sys2Proof.Machine.execSceneSwitch h scene on p s
  | .setpoint h target v p => Sys2Proof.Machine.execSetpoint h target v p s
  | .level h ch v p => Sys2Proof.Machine.execLevel h ch v p s
  | .patternStart h e p => Sys2Proof.Machine.execPatternStart h e p s
  | .endpointBudget h e rateDn burstDn rateUp burstUp p => Sys2Proof.Machine.execEndpointBudget h e rateDn burstDn rateUp burstUp p s
  | .meterRead h => Sys2Proof.Machine.execMeterRead h s
  | .meterCycle h => Sys2Proof.Machine.execMeterCycle h s
  | .meterSlot h => Sys2Proof.Machine.execMeterSlot h s
  | .alarmAck h seqs => Sys2Proof.Machine.execAlarmAck h seqs s
  | .alarmList h => Sys2Proof.Machine.execAlarmList h s
  | .logSubscribe h from_ mask => Sys2Proof.Machine.execLogSubscribe h from_ mask s
  | .logStop h => Sys2Proof.Machine.execLogStop h s
  | .timeRead h => Sys2Proof.Machine.execTimeRead h s
  | .timeStep h k => Sys2Proof.Machine.execTimeStep h k s
  | .tzLoad h z => Sys2Proof.Machine.execTzLoad h z s
  | .updOpen h => Sys2Proof.Machine.execUpdOpen h s
  | .updData h buf off bytes => Sys2Proof.Machine.execUpdData h buf off bytes s
  | .updVerify h => Sys2Proof.Machine.execUpdVerify h s
  | .updActivate h => Sys2Proof.Machine.execUpdActivate h s
  | .updConfirm h fallback => Sys2Proof.Machine.execUpdConfirm h fallback s
  | .updStatus h => Sys2Proof.Machine.execUpdStatus h s
  | .twinCmd h c => Sys2Proof.Machine.execTwinCmd h c s
  | .txjPut req => Sys2Proof.Machine.execTxjPut req s
  | .txjFind req => Sys2Proof.Machine.execTxjFind req s
  | .txjUpdate req => Sys2Proof.Machine.execTxjUpdate req s
  | .seekDone => Sys2Proof.Machine.execSeekDone s
  | .txjDone => Sys2Proof.Machine.execTxjDone s
  | .txDisableRelease u => Sys2Proof.Machine.execTxDisableRelease u s
  | .blockLockChange u lock los => Sys2Proof.Machine.execBlockLockChange u lock los s
  | .vinReturn mv => Sys2Proof.Machine.execVinReturn mv s

end Sys2Proof.Machine
end

