-- ==== Sys2Proof/Machine/Step.lean ====
section
/-!
DEFINITION. One step: the command at the front of the queue, or one fabric clock of the time bases.
-/

namespace Sys2Proof.Machine

/-- The step on an empty queue: the time bases run on by one fabric clock while PD1 is up (log entry 60). -/
def State.idle (s : State) : State := if s.domainUp 1 then s.tickBases else s

/-- The command at the front of the queue, with the queue's rest; on an empty queue the block idles. -/
def step (s : State) : Host.Outcome State Fault Refusal :=
  match s.pending with
  | c :: rest => exec c { s with pending := rest }
  | [] => .next s.idle

/-- The state with the command a word spells put at the front of its queue; the table gives no bits, so no word spells one. -/
def State.withFetchWord (s : State) (nbits w : Nat) : State :=
  match decodeTableWord nbits w with
  | some c => { s with pending := c :: s.pending }
  | none => s

end Sys2Proof.Machine
end

