-- ==== Sys2Proof/Safety.lean ====
section
/-!
DEFINITION. What the statements call a sound state: every sparse store in its canonical form, which
registers the end of a write may change, and which parts of a state each command may change.
-/

namespace Sys2Proof.Machine

/-- The addressed bytes are in canonical form. -/
def Memory.wf (m : Tab Byte) : Bool := Tab.wf memReset m

/-- The register file is in canonical form. -/
def Registers.wf (r : Tab Word) : Bool := Tab.wf regReset r

/-- The table windows are in canonical form. -/
def Windows.wf (w : Tab Word) : Bool := Tab.wf winReset w

/-- A sound state: registers, windows and memory in canonical form, so that equal contents are equal data. -/
def State.Sound (s : State) : Prop := Registers.wf s.regs ∧ Windows.wf s.win ∧ Memory.wf s.mem

/-- The fabric lets a write to an address reach its block: neither the twin role (R451) nor a LOCK (R76) refuses it. -/
def State.accepts (s : State) (a : Nat) : Bool := !s.roleRefuses a && !s.lockedOut a

/-! ### What the end of a write may change -/

/-- The registers the trace unit writes. -/
def traceRegs : List Nat := [regINT_FLAG TRC.page, TRC.LOST_CNT, TRC.WR_OFF, TRC.SEQ, TRC.WRAP_CNT]

/-- The registers that the end of a write on the fabric may change: the page's counts, SYS's record of the last clamp, the
trace unit's and JSEQ. -/
def finishRegs (a : Nat) : List Nat :=
  [regCLAMP_CNT (countPage a), SYS.CLAMP_LAST, SYS.CLAMP_SRC, regINT_FLAG SYS.page, TWN.JSEQ] ++ traceRegs

/-! ### What a command may change -/

/-- The parts of a state beside the queue. Two parts lie within another: `ram` is the addressed bytes but those of the trace
buffer, `threads` is the scheduler's record but its count of interrupt edges. -/
inductive Part where
  | regs | win | mem | ram | now | sys | pwr | rct | tim | rtc | sns | cen | mfe | chs | lgt | mtr | stl | axe |
    modems | macs | ntb | yrd | sch | ths | threads | tqu | swx | uplinks | evr | kvt | upd | trc | twn | ksp |
    sent | free
  deriving DecidableEq, Repr

def Part.list : List Part :=
  [.regs, .win, .mem, .ram, .now, .sys, .pwr, .rct, .tim, .rtc, .sns, .cen, .mfe, .chs, .lgt, .mtr, .stl, .axe,
   .modems, .macs, .ntb, .yrd, .sch, .ths, .threads, .tqu, .swx, .uplinks, .evr, .kvt, .upd, .trc, .twn, .ksp,
   .sent, .free]

/-- A part of two states is the same. -/
def Part.same (p : Part) (s t : State) : Prop :=
  match p with
  | .regs => t.regs = s.regs
  | .win => t.win = s.win
  | .mem => t.mem = s.mem
  | .ram => ∀ a, a < 0x53000000 ∨ 0x53100000 ≤ a → t.byte a = s.byte a
  | .now => t.now = s.now
  | .sys => t.sys = s.sys
  | .pwr => t.pwr = s.pwr
  | .rct => t.rct = s.rct
  | .tim => t.tim = s.tim
  | .rtc => t.rtc = s.rtc
  | .sns => t.sns = s.sns
  | .cen => t.cen = s.cen
  | .mfe => t.mfe = s.mfe
  | .chs => t.chs = s.chs
  | .lgt => t.lgt = s.lgt
  | .mtr => t.mtr = s.mtr
  | .stl => t.stl = s.stl
  | .axe => t.axe = s.axe
  | .modems => t.modems = s.modems
  | .macs => t.macs = s.macs
  | .ntb => t.ntb = s.ntb
  | .yrd => t.yrd = s.yrd
  | .sch => t.sch = s.sch
  | .ths => t.ths = s.ths
  | .threads => ({ t.ths with edges := 0 } : Ths) = { s.ths with edges := 0 }
  | .tqu => t.tqu = s.tqu
  | .swx => t.swx = s.swx
  | .uplinks => t.uplinks = s.uplinks
  | .evr => t.evr = s.evr
  | .kvt => t.kvt = s.kvt
  | .upd => t.upd = s.upd
  | .trc => t.trc = s.trc
  | .twn => t.twn = s.twn
  | .ksp => t.ksp = s.ksp
  | .sent => t.sent = s.sent
  | .free => t.free = s.free

/-- Every part, and every part but those of a list. -/
def Part.all : List Part := Part.list
def Part.allBut (l : List Part) : List Part := Part.list.filter (fun p => !l.contains p)

/-- What a write on the fabric may always change: registers (the clamp counts, SYS's record of the last, JSEQ), the trace
and its buffer, and what is sent to the partner with its sequence number. -/
def Part.write : List Part := [.regs, .mem, .ths, .trc, .twn, .sent]

/-- The parts a command may change. -/
def touches : Instr → List Part
  | .powerOn .. => [.regs, .mem, .ram, .pwr, .tim, .rtc, .mtr, .ths, .evr, .free]
  | .domainPowerGood .. => [.regs, .pwr, .sns, .stl, .axe, .ths, .tqu, .evr, .kvt, .free]
  | .pd3Release .. => [.regs, .mem, .ram, .sys, .pwr, .evr, .upd]
  | .inputLoss .. => [.regs, .mem, .ram, .pwr, .mtr, .ths, .tqu, .evr]
  | .loadShed => Part.allBut [.tim, .rtc, .sent, .free]
  | .finalCommitDone => [.regs, .mem, .ram, .pwr, .mtr, .ths, .evr, .twn, .sent]
  | .holdEnd | .essentialDomainFault => Part.allBut [.rtc, .sent, .free]
  | .warmStart | .coreDomainFault .. | .wdogTimeout | .windowExpiry => Part.allBut [.tim, .rtc, .sent]
  | .domainFault ..
    => [.regs, .now, .sys, .pwr, .rct, .sns, .cen, .mfe, .chs, .lgt, .mtr, .stl, .axe, .modems, .macs, .ths, .swx,
      .uplinks, .evr, .twn]
  | .domEnWrite ..
    => Part.write ++ [.win, .now, .sys, .pwr, .rct, .sns, .cen, .mfe, .chs, .lgt, .mtr, .stl, .axe, .modems, .macs,
      .tqu, .swx, .uplinks, .evr]
  | .pwrClearCounts .. | .convert .. | .setpointStage .. | .meterSeal .. | .handover .. | .drillCancel ..
    => Part.write
  | .bankTestGo .. | .relayCtrlWrite .. | .tableCheck .. => Part.write ++ [.pwr]
  | .bankTestStart => [.pwr]
  | .bankTestDone .. | .vinOv .. | .tempHigh .. | .cellLow .. | .vinReturn .. => [.regs, .pwr, .ths]
  | .holdEstUpdate .. => [.regs, .pwr]
  | .boardPresent .. | .boardAbsent .. => [.regs, .pwr, .sns, .stl, .axe, .ths, .tqu, .evr]
  | .twinPresentChange .. | .twinLinkDown | .referenceLoss | .loopEpochReceive .. | .meterEpochReceive .. | .demote
  | .handoverExecute => [.regs, .pwr, .mtr, .stl, .axe, .ths, .evr, .twn]
  | .hkInputChange .. => [.regs, .pwr, .ths, .evr]
  | .accessFault .. => [.regs, .ths, .sent]
  | .registerWrite .. | .intFlagClear .. | .intForce .. | .lockWrite .. | .parityClear .. | .systemReset ..
  | .coreReset .. | .pageSoftReset .. | .wdogEnable .. | .wdogKick .. | .heartbeatSend | .journalReceive ..
  | .bundle .. | .bundleArm | .regWrite .. | .winWrite .. | .scheduleLoad .. | .rulesLoad .. | .bankCommit ..
  | .override .. | .sceneSwitch .. | .setpoint .. | .level .. | .patternStart .. | .endpointBudget .. | .timeRead ..
  | .timeStep .. | .tzLoad .. | .updOpen .. | .updData .. | .updVerify .. | .updActivate .. | .updConfirm ..
  | .twinCmd .. => Part.all
  | .latchedRead .. | .timestampPop .. => [.regs, .sys, .ths, .uplinks, .sent]
  | .parityError .. => [.regs, .mem, .sns, .ths, .tqu, .trc]
  | .sramEccError .. => [.regs, .sns, .tqu]
  | .wdogWarn => [.regs, .sys, .ths]
  | .rctEnable .. | .rctDisable .. | .rctSoftReset .. => Part.write ++ [.now, .rct]
  | .ringSet .. => Part.write ++ [.now, .sys]
  | .sampleRelease .. => [.regs, .now, .rct, .tim, .sns, .axe, .ths, .tqu, .evr]
  | .firstLockStep => [.regs, .now, .rct, .ths]
  | .loopUpdate => [.regs, .rct, .rtc, .ths, .evr]
  | .freqTakesEffect | .mapCapture => [.rct]
  | .phaseLoss .. | .pullTimeout => [.regs, .rct, .ths, .evr]
  | .forceFly .. | .forceRelease .. => Part.write ++ [.rct, .evr]
  | .convertDone | .trainSuccess .. | .integratorSettled .. | .aclkTrim .. => [.regs]
  | .laneEnable .. => Part.write ++ [.sns, .axe, .tqu, .evr]
  | .laneUp .. | .sourceStart | .playbackCountDone => [.regs, .sns, .axe, .ths]
  | .trainFail .. | .uplinkUp .. | .domainHoldover .. | .trimWindowDone .. => [.regs, .ths]
  | .laneLost .. | .fastOutput .. => [.regs, .sns, .axe, .ths, .tqu, .evr]
  | .playbackArm .. | .captureArm .. | .playbackStop .. => Part.write ++ [.sns, .mtr, .axe]
  | .playbackFetch => [.regs, .sns]
  | .captureRecord .. => [.regs, .mem, .ram, .sns, .axe, .ths]
  | .cenTickExec => [.regs, .cen, .mfe, .chs, .lgt, .ths, .evr]
  | .tableCheckDone | .fallbackEnter .. => [.regs, .cen, .ths]
  | .cenCommitReq .. | .cenCommitCancel .. | .cenCopy .. => Part.write ++ [.win, .pwr, .cen, .evr]
  | .cenCopyDone => [.win, .cen]
  | .cenCommitSwap => [.regs, .win, .cen, .ths, .evr]
  | .fallbackExit .. => [.cen]
  | .rearm .. => Part.write ++ [.win, .sys, .pwr, .cen, .evr]
  | .rearmApply .. => [.regs, .cen]
  | .cenEnable .. | .cenDisable .. => Part.write ++ [.cen]
  | .mfeEnable .. | .mfeDisable .. => Part.write ++ [.mfe]
  | .mainsOutEnter | .busSettled | .prechargeTimeout | .feHalted | .sagDetect | .busUndervoltage
    => [.regs, .mfe, .ths]
  | .prechargeEnter => [.regs, .cen, .mfe]
  | .feGateOff => [.mfe]
  | .classShed | .restoreBegin | .classRestore => [.regs, .mfe, .chs, .ths]
  | .channelRestoreStart .. => [.regs, .cen, .chs, .lgt, .ths]
  | .channelEnable .. | .channelDisable .. => Part.write ++ [.chs, .lgt]
  | .channelStart .. | .tripRestart .. => [.regs, .cen, .chs, .lgt]
  | .startDone .. | .channelHalt .. => [.regs, .chs, .ths]
  | .channelSafeOff .. => [.chs]
  | .setpointArm .. => Part.write ++ [.sys, .pwr, .chs, .evr]
  | .setpointApply .. | .channelTripped .. => [.regs, .chs]
  | .busSetpointArm .. => Part.write ++ [.sys, .pwr, .mfe, .evr]
  | .busSetpointApply => [.regs, .mfe]
  | .pinTrip .. => [.regs, .axe, .ths, .tqu, .evr]
  | .pinArmed .. => [.regs, .axe]
  | .forceTrip .. | .maskClassWrite .. => Part.write ++ [.axe, .tqu, .evr]
  | .autoClear .. | .boardRelease .. => [.regs, .axe, .ths]
  | .latchClear .. | .lockoutClear .. | .runEnWrite .. => Part.write ++ [.axe]
  | .commandFrameLaunch => [.regs, .stl, .sent]
  | .statusFrameReceive .. | .stlLinkLost .. => [.regs, .stl, .ths, .evr]
  | .answerMissing .. => [.regs, .stl]
  | .stlEnable .. | .stlDisable .. | .verLimitWrite .. => Part.write ++ [.stl, .evr]
  | .meteringTick => [.regs, .mtr, .ths, .evr]
  | .cyclePublish => [.regs, .mtr, .ths, .tqu, .evr]
  | .pulseOn .. => [.regs, .mtr, .ths]
  | .pulseOff .. => [.mtr]
  | .corReq .. | .corCopy .. | .accClearBilling .. | .accClearTest .. => Part.write ++ [.mtr]
  | .corSwap => [.regs, .win, .mtr, .ths]
  | .corCopyDone => [.win, .mtr]
  | .periodicCommit => [.mem, .ram, .mtr]
  | .commitWriteDone .. => [.regs, .mem, .ram, .mtr, .ths, .evr, .twn, .sent]
  | .mtrEnable .. => Part.write ++ [.mtr, .evr]
  | .dimPeriod | .stringCheck .. | .feederCheck .. => [.regs, .lgt, .ths, .evr]
  | .patternErrorIdle .. | .levelApply .. => [.regs, .lgt]
  | .levelArm .. | .patternArm .. | .patternStop .. => Part.write ++ [.sys, .pwr, .lgt, .evr]
  | .patternBegin .. => [.regs, .lgt, .ths]
  | .diagClear .. => Part.write ++ [.sys, .lgt]
  | .txStart .. => [.regs, .modems, .macs, .yrd, .ths, .sent, .free]
  | .txTruncate .. => [.regs, .modems]
  | .phyFrameReceive .. => [.regs, .win, .modems, .ths, .twn, .sent]
  | .maskCommitReq .. | .fphEnable .. => Part.write ++ [.sys, .modems]
  | .maskCommitApply .. | .cruiseDone .. => [.regs, .win, .ths, .twn, .sent]
  | .macCycleStart .. => [.regs, .win, .modems, .macs, .ntb, .yrd, .ths, .kvt, .twn, .sent]
  | .beaconTransmit .. => [.modems, .macs, .ntb]
  | .macFrameReceive .. => [.regs, .win, .modems, .macs, .ntb, .yrd, .ths, .tqu, .twn, .sent]
  | .ackReceive .. | .probeReceive .. => [.regs, .win, .modems, .macs, .ntb, .twn, .sent]
  | .retransmit .. => [.regs, .macs, .yrd, .ths]
  | .deliveryTimeout .. | .releaseHandoff => [.macs, .yrd]
  | .joinRequest .. => [.regs, .win, .modems, .macs, .ntb, .yrd, .ths, .evr, .kvt, .twn, .sent, .free]
  | .joinAuth .. => [.regs, .win, .modems, .macs, .ntb, .yrd, .ths, .kvt, .twn, .sent, .free]
  | .joinConfirm .. => [.regs, .win, .modems, .macs, .ntb, .ths, .evr, .twn, .sent]
  | .joinTimeout .. => [.regs, .win, .macs, .ntb, .yrd, .kvt, .twn, .sent]
  | .nodeLost .. => [.regs, .win, .macs, .yrd, .ths, .evr, .twn, .sent]
  | .maskDistGo .. | .cruiseGo .. | .cruiseApply .. => Part.write ++ [.sys, .macs, .free]
  | .maskDistCommit .. | .maskSwitch .. => [.regs, .macs, .ths]
  | .routeEffective .. => [.regs, .win, .macs, .twn, .sent]
  | .routeAbandon .. => [.regs, .macs]
  | .bucketRefill => [.regs, .win, .twn, .sent]
  | .nodeBlock .. => Part.write ++ [.win, .macs, .yrd]
  | .nodeFree .. | .nodeLeave .. | .euiLookup .. => Part.write ++ [.win, .sys, .macs, .ntb, .yrd, .kvt]
  | .euiLookupDone => [.regs, .ntb]
  | .yarderPass => Part.write ++ [.win, .macs, .yrd, .sch, .tqu, .evr]
  | .yrdEnable .. | .overrideArm .. => Part.write ++ [.yrd]
  | .sceneArm .. => Part.write ++ [.sys, .yrd]
  | .yrdCommitReq .. | .yrdCopy .. => Part.write ++ [.win, .yrd]
  | .schCommitReq .. | .schCopy .. => Part.write ++ [.win, .sch]
  | .solarMinute => [.regs, .sch]
  | .solarRecompute .. => Part.write ++ [.win, .sys, .sch]
  | .frameIngress .. => [.regs, .mem, .ntb, .ths, .swx, .trc]
  | .engineDispatch | .engineDone .. | .hostTxFrame => [.regs, .mem, .ths, .swx, .trc]
  | .egressDone .. => [.regs, .ths, .swx, .uplinks, .twn, .sent]
  | .payloadHandoff .. => [.regs, .win, .ntb, .ths, .swx, .twn, .sent]
  | .hostRxWrite => [.regs, .mem, .ram, .ths, .swx]
  | .uplinkDown .. | .blockLockChange .. => [.regs, .ths, .swx]
  | .classRevert .. => [.swx]
  | .speedTry .. | .txDisableRelease .. => [.uplinks]
  | .sfpAccess .. => Part.write ++ [.uplinks]
  | .sfpDone .. => [.regs, .ths, .uplinks, .sent]
  | .sfpModuleChange .. | .txFaultChange .. => [.regs, .ths, .swx, .uplinks]
  | .ptpMeasurement .. | .domainEnable .. | .domainDisable .. | .timeSnap .. => Part.write ++ [.tim]
  | .civilUpdate => [.regs, .rct, .tim, .rtc, .ths, .evr]
  | .civilStepSnap .. | .civilStepValue .. => Part.write ++ [.rct, .tim, .evr]
  | .rtcLoadFromTb3 => [.regs, .tim, .rtc, .ths, .free]
  | .timeAlarm .. => [.regs, .tim, .ths]
  | .rtcSecond | .rtcAlarm .. => [.regs, .rtc, .ths]
  | .rtcSet .. => Part.write ++ [.rtc]
  | .rtcSnap .. => Part.write ++ [.rtc, .free]
  | .pd0Loss => [.regs, .rtc]
  | .threadInit .. | .threadReady .. | .threadBlock .. | .threadCancel .. | .threadSetprio .. | .threadSetaff ..
  | .threadYield .. | .threadWait .. | .threadTake .. => Part.write ++ [.sys, .threads]
  | .waitDeadline .. | .bindWake .. => [.regs, .mem, .ths, .threads, .trc]
  | .dispatchDecision => [.regs, .mem, .ths, .threads, .trc, .free]
  | .memoryError .. => [.regs, .sns, .ths, .tqu, .sent]
  | .queuePush .. | .queueMark .. | .queueRewind .. | .queueFlush .. | .queueAbort .. | .queueRdWrite ..
  | .queueRelease .. | .queueCopy .. | .queueEnable .. | .queueDisable .. => Part.write ++ [.win, .sys, .tqu]
  | .itemOffer => [.regs, .win, .ths, .tqu]
  | .itemCommit .. => [.regs, .ths, .tqu]
  | .queueCopyDone => [.regs, .mem, .ram, .ths, .tqu]
  | .logEvent .. | .seekDone => [.regs, .evr]
  | .logRecordWrite .. => [.regs, .mem, .ram, .ths, .evr, .ksp, .sent]
  | .logTokenRefill => [.evr]
  | .opsecSecond => [.mem, .ram, .evr]
  | .logSeek .. => Part.write ++ [.evr]
  | .bankClr .. => Part.write ++ [.ram, .evr]
  | .firmwareRecord .. => Part.write ++ [.ram, .sys, .evr]
  | .generate | .importPlain | .unwrap | .wrap | .derive | .agree | .seal | .kvtOpen | .sign | .verifyEcdsa
  | .verifyMldsa | .attest | .store | .exportPublic | .random | .readCert => [.regs, .mem, .ram, .ths, .kvt, .free]
  | .keyCommandDone .. => [.regs, .mem, .ram, .ths, .kvt]
  | .revoke .. | .delete .. | .zeroizeVolatile .. | .zeroizePersistent .. | .zeroizeFactory .. | .reseal ..
    => Part.write ++ [.ram, .sys, .evr, .kvt]
  | .resealDone | .entropyFail .. => [.regs, .ths, .evr, .kvt]
  | .maskingPass => [.regs, .kvt, .free]
  | .entropyRecovered => [.kvt]
  | .sessionOpen .. | .sessionClose .. | .sessionAbort .. => Part.write ++ [.ram, .evr, .upd, .free]
  | .xfer .. => Part.write ++ [.evr, .upd, .free]
  | .xferDone | .verifyDone | .activateDone .. => [.regs, .mem, .ram, .ths, .evr, .upd]
  | .verify .. | .activate .. | .confirm .. | .fallback .. | .migDone .. => Part.allBut [.tim, .rtc]
  | .sessionTimeout => [.regs, .ths, .evr, .upd]
  | .windowWarn => [.regs, .ths, .upd]
  | .twinEnable .. => Part.write ++ [.pwr, .mtr, .stl, .axe, .evr]
  | .huntTimeout => [.regs, .mem, .ram, .pwr, .mtr, .stl, .axe, .ths, .evr, .twn]
  | .twinLinkUp => [.regs, .now, .pwr, .rct, .mtr, .stl, .axe, .ths, .evr, .kvt, .twn, .sent, .free]
  | .heartbeatReceive ..
    => [.regs, .mem, .ram, .now, .pwr, .rct, .mtr, .stl, .axe, .ths, .evr, .kvt, .twn, .sent, .free]
  | .heartbeatDue => [.regs, .twn]
  | .pairReceive .. => [.regs, .pwr, .mtr, .stl, .axe, .ths, .evr, .kvt, .twn, .sent, .free]
  | .controlReceive .. => [.mem, .ram, .twn, .ksp]
  | .alignmentStep .. => [.regs, .now, .rct, .sns, .cen, .mfe, .chs, .axe, .ths, .twn]
  | .loopEpochSend => [.regs, .twn, .sent]
  | .yarderEpochSend => [.yrd, .twn, .sent]
  | .yarderEpochReceive .. => Part.write ++ [.win, .pwr, .mtr, .stl, .axe, .macs, .yrd, .sch, .tqu, .evr]
  | .yarderResync .. => [.yrd, .sch, .twn]
  | .switchFrameReceive .. => [.regs, .mem, .ths, .swx, .trc, .twn]
  | .imageReceive .. => [.regs, .mem, .ram, .ths, .evr, .upd, .twn]
  | .takeoverDecision .. | .drillReturn => [.regs, .mem, .ram, .ths, .evr, .twn]
  | .takeover => [.regs, .pwr, .cen, .chs, .mtr, .stl, .axe, .ths, .evr, .twn]
  | .pulseResume => [.twn]
  | .drillArm .. => Part.write ++ [.sys, .evr]
  | .twinRearm .. => Part.write ++ [.now, .pwr, .rct, .mtr, .stl, .axe, .evr, .kvt, .free]
  | .kspConnect .. | .helloTimeout .. | .sessionIdleTimeout .. => [.regs, .ths, .evr, .ksp]
  | .hello .. => [.regs, .ths, .evr, .ksp, .sent]
  | .ping .. | .txQuery .. | .winRead .. | .configGet .. | .meterRead .. | .meterCycle .. | .meterSlot ..
  | .alarmList .. | .logSubscribe .. | .logStop .. | .updStatus .. => [.regs, .evr, .ksp, .sent]
  | .bundleCancel .. | .configPut .. | .alarmAck .. => [.regs, .mem, .ram, .ths, .evr, .twn, .ksp, .sent]
  | .bundleConvert => [.ksp]
  | .bundleComplete => [.regs, .mem, .ram, .twn, .ksp, .sent]
  | .regRead .. => [.regs, .sys, .uplinks, .evr, .ksp, .sent]
  | .txjPut .. | .txjFind .. | .txjUpdate .. => Part.write ++ [.ksp]
  | .txjDone => [.regs, .mem, .ram, .ths, .twn, .ksp, .sent]

/-! ### What an operation of the vault leaves in flight (R406, R407) -/

/-- A command of the vault is the oldest that an operation and its engine can take. -/
def State.vaultNext (s : State) (op : Nat) (c : KvtCmd) (q l : List KvtCmd) : Prop :=
  s.kvt.queue = q ++ c :: l ∧ c.op = op ∧ s.kvt.state ≠ 0 ∧ (∀ x ∈ q, x.op ≠ op ∧ x.engines ≠ c.engines)
    ∧ ¬(s.kvt.reseal = true ∧ op = KO.STORE)

/-- A command in flight will put out these bytes, or end with LENGTH where its buffer is too small. -/
def KvtFlight.gives (x : KvtFlight) (cap : Nat) (o : List Byte) : Prop :=
  x.fill = none ∧ x.store = none ∧ if cap < o.length then x.code = KR.LENGTH ∧ x.out = [] else x.code = KR.OK ∧ x.out = o

/-- A command in flight will end with a code and write nothing else. -/
def KvtFlight.fails (x : KvtFlight) (code : Nat) : Prop := x.code = code ∧ x.out = [] ∧ x.fill = none ∧ x.store = none

/-- A command in flight will fill DEST with a key of a value, by NEW_ATTR, of an origin and under a parent. -/
def KvtFlight.makes (s : State) (c : KvtCmd) (x : KvtFlight) (origin : Nat) (parent : Option Nat) (v : List Byte) : Prop :=
  x.code = KR.OK ∧ x.store = none ∧ ∃ k : KeySlot, x.fill = some (c.dest, k) ∧ k.typ = bits c.attr 7 4 ∧ k.usage = bits c.attr 9 8
    ∧ k.origin = origin ∧ k.parent = parent ∧ k.persist = bit c.attr 17 ∧ k.nonceExt = bit c.attr 18
    ∧ xorBytes k.shareA k.shareB = v
    ∧ match parent with
      | none => k.depth = 0 ∧ k.exp = bit c.attr 16
      | some p => k.depth = (s.key p).depth + 1 ∧ k.pgen = (s.key p).gen ∧ k.exp = (bit c.attr 16 && s.chainExports 9 p)

/-! ### What the update engine leaves (R431) -/

/-- An address outside the W11 trace buffer, which the fabric trace may write. -/
def offTrace (a : Nat) : Prop := a < 0x53000000 ∨ 0x53100000 ≤ a

/-- The update engine with the owner's last action noted. -/
def State.updHeard (s : State) (req : Nat) : Upd := { s.upd with lastAct := if s.upd.owner = req then s.tb0s else s.upd.lastAct }

/-- A command was refused with a code: RESULT, REFUSED, the count of the page, and nothing of the session (R431, R438). -/
def State.updRefused (s t : State) (req code : Nat) : Prop :=
  t.reg UPD.RESULT = word code ∧ t.rbit (regINT_FLAG UPD.page) 4 = true ∧ t.upd = s.updHeard req
    ∧ t.reg (regCLAMP_CNT UPD.page) = incLow (s.reg (regCLAMP_CNT UPD.page)) ∧ ∀ a, offTrace a → t.byte a = s.byte a

/-! ### What the twin link takes (R444) -/

/-- A frame of a lane is taken: PD9 is up, the lane is in step, the tag checks, and TSEQ follows the last one, if there is one. -/
def State.hears (s : State) (lane : Nat) (h : TwinHead) : Prop :=
  s.domainUp 9 = true ∧ s.twn.broken.testBit lane = false ∧ h.good = true
    ∧ ∀ p, s.twn.rxSeq.find? (fun p => p.1 = lane) = some p → h.seq = (p.2 + 1) % 2 ^ 32

/-- The twin block with the TSEQ of a frame it took. -/
def Twn.after (w : Twn) (lane : Nat) (h : TwinHead) : Twn :=
  { w with rxSeq := (lane, h.seq) :: w.rxSeq.filter (fun p => p.1 ≠ lane) }

/-! ### What the segment protocol takes and answers (R467, R469, R472) -/

/-- A session may send a message of a version and a role. -/
def State.kspMay (s : State) (h : KspHead) (x : KspSession) (ver : Nat) (role : Option Nat) : Prop :=
  s.kspSession h.sess = some x ∧ x.opened = true ∧ ver ≤ x.ver ∧ h.critical = false
    ∧ ∀ r, role = some r → x.roles.testBit r = true

/-- A write-class message that is executed: by a module that is SOLO or ACTIVE, with a TXID that no entry but a LOST one holds. -/
def State.kspFirst (s : State) (h : KspHead) (x : KspSession) : Prop :=
  h.txid ≠ 0 ∧ (s.twn.role = .solo ∨ s.twn.role = .active)
    ∧ ∀ i, s.txjFind x.ident h.txid.toNat = some i → s.txjState i = TX.LOST

/-- A message was answered with a body: counted both ways, the session heard, and one message more sent. -/
def State.kspAnswered (s t : State) (h : KspHead) (x : KspSession) (flags msg : Nat) (body : List Byte) : Prop :=
  t.sent = s.sent ++ [.ksp h.sess (kspMessage x.ver flags msg h.txid.toNat body)]
    ∧ t.reg (KSP.S_RX h.sess) = s.reg (KSP.S_RX h.sess) + 1 ∧ t.reg (KSP.S_TX h.sess) = s.reg (KSP.S_TX h.sess) + 1
    ∧ t.kspSession h.sess = some { x with since := s.tb0s }

/-- What follows the execution of a write-class message: its answer entered in the journal, and sent (R471, R472). -/
def State.kspAfter (u : State) (h : KspHead) (msg : Nat) (x : KspSession) (a : KspAnswer) : State :=
  (u.kspJournal (txjBody x.ident h.txid.toNat h.digest.toNat a.code a.index (a.st.getD TX.DONE))).kspReply h msg a false

/-- The answer to writes the firmware makes for a message: REFUSED with the index of the first that was refused, else OK. -/
def answerOf (p : State × Option Nat) : KspAnswer := { code := if p.2.isSome then KP.REFUSED else KP.OK, index := p.2.getD 0 }

/-- The head, the code, the version and the role of a write-class message (R479); BUNDLE and BUNDLE_CANCEL need the roles of their
members. -/
def kspWriteOf : Instr → Option (KspHead × Nat × Nat × Option Nat)
  | .bundle h .. => some (h, 0x0010, 1, none)
  | .bundleCancel h .. => some (h, 0x0011, 2, none)
  | .regWrite h .. => some (h, 0x0101, 1, some 2)
  | .winWrite h .. => some (h, 0x0103, 1, some 2)
  | .configPut h .. => some (h, 0x0111, 1, some 2)
  | .scheduleLoad h .. => some (h, 0x0200, 1, some 2)
  | .rulesLoad h .. => some (h, 0x0201, 1, some 2)
  | .bankCommit h .. => some (h, 0x0202, 1, some 2)
  | .override h .. => some (h, 0x0210, 1, some 1)
  | .sceneSwitch h .. => some (h, 0x0211, 1, some 1)
  | .setpoint h .. => some (h, 0x0212, 1, some 1)
  | .level h .. => some (h, 0x0213, 1, some 1)
  | .patternStart h .. => some (h, 0x0214, 3, some 1)
  | .endpointBudget h .. => some (h, 0x0215, 3, some 2)
  | .alarmAck h .. => some (h, 0x0401, 1, some 1)
  | .timeStep h .. => some (h, 0x0601, 1, some 3)
  | .tzLoad h .. => some (h, 0x0602, 1, some 3)
  | .updOpen h .. => some (h, 0x0700, 1, some 4)
  | .updData h .. => some (h, 0x0701, 1, some 4)
  | .updVerify h .. => some (h, 0x0702, 1, some 4)
  | .updActivate h .. => some (h, 0x0703, 1, some 4)
  | .updConfirm h .. => some (h, 0x0704, 1, some 4)
  | .twinCmd h .. => some (h, 0x0800, 3, some 2)
  | _ => none

end Sys2Proof.Machine
end

