-- ==== Sys2Proof/Certificates/Slice0/Obligations.lean ====
section
/-!
DEFINITION. The statements for the provers, chapter by chapter: first what holds of every command, then what each command does.
-/

open Sys2Proof Sys2Proof.Machine

/-- A command at the front of the queue is run on the state with the queue's rest. -/
def Obligations.StepRunsFront : Prop :=
  ∀ (s : State) (c : Instr) (q : List Instr), s.pending = c :: q → step s = exec c { s with pending := q }

/-- A step on an empty queue: one fabric clock of the time bases while PD1 is up, nothing at all while it is down. That a
step idles so is the model's choice (log entry 60). -/
def Obligations.IdleStep : Prop :=
  ∀ (s : State), s.pending = [] →
    (s.domainUp 1 = true → ∃ t, step s = .next t ∧ (∀ k : Fin 4, t.tbase k = (s.tbase k).tick (s.tbRate k))
      ∧ t.regs = s.regs ∧ t.win = s.win ∧ t.mem = s.mem ∧ t.now = s.now ∧ t.rtc = s.rtc ∧ t.pending = []) ∧
    (s.domainUp 1 = false → step s = .next s)

/-- What reset leaves, of the values the spec's tables give: one register or more of every chapter with tables, the ring
stamp, and a queue with nothing in it. -/
def Obligations.ResetValues : Prop :=
  State.reset.pending = [] ∧ State.reset.now = 0 ∧
  State.reset.reg SYS.RST_CAUSE = 1 ∧ State.reset.reg SYS.WDOG_CFG = 0x3E8 ∧ State.reset.reg PWR.DOM_EN = 0x42F ∧
  State.reset.reg PWR.TEMP_LIM = 0x5F ∧ State.reset.reg RCT.CFG = 4 ∧ State.reset.reg RCT.SLEW = 0x28 ∧
  State.reset.reg RCT.ZC_CFG = 0xA14 ∧ State.reset.reg CEN.EXEC_MARGIN = 0xFFFF ∧ State.reset.reg MFE.BUS_SP_CUR = 0x61A80 ∧
  (∀ k : Fin 12, State.reset.reg (CHN.CMP_MAX k) = 0x79A ∧ State.reset.reg (CHN.CTRL_K k) = 0x30) ∧
  State.reset.reg AXE.PIN_STATE = 0x1FFF ∧ State.reset.reg STL.VER_LIMIT = 2 ∧ State.reset.reg MTR.PULSE_AC = 0x2710 ∧
  State.reset.reg MTR.VNOM = 0xE6 ∧ (∀ k : Fin 48, State.reset.reg (LGT.LVL_CUR k) = 0x10000) ∧
  (∀ f : Fin 48, State.reset.reg (FMA.M_CTRL f) = 0x70803) ∧ State.reset.reg YRD.BUDGET = 0x40 ∧
  State.reset.reg SWX.PRIMARY = 0x3202 ∧ State.reset.reg TIM.CIV_AGREE = 0x3E8

/-- Every command answers a next state, and leaves the commands that wait as they are. Where the spec leaves a point open, the clauses follow
the model's choice (log entry 9). -/
def Obligations.CommandsLeaveQueue : Prop :=
  ∀ (c : Instr) (s : State), ∃ t, exec c s = .next t ∧ t.pending = s.pending

/-- The state after reset is sound. -/
def Obligations.ResetSound : Prop := State.reset.Sound

/-- Every step keeps the canonical form of the register file, of the table windows and of the addressed memory: addresses
strictly rising and no entry equal to what an unlisted address reads as. -/
def Obligations.StepKeepsSound : Prop := ∀ (s t : State), s.Sound → step s = .next t → t.Sound

/-- What every command leaves as it was: each part of the state that `touches` does not list for it. -/
def Obligations.CommandFrames : Prop :=
  ∀ (c : Instr) (s t : State) (p : Part), exec c s = .next t → p ∉ touches c → p.same s t

/-- R26 whole: a write of RING_SET_HI in IDLE loads the starting ring stamp, its low word the one staged before (R71); in
any other state the stamp stays and SET_REJ is set. The angle of a stamp is its low 12 bits, at most 4 095. -/
def Obligations.RingSet : Prop :=
  (∀ (req : Req) (hi : Word) (s : State), s.accepts RCT.RING_SET_HI = true → s.rctState = RCT.IDLE →
    ∃ t, exec (.ringSet req hi) s = .next t ∧ t.now = join64 hi (s.stagedLow req RCT.RING_SET_LO)
      ∧ t.reg RCT.RING_SET_HI = hi ∧ t.reg RCT.RING_SET_LO = s.stagedLow req RCT.RING_SET_LO ∧ angleOf t.now ≤ 4095
      ∧ t.rctState = RCT.IDLE) ∧
  (∀ (req : Req) (hi : Word) (s : State), s.accepts RCT.RING_SET_HI = true → s.rctState ≠ RCT.IDLE →
    ∃ t, exec (.ringSet req hi) s = .next t ∧ t.now = s.now ∧ t.rct = s.rct ∧ t.rbit (regSTAT RCT.page) 18 = true
      ∧ t.rbit (regINT_FLAG RCT.page) 6 = true
      ∧ ∀ b, b ∉ [regSTAT RCT.page, regINT_FLAG RCT.page] → b ∉ finishRegs RCT.RING_SET_HI → t.reg b = s.reg b)

/-- Leaving IDLE, returning to it and the soft reset (R27), and the forced flywheel (R20, R21). -/
def Obligations.RctControl : Prop :=
  (∀ (req : Req) (s : State), s.accepts (regCTRL RCT.page) = true → s.rctState = RCT.IDLE →
    ∃ t, exec (.rctEnable req) s = .next t ∧ t.rctState = RCT.ACQUIRE ∧ t.rbit (regCTRL RCT.page) 0 = true ∧ t.now = s.now
      ∧ t.rct = s.rct) ∧
  (∀ (req : Req) (s : State), s.accepts (regCTRL RCT.page) = true → s.rbit (regCTRL RCT.page) 0 = true →
      s.rctHeld = false →
    ∃ t, exec (.rctDisable req) s = .next t ∧ t.rctState = RCT.IDLE ∧ t.rbit (regCTRL RCT.page) 0 = false ∧ t.now = s.now
      ∧ t.firstLock = s.firstLock ∧ t.freq = s.fNom) ∧
  (∀ (req : Req) (s : State), s.accepts (regCTRL RCT.page) = true → s.rctHeld = false →
    ∃ t, exec (.rctSoftReset req) s = .next t ∧ t.rctState = RCT.IDLE ∧ t.firstLock = false ∧ t.now = 0 ∧ t.rct.map = []
      ∧ t.rbit (regCTRL RCT.page) 0 = false) ∧
  (∀ (req : Req) (s : State), s.rctHeld = true → s.rbit (regCTRL RCT.page) 0 = true →
    (∃ t, exec (.rctDisable req) s = .next t ∧ t.rct = s.rct ∧ t.now = s.now ∧ t.rctState = s.rctState
      ∧ t.reg (regCLAMP_CNT RCT.page) = incLow (s.reg (regCLAMP_CNT RCT.page))) ∧
    ∃ t, exec (.rctSoftReset req) s = .next t ∧ t.rct = s.rct ∧ t.now = s.now ∧ t.rctState = s.rctState
      ∧ t.reg (regCLAMP_CNT RCT.page) = incLow (s.reg (regCLAMP_CNT RCT.page))) ∧
  (∀ (req : Req) (s : State), s.accepts RCT.FORCE = true → (s.rctState = RCT.LOCKED ∨ s.rctState = RCT.PULLIN) →
    ∃ t, exec (.forceFly req) s = .next t ∧ t.rctState = RCT.FLYWHEEL ∧ t.fld (regSTAT RCT.page) 6 4 = RCT.FORCED
      ∧ t.rbit (regSTAT RCT.page) 16 = false ∧ t.rct.forced = true ∧ t.rct.qual = none ∧ t.freq = s.freq
      ∧ t.rbit (regINT_FLAG RCT.page) 1 = true ∧ t.reg RCT.FLY_CNT = incLow (s.reg RCT.FLY_CNT)) ∧
  (∀ (req : Req) (s : State), s.accepts RCT.FORCE = true →
    ∃ t, exec (.forceRelease req) s = .next t ∧ t.now = s.now ∧ t.rct = (if s.rct.forced then
      { s.rct with forced := false, runLast := none, runCount := 0, runSum := 0 } else s.rct))

/-- The angle clock under the loop: the first-lock step (R23), the update (R17, R21), the moment a frequency acts (R18),
the loss of a phase (R15, R20) and the end of a pull-in that did not converge (R20). -/
def Obligations.RctLoop : Prop :=
  (∀ (p : Int) (m : Nat) (s : State), s.rct.qual = some (p, m) → s.rctState = RCT.ACQUIRE → s.rct.ticks = m + 1 →
      s.twn.role ≠ .pairing →
    ∃ t, exec .firstLockStep s = .next t
      ∧ t.now = s.now + BitVec.ofNat 64 (slipTicks p ((m + 1 : Nat) * 256) s.rct.fq s.freq (angleOf s.now))
      ∧ t.rctState = RCT.LOCKED ∧ t.firstLock = true ∧ t.reg RCT.FREQ = word s.rct.fq ∧ t.rct.integ = s.rct.fq
      ∧ t.rct.clk = (word s.rct.fq).toNat ∧ t.rct.map = [] ∧ t.rbit (regINT_FLAG RCT.page) 5 = true) ∧
  (∀ (p q : Int) (fq freq a : Nat), slipTicks p q fq freq a < 4096
      ∧ ((a + slipTicks p q fq freq a : Nat) + (4096 - (2 * ((q - p) * fq) + 256 * freq) / (2 * (256 * freq)))) % 4096 = 0) ∧
  (∀ s : State, s.domainUp 5 = true → s.rctState = RCT.FLYWHEEL → s.rct.qual = none → angleOf s.now = 0 →
    ∃ t, exec .loopUpdate s = .next t ∧ t.now = s.now ∧ t.rctState = RCT.FLYWHEEL
      ∧ t.reg RCT.FREQ = word ((s.freq : Int) + clampI (-s.slew) s.slew ((s.fNom : Int) - s.freq)).toNat) ∧
  (∀ s : State, s.domainUp 5 = true → s.rctState = RCT.LOCKED → angleOf s.now = 0 →
      (∀ k, k < 3 → (s.phase k).err = none) →
    ∃ t, exec .loopUpdate s = .next t ∧ t.now = s.now ∧ t.rctState = RCT.LOCKED ∧ t.freq = s.freq
      ∧ t.rct.integ = s.rct.integ) ∧
  (∀ (s : State) (e : Int), fMin ≤ (s.loopStep e).1 ∧ (s.loopStep e).1 ≤ fMax
      ∧ (fMin ≤ s.freq → s.freq ≤ fMax → ((s.loopStep e).1 : Int) ≤ s.freq + s.slew ∧ (s.freq : Int) - s.slew ≤ (s.loopStep e).1)) ∧
  (∀ s : State, s.domainUp 5 = true → s.rctState ≠ RCT.IDLE → angleOf s.now = 1 →
    ∃ t, exec .freqTakesEffect s = .next t
      ∧ t = { s with rct := { s.rct with clk := s.freq, clkPast := (s.rct.ticks, s.rct.clk) :: s.rct.clkPast.take 3 } }) ∧
  (∀ (k : Fin 3) (s : State), s.domainUp 5 = true → s.phaseTimedOut k = true → s.rbit (regSTAT RCT.page) (8 + k.val) = false →
    ∃ t, exec (.phaseLoss k) s = .next t ∧ t.rbit (regSTAT RCT.page) (8 + k.val) = true
      ∧ t.rbit (regINT_FLAG RCT.page) 3 = true
      ∧ ((∀ j : Fin 3, j ≠ k → s.rbit (regSTAT RCT.page) (8 + j.val) = true) →
          (s.rctState = RCT.LOCKED ∨ s.rctState = RCT.PULLIN) →
          t.rctState = RCT.FLYWHEEL ∧ t.fld (regSTAT RCT.page) 6 4 = RCT.MAINS_LOST)
      ∧ ((∃ j : Fin 3, j ≠ k ∧ s.rbit (regSTAT RCT.page) (8 + j.val) = false) → t.rctState = s.rctState)) ∧
  (∀ s : State, s.rctState = RCT.PULLIN → 256 ≤ s.rct.pullCycles →
    ∃ t, exec .pullTimeout s = .next t ∧ t.rctState = RCT.FLYWHEEL ∧ t.fld (regSTAT RCT.page) 6 4 = RCT.PULL_TIMEOUT
      ∧ t.reg RCT.FLY_CNT = incLow (s.reg RCT.FLY_CNT))

/-- The correspondence table and conversions (R32, R33): a capture keeps the 16 newest entries, GO makes a conversion
busy, and its end writes the result of R33 or the reason there is none. -/
def Obligations.Correspondence : Prop :=
  (∀ s : State, s.domainUp 5 = true → s.rctState ≠ RCT.IDLE → angleOf s.now = 0 → cycleOf s.now % 256 = 0 →
      s.rct.map.length ≤ 16 →
    ∃ t, exec .mapCapture s = .next t
      ∧ t.rct.map = (if s.rct.map.length = 16 then s.rct.map.drop 1 else s.rct.map)
          ++ [{ cycle := cycleOf s.now, tb3 := s.tb 3, tb0 := s.tb 0 }]
      ∧ t.rct.map.length ≤ 16) ∧
  (∀ (req : Req) (toCivil : Bool) (s : State), s.accepts RCT.CONV_CTRL = true →
    ∃ t, exec (.convert req toCivil) s = .next t ∧ t.rbit RCT.CONV_STAT 8 = true ∧ t.rbit RCT.CONV_CTRL 1 = toCivil
      ∧ t.rct = s.rct) ∧
  (∀ s : State, s.rbit RCT.CONV_STAT 8 = true → s.rct.map.length < 2 →
    ∃ t, exec .convertDone s = .next t ∧ t.reg RCT.CONV_STAT = 1 ∧ ∀ b, b ≠ RCT.CONV_STAT → t.reg b = s.reg b) ∧
  (∀ (a b : MapEntry) (s : State), s.rbit RCT.CONV_STAT 8 = true → s.rbit RCT.CONV_CTRL 1 = true → s.rct.map = [a, b] →
      (∃ u : Nat, u = (s.reg RCT.CONV_IN0).toNat + (s.reg RCT.CONV_IN1).toNat * 2 ^ 32 ∧ u < a.cycle * 4096) →
    ∃ t, exec .convertDone s = .next t ∧ t.reg RCT.CONV_STAT = 2 ∧ ∀ k, k ≠ RCT.CONV_STAT → t.reg k = s.reg k) ∧
  (∀ (a b : MapEntry) (u : Nat) (s : State), s.rbit RCT.CONV_STAT 8 = true → s.rbit RCT.CONV_CTRL 1 = true →
      s.rct.map = [a, b] → u = (s.reg RCT.CONV_IN0).toNat + (s.reg RCT.CONV_IN1).toNat * 2 ^ 32 → a.cycle * 4096 ≤ u →
    ∃ (t : State) (c : Nat), exec .convertDone s = .next t ∧ t.reg RCT.CONV_STAT = 0
      ∧ c = a.tb3 + roundUpDiv ((u - a.cycle * 4096) * (b.tb3 - a.tb3)) ((b.cycle - a.cycle) * 4096)
      ∧ t.reg RCT.CONV_OUT0 = word (tbFormat c) ∧ t.reg RCT.CONV_OUT1 = word (tbFormat c / 2 ^ 32)
      ∧ t.reg RCT.CONV_OUT2 = word (tbFormat c / 2 ^ 64))

/-- The module comes up (R45, R54, R60, R482): PD1 at the start threshold, the automatic domains in their order, the
release of PD3 with SLOT_ID sampled, the return of VIN24 and the warm start. -/
def Obligations.PowerUp : Prop :=
  (∀ (bad : BitVec 16) (s : State), s.domainUp 1 = false →
    ∃ t, exec (.powerOn bad) s = .next t ∧ t.pwr.up = 3 ∧ t.pwr.vinOk = true ∧ t.pwr.warm = false
      ∧ t.pwr.pcycle = s.pwr.pcycle + 1) ∧
  (∀ (d : Fin 12) (b : Nat) (bad : Option (BitVec 8)) (s : State), autoAfter d = some b → s.domainUp d = false →
    s.domainUp b = true → s.pwr.pf = false → s.rbit PWR.DOM_FAULT d = false → s.rbit PWR.DOM_EN d = true →
    ∃ t, exec (.domainPowerGood d bad) s = .next t ∧ t.domainUp d = true
      ∧ ∀ k, k < 12 → s.domainUp k = true → t.domainUp k = true) ∧
  (∀ (open_ : Bool) (s : State), s.domainUp 3 = true → s.pwr.pd3Released = false → s.kvt.state ≠ 0 →
    ∃ t, exec (.pd3Release open_) s = .next t ∧ t.pwr = { s.pwr with pd3Released := true, slotB := open_ }) ∧
  (∀ (mv : BitVec 16) (s : State), s.domainUp 1 = true → s.pwr.vinOk = false →
    ∃ t, exec (.vinReturn mv) s = .next t ∧ t.pwr = { s.pwr with vinOk := true } ∧ t.reg PWR.VIN_MV = word mv.toNat
      ∧ t.rbit (regINT_FLAG PWR.page) 1 = true) ∧
  (∀ s : State, s.domainUp 1 = true → s.pwr.pf = true → s.pwr.vinOk = true → s.pwr.shed = true →
    ∃ t, exec .warmStart s = .next t ∧ t.pwr.pf = false ∧ t.pwr.warm = true ∧ t.pwr.up = s.pwr.up
      ∧ t.pwr.pcycle = s.pwr.pcycle + 1)

/-- Input loss and the domains that go (R56 to R59): the declaration, the shedding of PD3 to PD11, the end of the hold, and
the three kinds of domain fault. -/
def Obligations.PowerLoss : Prop :=
  (∀ (mv : BitVec 16) (s : State), s.domainUp 1 = true → s.pwr.pf = false → s.pwr.vinOk = true →
    ∃ t, exec (.inputLoss mv) s = .next t ∧ t.pwr.pf = true ∧ t.pwr.vinOk = false ∧ t.pwr.holdReady = false
      ∧ t.pwr.up = s.pwr.up) ∧
  (∀ s : State, s.pwr.pf = true → s.pwr.shed = false →
    ∃ t, exec .loadShed s = .next t ∧ t.pwr.shed = true ∧ (∀ d, 3 ≤ d → t.domainUp d = false)
      ∧ ∀ d, d < 3 → t.domainUp d = s.domainUp d) ∧
  (∀ s : State, s.pwr.pf = true →
    ∃ t, exec .finalCommitDone s = .next t ∧ t.pwr = { s.pwr with finalDone := true }
      ∧ (s.mtr.writing = none → t = { s with pwr := { s.pwr with finalDone := true } })
      ∧ (∀ w, s.mtr.writing = some w → s.mtr.due = none → t.mtr.writing = none ∧ t.mtr.lastSlot = some w.slot
          ∧ t.reg MTR.COMMIT_SEQ = word w.seq)) ∧
  (∀ s : State, s.pwr.pf = true →
    ∃ t, exec .holdEnd s = .next t ∧ t.pwr.mramProtect = true ∧ t.pwr.up = 1) ∧
  (∀ (d : Fin 12) (s : State), s.domainUp d = true → (d.val = 4 ∨ 6 ≤ d.val) →
    ∃ t, exec (.domainFault d) s = .next t ∧ t.domainUp d = false ∧ ∀ k : Nat, k < 12 → k ≠ d.val → t.domainUp k = s.domainUp k) ∧
  (∀ (pd5 : Bool) (s : State), s.domainUp (if pd5 then 5 else 3) = true → s.pwr.pf = false →
    ∃ t, exec (.coreDomainFault pd5) s = .next t ∧ t.pwr.warm = true ∧ t.pwr.pf = false
      ∧ (∀ d, 3 ≤ d → t.domainUp d = false) ∧ t.pwr.vinOk = s.pwr.vinOk) ∧
  (∀ s : State, s.domainUp 1 = true →
    ∃ t, exec .essentialDomainFault s = .next t ∧ t.pwr.up = 1 ∧ t.pwr.bankMj = s.pwr.bankMj)

/-- The writes and measurements of the PWR page (R53, R55, R61, R62, R64). -/
def Obligations.PowerMonitor : Prop :=
  (∀ (req : Req) (v : Word) (s : State), s.accepts PWR.DOM_EN = true → s.domEnRefused (bits v 11 0) = false →
    ∃ t, exec (.domEnWrite req v) s = .next t ∧ (∀ d ∈ [4, 6, 7, 8, 9, 10, 11], bit v d = false → t.domainUp d = false)
      ∧ ∀ d < 12, s.domainUp d = true → (bit v d = true ∨ d ∈ [0, 1, 2, 3, 5]) → t.domainUp d = true) ∧
  (∀ (req : Req) (s : State), s.accepts (regCTRL PWR.page) = true →
    ∃ t, exec (.pwrClearCounts req) s = .next t ∧ t.reg PWR.PF_CNT = 0 ∧ t.reg PWR.DOM_FAULT = 0 ∧ t.pwr = s.pwr) ∧
  (∀ (req : Req) (v : Word) (s : State), s.accepts PWR.BANK_TEST = true →
    ∃ t, exec (.bankTestGo req v) s = .next t ∧ t.pwr = { s.pwr with testAsked := true }
      ∧ t.reg PWR.BANK_TEST = (s.fitted PWR.BANK_TEST (putBit v 0 true)).1) ∧
  (∀ s : State, s.domainUp 1 = true → s.pwr.pf = false → s.pwr.testRunning = false → 24500 ≤ s.fld PWR.BANK_MV 15 0 →
    ∃ t, exec .bankTestStart s = .next t
      ∧ t = { s with pwr := { s.pwr with testRunning := true, testAsked := false } }) ∧
  (∀ (mj : BitVec 16) (s : State), s.pwr.testRunning = true →
    ∃ t, exec (.bankTestDone mj) s = .next t
      ∧ t.pwr = { s.pwr with testRunning := false, bankMj := some mj.toNat, holdLow := decide (mj.toNat < 5400) }
      ∧ (t.pwr.holdLow = true → t.rbit (regINT_FLAG PWR.page) 2 = true)) ∧
  (∀ (bankMv vinMv : BitVec 16) (s : State), s.domainUp 1 = true →
    ∃ t, exec (.holdEstUpdate bankMv vinMv) s = .next t ∧ t.reg PWR.BANK_MV = word bankMv.toNat
      ∧ t.reg PWR.VIN_MV = word vinMv.toNat ∧ t.reg PWR.HOLD_EST = word (holdEst (s.pwr.bankMj.getD 6000) bankMv.toNat)
      ∧ t.pwr.holdReady = (decide (3000 ≤ holdEst (s.pwr.bankMj.getD 6000) bankMv.toNat) && !s.pwr.pf)) ∧
  (∀ (above : Bool) (mv : BitVec 16) (s : State), s.domainUp 1 = true →
    ∃ t, exec (.vinOv above mv) s = .next t ∧ t.pwr = { s.pwr with vinOv := above } ∧ t.reg PWR.VIN_MV = word mv.toNat
      ∧ ((above && !s.pwr.vinOv) = true → t.rbit (regINT_FLAG PWR.page) 5 = true)) ∧
  (∀ (edge hot : BitVec 16) (s : State), s.domainUp 1 = true →
    ∃ t, exec (.tempHigh edge hot) s = .next t
      ∧ t.pwr = { s.pwr with tempHigh := decide ((16 * s.fld PWR.TEMP_LIM 7 0 : Nat) < signed 16 hot.toNat) }
      ∧ t.reg PWR.TEMP = word (edge.toNat + hot.toNat * 65536)
      ∧ ((t.pwr.tempHigh && !s.pwr.tempHigh) = true → t.rbit (regINT_FLAG PWR.page) 6 = true)) ∧
  (∀ (mv : BitVec 12) (s : State), s.domainUp 1 = true →
    ∃ t, exec (.cellLow mv) s = .next t ∧ t.pwr = { s.pwr with cellLow := decide (mv.toNat < 2500) }
      ∧ t.reg PWR.CELL_MV = word mv.toNat
      ∧ ((t.pwr.cellLow && !s.pwr.cellLow) = true → t.rbit (regINT_FLAG PWR.page) 3 = true))

/-- Boards, the partner's presence, cabinet inputs and relays (R41, R45, R48, R49, R65). -/
def Obligations.CabinetIO : Prop :=
  (∀ (n : Fin 13) (s : State), ∃ t, exec (.boardPresent n) s = .next t
      ∧ ∀ k, k < 13 → t.pwr.boards.testBit k = (decide (k = n.val) || s.pwr.boards.testBit k)) ∧
  (∀ (n : Fin 13) (s : State), ∃ t, exec (.boardAbsent n) s = .next t
      ∧ ∀ k, k < 13 → t.pwr.boards.testBit k = (decide (k ≠ n.val) && s.pwr.boards.testBit k)) ∧
  (∀ (present : Bool) (s : State), ∃ t, exec (.twinPresentChange present) s = .next t
      ∧ t.pwr.twinPresent = present ∧ t.pwr.up = s.pwr.up ∧ t.pwr.boards = s.pwr.boards) ∧
  (∀ (n : Fin 8) (on : Bool) (s : State), s.domainUp 11 = true → s.rbit HKP.IN_STATE n ≠ on →
    ∃ t, exec (.hkInputChange n on) s = .next t ∧ t.reg HKP.IN_STATE = putBit (s.reg HKP.IN_STATE) n on
      ∧ t.reg (HKP.IN_CNT n) = incLow (s.reg (HKP.IN_CNT n)) ∧ t.rbit (regINT_FLAG HKP.page) n = true) ∧
  (∀ (req : Req) (v : Word) (s : State), s.accepts HKP.RLY_CTRL = true →
    ∃ t, exec (.relayCtrlWrite req v) s = .next t ∧ t.reg HKP.RLY_CTRL = (s.fitted HKP.RLY_CTRL v).1)

/-- Faulted accesses, register writes and reads of the fabric (R69, R71, R73). An access outside every page and window is
unmapped for the service-port bridge, whatever its width and alignment; on a page the width comes before the alignment.
RCT.SLEW stands for a register with a range, as in the example of R73, and the ring stamp for a 64-bit register. -/
def Obligations.FabricAccess : Prop :=
  (∀ (req : Req) (a : BitVec 64) (size : Fin 4) (write : Bool) (k : Nat) (s : State),
    (0x4002E000 ≤ a.toNat ∧ a.toNat < 0x50000000 ∧ k = 2
      ∨ isPageAddr a.toNat = true ∧ size ≠ 2 ∧ k = 0
      ∨ isPageAddr a.toNat = true ∧ size = 2 ∧ a.toNat % 4 ≠ 0 ∧ k = 1) →
    ∃ t, exec (.accessFault req a size write) s = .next t ∧ t.reg SYS.ERR_ADDR = word a.toNat
      ∧ t.reg SYS.ERR_INFO = word (req + write.toNat * 16 + k * 256) ∧ t.rbit (regINT_FLAG SYS.page) 2 = true
      ∧ t.sent = s.sent ++ [.busFault req a.toNat write]
      ∧ ∀ b, b ∉ [SYS.ERR_ADDR, SYS.ERR_INFO, regINT_FLAG SYS.page] → t.reg b = s.reg b) ∧
  (∀ (req : Req) (v : Word) (s : State), s.accepts RCT.SLEW = true →
    ∃ t, exec (.registerWrite req (BitVec.ofNat 64 RCT.SLEW) v) s = .next t ∧ t.fld RCT.SLEW 7 0 = clampN 1 200 v.toNat
      ∧ ∀ b, b ≠ RCT.SLEW → b ∉ finishRegs RCT.SLEW → t.reg b = s.reg b) ∧
  (∀ (req : Req) (p : Fin 46) (v : Word) (s : State),
    ∃ t, exec (.registerWrite req (BitVec.ofNat 64 (pageBase p)) v) s = .next t ∧ t.reg (pageBase p) = s.reg (pageBase p)
      ∧ t.reg SYS.CLAMP_LAST = word (pageBase p) ∧ t.reg SYS.CLAMP_SRC = word req
      ∧ t.reg (regCLAMP_CNT p) = incLow (s.reg (regCLAMP_CNT p))) ∧
  (∀ (req : Req) (s : State), s.domainUp 5 = true →
    ∃ t, exec (.latchedRead req (BitVec.ofNat 64 RCT.NOW_LO)) s = .next t ∧ (t.port req).rdata = lo32 s.now
      ∧ (t.port req).latchTag = RCT.NOW_LO ∧ (t.port req).latchHi = hi32 s.now ∧ t.now = s.now ∧ t.regs = s.regs
      ∧ ∀ r : Req, r ≠ req → t.port r = s.port r) ∧
  (∀ (req : Req) (s : State), s.domainUp 5 = true →
    ∃ t, exec (.latchedRead req (BitVec.ofNat 64 RCT.NOW_HI)) s = .next t
      ∧ (t.port req).rdata = (if (s.port req).latchTag = RCT.NOW_LO then (s.port req).latchHi else hi32 s.now)
      ∧ t.now = s.now ∧ t.regs = s.regs)

/-- The registers at the start of every page, and parity (R68, R73, R74, R76, R77, R81). -/
def Obligations.FabricCommon : Prop :=
  (∀ (req : Req) (v : Word) (s : State), s.accepts (regINT_FLAG LGT.page) = true →
    ∃ t, exec (.intFlagClear req (BitVec.ofNat 32 (regINT_FLAG LGT.page)) v) s = .next t
      ∧ (∀ i, i < 32 → t.rbit (regINT_FLAG LGT.page) i = (s.rbit (regINT_FLAG LGT.page) i && !bit v i))
      ∧ ∀ b, b ≠ regINT_FLAG LGT.page → b ∉ finishRegs (regINT_FLAG LGT.page) → t.reg b = s.reg b) ∧
  (∀ (req : Req) (v : Word) (s : State), ∃ t, exec (.intForce req 0x00 v) s = .next t
      ∧ ∀ i, i < 4 → t.rbit (regINT_FLAG SYS.page) i = (s.rbit (regINT_FLAG SYS.page) i || bit v i)) ∧
  (∀ (req : Req) (p : Fin 46) (v : Word) (s : State), s.accepts (regLOCK p) = true →
    ∃ t, exec (.lockWrite req p v) s = .next t ∧ t.rbit (regLOCK p) 0 = (s.rbit (regLOCK p) 0 || bit v 0)
      ∧ t.rbit (regLOCK p) 1 = (s.rbit (regLOCK p) 1 || bit v 1)
      ∧ ∀ b, b ≠ regLOCK p → b ∉ finishRegs (regLOCK p) → t.reg b = s.reg b) ∧
  (∀ (req : Req) (p : Fin 46) (v : Word) (s : State), s.rbit (regLOCK p) 1 = true →
    ∃ t, exec (.lockWrite req p v) s = .next t ∧ t.reg (regLOCK p) = s.reg (regLOCK p)
      ∧ t.reg (regCLAMP_CNT p) = incLow (s.reg (regCLAMP_CNT p))) ∧
  (∀ (p : Fin 46) (w : BadWord) (s : State), (∀ req a v, w ≠ .write req a v) →
    ∃ t, exec (.parityError p w) s = .next t
      ∧ t.reg (regPARITY_CNT p) = incLow (s.reg (regPARITY_CNT p))
      ∧ (s.fld (regPARITY_CNT p) 15 0 = 0 → t.rbit (regINT_FLAG SYS.page) 0 = true)
      ∧ (∀ i, w = .sample i → (t.snsIn i).perr = true) ∧ (∀ i, w = .stored i → (t.snsIn i).unread = true)
      ∧ (∀ x, w = .queueWord x → x.val ∈ t.tqu.bad)) ∧
  (∀ (p : Fin 46) (req : Req) (a v : Word) (s : State), isWindow a.toNat = true →
    ∃ t, exec (.parityError p (.write req a v)) s = .next t ∧ t.win = s.win
      ∧ t.reg (regPARITY_CNT (countPage a.toNat)) = incLow (s.reg (regPARITY_CNT (countPage a.toNat)))) ∧
  (∀ s : State, ∃ t, exec (.sramEccError .corrected) s = .next t
      ∧ t.reg SYS.SRAM_CE = incLow (s.reg SYS.SRAM_CE) ∧ t.reg SYS.SRAM_UE = s.reg SYS.SRAM_UE ∧ t.sns = s.sns ∧ t.tqu = s.tqu) ∧
  (∀ (w : BadWord) (s : State), ∃ t, exec (.sramEccError (.uncorrectable w)) s = .next t
      ∧ t.reg SYS.SRAM_CE = s.reg SYS.SRAM_CE ∧ t.reg SYS.SRAM_UE = incLow (s.reg SYS.SRAM_UE)
      ∧ (∀ i, w = .sample i → (t.snsIn i).perr = true)
      ∧ (∀ i, w = .stored i → (t.snsIn i).unread = true) ∧ ∀ x, w = .queueWord x → x.val ∈ t.tqu.bad) ∧
  (∀ (req : Req) (s : State), s.accepts (regCTRL SYS.page) = true →
    ∃ t, exec (.parityClear req) s = .next t ∧ ∀ p : Fin 46, t.reg (regPARITY_CNT p) = 0)

/-- The resets that a register commands (R78, R79, R81): the system reset, the core reset and the soft reset of a page,
here that of the trace unit. -/
def Obligations.FabricResets : Prop :=
  (∀ (req : Req) (core : Bool) (s : State),
    ∃ t, exec (.systemReset req 0xA5C3 core) s = .next t ∧ t.rbit SYS.RST_CAUSE (if req = 4 then 4 else 2) = true
      ∧ t.pwr.pd3Released = false ∧ t.yrd = {} ∧ t.sch = {} ∧ t.tqu = {} ∧ t.ntb = {} ∧ t.rct = {} ∧ t.now = 0
      ∧ (∀ d, 4 ≤ d → t.domainUp d = false) ∧ (∀ p : Fin 46, t.reg (regLOCK p) = 0)
      ∧ (∀ d, d < 4 → t.domainUp d = s.domainUp d)) ∧
  (∀ (req : Req) (key : BitVec 16) (core : Bool) (s : State), key ≠ 0xA5C3 →
    ∃ t, exec (.systemReset req key core) s = .next t ∧ t.pwr = s.pwr ∧ t.rct = s.rct ∧ t.yrd = s.yrd ∧ t.win = s.win) ∧
  (∀ (req : Req) (s : State),
    ∃ t, exec (.coreReset req 0xA5C3) s = .next t ∧ t.rbit SYS.RST_CAUSE 5 = true ∧ t.pwr = s.pwr ∧ t.rct = s.rct
      ∧ t.now = s.now ∧ t.sns = s.sns ∧ t.cen = s.cen ∧ t.mtr = s.mtr ∧ t.macs = s.macs ∧ t.yrd = s.yrd ∧ t.swx = s.swx
      ∧ t.axe = s.axe ∧ t.win = s.win) ∧
  (∀ (req : Req) (s : State), s.accepts (regCTRL TRC.page) = true →
    ∃ t, exec (.pageSoftReset req 0x2D) s = .next t
      ∧ (∀ k, 0x53000000 ≤ k → k < 0x53100000 → t.byte k = 0)
      ∧ (∀ k, k < 0x53000000 ∨ 0x53100000 ≤ k → t.byte k = s.byte k)
      ∧ ∀ b ∈ [TRC.SRC_EN, TRC.MODE, TRC.FAB_BASE, TRC.FAB_MASK, regINT_FLAG TRC.page], t.reg b = 0) ∧
  (∀ (req : Req) (p : Fin 46) (s : State), s.rbit (regLOCK p) 1 = true →
    ∃ t, exec (.pageSoftReset req p) s = .next t ∧ t.reg (regCLAMP_CNT p) = incLow (s.reg (regCLAMP_CNT p))
      ∧ t.win = s.win ∧ ∀ b, b ∉ finishRegs (regCTRL p) → t.reg b = s.reg b)

/-- R80 whole: the count's restarts, the timeout they take, what other values of WDOG_KICK do, WDOG_WARN and the reset
that ACTION selects. EN stays set until a reset that the rule names. The count itself is in milliseconds of running time; a command marks its half and its end. -/
def Obligations.Watchdog : Prop :=
  (∀ (req : Req) (v : Word) (s : State), s.accepts SYS.WDOG_CFG = true →
    ∃ t, exec (.wdogEnable req v) s = .next t
      ∧ t.fld SYS.WDOG_CFG 15 0 = clampN 10 60000 (bits v 15 0)
      ∧ t.rbit SYS.WDOG_CFG 16 = (s.rbit SYS.WDOG_CFG 16 || bit v 16) ∧ t.rbit SYS.WDOG_CFG 17 = bit v 17
      ∧ (s.rbit SYS.WDOG_CFG 16 = false → bit v 16 = true →
          t.sys.wdogTaken = t.fld SYS.WDOG_CFG 15 0 ∧ t.sys.wdogWarned = false)
      ∧ (s.rbit SYS.WDOG_CFG 16 = true → t.sys.wdogTaken = s.sys.wdogTaken ∧ t.sys.wdogWarned = s.sys.wdogWarned)) ∧
  (∀ (req : Req) (s : State), s.rbit SYS.WDOG_CFG 16 = true →
    ∃ t, exec (.wdogKick req 0xC0DE) s = .next t ∧ t.sys.wdogTaken = s.fld SYS.WDOG_CFG 15 0 ∧ t.sys.wdogWarned = false) ∧
  (∀ (req : Req) (v : Word) (s : State), v ≠ 0xC0DE →
    ∃ t, exec (.wdogKick req v) s = .next t ∧ t.sys = s.sys
      ∧ t.reg (regCLAMP_CNT SYS.page) = incLow (s.reg (regCLAMP_CNT SYS.page))) ∧
  (∀ (req : Req) (s : State), s.rbit SYS.WDOG_CFG 16 = true →
    ∃ t, exec (.coreReset req 0xA5C3) s = .next t ∧ t.sys.wdogTaken = s.fld SYS.WDOG_CFG 15 0 ∧ t.sys.wdogWarned = false) ∧
  (∀ s : State, s.rbit SYS.WDOG_CFG 16 = true → s.sys.wdogWarned = false →
    ∃ t, exec .wdogWarn s = .next t ∧ t.rbit (regINT_FLAG SYS.page) 3 = true ∧ t.sys.wdogTaken = s.sys.wdogTaken
      ∧ t.sys.wdogWarned = true) ∧
  (∀ s : State, s.rbit SYS.WDOG_CFG 16 = true → s.rbit SYS.WDOG_CFG 17 = false →
    ∃ t, exec .wdogTimeout s = .next t ∧ t.rbit SYS.RST_CAUSE 6 = true ∧ t.rbit SYS.WDOG_CFG 16 = true ∧ t.pwr = s.pwr
      ∧ t.sys.wdogTaken = s.fld SYS.WDOG_CFG 15 0 ∧ t.sys.wdogWarned = false) ∧
  (∀ s : State, s.rbit SYS.WDOG_CFG 16 = true → s.rbit SYS.WDOG_CFG 17 = true →
    ∃ t, exec .wdogTimeout s = .next t ∧ t.rbit SYS.RST_CAUSE 3 = true ∧ t.rbit SYS.WDOG_CFG 16 = false
      ∧ t.pwr.pd3Released = false)

/-- A sense lane from its enable to DATA and back (R87, R88). -/
def Obligations.SenseLanes : Prop :=
  (∀ (req : Req) (b : Fin 13) (v : Word) (s : State), s.accepts (SNS.LANE_CFG b) = true → bit v 0 = true →
      s.rbit (regCTRL (snsPage b)) 0 = true → s.pwr.boards.testBit b = true → s.domainUp 5 = true →
      s.laneState b = LANE.OFF →
    ∃ t, exec (.laneEnable req b v) s = .next t ∧ t.laneState b = LANE.TRAIN
      ∧ t.fld (SNS.LANE_CFG b) 6 4 = clampN 1 4 (bits v 6 4)) ∧
  (∀ (req : Req) (b : Fin 13) (v : Word) (s : State), s.accepts (SNS.LANE_CFG b) = true → bit v 0 = false →
    ∃ t, exec (.laneEnable req b v) s = .next t ∧ t.laneState b = LANE.OFF) ∧
  (∀ (b : Fin 13) (s : State), s.laneState b = LANE.TRAIN →
    ∃ t, exec (.trainSuccess b) s = .next t ∧ t.laneState b = LANE.SETTLE ∧ t.sns = s.sns) ∧
  (∀ (b : Fin 13) (s : State), s.laneState b = LANE.SETTLE →
    ∃ t, exec (.laneUp b) s = .next t ∧ t.laneState b = LANE.DATA ∧ t.rbit (regSTAT (snsPage b)) (b % 4) = true
      ∧ t.rbit (regINT_FLAG (snsPage b)) 0 = true ∧ (s.playbackOn = false → t.laneTicks b = 0)) ∧
  (∀ (b : Fin 13) (s : State), s.laneState b = LANE.TRAIN →
    ∃ t, exec (.trainFail b) s = .next t ∧ t.laneState b = LANE.TRAIN
      ∧ t.reg (SNS.TRAIN_CNT b) = incLow (s.reg (SNS.TRAIN_CNT b)) ∧ t.rbit (regINT_FLAG (snsPage b)) 4 = true
      ∧ t.sns = s.sns) ∧
  (∀ (b : Fin 13) (s : State), s.laneState b = LANE.DATA →
    ∃ t, exec (.laneLost b) s = .next t ∧ t.laneState b = LANE.TRAIN
      ∧ t.reg (SNS.LOST_CNT b) = incLow (s.reg (SNS.LOST_CNT b)) ∧ t.rbit (regINT_FLAG (snsPage b)) 1 = true
      ∧ (s.playbackOn = false → t.laneTicks b = 0))

/-- The strobe of a tick and the two filter paths (R25, R90, R93, R97): every input's held sample is released to SAMPLE
(an absent one where the input is not enabled), the ring stamp moves on by one tick unless the block is in IDLE, a fast
output is the sinc2 value of R90, and a coil's SETTLE period ends. -/
def Obligations.SenseSamples : Prop :=
  (∀ (live : List LaneBits) (perr : List (Fin 104)) (s : State), s.domainUp 5 = true →
    ∃ t, exec (.sampleRelease live perr) s = .next t ∧ t.rct.ticks = s.rct.ticks + 1
      ∧ t.now = (if s.rctState = RCT.IDLE then s.now else s.now + 1)
      ∧ ∀ i : Fin 104, t.reg (SNS.SAMPLE i) = (if s.inputOn i then (s.snsIn i).held else {}).word) ∧
  (∀ (i : Fin 104) (q : Fin 8) (live : BitVec 12) (perr : Bool) (s : State), s.inputOn i = true →
      bit (s.snsIn i).cfg 3 = true → bits (s.snsIn i).cfg 2 1 ≠ 3 → s.domainUp 5 = true →
    ∃ (t : State) (x : SnsIn) (f : Int), exec (.fastOutput i q live perr) s = .next t
      ∧ (x, f) = SnsIn.comb2 (if (s.fastBits i q live perr).2 then (s.fastBits i q live perr).1.foldl SnsIn.bit2 (s.snsIn i)
          else { ((s.fastBits i q live perr).1.foldl SnsIn.bit2 (s.snsIn i)) with fGood := 0 })
          (signed 24 (s.snsIn i).offset)
      ∧ t.snsIn i = x ∧ -32768 ≤ f ∧ f ≤ 32767
      ∧ t.reg (SNS.FAST i) = word (unsigned 16 f + (if x.fGood = 15 then 65536 else 0))) ∧
  (∀ (i : Fin 104) (q : Fin 8) (live : BitVec 12) (perr : Bool) (s : State), s.domainUp 5 = true →
      s.inputOn i = false ∨ bit (s.snsIn i).cfg 3 = false ∨ bits (s.snsIn i).cfg 2 1 = 3 →
    ∃ t, exec (.fastOutput i q live perr) s = .next t ∧ t.rbit (SNS.FAST i) 16 = false ∧ t.axe = s.axe) ∧
  (∀ (i : Fin 104) (s : State), s.rbit (SNS.ISTAT i) 1 = true → (s.snsIn i).settleLeft = 0 →
    ∃ t, exec (.integratorSettled i) s = .next t ∧ t.rbit (SNS.ISTAT i) 1 = false ∧ t.sns = s.sns
      ∧ ∀ b, b ≠ SNS.ISTAT i → t.reg b = s.reg b)

/-- The playback source (R98 to R102): arming, the start at PB_START, fetching and capturing records, and its stops. Where the spec leaves a point open, the clauses follow
the model's choice (log entry 92). -/
def Obligations.Playback : Prop :=
  (∀ (req : Req) (check : Bool) (s : State), s.accepts PB.PB_CTRL = true → s.pbState = 0 ∨ s.pbState = 3 →
      s.now.toNat + 32 ≤ (s.reg64 PB.PB_START_LO PB.PB_START_HI).toNat → s.twn.role ≠ .active →
    ∃ t, exec (.playbackArm req check) s = .next t ∧ t.pbState = 1 ∧ t.sns.play = true ∧ t.axe.out = 0
      ∧ t.sns.nextFetch = s.reg64 PB.PB_START_LO PB.PB_START_HI ∧ t.reg PB.PB_DONE = 0) ∧
  (∀ (req : Req) (s : State), s.accepts PB.PB_CTRL = true → s.pbState = 0 ∨ s.pbState = 3 →
      s.now.toNat + 32 ≤ (s.reg64 PB.PB_START_LO PB.PB_START_HI).toNat →
    ∃ t, exec (.captureArm req) s = .next t ∧ t.pbState = 1 ∧ t.sns.play = false ∧ t.reg PB.PB_DONE = 0) ∧
  (∀ s : State, s.pbState = 1 → (s.reg64 PB.PB_START_LO PB.PB_START_HI).toNat ≤ s.now.toNat →
    ∃ t, exec .sourceStart s = .next t ∧ t.pbState = 2 ∧ t.rbit (regINT_FLAG 0x08) 8 = true
      ∧ (s.sns.play = true → t.sns.laneTicks = [] ∧ t.axe.out = 0) ∧ (s.sns.play = false → t.sns = s.sns)) ∧
  (∀ s : State, s.sns.play = true → s.pbState = 1 ∨ s.pbState = 2 → s.sns.stopAt = none → s.sns.nextFetch.toNat ≤ s.now.toNat + 16 →
      s.reg PB.PB_COUNT = 0 → s.pbHeld = 0 →
    ∃ t, exec .playbackFetch s = .next t ∧ t.sns = { s.sns with stopAt := some (s.sns.nextFetch, 2) } ∧ t.regs = s.regs) ∧
  (∀ (s : State) (r : List Byte), s.sns.play = true → s.pbState = 1 ∨ s.pbState = 2 → s.sns.stopAt = none →
      s.sns.nextFetch.toNat ≤ s.now.toNat + 16 → s.reg PB.PB_COUNT = 0 → s.pbHeld ≠ 0 →
      inDram (s.pbAddr (s.reg PB.PB_RD).toNat) 1024 = true → r = s.bytes (s.pbAddr (s.reg PB.PB_RD).toNat) 1024 →
      natBE (r.drop 1020) = crc32 (r.take 1020) → (s.rbit PB.PB_CTRL 2 = true → natBE (r.take 8) = s.sns.nextFetch.toNat) →
    ∃ t, exec .playbackFetch s = .next t ∧ t.reg PB.PB_RD = s.reg PB.PB_RD + 1 ∧ t.sns.nextFetch = s.sns.nextFetch + 1
      ∧ t.sns.stopAt = none ∧ t.sns.fetched = s.sns.fetched ++ 
          [{ tick := s.sns.nextFetch, present := natBE ((r.drop 8).take 2), valid := natBE ((r.drop 10).take 2),
             groups := (List.range 13).map (fun n => (n, (r.drop (16 + 64 * n)).take 64)) }]) ∧
  (∀ (live : List LaneBits) (bad : List (Fin 13)) (s : State) (a : Nat),
      (∀ l ∈ live, 64 + s.fld (SNS.LANE_CFG l.lane) 6 4 ≤ l.groups.length) → s.sns.play = false → s.pbState = 2 →
      s.pbHeld < s.fld PB.PB_SIZE 20 0 → a = s.pbAddr (s.reg PB.PB_WR).toNat → inDram a 1024 = true →
    ∃ t, exec (.captureRecord live bad) s = .next t ∧ t.reg PB.PB_WR = s.reg PB.PB_WR + 1
      ∧ t.reg PB.PB_DONE = s.reg PB.PB_DONE + 1 ∧ (∀ k, k < a ∨ a + 1024 ≤ k → t.byte k = s.byte k)) ∧
  (∀ (live : List LaneBits) (bad : List (Fin 13)) (s : State), s.sns.play = false → s.pbState = 2 →
      s.fld PB.PB_SIZE 20 0 ≤ s.pbHeld →
    ∃ t, exec (.captureRecord live bad) s = .next t ∧ t.pbState = 3 ∧ t.fld PB.PB_STAT 7 4 = 5 ∧ t.mem = s.mem) ∧
  (∀ s : State, s.pbState = 2 → s.reg PB.PB_COUNT ≠ 0 → s.reg PB.PB_DONE = s.reg PB.PB_COUNT →
    ∃ t, exec .playbackCountDone s = .next t ∧ t.pbState = 3 ∧ t.fld PB.PB_STAT 7 4 = 6
      ∧ t.rbit (regINT_FLAG 0x08) 9 = true ∧ t.sns.stopAt = none) ∧
  (∀ (req : Req) (s : State), s.accepts PB.PB_CTRL = true → s.pbState = 1 ∨ s.pbState = 2 →
    ∃ t, exec (.playbackStop req) s = .next t ∧ t.pbState = 3 ∧ t.fld PB.PB_STAT 7 4 = 1 ∧ t.fld PB.PB_CTRL 1 0 = 0
      ∧ t.sns.fetched = [] ∧ t.sns.stopAt = none ∧ (s.sns.play = true → t.sns.laneTicks = []))

/-- The engine and its records (R105 to R107, R120 to R123, R127): a strobe of a stopped engine and of one without entries
for the tick, the safe ramp of a halted leg record, the outer section of the bus with its sample absent, fall-back, rearm, and CTRL
bit 0. -/
def Obligations.EngineRecords : Prop :=
  (∀ s : State, s.domainUp 4 = true → s.rctState ≠ RCT.IDLE → s.cen.run = false → s.now.toNat % 8 ≠ 0 →
    ∃ t, exec .cenTickExec s = .next t ∧ t.cen.loops = s.cen.loops ∧ t.cen.rc = s.cen.rc ∧ t.cen.run = false
      ∧ t.cen.wrote = []) ∧
  (∀ (s : State) (i : Nat) (w : Word), s.domainUp 4 = true → s.rctState ≠ RCT.IDLE → s.cen.run = true → s.now.toNat % 8 ≠ 0 →
      (s.slotTable W0.tableActive).1.filter (fun e => entTICK e.2 = angleOf s.now % 8) = [(i, w)] →
      entKIND w = KIND.INNER → 48 ≤ entRECORD w → entRECORD w ≤ 50 → s.mfe.legsOff = false → (s.loop (entRECORD w)).halt = true →
    ∃ t, exec .cenTickExec s = .next t
      ∧ t.loop (entRECORD w) = { s.loop (entRECORD w) with u := s.safeRamp (entRECORD w) (s.loop (entRECORD w)).u }
      ∧ (∀ r, r ≠ entRECORD w → t.loop r = s.loop r)
      ∧ t.cen.wrote = [(entRECORD w, s.safeRamp (entRECORD w) (s.loop (entRECORD w)).u)]) ∧
  (∀ (s : State) (i : Nat) (w : Word), s.domainUp 4 = true → s.rctState ≠ RCT.IDLE → s.cen.run = true → s.now.toNat % 8 ≠ 0 →
      (s.slotTable W0.tableActive).1.filter (fun e => entTICK e.2 = angleOf s.now % 8) = [(i, w)] →
      entKIND w = KIND.OUTER → entRECORD w = 51 → s.outerDue (entRECORD w) = true →
      (s.loop (entRECORD w)).halt = false → (s.loop (entRECORD w)).fb = false →
      s.sense (s.outerIn W0.bankActive (entRECORD w)) = none → s.fld (CEN.MISS (entRECORD w)) 19 18 < 2 →
    ∃ t, exec .cenTickExec s = .next t ∧ t.cen.loops = s.cen.loops ∧ t.cen.wrote = []
      ∧ t.fld (CEN.MISS (entRECORD w)) 19 18 = s.fld (CEN.MISS (entRECORD w)) 19 18 + 1
      ∧ t.reg CEN.OVERRUN_CNT = incLow (s.reg CEN.OVERRUN_CNT) ∧ t.rbit (regINT_FLAG CEN.page) 3 = true) ∧
  (∀ (r : Fin 64) (s : State), s.frameStart = true → s.wantsFallback r = true → (s.loop r).fb = false →
    ∃ t, exec (.fallbackEnter r) s = .next t ∧ t.loop r = { s.loop r with fb := true, ifb := (s.loop r).u }
      ∧ t.rbit (regINT_FLAG CEN.page) 5 = true ∧ ∀ q, q ≠ r.val → t.loop q = s.loop q) ∧
  (∀ (r : Fin 64) (y : Int) (s : State), s.frameStart = true → s.wantsFallback r = false → (s.loop r).fb = true →
      s.sense (s.innerIn W0.bankActive r) = some y →
    ∃ t, exec (.fallbackExit r) s = .next t
      ∧ t.loop r = { s.loop r with
          fb := false, i := (s.loop r).u, dstate := 0, io := clampI (s.coef r 0x40) (s.coef r 0x44) y, o := clampI (s.coef r 0x40) (s.coef r 0x44) y }
      ∧ (∀ q, q ≠ r.val → t.loop q = s.loop q) ∧ t.regs = s.regs) ∧
  (∀ (req : Req) (lo hi : Word) (s : State), s.accepts CEN.REARM_LO = true → s.accepts CEN.REARM_HI = true →
      s.domainUp 4 = true →
    ∃ t, exec (.rearm req lo hi) s = .next t
      ∧ ∀ r : Fin 64, (t.loop r).rearm = ((s.loop r).rearm || (if r.val < 32 then bit lo r else bit hi (r - 32)))
          ∧ (t.loop r).halt = (s.loop r).halt ∧ (t.loop r).u = (s.loop r).u) ∧
  (∀ (r : Fin 64) (y : Int) (s : State), s.frameStart = true → (s.loop r).rearm = true → (s.loop r).halt = true →
      s.measurement r = some y →
    ∃ t, exec (.rearmApply r) s = .next t
      ∧ t.loop r = { s.loop r with
          halt := false, auto := false, rearm := false, i := (s.loop r).u, ifb := (s.loop r).u, io := (s.loop r).o, dstate := 0, rs := y, n11 := 0, n12 := 0, n21 := 0, n22 := 0 }
      ∧ t.fld (CEN.MISS r) 19 16 = 0 ∧ t.cen.rc = s.cen.rc ∧ ∀ q, q ≠ r.val → t.loop q = s.loop q) ∧
  (∀ (r : Fin 64) (s : State), s.frameStart = true → (s.loop r).rearm = true → (s.loop r).halt = false →
    ∃ t, exec (.rearmApply r) s = .next t ∧ t.loop r = { s.loop r with auto := false, rearm := false } ∧ t.regs = s.regs) ∧
  (∀ (req : Req) (s : State), s.accepts (regCTRL CEN.page) = true → s.firstLock = true →
      entKIND (s.winWord W0.tableActive) ≠ KIND.STOP →
    ∃ t, exec (.cenEnable req) s = .next t ∧ t.rbit (regCTRL CEN.page) 0 = true ∧ t.cen = s.cen) ∧
  (∀ (req : Req) (s : State), s.firstLock = false → s.rbit (regCTRL CEN.page) 0 = false →
    ∃ t, exec (.cenEnable req) s = .next t ∧ t.rbit (regCTRL CEN.page) 0 = false
      ∧ t.reg (regCLAMP_CNT CEN.page) = incLow (s.reg (regCLAMP_CNT CEN.page))) ∧
  (∀ (req : Req) (s : State), s.accepts (regCTRL CEN.page) = true → s.rbit (regCTRL CEN.page) 0 = true → s.sinksOn = false →
    ∃ t, exec (.cenDisable req) s = .next t ∧ t.rbit (regCTRL CEN.page) 0 = false ∧ t.cen = { s.cen with run := false })

/-- The check of a slot table and the commits of tables and banks (R111, R112, R124 to R127). -/
def Obligations.EngineBanks : Prop :=
  (∀ (req : Req) (wt : Bool) (s : State), s.accepts CEN.TBL_CHECK = true → s.domainUp 4 = true →
      s.rbit CEN.TBL_STAT 1 = false →
    ∃ t, exec (.tableCheck req wt) s = .next t ∧ t.rbit CEN.TBL_STAT 1 = true ∧ t.rbit CEN.TBL_STAT 2 = wt
      ∧ t.rbit CEN.TBL_STAT 0 = s.rbit CEN.TBL_STAT 0 ∧ t.win = s.win) ∧
  (∀ s : State, s.rbit CEN.TBL_STAT 1 = true →
    ∃ t, exec .tableCheckDone s = .next t ∧ t.rbit CEN.TBL_STAT 1 = false
      ∧ t.rbit CEN.TBL_STAT 0 = decide ((s.tableCheck (checkBase (s.rbit CEN.TBL_STAT 2))).1 = 0)
      ∧ t.fld CEN.TBL_STAT 7 4 = (s.tableCheck (checkBase (s.rbit CEN.TBL_STAT 2))).1
      ∧ t.fld CEN.TBL_STAT 15 8 = (s.tableCheck (checkBase (s.rbit CEN.TBL_STAT 2))).2
      ∧ (t.fld CEN.TBL_STAT 7 4 ≠ 0 → t.rbit (regINT_FLAG CEN.page) 2 = true) ∧ t.win = s.win) ∧
  (∀ (req : Req) (table : Bool) (s : State), s.accepts CEN.COMMIT_CTRL = true → s.commitRefused table = false →
      s.rbit (regCTRL CEN.page) 0 = true → s.domainUp 4 = true →
    ∃ t, exec (.cenCommitReq req table) s = .next t ∧ t.rbit CEN.COMMIT_CTRL 0 = true ∧ t.win = s.win
      ∧ t.cen.commit = some {
          at_ := (s.boundFor 8 (s.reg64 CEN.COMMIT_AT_LO CEN.COMMIT_AT_HI)).1, asked := s.reg64 CEN.COMMIT_AT_LO CEN.COMMIT_AT_HI,
          late := (s.boundFor 8 (s.reg64 CEN.COMMIT_AT_LO CEN.COMMIT_AT_HI)).2, table := table }) ∧
  (∀ (req : Req) (table : Bool) (s : State), s.commitRefused table = true →
    ∃ t, exec (.cenCommitReq req table) s = .next t ∧ t.cen = s.cen ∧ t.win = s.win
      ∧ t.reg (regCLAMP_CNT CEN.page) = incLow (s.reg (regCLAMP_CNT CEN.page))) ∧
  (∀ (req : Req) (s : State), s.accepts CEN.COMMIT_CTRL = true → s.cancelOk = true →
    ∃ t, exec (.cenCommitCancel req) s = .next t ∧ t.cen = { s.cen with commit := none }
      ∧ t.rbit CEN.COMMIT_CTRL 0 = false ∧ t.win = s.win) ∧
  (∀ (req : Req) (s : State), s.accepts CEN.COMMIT_CTRL = true → s.cen.commit = none →
    ∃ t, exec (.cenCopy req) s = .next t ∧ t.cen = { s.cen with copying := true } ∧ t.rbit CEN.TBL_STAT 0 = false) ∧
  (∀ s : State, Windows.wf s.win = true → s.cen.copying = true →
    ∃ t, exec .cenCopyDone s = .next t ∧ t.cen = { s.cen with copying := false }
      ∧ (∀ o, o < 0x400 → t.winWord (W0.tableShadow + o) = s.winWord (W0.tableActive + o))
      ∧ (∀ o, o < 0x4000 → t.winWord (W0.bankShadow + o) = s.winWord (W0.bankActive + o))) ∧
  (∀ (c : Commit) (s : State), Windows.wf s.win = true → s.cen.commit = some c → s.domainUp 4 = true →
      c.at_.toNat ≤ s.now.toNat →
    ∃ t, exec .cenCommitSwap s = .next t ∧ t.cen.commit = none ∧ t.cen.bank = !s.cen.bank
      ∧ (∀ o, o < 0x4000 → t.winWord (W0.bankActive + o) = s.winWord (W0.bankShadow + o)
          ∧ t.winWord (W0.bankShadow + o) = s.winWord (W0.bankActive + o))
      ∧ (∀ o, o < 0x400 → t.winWord (W0.tableActive + o) =
          s.winWord (if c.table then W0.tableShadow + o else W0.tableActive + o))
      ∧ t.reg64 CEN.DONE_AT_LO CEN.DONE_AT_HI = c.at_ ∧ t.rbit (regINT_FLAG CEN.page) 0 = true
      ∧ t.rbit CEN.TBL_STAT 0 = false ∧ (c.asked ≠ 0 → t.rbit CEN.COMMIT_STAT 0 = c.late))

/-- The front end (R136 to R143): enable and disable, its states, the safe ramp's end, and shedding and restoring. Where the spec leaves a point open, the clauses follow
the model's choice (log entry 93). -/
def Obligations.FrontEnd : Prop :=
  (∀ (req : Req) (s : State), s.accepts (regCTRL MFE.page) = true → s.firstLock = true →
      s.rbit (regCTRL CEN.page) 0 = true → s.fld (regSTAT RCT.page) 13 12 ≠ 2 → s.feMatches = true →
    ∃ t, exec (.mfeEnable req) s = .next t ∧ t.rbit (regCTRL MFE.page) 0 = true ∧ t.feState = s.feState) ∧
  (∀ (req : Req) (s : State), s.rbit (regCTRL MFE.page) 0 = false →
      s.firstLock = false ∨ s.rbit (regCTRL CEN.page) 0 = false ∨ s.fld (regSTAT RCT.page) 13 12 = 2 →
    ∃ t, exec (.mfeEnable req) s = .next t ∧ t.rbit (regCTRL MFE.page) 0 = false
      ∧ t.reg (regCLAMP_CNT MFE.page) = incLow (s.reg (regCLAMP_CNT MFE.page))) ∧
  (∀ (req : Req) (s : State), s.accepts (regCTRL MFE.page) = true →
    ∃ t, exec (.mfeDisable req) s = .next t ∧ t.rbit (regCTRL MFE.page) 0 = false
      ∧ t.mfe = { s.mfe with offDue := s.mfe.offDue || s.rbit (regCTRL MFE.page) 0 }) ∧
  (∀ s : State, s.frameStart = true → s.mainsOutDue = true →
    ∃ t, exec .mainsOutEnter s = .next t ∧ t.feState = FE.MAINS_OUT ∧ t.mfe.legsOff = true
      ∧ t.rbit (regINT_FLAG MFE.page) 4 = true ∧ t.reg MFE.CNT = incHigh (s.reg MFE.CNT)) ∧
  (∀ (y : Int) (s : State), s.frameStart = true → s.rbit (regCTRL MFE.page) 0 = true → s.feState = FE.MAINS_OUT →
      s.rctState = RCT.LOCKED → s.fld (regSTAT RCT.page) 13 12 = 1 → s.boardKilled 12 = false → s.feHalted = false →
      s.sense 102 = some y →
    ∃ t, exec .prechargeEnter s = .next t ∧ t.feState = FE.PRECHARGE ∧ t.mfe.legsOff = false
      ∧ (∀ r, r ∈ [48, 49, 50, 51] → (t.loop r).u = 0 ∧ (t.loop r).o = 0 ∧ (t.loop r).i = 0)
      ∧ (t.loop 51).rs = y ∧ t.cen.rc = s.cen.rc) ∧
  (∀ s : State, s.frameStart = true → s.feState = FE.PRECHARGE → s.mfe.settled = true →
    ∃ t, exec .busSettled s = .next t ∧ t.feState = FE.RUN ∧ t.rbit (regINT_FLAG MFE.page) 0 = true ∧ t.cen = s.cen) ∧
  (∀ s : State, s.frameStart = true → s.feState = FE.PRECHARGE → s.mfe.settled = false →
      s.mfe.since.toNat + s.preTimeout * 4096 ≤ s.now.toNat →
    ∃ t, exec .prechargeTimeout s = .next t ∧ t.feState = FE.HALTED ∧ t.mfe.byTimeout = true
      ∧ t.rbit (regINT_FLAG MFE.page) 6 = true ∧ t.rbit (regINT_FLAG MFE.page) 7 = true) ∧
  (∀ s : State, s.frameStart = true → s.rbit (regCTRL MFE.page) 0 = true → s.feHalted = true →
      s.feState ≠ FE.HALTED → s.boardKilled 12 = false →
    ∃ t, exec .feHalted s = .next t ∧ t.feState = FE.HALTED ∧ t.mfe.byTimeout = false ∧ t.mfe.legsOff = false
      ∧ t.rbit (regINT_FLAG MFE.page) 7 = true ∧ t.cen = s.cen) ∧
  (∀ s : State, s.frameStart = true → s.feState = FE.HALTED → (∀ r, r ∈ [48, 49, 50] → (s.loop r).u = s.coef r 0x54) →
    ∃ t, exec .feGateOff s = .next t ∧ t.mfe = { s.mfe with legsOff := true } ∧ t.regs = s.regs) ∧
  (∀ s : State, s.domainUp 4 = true → s.mfe.sag = true → s.mfe.shedAt = none → s.sagShed = false →
    ∃ t, exec .sagDetect s = .next t ∧ t.rbit (regINT_FLAG MFE.page) 1 = true ∧ t.reg MFE.CNT = incLow (s.reg MFE.CNT)
      ∧ t.mfe = { s.mfe with ride := decide (s.feState = FE.RUN), shedAt := some (nextMult 8 s.now, true) }) ∧
  (∀ (c : Nat) (b : Stamp) (s : State), s.frameStart = true → s.mfe.shedAt = some (b, true) → b.toNat ≤ s.now.toNat →
      s.lowestRunning = some c →
    ∃ t, exec .classShed s = .next t
      ∧ (∀ k : Fin 48, t.chState k = if s.chRunning k = true ∧ (s.chan k).prio = c then CH.SHED else s.chState k)
      ∧ t.mfe.shedAt = some (b, false) ∧ (s.feState = FE.RUN → s.mfe.ride = true → t.feState = FE.RIDE)) ∧
  (∀ s : State, s.domainUp 4 = true → 8 ≤ s.mfe.uvRun → s.rbit (regSTAT MFE.page) 16 = false ∨ s.anyRunning = true →
    ∃ t, exec .busUndervoltage s = .next t ∧ t.rbit (regSTAT MFE.page) 16 = true
      ∧ t.rbit (regINT_FLAG MFE.page) 5 = true ∧ t.mfe = { s.mfe with uvShed := true }) ∧
  (∀ (f : Stamp) (c : Nat) (s : State), s.frameStart = true → angleOf s.now = 0 → s.mfe.clearFrom = some f →
      s.restoring = false → s.highestShed = some c → firstWholeCycle f + s.restoreHold ≤ cycleOf s.now →
    ∃ t, exec .restoreBegin s = .next t ∧ t.rbit (regSTAT MFE.page) 16 = false ∧ t.mfe.shedAt = none
      ∧ t.mfe.restored = cycleOf s.now
      ∧ ∀ k : Fin 48, k.val ∈ s.shedChannels → (s.chan k).prio = c →
          (t.chan k).restoreAt = some (stamp (cycleOf s.now) (8 * k))) ∧
  (∀ (c : Nat) (s : State), s.frameStart = true → angleOf s.now = 0 → s.restoring = true → s.highestShed = some c →
      s.mfe.restored + s.restoreGap ≤ cycleOf s.now →
    ∃ t, exec .classRestore s = .next t ∧ t.mfe.restored = cycleOf s.now
      ∧ ∀ k : Fin 48, k.val ∈ s.shedChannels → (s.chan k).prio = c →
          (t.chan k).restoreAt = some (stamp (cycleOf s.now) (8 * k)))

/-- The channels and the set-points (R144 to R149). -/
def Obligations.Channels : Prop :=
  (∀ (k : Fin 48) (b : Stamp) (y : Int) (s : State), s.frameStart = true → (s.chan k).restoreAt = some b →
      b.toNat ≤ s.now.toNat → s.chState k = CH.SHED → s.rbit (CHN.CTRL_K k) 0 = true → s.startMeasure k = some y →
    ∃ t, exec (.channelRestoreStart k) s = .next t ∧ t.chState k = CH.START ∧ (t.loop k).u = 0 ∧ (t.loop k).rs = y
      ∧ t.rbit (regINT_FLAG (CHN.page (k / 12))) 3 = true) ∧
  (∀ (req : Req) (k : Fin 48) (v : Word) (s : State), s.accepts (CHN.CTRL_K k) = true →
      s.rbit (CHN.CTRL_K k) 0 = false → s.firstLock = true → s.rbit (regCTRL CEN.page) 0 = true →
      s.channelMatches k (bit v 1) = true →
    ∃ t, exec (.channelEnable req k v) s = .next t ∧ t.rbit (CHN.CTRL_K k) 0 = true ∧ t.chState k = s.chState k) ∧
  (∀ (req : Req) (k : Fin 48) (v : Word) (s : State), s.accepts (CHN.CTRL_K k) = true →
      s.rbit (CHN.CTRL_K k) 0 = false →
      s.firstLock = false ∨ s.rbit (regCTRL CEN.page) 0 = false ∨ s.channelMatches k (bit v 1) = false →
    ∃ t, exec (.channelEnable req k v) s = .next t ∧ t.rbit (CHN.CTRL_K k) 0 = false
      ∧ t.rbit (regINT_FLAG (CHN.page (k / 12))) 5 = true) ∧
  (∀ (req : Req) (k : Fin 48) (v : Word) (s : State), s.accepts (CHN.CTRL_K k) = true →
    ∃ t, exec (.channelDisable req k v) s = .next t ∧ t.rbit (CHN.CTRL_K k) 0 = false) ∧
  (∀ (k : Fin 48) (s : State), s.frameStart = true → s.rbit (CHN.CTRL_K k) 0 = true → s.boardKilled (k / 4) = false →
      s.chState k = CH.OFF → s.enableSheds = true →
    ∃ t, exec (.channelStart k) s = .next t ∧ t.chState k = CH.SHED ∧ t.reg (CHN.CNT k) = s.reg (CHN.CNT k)
      ∧ t.cen = s.cen) ∧
  (∀ (k : Fin 48) (y : Int) (s : State), s.frameStart = true → s.rbit (CHN.CTRL_K k) 0 = true →
      s.boardKilled (k / 4) = false → s.chState k = CH.HALTED → (s.loop k).halt = false → s.startMeasure k = some y →
    ∃ t, exec (.channelStart k) s = .next t ∧ t.chState k = CH.START ∧ (t.loop k).u = 0 ∧ (t.loop k).rs = y) ∧
  (∀ (k : Fin 48) (s : State), s.frameStart = true → s.chState k = CH.START → (s.chan k).since ≠ s.now →
      (s.loop k).rs = s.rCmd k → (s.loop k).halt = false →
    ∃ t, exec (.startDone k) s = .next t ∧ t.chState k = CH.RUN ∧ t.rbit (regINT_FLAG (CHN.page (k / 12))) 0 = true
      ∧ t.rbit (CHN.EVT (k / 12)) (k % 12) = true ∧ t.cen = s.cen) ∧
  (∀ (k : Fin 48) (s : State), s.frameStart = true → s.chRunning k = true → (s.loop k).halt = true →
    ∃ t, exec (.channelHalt k) s = .next t ∧ t.chState k = CH.HALTED ∧ (t.chan k).safeOff = false
      ∧ t.rbit (regINT_FLAG (CHN.page (k / 12))) 1 = true ∧ t.cen = s.cen) ∧
  (∀ (k : Fin 48) (s : State), s.frameStart = true → s.chState k = CH.HALTED → (s.loop k).u = 0 →
    ∃ t, exec (.channelSafeOff k) s = .next t ∧ (t.chan k).safeOff = true ∧ t.regs = s.regs) ∧
  (∀ (req : Req) (k : Fin 48) (v : Word) (s : State), s.accepts (CHN.SP_NEXT k) = true →
    ∃ t, exec (.setpointStage req (some k) v) s = .next t
      ∧ (s.rbit (CHN.CTRL_K k) 1 = true → (t.reg (CHN.SP_NEXT k)).toNat = clampN 100 3000 v.toNat)
      ∧ (s.rbit (CHN.CTRL_K k) 1 = false → (t.reg (CHN.SP_NEXT k)).toNat =
          min (clampN 120000 380000 v.toNat) (19 * s.fld MFE.BUS_SP_CUR 18 0 / 20))
      ∧ t.reg (CHN.SP_CUR k) = s.reg (CHN.SP_CUR k)) ∧
  (∀ (req : Req) (v : Word) (s : State), s.accepts MFE.BUS_SP_NEXT = true → s.largestFeeder ≤ 380000 →
    ∃ t, exec (.setpointStage req none v) s = .next t
      ∧ (t.reg MFE.BUS_SP_NEXT).toNat = max (clampN 380000 400000 v.toNat) ((20 * s.largestFeeder + 18) / 19)) ∧
  (∀ (req : Req) (k : Fin 48) (hi : Word) (s : State), s.accepts (CHN.SP_AT_HI k) = true → s.domainUp 4 = true →
    ∃ t, exec (.setpointArm req k hi) s = .next t ∧ t.rbit (CHN.STAT_K k) 4 = true
      ∧ (t.chan k).pend = some (s.fld (CHN.SP_NEXT k) 18 0,
          (s.boundFor 8 (join64 hi (s.stagedLow req (CHN.SP_AT_LO k)))).1)) ∧
  (∀ (k : Fin 48) (v : Nat) (b : Stamp) (s : State), s.frameStart = true → (s.chan k).pend = some (v, b) →
      b.toNat ≤ s.now.toNat →
    ∃ t, exec (.setpointApply k) s = .next t ∧ t.reg (CHN.SP_CUR k) = word v ∧ t.rbit (CHN.STAT_K k) 4 = false
      ∧ (t.chan k).pend = none) ∧
  (∀ (req : Req) (hi : Word) (s : State), s.accepts MFE.BUS_SP_AT_HI = true → s.domainUp 4 = true →
    ∃ t, exec (.busSetpointArm req hi) s = .next t
      ∧ t.mfe = { s.mfe with pend := some (s.fld MFE.BUS_SP_NEXT 18 0,
          (s.boundFor 8 (join64 hi (s.stagedLow req MFE.BUS_SP_AT_LO))).1) }) ∧
  (∀ (v : Nat) (b : Stamp) (s : State), s.frameStart = true → s.mfe.pend = some (v, b) → b.toNat ≤ s.now.toNat →
    ∃ t, exec .busSetpointApply s = .next t ∧ t.reg MFE.BUS_SP_CUR = word v ∧ t.mfe = { s.mfe with pend := none })

/-- Trips and their latches (R153 to R161, R166): an armed pin, the firmware source, and the three ways a latch clears. Where the spec leaves a point open, the clauses follow
the model's choice (log entry 90). -/
def Obligations.AxeLatches : Prop :=
  (∀ (n : Fin 13) (clocks : Nat) (held : Bool) (s : State), s.rbit AXE.PIN_ARMED n = true → s.domainUp 4 = true →
      s.axeClass n = 1 ∨ s.axeClass n = 2 → (s.axeSrc n).latch = none →
    ∃ t, exec (.pinTrip n clocks held) s = .next t ∧ (t.axeSrc n).latch = some (s.axeClass n)
      ∧ (t.axeSrc n).tripAt = s.now ∧ t.rbit (regINT_FLAG AXE.page) 0 = true
      ∧ ∀ b, b < 13 → (s.axeMask n).testBit b = true → t.axe.out.testBit b = false) ∧
  (∀ (n : Fin 13) (clocks : Nat) (held : Bool) (s : State), s.rbit AXE.PIN_ARMED n = false →
    ∃ t, exec (.pinTrip n clocks held) s = .next t ∧ t.rbit AXE.PIN_STATE n = held ∧ t.axe = s.axe) ∧
  (∀ (n : Fin 13) (s : State), s.pwr.boards.testBit n = true → s.rbit (AXE.PIN_CFG n) 20 = true → s.domainUp 4 = true →
    ∃ t, exec (.pinArmed n) s = .next t ∧ t.rbit AXE.PIN_ARMED n = true ∧ t.rbit AXE.PIN_STATE n = false) ∧
  (∀ (req : Req) (v : Word) (s : State), s.accepts AXE.FORCE = true → bits v 12 0 ≠ 0 → (s.axeSrc 0x020).latch = none →
    ∃ t, exec (.forceTrip req v) s = .next t ∧ t.fld AXE.FORCE 12 0 = bits v 12 0
      ∧ (t.axeSrc 0x020).latch = some 1 ∧ t.axe.fwMask = s.axe.fwMask ||| bits v 12 0
      ∧ ∀ b, b < 13 → (bits v 12 0).testBit b = true → t.axe.out.testBit b = false) ∧
  (∀ (req : Req) (v : Word) (s : State), s.accepts AXE.FORCE = true → bits v 12 0 = 0 →
    ∃ t, exec (.forceTrip req v) s = .next t ∧ t.fld AXE.FORCE 12 0 = 0 ∧ t.axe.fwMask = s.axe.fwMask
      ∧ (t.axeSrc 0x020).latch = (s.axeSrc 0x020).latch) ∧
  (∀ (src : AxeSource) (s : State), s.autoClearable src.index = true → s.now.toNat % 8 = 0 →
    ∃ t, exec (.autoClear src) s = .next t ∧ (t.axeSrc src.index).latch = none
      ∧ t.rbit (regINT_FLAG AXE.page) 1 = true ∧ ∀ k, k ≠ src.index → t.axeSrc k = s.axeSrc k) ∧
  (∀ (req : Req) (k : Nat) (s : State), s.accepts AXE.CLEAR = true → k ∈ s.latched → s.writeClearable k = true →
      (s.axeSrc k).latch = some 0 ∨ (s.axeSrc k).latch = some 1 →
    ∃ t, exec (.latchClear req) s = .next t ∧ (t.axeSrc k).latch = none
      ∧ ∀ j, (s.axeSrc j).latch = some 2 → t.axeSrc j = s.axeSrc j) ∧
  (∀ (req : Req) (k : Nat) (also : Bool) (s : State), s.accepts AXE.CLEAR = true → k ∈ s.latched →
      s.writeClearable k = true → (s.axeSrc k).latch = some 2 →
    ∃ t, exec (.lockoutClear req 0xD1E5 also) s = .next t ∧ (t.axeSrc k).latch = none) ∧
  (∀ (req : Req) (key : BitVec 16) (s : State), key ≠ 0xD1E5 →
    ∃ t, exec (.lockoutClear req key false) s = .next t ∧ t.axe.srcs = s.axe.srcs
      ∧ t.reg (regCLAMP_CNT AXE.page) = incLow (s.reg (regCLAMP_CNT AXE.page)))

/-- Masks, permission, release and restart (R155, R156, R162, R163, R166). -/
def Obligations.AxeOutputs : Prop :=
  (∀ (req : Req) (n : Fin 13) (v : Word) (s : State), s.accepts (AXE.PIN_CFG n) = true →
    ∃ t, exec (.maskClassWrite req (.pin n) v) s = .next t ∧ t.fld (AXE.PIN_CFG n) 12 0 = bits v 12 0
      ∧ t.fld (AXE.PIN_CFG n) 17 16 = bits v 17 16 ∧ t.rbit (AXE.PIN_CFG n) 20 = bit v 20) ∧
  (∀ (req : Req) (v : Word) (s : State), s.accepts AXE.RUN_EN = true →
    ∃ t, exec (.runEnWrite req v) s = .next t ∧ t.fld AXE.RUN_EN 12 0 = bits v 12 0
      ∧ ∀ b, b < 13 → bit v b = false → t.axe.out.testBit b = false) ∧
  (∀ (n : Fin 13) (s : State), s.releasable n = true →
    ∃ t, exec (.boardRelease n) s = .next t ∧ t.axe.out.testBit n = true ∧ t.rbit (regINT_FLAG AXE.page) 2 = true
      ∧ t.axe.srcs = s.axe.srcs) ∧
  (∀ (k : Fin 48) (s : State), s.frameStart = true → s.boardKilled (k / 4) = true → s.rbit (CHN.CTRL_K k) 0 = true →
      s.chState k ≠ CH.TRIPPED →
    ∃ t, exec (.channelTripped k) s = .next t ∧ t.chState k = CH.TRIPPED ∧ t.cen = s.cen
      ∧ (t.chan k).pend = (s.chan k).pend) ∧
  (∀ (k : Fin 48) (y : Int) (s : State), s.frameStart = true → s.chState k = CH.TRIPPED →
      s.rbit (CHN.CTRL_K k) 0 = true → s.boardKilled (k / 4) = false →
      (Tab.get (fun _ => 0) s.axe.releasedAt (k / 4)).toNat + 8 * (k % 4 + 1) ≤ s.now.toNat → s.enableSheds = false →
      s.startMeasure k = some y →
    ∃ t, exec (.tripRestart k) s = .next t ∧ t.chState k = CH.START ∧ (t.loop k).u = 0 ∧ (t.loop k).rs = y) ∧
  (∀ (k : Fin 48) (s : State), s.frameStart = true → s.chState k = CH.TRIPPED → s.rbit (CHN.CTRL_K k) 0 = true →
      s.boardKilled (k / 4) = false →
      (Tab.get (fun _ => 0) s.axe.releasedAt (k / 4)).toNat + 8 * (k % 4 + 1) ≤ s.now.toNat → s.enableSheds = true →
    ∃ t, exec (.tripRestart k) s = .next t ∧ t.chState k = CH.SHED ∧ t.cen = s.cen)

/-- The stage link (R167 to R173, R182). Where the spec leaves a point open, the clauses follow
the model's choice (log entry 89). -/
def Obligations.StageLinks : Prop :=
  (∀ s : State, s.domainUp 4 = true → s.twn.role = .solo ∨ s.twn.role = .active →
      (∀ n, n < 13 → s.linkState n = LINK.ABSENT) →
    ∃ t, exec .commandFrameLaunch s = .next t ∧ t.sent = s.sent ∧ t.stl.launchedAt = s.now ∧ t.stl.launched = []) ∧
  (∀ (n : Fin 13) (s : State), s.domainUp 4 = true → s.twn.role = .solo ∨ s.twn.role = .active →
      s.linkState n ≠ LINK.ABSENT → (∀ m : Fin 13, m ≠ n → s.linkState m = LINK.ABSENT) →
      angleOf s.now % 8 = 0 →
    ∃ t, exec .commandFrameLaunch s = .next t ∧ t.sent = s.sent ++ [.stageFrame n (s.commandFrame n)]
      ∧ t.fld (STL.SEQ n) 15 0 = (s.fld (STL.SEQ n) 15 0 + 1) % 65536) ∧
  (∀ (n : Fin 13) (clean : Bool) (f : List Byte) (s : State), s.linkState n ≠ LINK.ABSENT →
      statusGood clean f = false →
    ∃ t, exec (.statusFrameReceive n clean f) s = .next t ∧ t.reg (STL.RX_ERR n) = incLow (s.reg (STL.RX_ERR n))
      ∧ t.linkState n = s.linkState n ∧ t.stl = s.stl) ∧
  (∀ (n : Fin 13) (f : List Byte) (at_ : Stamp) (s : State), s.linkState n = LINK.LINKED → statusGood true f = true →
      (field f 2 2, at_, false) ∈ (s.stlBoard n).launches → s.now.toNat ≤ at_.toNat + 32 →
      field f 1 1 = (s.stlBoard n).ver →
    ∃ t, exec (.statusFrameReceive n true f) s = .next t ∧ t.linkState n = LINK.LINKED
      ∧ (t.reg (STL.CLAIM_SEEN n)).toNat = field f 4 4 ∧ t.fld (STL.SEQ n) 31 16 = field f 2 2
      ∧ t.rbit (STL.BRD_STAT n) 13 = (field f 12 2).testBit 1 ∧ (t.stlBoard n).heard = s.now) ∧
  (∀ (n : Fin 13) (q : Nat) (at_ : Stamp) (s : State), (s.stlBoard n).launches = [(q, at_, false)] →
      at_.toNat + 2 ≤ s.now.toNat →
    ∃ t, exec (.answerMissing n) s = .next t ∧ t.reg (STL.RX_ERR n) = incHigh (s.reg (STL.RX_ERR n))
      ∧ (t.stlBoard n).launches = [(q, at_, true)]) ∧
  (∀ (n : Fin 13) (s : State), s.linkState n = LINK.LINKED → (s.stlBoard n).heard.toNat + 32 ≤ s.now.toNat →
    ∃ t, exec (.stlLinkLost n) s = .next t ∧ t.linkState n = LINK.NEGOTIATE ∧ t.rbit (regINT_FLAG STL.page) 1 = true
      ∧ t.fld (STL.SEQ n) 15 0 = 0 ∧ t.fld (STL.BRD_STAT n) 5 4 = 0) ∧
  (∀ (req : Req) (s : State), s.accepts (regCTRL STL.page) = true → s.domainUp 4 = true → s.twn.role = .solo →
      (∀ n, n < 13 → s.linkState n = LINK.ABSENT) →
    ∃ t, exec (.stlEnable req) s = .next t ∧ t.rbit (regCTRL STL.page) 0 = true
      ∧ ∀ n : Fin 13, t.linkState n = if s.pwr.boards.testBit n then LINK.NEGOTIATE else LINK.ABSENT) ∧
  (∀ (req : Req) (s : State), s.accepts (regCTRL STL.page) = true → s.fld AXE.RUN_EN 12 0 = 0 → s.twn.role = .solo →
    ∃ t, exec (.stlDisable req) s = .next t ∧ t.rbit (regCTRL STL.page) 0 = false
      ∧ ∀ n : Fin 13, t.linkState n = LINK.ABSENT) ∧
  (∀ (req : Req) (s : State), s.fld AXE.RUN_EN 12 0 ≠ 0 → s.rbit (regCTRL STL.page) 0 = true →
    ∃ t, exec (.stlDisable req) s = .next t ∧ t.rbit (regCTRL STL.page) 0 = true ∧ t.stl = s.stl
      ∧ t.reg (regCLAMP_CNT STL.page) = incLow (s.reg (regCLAMP_CNT STL.page))) ∧
  (∀ (req : Req) (v : Word) (s : State), s.accepts STL.VER_LIMIT = true →
    ∃ t, exec (.verLimitWrite req v) s = .next t ∧ t.fld STL.VER_LIMIT 1 0 = clampN 1 2 v.toNat
      ∧ ∀ n : Fin 13, t.linkState n = if s.linkState n = LINK.INCOMPATIBLE then LINK.NEGOTIATE else s.linkState n)

/-- The metering tick, the publication and the sets (R185, R188, R190, R196): the tick keeps its samples and moves one set only;
a publication takes every result and accumulator at once. Where the spec leaves a point open, the clauses follow
the model's choice (log entry 95). -/
def Obligations.MeteringCycle : Prop :=
  (∀ s : State, s.domainUp 1 = true → s.domainUp 5 = true → s.rbit (regCTRL MTR.page) 0 = true → s.pwr.pf = false →
    ∃ t, exec .meteringTick s = .next t
      ∧ t.mtr.labels = ({ at_ := s.now, play := s.playbackOn || decide (s.sns.sincePlay < 4) } :: s.mtr.labels).take 66
      ∧ (s.mtr.labels[32]? = none → t.mtr.billing = s.mtr.billing ∧ t.mtr.test = s.mtr.test)
      ∧ ∀ m, s.mtr.labels[32]? = some m → t.mtr.play = m.play
          ∧ ((!m.play && s.driving && s.sealed) = true → t.mtr.test = s.mtr.test)
          ∧ ((!m.play && s.driving && s.sealed) = false → t.mtr.billing = s.mtr.billing)) ∧
  (∀ (c0 : Stamp) (s : State), s.mtr.pubDue = some c0 → s.rbit (regCTRL MTR.page) 0 = true → s.pwr.pf = false →
    ∃ t, exec .cyclePublish s = .next t ∧ t.reg64 MTR.PUB_AT_LO MTR.PUB_AT_HI = c0 ∧ t.mtr.pubDue = none
      ∧ t.mtr.pubBilling = s.mtr.billing.acc ∧ t.mtr.pubTest = s.mtr.test.acc ∧ t.mtr.billing = s.mtr.billing
      ∧ t.rbit (regINT_FLAG MTR.page) 0 = true) ∧
  (∀ (req : Req) (s : State), s.accepts (regCTRL MTR.page) = true →
    ∃ t, exec (.mtrEnable req true) s = .next t
      ∧ (s.rbit (regCTRL MTR.page) 0 = false → t.rbit (regCTRL MTR.page) 0 = true ∧ t.mtr.labels = []
        ∧ t.mtr.play = false)
      ∧ (s.rbit (regCTRL MTR.page) 0 = true → t.mtr = s.mtr) ∧ t.mtr.billing = s.mtr.billing) ∧
  (∀ (req : Req) (s : State), s.accepts (regCTRL MTR.page) = true → s.rbit (regCTRL MTR.page) 0 = false →
    ∃ t, exec (.mtrEnable req false) s = .next t ∧ t.rbit (regCTRL MTR.page) 0 = false ∧ t.mtr = s.mtr)

/-- Pulse outputs, the commit ring, the seal and the clears (R195, R198, R203, R206). Where the spec leaves a point open, the clauses follow
the model's choice (log entry 95). -/
def Obligations.MeteringRecords : Prop :=
  (∀ (x : Fin 2) (n : Nat) (s : State), s.pulsesDriven = true → (s.pulse x).on = false →
      (s.pulse x).edge + s.pulseWidth x ≤ s.rct.ticks → cntOf s.mtrSet.pend x = n + 1 →
    ∃ t, exec (.pulseOn x) s = .next t ∧ (t.pulse x).on = true ∧ (t.pulse x).edge = s.rct.ticks
      ∧ cntOf t.mtrSet.pend x = n ∧ cntOf t.mtrSet.cnt x = cntOf s.mtrSet.cnt x
      ∧ (0 < n → t.rbit (regINT_FLAG MTR.page) 7 = true) ∧ (n = 0 → t.regs = s.regs)) ∧
  (∀ (x : Fin 2) (s : State), (s.pulse x).on = true → (s.pulse x).edge + s.pulseWidth x ≤ s.rct.ticks →
      (s.pulse x).billing = true →
    ∃ t, exec (.pulseOff x) s = .next t ∧ (t.pulse x).on = false
      ∧ cntOf t.mtr.billing.cnt x = (cntOf s.mtr.billing.cnt x + 1) % 2 ^ 32
      ∧ t.mtr.billing.pacc = s.mtr.billing.pacc ∧ t.mtr.billing.acc = s.mtr.billing.acc ∧ t.mtr.test = s.mtr.test
      ∧ t.regs = s.regs) ∧
  (∀ (c : MtrCommit) (s : State), s.mtr.due = some c → s.mtr.writing = none → s.pwr.pf = false →
    ∃ t, exec .periodicCommit s = .next t ∧ t.mtr.due = none
      ∧ t.mtr.writing = some (MtrWrite.mk s.nextSlot ((s.reg MTR.COMMIT_SEQ).toNat + 1)
          (s.slotBytes c.set c.last ((s.reg MTR.COMMIT_SEQ).toNat + 1) (s.slotFlags c.final.isSome (c.final.getD false))))
      ∧ t.regs = s.regs ∧ t.mem = (s.setBytes (mtrSlot s.nextSlot + 2044) (bytesBE 4 0)).mem) ∧
  (∀ (w : MtrWrite) (s : State), s.mtr.writing = some w → s.mtr.due = none →
    ∃ t, exec (.commitWriteDone true) s = .next t ∧ t.mtr.writing = none ∧ t.mtr.lastSlot = some w.slot
      ∧ t.reg MTR.COMMIT_SEQ = word w.seq ∧ t.mtr.billing = s.mtr.billing ∧ t.mem = (s.writeSlot w.slot w.body).mem) ∧
  (∀ (w : MtrWrite) (s : State), s.mtr.writing = some w → s.mtr.due = none →
    ∃ t, exec (.commitWriteDone false) s = .next t ∧ t.mtr.writing = none ∧ t.mtr.lastSlot = some w.slot
      ∧ t.rbit (regINT_FLAG MTR.page) 6 = true ∧ t.reg MTR.COMMIT_SEQ = s.reg MTR.COMMIT_SEQ
      ∧ t.mem = s.mem) ∧
  (∀ (req : Req) (s : State), s.accepts MTR.SEAL = true →
    ∃ t, exec (.meterSeal req) s = .next t ∧ t.reg MTR.LEGAL_CRC = word (crc32 s.legalSet)
      ∧ (word (crc32 s.legalSet) = s.reg MTR.LEGAL_EXP → t.sealed = true)
      ∧ (word (crc32 s.legalSet) ≠ s.reg MTR.LEGAL_EXP → t.sealed = s.sealed ∧ t.rbit (regINT_FLAG MTR.page) 10 = true
          ∧ t.reg (regCLAMP_CNT MTR.page) = incLow (s.reg (regCLAMP_CNT MTR.page)))) ∧
  (∀ (req : Req) (s : State), s.accepts MTR.ACC_CLEAR = true → s.sealed = false →
    ∃ t, exec (.accClearBilling req 0xC1EA) s = .next t ∧ t.mtr = { s.mtr with billing := {} }) ∧
  (∀ (req : Req) (s : State), s.sealed = true →
    ∃ t, exec (.accClearBilling req 0xC1EA) s = .next t ∧ t.mtr = s.mtr
      ∧ t.reg (regCLAMP_CNT MTR.page) = incLow (s.reg (regCLAMP_CNT MTR.page))) ∧
  (∀ (req : Req) (s : State), s.accepts MTR.ACC_CLEAR = true →
    ∃ t, exec (.accClearTest req 0xC1EA) s = .next t ∧ t.mtr = { s.mtr with test := {} })

/-- The correction banks (R192, R203). -/
def Obligations.CorrectionBanks : Prop :=
  (∀ (req : Req) (s : State), s.accepts MTR.COR_CTRL = true → s.sealed = false → s.corFault = none →
    ∃ t, exec (.corReq req) s = .next t ∧ t.mtr = { s.mtr with corPending := true } ∧ t.rbit MTR.COR_CTRL 0 = true
      ∧ t.reg MTR.COR_STAT = 0 ∧ t.win = s.win) ∧
  (∀ (req : Req) (p : Nat) (s : State), s.accepts MTR.COR_CTRL = true → s.sealed = false → s.corFault = some p →
    ∃ t, exec (.corReq req) s = .next t ∧ t.mtr = s.mtr ∧ t.rbit MTR.COR_STAT 0 = true ∧ t.fld MTR.COR_STAT 15 8 = p
      ∧ t.rbit (regINT_FLAG MTR.page) 9 = true
      ∧ t.reg (regCLAMP_CNT MTR.page) = incLow (s.reg (regCLAMP_CNT MTR.page))) ∧
  (∀ (req : Req) (s : State), s.sealed = true →
    (∃ t, exec (.corReq req) s = .next t ∧ t.mtr = s.mtr
      ∧ t.reg (regCLAMP_CNT MTR.page) = incLow (s.reg (regCLAMP_CNT MTR.page))) ∧
    (∃ t, exec (.corCopy req) s = .next t ∧ t.mtr = s.mtr
      ∧ t.reg (regCLAMP_CNT MTR.page) = incLow (s.reg (regCLAMP_CNT MTR.page)))) ∧
  (∀ s : State, Windows.wf s.win = true → s.mtr.corPending = true → s.rbit (regCTRL MTR.page) 0 = true →
      angleOf s.meterNext = 0 →
    ∃ t, exec .corSwap s = .next t ∧ t.mtr.corPending = false ∧ t.rbit MTR.COR_CTRL 0 = false
      ∧ t.rbit (regINT_FLAG MTR.page) 8 = true
      ∧ ∀ o, o < 0x1A00 → t.winWord (0x50110000 + o) = s.winWord (0x50100000 + o)
          ∧ t.winWord (0x50100000 + o) = s.winWord (0x50110000 + o)) ∧
  (∀ (req : Req) (s : State), s.accepts MTR.COR_CTRL = true → s.sealed = false → s.mtr.corPending = false →
    ∃ t, exec (.corCopy req) s = .next t ∧ t.mtr = { s.mtr with copying := true } ∧ t.win = s.win) ∧
  (∀ s : State, Windows.wf s.win = true → s.mtr.copying = true →
    ∃ t, exec .corCopyDone s = .next t ∧ t.mtr = { s.mtr with copying := false } ∧ t.regs = s.regs
      ∧ ∀ o, o < 0x1A00 → t.winWord (0x50100000 + o) = s.winWord (0x50110000 + o)
          ∧ t.winWord (0x50110000 + o) = s.winWord (0x50110000 + o))

/-- Levels and pattern engines (R209, R213, R216). -/
def Obligations.DimmingPatterns : Prop :=
  (∀ (k : Fin 48) (s : State), s.dimStart = true → s.dimmed k = false →
    ∃ t, exec .dimPeriod s = .next t ∧ (t.lgtCh k).acc = 0 ∧ t.fld (LGT.OUT k) 16 0 = 65536
      ∧ t.fld (LGT.OUT k) 23 20 = 8) ∧
  (∀ (req : Req) (k : Fin 48) (hi : Word) (s : State), s.accepts (LGT.LVL_AT_HI k) = true → s.domainUp 4 = true →
    ∃ t, exec (.levelArm req k hi) s = .next t
      ∧ (t.lgtCh k).pend = some (s.fld (LGT.LVL_NEXT k) 16 0,
          (s.boundFor 8 (join64 hi (s.stagedLow req (LGT.LVL_AT_LO k)))).1)) ∧
  (∀ (k : Fin 48) (v : Nat) (b : Stamp) (s : State), s.frameStart = true → (s.lgtCh k).pend = some (v, b) →
      b.toNat ≤ s.now.toNat →
    ∃ t, exec (.levelApply k) s = .next t ∧ t.reg (LGT.LVL_CUR k) = word v
      ∧ t.lgtCh k = { s.lgtCh k with pend := none } ∧ ∀ j, j ≠ k.val → t.lgtCh j = s.lgtCh j) ∧
  (∀ (req : Req) (e : Fin 8) (hi : Word) (s : State), s.accepts (LGT.PE_START_HI e) = true → s.firstLock = true →
      s.domainUp 4 = true →
    ∃ t, exec (.patternArm req e hi) s = .next t
      ∧ (t.pe e).pend = some (s.boundFor 64 (join64 hi (s.stagedLow req (LGT.PE_START_LO e)))).1
      ∧ t.peState e = if s.peState e = PE.IDLE then PE.ARMED else s.peState e) ∧
  (∀ (req : Req) (e : Fin 8) (hi : Word) (s : State), s.firstLock = false →
    ∃ t, exec (.patternArm req e hi) s = .next t ∧ t.lgt = s.lgt
      ∧ t.reg (regCLAMP_CNT LGT.page) = incLow (s.reg (regCLAMP_CNT LGT.page))) ∧
  (∀ (e : Fin 8) (d : Stamp) (s : State), s.dimStart = true → (s.pe e).pend = some d → d.toNat ≤ s.now.toNat →
      ((s.pe e).stop = true → (s.pe e).afterStop = true) →
    ∃ t, exec (.patternBegin e) s = .next t ∧ t.peState e = PE.RUNNING ∧ (t.pe e).pend = none
      ∧ t.reg64 (LGT.PE_BEGAN_LO e) (LGT.PE_BEGAN_HI e) = d ∧ t.rbit (regINT_FLAG LGT.page) 1 = true
      ∧ ∀ k, k < 48 → (s.lgtCh k).engine = some e.val → (t.lgtCh k).engine = none) ∧
  (∀ (req : Req) (e : Fin 8) (s : State), s.accepts (LGT.PE_CTRL e) = true →
    ∃ t, exec (.patternStop req e) s = .next t ∧ t.pe e = { s.pe e with stop := true } ∧ t.peState e = s.peState e) ∧
  (∀ (e : Fin 8) (st : Stamp) (s : State), s.dimStart = true → (s.pe e).errorAt = some st → st.toNat < s.now.toNat →
    ∃ t, exec (.patternErrorIdle e) s = .next t ∧ t.peState e = PE.IDLE ∧ (t.pe e).errorAt = none
      ∧ t.lgt.chs = s.lgt.chs)

/-- Lamp diagnostics (R220 to R223). Where the spec leaves a point open, the clauses follow
the model's choice (log entry 94). -/
def Obligations.LampDiagnostics : Prop :=
  (∀ (k : Fin 48) (q : StringCheck) (rest : List StringCheck) (s : State), (s.lgtCh k).checks = q :: rest → s.rbit (regCTRL DIA.page) 0 = true →
      max (q.last.toNat + 12) (q.start.toNat + 64) ≤ s.now.toNat →
      (∃ d, d < 4 ∧ (s.sampleAt (chCurrent k) (q.last + 8 + BitVec.ofNat 64 d)).valid = false) →
    ∃ t, exec (.stringCheck k) s = .next t ∧ t.regs = s.regs ∧ t.lgtCh k = { s.lgtCh k with checks := rest }) ∧
  (∀ (k : Fin 48) (q : StringCheck) (rest : List StringCheck) (i v : Int) (s : State), (s.lgtCh k).checks = q :: rest → s.rbit (regCTRL DIA.page) 0 = true →
      max (q.last.toNat + 12) (q.start.toNat + 64) ≤ s.now.toNat → s.now.toNat ≤ q.last.toNat + 24 →
      (∀ d, d < 4 → (s.sampleAt (chCurrent k) (q.last + 8 + BitVec.ofNat 64 d)).valid = true
        ∧ (s.sampleAt (chVoltage k) (q.last + 8 + BitVec.ofNat 64 d)).valid = true
        ∧ (s.sampleAt (chCurrent k) (q.last + 8 + BitVec.ofNat 64 d)).value = i
        ∧ (s.sampleAt (chVoltage k) (q.last + 8 + BitVec.ofNat 64 d)).value = v) →
    ∃ t, exec (.stringCheck k) s = .next t ∧ (t.lgtCh k).checks = rest
      ∧ (t.lgtCh k).result = some (if s.vOpen k ≤ v ∧ i < q.rEff / 2 ^ 7 / 2 then DIA.isOPEN
          else if v < s.vShort k ∧ q.rEff / 2 ^ 7 / 2 ≤ i then DIA.isSHORT else DIA.OK)) ∧
  (∀ (k : Fin 48) (a b : Int) (s : State), (s.lgtCh k).ready = some (a, b) → s.rbit (regCTRL DIA.page) 0 = true →
    ∃ t, exec (.feederCheck k) s = .next t ∧ (t.lgtCh k).ready = none
      ∧ (t.lgtCh k).result = some (if b / 4096 < s.vShort k then DIA.isSHORT
          else if a / 4096 < (s.fld DIA.FOPEN_I 15 0 * 32768 / 125 : Nat) then DIA.isOPEN else DIA.OK)) ∧
  (∀ (req : Req) (k : Fin 48) (s : State), s.accepts (DIA.D_CLR k) = true →
    ∃ t, exec (.diagClear req k) s = .next t ∧ t.fld (DIA.D_STAT k) 1 0 = 0 ∧ t.fld (DIA.D_STAT k) 7 4 = 0
      ∧ (t.lgtCh k).result = none)

/-- The feeder modems: transmissions, receptions, masks and enables (R232, R234, R235, R241, R246, R247). Where the spec leaves a point open, the clauses follow
the model's choice (log entries 23 and 96). -/
def Obligations.FeederModem : Prop :=
  (∀ (f : Fin 48) (r : TxReq) (rest : List TxReq) (s : State), (s.modem f).queue = r :: rest → r.tick.toNat ≤ s.now.toNat →
      r.sealed = true → s.mayTransmit f = true →
    ∃ t sig, exec (.txStart f) s = .next t ∧ t.sent = s.sent ++ [.feederFrame sig] ∧ sig.feeder = f.val
      ∧ sig.start = (if r.tick = s.now ∧ s.samples ≤ s.strobeSamples + 400 then s.strobeSamples + 400 else s.samples + 1)
      ∧ (t.modem f).queue = rest ∧ (t.modem f).txStart = sig.start ∧ (t.modem f).receiving = false) ∧
  (∀ (f : Fin 48) (r : TxReq) (rest : List TxReq) (s : State), (s.modem f).queue = r :: rest → r.tick.toNat ≤ s.now.toNat →
      r.sealed = true → s.mayTransmit f = false →
    ∃ t, exec (.txStart f) s = .next t ∧ t.sent = s.sent ∧ t.modem f = { s.modem f with queue := rest }
      ∧ t.fld (FPH.TX_CNT f) 27 16 = min (s.fld (FPH.TX_CNT f) 27 16 + 1) 4095
      ∧ t.rbit (regINT_FLAG (fphPage f)) 2 = true) ∧
  (∀ (f : Fin 48) (s : State), s.transmitting f = true → s.mayTransmit f = false →
      (s.modem f).boundary s.samples < (s.modem f).txEnd →
    ∃ t, exec (.txTruncate f) s = .next t ∧ t.modem f = { s.modem f with txEnd := (s.modem f).boundary s.samples }
      ∧ t.reg (FPH.LATE_CNT f) = incHigh (s.reg (FPH.LATE_CNT f))) ∧
  (∀ (f : Fin 48) (g : Fin 31) (s : State), s.modemOn f = true → s.transmitting f = false →
    ∃ t, exec (.phyFrameReceive f (.preamble g)) s = .next t ∧ t.regs = s.regs
      ∧ t.modem f = { s.modem f with receiving := true, gain := g, ref := s.samples, refAt := s.now }) ∧
  (∀ (f : Fin 48) (fc : List Byte) (bl : List (List Byte × Bool)) (snr : List (Int × Int × Int)) (s : State),
      s.modemOn f = true → s.transmitting f = false → (s.modem f).receiving = true → controlGood fc = false →
    ∃ t, exec (.phyFrameReceive f (.frame fc bl snr)) s = .next t ∧ t.modem f = { s.modem f with receiving := false }
      ∧ t.reg (FPH.FC_CNT f) = incHigh (s.reg (FPH.FC_CNT f))) ∧
  (∀ (f : Fin 48) (fc : List Byte) (bl : List (List Byte × Bool)) (snr : List (Int × Int × Int)) (s : State),
      s.modemOn f = true → s.transmitting f = false → (s.modem f).receiving = true → controlGood fc = true →
    ∃ t r, exec (.phyFrameReceive f (.frame fc bl snr)) s = .next t ∧ (t.modem f).rx = (s.modem f).rx ++ [r] ∧ r.fc = fc
      ∧ r.snr = s.meanSnr f snr ∧ (t.modem f).receiving = false
      ∧ t.reg (FPH.FC_CNT f) = incLow (s.reg (FPH.FC_CNT f)) ∧ t.reg (FPH.SNR_MEAN f) = word (s.meanSnr f snr)) ∧
  (∀ (req : Req) (p : Fin 4) (j : Fin 12) (s : State), s.accepts (FPH.MASK_REQ p) = true →
    ∃ t, exec (.maskCommitReq req p (word (2 ^ j.val))) s = .next t
      ∧ t.rbit (FPH.MASK_STAT p) j = !s.shadowOk (12 * p + j)
      ∧ t.rbit (FPH.MASK_STAT p) (16 + j) = (s.shadowOk (12 * p + j) || s.rbit (FPH.MASK_STAT p) (16 + j))) ∧
  (∀ (f : Fin 48) (s : State), Windows.wf s.win = true → s.rbit (FPH.MASK_STAT (f / 12)) (16 + f % 12) = true →
      s.transmitting f = false → (s.modem f).receiving = false →
    ∃ t, exec (.maskCommitApply f) s = .next t ∧ t.rbit (FPH.MASK_STAT (f / 12)) (16 + f % 12) = false
      ∧ (∀ i, i < 128 → t.winWord (w7Base f + 0xA200 + 4 * i) = s.winWord (w7Base f + 0xA000 + 4 * i))
      ∧ (∀ i, i < 64 → t.winWord (w7Base f + 0xA500 + 4 * i) = s.winWord (w7Base f + 0xA400 + 4 * i))
      ∧ ∀ k, 1 ≤ k → k < 20 → t.slotValid f k = false) ∧
  (∀ (req : Req) (p : Fin 4) (s : State), s.accepts (regCTRL (FPH.page p)) = true → s.firstLock = true →
    ∃ t, exec (.fphEnable req (.inl p)) s = .next t ∧ t.reg (regCTRL (FPH.page p)) = 1) ∧
  (∀ (req : Req) (f : Fin 48) (s : State), s.accepts (FPH.F_CTRL f) = true → s.firstLock = true →
    ∃ t, exec (.fphEnable req (.inr f)) s = .next t ∧ t.rbit (FPH.F_CTRL f) 0 = true)

/-- Cycles and frames of the feeder MAC (R256 to R260). Where the spec leaves a point open, the clauses follow
the model's choice (log entries 97 and 108). -/
def Obligations.MacFrames : Prop :=
  (∀ (f : Fin 48) (s : State), s.macActive f = true → angleOf s.now = 0 →
    ∃ t, exec (.macCycleStart f) s = .next t ∧ (t.mac f).maxhop = s.fld (FMA.M_CTRL f) 11 8
      ∧ (t.mac f).bslot = s.fld (FMA.LAYOUT f) 4 0 ∧ (t.mac f).cont = s.fld (FMA.LAYOUT f) 27 16
      ∧ t.reg (FMA.AIRTIME f) = word (((t.mac f).allocs.map (·.len)).sum % 4096)) ∧
  (∀ (f : Fin 48) (s : State), s.macActive f = true → angleOf s.now = 2 →
    ∃ t b tag, exec (.beaconTransmit f) s = .next t ∧ (t.modem f).queue = (s.modem f).queue.takeWhile (fun x => x.tick.toNat ≤ s.now.toNat) ++ [b]
        ++ (s.modem f).queue.dropWhile (fun x => x.tick.toNat ≤ s.now.toNat) ∧ b.slot = 0 ∧ b.tick = s.now ∧ b.body = s.beaconBody f ++ tag ∧ (t.mac f).fcnt = (s.mac f).fcnt + 1) ∧
  (∀ (f : Fin 48) (r : RxFrame) (rest : List RxFrame) (i : Nat) (s : State), (s.modem f).rx = r :: rest → s.macOn f = true →
      s.mayTransmit f = true → r.ftype = 1 → s.isConfirm f r = false → r.flag 5 = false → r.forModule = true →
      r.good = true → s.nodeAt f (r.mb 12) = some i →
    ∃ t, exec (.macFrameReceive f) s = .next t ∧ (t.modem f).rx = rest
      ∧ (s.openFrame f i r = none ∨ (s.macNode i).fresh r.key r.fcnt = false →
          t.macNode i = s.macNode i ∧ t.reg (FMA.CNT_RX f) = incHigh (s.reg (FMA.CNT_RX f)))
      ∧ (∀ p, s.openFrame f i r = some p → elementsOf 4096 p = [] → (s.macNode i).fresh r.key r.fcnt = true →
          t.macNode i = (s.macNode i).accept r.key r.fcnt ∧ t.reg (FMA.CNT_RX f) = incLow (s.reg (FMA.CNT_RX f)))) ∧
  (∀ (f : Fin 48) (r : RxFrame) (rest : List RxFrame) (i : Nat) (s : State), (s.modem f).rx = r :: rest → r.ftype = 2 →
      s.nodeAt f (r.mb 10) = some i →
    ∃ t, exec (.ackReceive f) s = .next t ∧ (t.modem f).rx = rest
      ∧ (s.openFrame f i r = none ∨ (s.macNode i).fresh r.key r.fcnt = false →
          t.mac f = s.mac f ∧ t.reg (FMA.CNT_RX f) = incHigh (s.reg (FMA.CNT_RX f)))
      ∧ (∀ b, s.openFrame f i r = some b → (s.macNode i).fresh r.key r.fcnt = true →
          (t.macNode i).qrep = fcField b 6 2 * 64 ∧ t.reg (FMA.CNT_RX f) = incLow (s.reg (FMA.CNT_RX f))
          ∧ ((fcField b 4 1).testBit 0 = true → ∀ x ∈ (t.mac f).out, x.hop1 = r.mb 10 →
            x.sent.isSome = true → x.fcnt ≠ some (fcField b 0 4)))) ∧
  (∀ (f : Fin 48) (x : MacFrame) (l : List MacFrame) (d : Stamp) (s : State), (s.mac f).out = x :: l →
      x.acked = true → x.due = some d → d.toNat ≤ s.now.toNat →
    ∃ t, exec (.retransmit f) s = .next t
      ∧ (x.tries ≤ s.fld (FMA.M_CTRL f) 19 16 → t.regs = s.regs ∧ (t.mac f).out
          = (x :: l).map (fun y => if y.tag = x.tag then { y with due := none } else y))
      ∧ (s.fld (FMA.M_CTRL f) 19 16 < x.tries → t.reg (FMA.CNT_TX f) = incHigh (s.reg (FMA.CNT_TX f))
          ∧ (t.mac f).out = (x :: l).filter (fun y => y.tag ≠ x.tag) ∧ t.rbit (regINT_FLAG (FMA.page (f / 12))) 6 = true)) ∧
  (∀ (f : Fin 48) (x : MacFrame) (l : List MacFrame) (c : Nat) (s : State), (s.mac f).await = x :: l → x.e2e = true →
      x.sent = some c → c + 4 ≤ cycleOf s.now → s.twn.role ≠ .standby →
    ∃ t, exec (.deliveryTimeout f) s = .next t ∧ (t.mac f).await = (x :: l).filter (fun y => y.tag ≠ x.tag)
      ∧ t.yrd.reports = s.yrd.reports ++ x.seqs.map (fun q => { kind := 2, ep := q.1, seq := q.2 }))

/-- Joining and losing nodes (R268, R270, R271). Where the spec leaves a point open, the clauses follow
the model's choice (log entry 97). -/
def Obligations.NodeJoining : Prop :=
  (∀ (f : Fin 48) (r : RxFrame) (rest : List RxFrame) (ver : Nat) (s : State), (s.modem f).rx = r :: rest → r.ftype = 3 →
      fcField r.body 0 1 = 1 → s.macActive f = true → r.good = true → (s.mac f).sessions = [] →
      s.rbit (FMA.M_CTRL f) 1 = true → s.nodes = [] → s.eps = [] → (parseReq (r.body.drop 1)).relays = [] →
      s.reqKnown f (r.body.drop 1) = false → (parseReq (r.body.drop 1)).types.length ≤ 16 → s.joinVersion f (parseReq (r.body.drop 1)) = some ver →
    ∃ t x, exec (.joinRequest f) s = .next t ∧ (t.modem f).rx = rest ∧ (t.mac f).sessions = [x] ∧ x.step = 3
      ∧ x.eui = (parseReq (r.body.drop 1)).eui ∧ x.created = true ∧ x.at_ = cycleOf s.now) ∧
  (∀ (f : Fin 48) (r : RxFrame) (rest : List RxFrame) (s : State), (s.modem f).rx = r :: rest → r.ftype = 3 →
      fcField r.body 0 1 = 1 → s.macActive f = true → r.good = true → (s.mac f).sessions = [] →
      s.reqKnown f (r.body.drop 1) = false → (parseReq (r.body.drop 1)).types.length ≤ 16 →
      s.rbit (FMA.M_CTRL f) 1 = false →
    ∃ t, exec (.joinRequest f) s = .next t ∧ (t.modem f).rx = rest ∧ (t.mac f).sessions = []
      ∧ t.reg (FMA.CNT_JOIN f) = incHigh (s.reg (FMA.CNT_JOIN f))
      ∧ t.rbit (regINT_FLAG (FMA.page (f / 12))) 1 = true) ∧
  (∀ (f : Fin 48) (r : RxFrame) (rest : List RxFrame) (x : JoinSession) (s : State), (s.modem f).rx = r :: rest →
      r.ftype = 3 → fcField r.body 0 1 = 3 → s.macActive f = true → r.good = true → r.flag 5 = false →
      (s.mac f).sessions = [x] → x.step = 3 → x.eui = fcField (r.body.drop 1) 0 8 →
    ∃ t, exec (.joinAuth f) s = .next t ∧ (t.modem f).rx = rest
      ∧ ((∃ g, (t.mac f).sessions = [{ x with step := 5, at_ := cycleOf s.now, tag := g }])
            ∧ (∃ k, (x.node, k) ∈ t.kvt.links)
        ∨ (t.mac f).sessions = [])) ∧
  (∀ (f : Fin 48) (r : RxFrame) (rest : List RxFrame) (x : JoinSession) (s : State), (s.modem f).rx = r :: rest →
      s.confirmOf f r = some x → r.ftype = 1 → r.key = 2 → r.flag 5 = false →
    ∃ t, exec (.joinConfirm f) s = .next t ∧ (t.modem f).rx = rest
      ∧ (s.openFrame f x.node r = none ∨ (s.macNode x.node).fresh r.key r.fcnt = false →
          t.reg (FMA.CNT_RX f) = incHigh (s.reg (FMA.CNT_RX f)))
      ∧ (∀ p e, s.openFrame f x.node r = some p → (s.macNode x.node).fresh r.key r.fcnt = true →
          (elementsOf 64 p).find? (fun e => e.1 = 5 && fcField e.2.2 0 1 = MG.CONFIRM) = some e →
          t.reg (FMA.CNT_JOIN f) = incLow (s.reg (FMA.CNT_JOIN f))
          ∧ (t.mac f).sessions = (s.mac f).sessions.filter (fun y => y.eui ≠ x.eui))) ∧
  (∀ (f : Fin 48) (x : JoinSession) (l : List JoinSession) (s : State), (s.mac f).sessions = x :: l →
      x.at_ + s.fld (FMA.JOIN_CFG f) 7 0 < cycleOf s.now →
    ∃ t, exec (.joinTimeout f) s = .next t ∧ (t.mac f).sessions = (x :: l).filter (fun y => y.eui ≠ x.eui)) ∧
  (∀ (i : Fin 4096) (s : State), s.node i N.STATE 1 = ND.JOINED → s.macActive (s.node i N.FEEDER 1) = true →
      s.node i N.FEEDER 1 < 48 →
      s.fld (FMA.JOIN_CFG (s.node i N.FEEDER 1)) 23 16 * 16 ≤ (word (cycleOf s.now) - word (s.node i N.HEARD 4)).toNat →
    ∃ t, exec (.nodeLost i) s = .next t ∧ t.node i N.STATE 1 = ND.LOST
      ∧ t.rbit (regINT_FLAG (FMA.page (s.node i N.FEEDER 1 / 12))) 2 = true
      ∧ ∀ x ∈ (t.mac (s.node i N.FEEDER 1)).out, x.node ≠ i)

/-- Mask changes, cruises and routes (R272 to R274). Where the spec leaves a point open, the clauses follow
the model's choice (log entry 98). -/
def Obligations.MasksAndRoutes : Prop :=
  (∀ (req : Req) (f : Fin 48) (force : Bool) (s : State), s.accepts (FMA.MASK_DIST f) = true → s.shadowOk f = true →
      (s.mac f).mask = none →
    ∃ t m, exec (.maskDistGo req f force) s = .next t ∧ (t.mac f).mask = some m ∧ m.waiting = s.joined f ∧ m.force = force
      ∧ m.go = cycleOf s.now ∧ t.rbit (FMA.MASK_STAT f) 8 = true) ∧
  (∀ (req : Req) (f : Fin 48) (force : Bool) (s : State), s.shadowOk f = false →
    ∃ t, exec (.maskDistGo req f force) s = .next t ∧ t.mac f = s.mac f
      ∧ t.reg (regCLAMP_CNT (FMA.page (f / 12))) = incLow (s.reg (regCLAMP_CNT (FMA.page (f / 12))))) ∧
  (∀ (f : Fin 48) (x : MaskChange) (c : Nat) (s : State), (s.mac f).mask = some x → x.at_ = some c → x.committed = false →
      (c - 1) * 4096 + 4064 ≤ s.now.toNat →
    ∃ t, exec (.maskDistCommit f) s = .next t ∧ (t.mac f).mask = some { x with committed := true }
      ∧ t.rbit (FPH.MASK_STAT (f / 12)) (f % 12) = !s.shadowOk f) ∧
  (∀ (f : Fin 48) (x : MaskChange) (c : Nat) (s : State), (s.mac f).mask = some x → x.at_ = some c → x.committed = true →
      c * 4096 ≤ s.now.toNat →
    ∃ t, exec (.maskSwitch f) s = .next t ∧ (t.mac f).mask = none
      ∧ t.reg (FMA.MASK_STAT f) = word ((s.fld (FMA.MASK_STAT f) 7 0 + 1) % 256)
      ∧ t.rbit (regINT_FLAG (FMA.page (f / 12))) 5 = true) ∧
  (∀ (req : Req) (f : Fin 48) (s : State), s.accepts (FMA.CRUISE_CTRL f) = true → s.cruiseRunning f = false →
      (s.mac f).mask = none →
    ∃ t, exec (.cruiseGo req f) s = .next t ∧ t.cruiseState f = CR.PROBING ∧ (t.mac f).cruise.started = false
      ∧ t.fld (FMA.CRUISE_STAT f) 31 16 = (s.fld (FMA.CRUISE_STAT f) 31 16 + 1) % 65536) ∧
  (∀ (f : Fin 48) (r : RxFrame) (rest : List RxFrame) (i : Nat) (s : State), (s.modem f).rx = r :: rest → r.ftype = 4 →
      r.good = true → s.nodeAt f (r.mb 12) = some i → s.cruiseState f = CR.PROBING ∨ s.cruiseState f = CR.REPORTING →
    ∃ t, exec (.probeReceive f) s = .next t ∧ (t.modem f).rx = rest
      ∧ (s.openFrame f i r = none ∨ (s.macNode i).fresh r.key r.fcnt = false → t.mac f = s.mac f
          ∧ t.reg (FMA.CNT_RX f) = incHigh (s.reg (FMA.CNT_RX f)))
      ∧ (s.openFrame f i r ≠ none → (s.macNode i).fresh r.key r.fcnt = true →
          (t.mac f).cruise.heard = Tab.insert (r.mb 10) r.snr (Tab.erase (r.mb 10) (s.mac f).cruise.heard))) ∧
  (∀ (f : Fin 48) (s : State), s.cruiseState f = CR.REPORTING →
      (s.mac f).cruise.reporting = [] ∨ (s.mac f).cruise.lastProbe + 16 ≤ cycleOf s.now →
    ∃ t, exec (.cruiseDone f) s = .next t ∧ t.cruiseState f = CR.DONE
      ∧ t.rbit (regINT_FLAG (FMA.page (f / 12))) 4 = true) ∧
  (∀ (req : Req) (f : Fin 48) (s : State), s.accepts (FMA.CRUISE_CTRL f) = true → s.cruiseState f = CR.DONE →
    ∃ t, exec (.cruiseApply req f) s = .next t ∧ t.cruiseState f = CR.APPLYING
      ∧ (t.mac f).cruise.applyAt = cycleOf s.now ∧ (t.mac f).cruise.routing = (s.joined f).filter (s.routeChanges f)) ∧
  (∀ (f : Fin 48) (r : Nat) (s : State), (s.mac f).cruise.effective = some r → s.cruiseState f = CR.APPLYING →
      r * 4096 ≤ s.now.toNat →
    ∃ t, exec (.routeEffective f) s = .next t ∧ t.cruiseState f = CR.IDLE ∧ (t.mac f).cruise.effective = none) ∧
  (∀ (f : Fin 48) (s : State), s.cruiseState f = CR.APPLYING → (s.mac f).cruise.routing ≠ [] →
      (s.mac f).cruise.applyAt + 64 ≤ cycleOf s.now →
    ∃ t, exec (.routeAbandon f) s = .next t ∧ t.cruiseState f = CR.FAILED ∧ (t.mac f).cruise.routing = []
      ∧ t.win = s.win)

/-- The node table and the endpoint table (R275, R276, R280). -/
def Obligations.NodeTable : Prop :=
  (∀ (e : Nat) (s : State), s.domainUp 3 = true → s.rctState ≠ RCT.IDLE → angleOf s.now = 0 →
      s.twn.role = .solo ∨ s.twn.role = .active → s.eps = [e] → e < 16384 →
    ∃ t, exec .bucketRefill s = .next t
      ∧ t.ep e P.BUCKET_DN 4 = unsigned 32 (min (s.bucketOf e P.BUCKET_DN + s.ep e P.RATE_DN 4) (s.ep e P.BURST_DN 4))
      ∧ t.ep e P.BUCKET_UP 4 = unsigned 32 (min (s.bucketOf e P.BUCKET_UP + s.ep e P.RATE_UP 4) (s.ep e P.BURST_UP 4))) ∧
  (∀ (req : Req) (i : Fin 4096) (s : State), s.accepts (nodeAddr i + 0x10) = true → s.node i N.STATE 1 ≠ ND.FREE →
    ∃ t, exec (.nodeBlock req i) s = .next t ∧ t.node i N.FLAGS 1 = 1
      ∧ (s.node i N.STATE 1 = ND.JOINED → t.node i N.STATE 1 = ND.LOST)) ∧
  (∀ (req : Req) (i : Fin 4096) (s : State), s.accepts NTB.CMD = true → s.rbit NTB.CMD_STAT 0 = false →
    ∃ t, exec (.nodeFree req i) s = .next t
      ∧ (s.node i N.STATE 1 = ND.JOINED → t.ntb.freeing = some i.val ∧ t.reg NTB.CMD_STAT = 1)
      ∧ (s.node i N.STATE 1 = ND.LOST → t.node i N.STATE 1 = ND.FREE ∧ t.reg NTB.CMD_STAT = 0)
      ∧ (s.node i N.STATE 1 ≠ ND.JOINED → s.node i N.STATE 1 ≠ ND.LOST → t.win = s.win ∧ t.reg NTB.CMD_STAT = 16)) ∧
  (∀ (req : Req) (i : Fin 4096) (s : State), s.accepts NTB.CMD = true → s.rbit NTB.CMD_STAT 0 = false →
    ∃ t, exec (.nodeLeave req i) s = .next t
      ∧ (s.node i N.STATE 1 = ND.JOINED → t.node i N.STATE 1 = ND.LOST ∧ t.reg NTB.CMD_STAT = 0)
      ∧ (s.node i N.STATE 1 ≠ ND.JOINED → t.win = s.win ∧ t.reg NTB.CMD_STAT = 16)) ∧
  (∀ (req : Req) (hi : Word) (s : State), s.accepts NTB.EUI_HI = true →
    ∃ t, exec (.euiLookup req hi) s = .next t ∧ t.ntb.lookup = true
      ∧ t.reg64 NTB.EUI_LO NTB.EUI_HI = join64 hi (s.stagedLow req NTB.EUI_LO)) ∧
  (∀ (s : State), s.ntb.lookup = true →
    ∃ t, exec .euiLookupDone s = .next t ∧ t.ntb.lookup = false
      ∧ (∀ i, i ∈ s.nodes → s.node i N.EUI 8 = (s.reg64 NTB.EUI_LO NTB.EUI_HI).toNat → t.rbit NTB.EUI_RES 31 = true)
      ∧ ((∀ i ∈ s.nodes, s.node i N.EUI 8 ≠ (s.reg64 NTB.EUI_LO NTB.EUI_HI).toNat) → t.reg NTB.EUI_RES = 0))

/-- The Yarder and the schedule evaluator (R281, R288, R293, R294, R308). -/
def Obligations.YarderCommands : Prop :=
  (∀ (s : State), angleOf s.now = 0 → s.twn.role ≠ .standby → s.twn.role ≠ .pairing →
      s.rbit (regCTRL YRD.page) 0 = true → s.domainUp 3 = true →
      s.yrd.running = true →
    ∃ t, exec .yarderPass s = .next t ∧ t.yrd.passed = true ∧ t.reg YRD.PASS_LO = word (cycleOf s.now)
      ∧ t.reg YRD.PASS_HI = word (cycleOf s.now / 2 ^ 32)) ∧
  (∀ (s : State), s.yrd.ready ≠ [] →
      at0 (join64 (s.reg YRD.PASS_HI) (s.reg YRD.PASS_LO)).toNat < s.now.toNat →
    ∃ t, exec .releaseHandoff s = .next t ∧ t.yrd.ready = [] ∧ t.yrd.sent = s.yrd.sent ++ s.yrd.ready
      ∧ (s.driving = false → t.macs = s.macs)) ∧
  (∀ (req : Req) (s : State), s.accepts (regCTRL YRD.page) = true → s.rbit (regCTRL YRD.page) 0 = false →
      s.firstLock = true →
    ∃ t, exec (.yrdEnable req) s = .next t ∧ t.rbit (regCTRL YRD.page) 0 = true ∧ t.yrd.running = false) ∧
  (∀ (req : Req) (s : State), s.rbit (regCTRL YRD.page) 0 = false → s.firstLock = false →
    ∃ t, exec (.yrdEnable req) s = .next t ∧ t.yrd = s.yrd ∧ t.rbit (regCTRL YRD.page) 0 = false
      ∧ t.reg (regCLAMP_CNT YRD.page) = incLow (s.reg (regCLAMP_CNT YRD.page))) ∧
  (∀ (req : Req) (hi : Word) (s : State), s.accepts YRD.SCENE_AT_HI = true → s.yrd.armedScenes.length < 16 →
    ∃ t x, exec (.sceneArm req hi) s = .next t ∧ t.yrd.armedScenes = s.yrd.armedScenes ++ [x]
      ∧ x.seen = cycleOf s.now + 1 ∧ x.input.scene = s.fld YRD.SCENE_SEL 5 0 ∧ x.input.on = s.rbit YRD.SCENE_SEL 8
      ∧ x.input.at_ = (join64 hi (s.stagedLow req YRD.SCENE_AT_LO)).toNat) ∧
  (∀ (req : Req) (hi : Word) (s : State), 16 ≤ s.yrd.armedScenes.length →
    ∃ t, exec (.sceneArm req hi) s = .next t ∧ t.yrd = s.yrd
      ∧ t.reg (regCLAMP_CNT YRD.page) = incLow (s.reg (regCLAMP_CNT YRD.page))) ∧
  (∀ (req : Req) (n : Fin 256) (s : State), s.accepts YRD.OVR_ARM = true →
    ∃ t x, exec (.overrideArm req n) s = .next t ∧ t.yrd.armedOverrides = s.yrd.armedOverrides ++ [x]
      ∧ x.seen = cycleOf s.now + 1 ∧ x.input.slot = n.val
      ∧ x.input.at_ = s.winField (0x50860000 + 0x20 * n + 16) 8 ∧ x.input.end_ = s.winField (0x50860000 + 0x20 * n + 24) 8
      ∧ t.reg YRD.OVR_STAT = word n) ∧
  (∀ (req : Req) (s : State), s.accepts YRD.COMMIT_CTRL = true → s.yrd.commit = none →
    ∃ t b, exec (.yrdCommitReq req) s = .next t ∧ t.yrd.commit = some b
      ∧ b.asked = (s.reg64 YRD.COMMIT_AT_LO YRD.COMMIT_AT_HI).toNat ∧ b.seen = cycleOf s.now + 1
      ∧ t.rbit YRD.COMMIT_CTRL 0 = true ∧ t.win = s.win) ∧
  (∀ (req : Req) (s : State), s.accepts YRD.COMMIT_CTRL = true → s.yrd.commit = none → Windows.wf s.win = true →
    ∃ t, exec (.yrdCopy req) s = .next t ∧ t.yrd = s.yrd
      ∧ ∀ o, o < 0x5000 → t.winWord (0x50840000 + o) = s.winWord (0x50850000 + o)) ∧
  (∀ (req : Req) (s : State), s.accepts SCH.COMMIT_CTRL = true → s.sch.commit = none →
    ∃ t, exec (.schCommitReq req) s = .next t
      ∧ (s.schBad = none → t.sch.commit = some { asked := (s.reg64 SCH.COMMIT_AT_LO SCH.COMMIT_AT_HI).toNat,
                                                 seen := cycleOf s.now + 1 } ∧ t.rbit SCH.COMMIT_STAT 1 = false)
      ∧ (∀ i, s.schBad = some i → t.sch = s.sch ∧ t.rbit SCH.COMMIT_STAT 1 = true
          ∧ t.fld SCH.COMMIT_STAT 25 16 = i ∧ t.rbit (regINT_FLAG SCH.page) 4 = true)) ∧
  (∀ (req : Req) (s : State), s.accepts SCH.COMMIT_CTRL = true → s.sch.commit = none → Windows.wf s.win = true →
    ∃ t, exec (.schCopy req) s = .next t ∧ t.sch = s.sch
      ∧ ∀ o, o < 0x8000 → t.winWord (0x50800000 + o) = s.winWord (0x50810000 + o)) ∧
  (∀ (s : State),
    ∃ t e, exec .solarMinute s = .next t ∧ t.sch.minute = some (s.civilNow / 60).toNat ∧ t.reg SCH.SOLAR = word (unsigned 16 e)
      ∧ solarRounded (sbits (s.reg SCH.LAT) 15 0) (sbits (s.reg SCH.LON) 15 0) (s.civilNow / 60).toNat - 1 ≤ e
      ∧ e ≤ solarRounded (sbits (s.reg SCH.LAT) 15 0) (sbits (s.reg SCH.LON) 15 0) (s.civilNow / 60).toNat + 1) ∧
  (∀ (req : Req) (lon : Bool) (v : Word) (s : State), s.accepts (if lon then SCH.LON else SCH.LAT) = true →
    ∃ t e, exec (.solarRecompute req lon v) s = .next t ∧ t.sch.minute = some (s.civilNow / 60).toNat
      ∧ t.reg SCH.SOLAR = word (unsigned 16 e)
      ∧ solarRounded (sbits (t.reg SCH.LAT) 15 0) (sbits (t.reg SCH.LON) 15 0) (s.civilNow / 60).toNat - 1 ≤ e
      ∧ e ≤ solarRounded (sbits (t.reg SCH.LAT) 15 0) (sbits (t.reg SCH.LON) 15 0) (s.civilNow / 60).toNat + 1)

/-- Frames through the switch (R315 to R322, R326). Where the spec leaves a point open, the clauses follow
the model's choice (log entry 100). -/
def Obligations.SwitchFrames : Prop :=
  (∀ (u : Fin 2) (f : List Byte) (s : State), s.swxOn = true → s.upLink u = true →
      natLE (f.drop (f.length - 4)) = crc32 (f.take (f.length - 4)) → 64 ≤ f.length → f.length ≤ 1522 →
      frameField (f.take (f.length - 4)) 12 2 = 0x8100 → s.fld SWX.VID_MGMT 11 0 ≠ 0 →
      frameField (f.take (f.length - 4)) 14 2 % 4096 = s.fld SWX.VID_MGMT 11 0 →
      frameField (f.take (f.length - 4)) 0 6 = s.macAddr →
      s.storedBytes u + (f.length - 8) ≤ 65536 →
    ∃ t x, exec (.frameIngress (.uplink u f 0)) s = .next t ∧ t.stored u = s.stored u ++ [x] ∧ x.flow = 32768 + 4 + u.val
      ∧ x.cls = 1 ∧ x.egress = PORT.HOST ∧ x.len = f.length - 8
      ∧ x.data = (f.take (f.length - 4)).take 12 ++ (f.take (f.length - 4)).drop 16 ∧ t.swx.frames = s.swx.frames
      ∧ t.reg (UPL.RX_FRAMES u) = s.reg (UPL.RX_FRAMES u) + 1) ∧
  (∀ (p : Nat) (x : SwFrame) (l : List SwFrame) (s : State), s.swxOn = true → s.nextPort = some p → s.stored p = x :: l →
      s.heldBy x.flow + (x.len + 255) / 256 ≤ s.quota x.flow →
      s.usedBy x.cls + (x.len + 255) / 256 ≤ s.reserve x.cls ∨ (x.len + 255) / 256 ≤ s.sharedFree →
    ∃ t, exec (.frameIngress .turn) s = .next t ∧ t.swx.frames = s.swx.frames ++ [{ x with ticket := (s.flow x.flow).ticket }]
      ∧ t.stored p = l ∧ t.swx.turn = p) ∧
  (∀ (s : State) (x : SwFrame), x.ingress ≠ PORT.HOST →
      (65536 < s.storedBytes x.ingress + x.len → (s.offerFrame x).swx = s.swx
        ∧ (s.offerFrame x).reg SWX.DROP_CNT = incHigh (s.reg SWX.DROP_CNT))
      ∧ (s.storedBytes x.ingress + x.len ≤ 65536 → (s.offerFrame x).stored x.ingress = s.stored x.ingress ++ [x]
        ∧ (s.offerFrame x).regs = s.regs)) ∧
  (∀ (u : Fin 2) (f : List Byte) (s : State), s.swxOn = true → s.upLink u = true →
      natLE (f.drop (f.length - 4)) ≠ crc32 (f.take (f.length - 4)) →
    ∃ t, exec (.frameIngress (.uplink u f 0)) s = .next t ∧ t.swx = s.swx
      ∧ t.reg (UPL.RX_ERR u) = incLow (s.reg (UPL.RX_ERR u))) ∧
  (∀ (f : Fin 48) (h : HeldElem) (s : State), s.swxOn = true → s.driving = true →
      s.ntb.upward.find? (fun h => s.node (s.ep h.ep P.NODE 2) N.FEEDER 1 = f) = some h →
      frameField h.body 12 2 ≠ 0x8100 → s.storedBytes (4 + f) + (h.body.length + 4) ≤ 65536 →
    ∃ t x, exec (.frameIngress (.feeder f)) s = .next t ∧ t.ntb.upward = s.ntb.upward.erase h
      ∧ t.stored (4 + f) = s.stored (4 + f) ++ [x] ∧ x.flow = 2 * h.ep + 1 ∧ x.cls = 0 ∧ x.data = h.body
      ∧ x.vid = s.ep h.ep P.VLAN 2 ∧ x.len = h.body.length + 4) ∧
  (∀ (e : Nat) (x : SwFrame) (s : State), s.freeEngine = some e → s.swx.frames.find? (fun x => x.stage = .queued) = some x →
    ∃ t, exec .engineDispatch s = .next t ∧ t.swx.frames
        = changeFirst (fun y => y.stage = .queued) (fun y => { y with stage := .engine e }) s.swx.frames
      ∧ t.swx.out = s.swx.out) ∧
  (∀ (e : Fin 8) (bad : Bool) (x : SwFrame) (s : State), s.swx.frames = [x] → x.stage = .engine e →
      x.ticket = (s.flow x.flow).release →
    ∃ t, exec (.engineDone e bad) s = .next t ∧ t.swx.frames = [] ∧ t.reg (OFS.ENG_CNT e) = s.reg (OFS.ENG_CNT e) + 1
      ∧ (bad = true → t.swx.out = s.swx.out ∧ t.reg OFS.ENG_ERR = incLow (s.reg OFS.ENG_ERR)
          ∧ t.rbit (regINT_FLAG OFS.page) 0 = true)
      ∧ (bad = false → ∃ y, t.swx.out = s.swx.out ++ [y] ∧ y.data = x.data ∧ y.cls = x.cls
          ∧ (2 ≤ x.egress → y.egress = x.egress))) ∧
  (∀ (p : Fin 2) (x : SwFrame) (s : State), s.nextOut p = some x → s.upLink p = true →
    ∃ t, exec (.egressDone ⟨p, by omega⟩) s = .next t
      ∧ t.sent = s.sent ++ [.uplinkFrame p (s.tagged x ++ bytesLE 4 (crc32 (s.tagged x)))]
      ∧ t.swx.out = s.swx.out.erase x ∧ t.reg (UPL.TX_FRAMES p) = s.reg (UPL.TX_FRAMES p) + 1) ∧
  (∀ (x : SwFrame) (s : State), s.swx.out.find? (fun x => x.egress = PORT.TWIN) = some x → s.twn.link = true →
    ∃ t, exec (.egressDone 3) s = .next t ∧ t.swx.out = s.swx.out.erase x
      ∧ t.sent = s.sent ++ [.twinFrame 1 (s.twinBytes 1 6 s.now (s.tagged x))]) ∧
  (∀ (e : Fin 16384) (x : SwFrame) (s : State),
      s.swx.out.find? (fun x => x.flow = 2 * e.val && decide (4 ≤ x.egress)) = some x → s.ep e P.TYPE 1 ≠ 0 →
      ((s.ntb.held.filter (fun h => h.ep = e.val)).map (fun h => h.body.length)).sum + x.data.length ≤ s.ep e P.BURST_DN 4 →
    ∃ t, exec (.payloadHandoff e) s = .next t ∧ t.swx.out = s.swx.out.erase x
      ∧ t.ntb.held = s.ntb.held ++ [{ ep := e, cls := 4, body := x.data }]) ∧
  (∀ (x : SwFrame) (s : State), s.swx.out.find? (fun x => x.egress = PORT.HOST) = some x →
    ∃ t, exec .hostRxWrite s = .next t ∧ t.swx.out = s.swx.out.erase x
      ∧ ((s.reg SWX.HRX_WR - s.reg SWX.HRX_RD).toNat < s.fld SWX.HRX_SIZE 16 0 → t.reg SWX.HRX_WR = s.reg SWX.HRX_WR + 1)
      ∧ (s.fld SWX.HRX_SIZE 16 0 ≤ (s.reg SWX.HRX_WR - s.reg SWX.HRX_RD).toNat → t.reg SWX.HRX_WR = s.reg SWX.HRX_WR
          ∧ t.mem = s.mem ∧ t.reg SWX.HOST_CNT = incLow (s.reg SWX.HOST_CNT) ∧ t.rbit (regINT_FLAG SWX.page) 2 = true)) ∧
  (∀ (a : Nat) (s : State), s.swxOn = true → s.reg SWX.HTX_RD ≠ s.reg SWX.HTX_WR →
      s.ringSlot SWX.HTX_BASE_LO SWX.HTX_BASE_HI SWX.HTX_SIZE (s.reg SWX.HTX_RD).toNat = a →
    ∃ t, exec .hostTxFrame s = .next t ∧ t.reg SWX.HTX_RD = s.reg SWX.HTX_RD + 1
      ∧ (2016 < s.memBE a 2 → t.swx = s.swx ∧ t.reg SWX.DROP_CNT = incLow (s.reg SWX.DROP_CNT))
      ∧ (s.memBE a 2 ≤ 2016 → s.memBE (a + 2) 1 < 2 → s.memBE (a + 3) 1 = 1 →
          s.heldBy (32768 + 6) + (s.memBE a 2 + 4 + 255) / 256 ≤ s.quota (32768 + 6) →
          (s.memBE a 2 + 4 + 255) / 256 ≤ s.sharedFree →
          ∃ x, t.swx.frames = s.swx.frames ++ [x] ∧ x.cls = 1 ∧ x.egress = s.memBE (a + 2) 1
            ∧ x.vid = s.fld SWX.VID_MGMT 11 0 ∧ x.data = s.bytes (a + 32) (s.memBE a 2)))

/-- The uplinks (R322, R327, R328, R332). Where the spec leaves a point open, the clauses follow
the model's choice (log entry 103). -/
def Obligations.Uplinks : Prop :=
  (∀ (u : Fin 2) (s : State), s.rbit (UPL.P_STAT u) 7 = true → s.rbit (UPL.P_STAT u) 4 = true →
      s.rbit (UPL.P_STAT u) 5 = false → s.rbit (UPL.P_STAT u) 6 = false → s.upLink u = false → s.rbit (UPL.P_CTRL u) 0 = true →
      s.rbit (regCTRL UPL.page) 0 = true → s.domainUp (domainOf UPL.page) = true →
    ∃ t, exec (.uplinkUp u) s = .next t ∧ t.fld (UPL.P_STAT u) 1 0 = s.trySpeed u % 4
      ∧ t.rbit (UPL.P_STAT u) 8 = (s.trySpeed u = 1 && s.rbit (UPL.P_CTRL u) 4) ∧ t.rbit (regINT_FLAG UPL.page) 0 = true) ∧
  (∀ (u : Fin 2) (los : Bool) (s : State), s.upLink u = true → los = true ∨ s.rbit (UPL.P_STAT u) 7 = false →
    ∃ t, exec (.uplinkDown u los) s = .next t ∧ t.upLink u = false ∧ t.rbit (UPL.P_STAT u) 5 = los
      ∧ t.reg (UPL.LINK_CNT u) = incLow (s.reg (UPL.LINK_CNT u)) ∧ t.rbit (regINT_FLAG UPL.page) 1 = true
      ∧ (s.primary 0 = u.val → t.swx.away0 = true) ∧ (s.primary 1 = u.val → t.swx.away1 = true)) ∧
  (∀ (u : Fin 2) (lock los : Bool) (s : State), s.rbit (UPL.P_CTRL u) 0 = true → s.domainUp (domainOf UPL.page) = true →
    ∃ t, exec (.blockLockChange u lock los) s = .next t ∧ t.rbit (UPL.P_STAT u) 7 = lock ∧ t.rbit (UPL.P_STAT u) 5 = los
      ∧ (los = true → t.upLink u = false)) ∧
  (∀ (k : Fin 2) (s : State), s.upLink (s.primary k) = true →
      (∀ x ∈ s.swx.out, ¬ (x.egress = 1 - s.primary k ∧ x.cls = k.val)) →
    ∃ t, exec (.classRevert k) s = .next t ∧ t.classUplink k = s.primary k ∧ t.swx.out = s.swx.out) ∧
  (∀ (u : Fin 2) (s : State), s.rbit (UPL.P_CTRL u) 0 = true → s.fld (UPL.P_CTRL u) 2 1 = 0 → s.rbit (UPL.P_STAT u) 7 = false →
      s.domainUp (domainOf UPL.page) = true →
    ∃ t, exec (.speedTry u) s = .next t ∧ t.uplink u = { s.uplink u with tried := 3 - (s.uplink u).tried } ∧ t.regs = s.regs) ∧
  (∀ (req : Req) (u : Fin 2) (v : Word) (s : State), s.accepts (UPL.SFP_CMD u) = true → s.rbit (UPL.SFP_STAT u) 0 = false →
      (s.uplink u).absent = false →
    ∃ t, exec (.sfpAccess req u v) s = .next t ∧ t.reg (UPL.SFP_STAT u) = 1
      ∧ (t.uplink u).cmd = some (putBits v 15 8 (clampN 1 128 (bits v 15 8)))) ∧
  (∀ (u : Fin 2) (nak : Bool) (data : List Byte) (w : Word) (s : State), (s.uplink u).cmd = some w →
    ∃ t, exec (.sfpDone u nak data) s = .next t ∧ (t.uplink u).cmd = none ∧ t.reg (UPL.SFP_STAT u) = word (2 * nak.toNat)
      ∧ t.rbit (regINT_FLAG UPL.page) 6 = true) ∧
  (∀ (u : Fin 2) (b : Byte) (s : State),
    ∃ t, exec (.sfpModuleChange u (some b)) s = .next t ∧ (t.uplink u).absent = false ∧ t.rbit (UPL.P_STAT u) 4 = true
      ∧ (t.uplink u).tried = (if b = 0xFF then 1 else 2) ∧ t.rbit (regINT_FLAG UPL.page) 2 = true) ∧
  (∀ (u : Fin 2) (s : State),
    ∃ t, exec (.sfpModuleChange u none) s = .next t ∧ (t.uplink u).absent = true ∧ t.rbit (UPL.P_STAT u) 4 = false
      ∧ t.upLink u = false ∧ t.rbit (regINT_FLAG UPL.page) 3 = true) ∧
  (∀ (u : Fin 2) (fault : Bool) (s : State),
    ∃ t, exec (.txFaultChange u fault) s = .next t ∧ t.rbit (UPL.P_STAT u) 6 = fault
      ∧ (fault = true → t.upLink u = false ∧ t.txDisable u = true ∧ t.rbit (regINT_FLAG UPL.page) 4 = true)
      ∧ (fault = false → t.uplink u = s.uplink u)) ∧
  (∀ (u : Fin 2) (s : State), s.rbit (UPL.P_STAT u) 6 = false →
    ∃ t, exec (.txDisableRelease u) s = .next t ∧ (t.uplink u).hold = false ∧ t.regs = s.regs) ∧
  (∀ (req : Req) (u : Fin 2) (x : TxStamp) (l : List TxStamp) (s : State), (s.uplink u).fifo = x :: l → s.domainUp 8 = true →
    ∃ t, exec (.timestampPop req u) s = .next t ∧ (t.uplink u).fifo = l
      ∧ (t.port req).rdata = word (x.tag + 256 + x.base * 1024)
      ∧ t.reg (UPL.TSF_1 u) = word (x.time / 65536 / 1000000000)
      ∧ t.reg (UPL.TSF_3 u) = word (x.time / 65536 % 1000000000))

/-- Domains and civil time (R335, R340, R344, R346, R347). Where the spec leaves a point open, the clauses follow
the model's choice (log entry 104). -/
def Obligations.TimeDomains : Prop :=
  (∀ (req : Req) (k : Fin 2) (s : State), s.accepts (TIM.MEAS k) = true → s.domState k = DOM.UNLOCKED →
    ∃ t, exec (.ptpMeasurement req k) s = .next t ∧ t.domState k = DOM.LOCKING ∧ t.fld (TIM.DOM_STAT k) 11 8 = 0
      ∧ (t.tb (k + 1) : Int) = ((s.tb (k + 1) : Int) - (s.reg64 (TIM.OFFS_LO k) (TIM.OFFS_HI k)).toInt) % ((2 ^ 48 * tbSecond : Nat) : Int)
      ∧ t.reg (TIM.STEP_AT k) = word s.tb0s ∧ ∀ j, j ≠ k.val + 1 → t.tb j = s.tb j) ∧
  (∀ (req : Req) (k : Fin 2) (s : State), s.accepts (TIM.MEAS k) = true → s.domState k = DOM.LOCKED →
      s.fld (TIM.DOM_STAT k) 13 12 < 2 →
      s.fld (TIM.THR k) 31 16 * 1000 * 65536 < (s.reg64 (TIM.OFFS_LO k) (TIM.OFFS_HI k)).toInt.natAbs →
    ∃ t, exec (.ptpMeasurement req k) s = .next t ∧ t.domState k = DOM.LOCKED
      ∧ t.fld (TIM.DOM_STAT k) 13 12 = s.fld (TIM.DOM_STAT k) 13 12 + 1 ∧ t.tim.tb = s.tim.tb
      ∧ t.reg (TIM.RATE (k + 1)) = s.reg (TIM.RATE (k + 1)) ∧ t.rbit (regINT_FLAG TIM.page) 6 = true) ∧
  (∀ (req : Req) (k : Fin 2) (s : State) (off e integ : Int), s.accepts (TIM.MEAS k) = true →
      (s.domState k = DOM.LOCKING ∨ s.domState k = DOM.LOCKED ∨ s.domState k = DOM.HOLDOVER) →
      off = (s.reg64 (TIM.OFFS_LO k) (TIM.OFFS_HI k)).toInt → off.natAbs ≤ s.fld (TIM.THR k) 31 16 * 1000 * 65536 →
      e = off * 65536 / 1000000000 →
      integ = clampI (-2147483) 2147483 ((s.dom k).integ - e / 2 ^ s.fld (TIM.DOM_CFG k) 23 20) →
    ∃ t, exec (.ptpMeasurement req k) s = .next t ∧ (t.dom k).integ = integ
      ∧ t.reg (TIM.RATE (k + 1)) = iword (clampI (-2147483) 2147483 (integ - e / 2 ^ s.fld (TIM.DOM_CFG k) 19 16))
      ∧ t.tim.tb = s.tim.tb ∧ t.fld (TIM.DOM_STAT k) 13 12 = 0
      ∧ (s.domState k ≠ DOM.LOCKED → off.natAbs < s.fld (TIM.THR k) 15 0 * 65536 → 7 ≤ s.fld (TIM.DOM_STAT k) 11 8 →
          t.domState k = DOM.LOCKED ∧ t.rbit (regINT_FLAG TIM.page) k = true)) ∧
  (∀ (req : Req) (k : Fin 2) (s : State), s.domState k = DOM.DISABLED →
    ∃ t, exec (.ptpMeasurement req k) s = .next t ∧ t.tim = s.tim ∧ t.domState k = DOM.DISABLED
      ∧ t.reg (regCLAMP_CNT TIM.page) = incLow (s.reg (regCLAMP_CNT TIM.page))) ∧
  (∀ (k : Fin 2) (s : State), s.domState k = DOM.LOCKING ∨ s.domState k = DOM.LOCKED →
      (s.dom k).measAt + s.fld (TIM.DOM_CFG k) 31 24 * tbSecond ≤ s.tb 0 →
    ∃ t, exec (.domainHoldover k) s = .next t ∧ t.domState k = DOM.HOLDOVER ∧ t.reg (TIM.RATE (k + 1)) = iword (s.dom k).integ
      ∧ t.rbit (regINT_FLAG TIM.page) (4 + k) = true) ∧
  (∀ (req : Req) (k : Fin 2) (v : Word) (s : State), s.accepts (TIM.DOM_CFG k) = true → s.domState k = DOM.DISABLED →
    ∃ t, exec (.domainEnable req k v) s = .next t ∧ t.domState k = DOM.UNLOCKED ∧ (t.dom k).integ = 0
      ∧ t.reg (TIM.RATE (k + 1)) = 0 ∧ t.rbit (TIM.DOM_CFG k) 0 = true) ∧
  (∀ (req : Req) (k : Fin 2) (v : Word) (s : State), s.accepts (TIM.DOM_CFG k) = true →
    ∃ t, exec (.domainDisable req k v) s = .next t ∧ t.domState k = DOM.DISABLED
      ∧ t.reg (TIM.RATE (k + 1)) = s.reg (TIM.RATE (k + 1)) ∧ t.rbit (TIM.DOM_CFG k) 0 = false) ∧
  (∀ (k : Fin 2) (s : State), s.domainUp 1 = true → s.zoneWritten = s.tim.zone → s.tim.snap = none → s.civSource = k + 2 →
      s.rbit TIM.CIV_STAT 5 = false →
    ∃ t, exec .civilUpdate s = .next t ∧ (t.tb 3 : Int) = s.tgt k % ((2 ^ 48 * tbSecond : Nat) : Int)
      ∧ t.rbit TIM.CIV_STAT 5 = true ∧ t.rbit TIM.CIV_STAT 4 = true ∧ t.fld TIM.CIV_STAT 1 0 = CIV.TRACKING
      ∧ t.fld TIM.CIV_STAT 3 2 = k + 2 ∧ t.rbit (regINT_FLAG TIM.page) 7 = true ∧ t.rct.map = []) ∧
  (∀ (k : Fin 2) (s : State), s.domainUp 1 = true → s.zoneWritten = s.tim.zone → s.tim.snap = none → s.civSource = k + 2 →
      s.rbit TIM.CIV_STAT 5 = true →
    ∃ t, exec .civilUpdate s = .next t ∧ t.tim.tb = s.tim.tb ∧ t.fld TIM.CIV_STAT 1 0 = CIV.TRACKING
      ∧ t.fld TIM.CIV_STAT 3 2 = k + 2
      ∧ t.reg (TIM.RATE 3) = iword (clampI (-s.cMaxR) s.cMaxR (s.tbRate (k + 1)
          - ((s.tb 3 : Int) - s.tgt k) * 65536 / 1000000000 / 2 ^ s.fld TIM.CIV_CFG 7 4))) ∧
  (∀ (s : State), s.domainUp 1 = true → s.zoneWritten = s.tim.zone → s.tim.snap = none → s.civSource = 0 →
      s.fld TIM.CIV_STAT 1 0 = CIV.TRACKING ∨ s.fld TIM.CIV_STAT 1 0 = CIV.HOLDOVER →
    ∃ t, exec .civilUpdate s = .next t ∧ t.tim.tb = s.tim.tb ∧ t.fld TIM.CIV_STAT 1 0 = CIV.HOLDOVER
      ∧ t.reg (TIM.RATE 3) = iword s.tim.heldRate) ∧
  (∀ (req : Req) (s : State), s.accepts TIM.CIV_STEP = true →
    ∃ t, exec (.civilStepSnap req 0x57E9) s = .next t ∧ t.tim = { s.tim with snap := some req.val }) ∧
  (∀ (req : Req) (key : BitVec 16) (s : State), key ≠ 0x57E9 →
    (∃ t, exec (.civilStepSnap req key) s = .next t ∧ t.tim = s.tim
      ∧ t.reg (regCLAMP_CNT TIM.page) = incLow (s.reg (regCLAMP_CNT TIM.page))) ∧
    (∃ t, exec (.civilStepValue req key) s = .next t ∧ t.tim = s.tim
      ∧ t.reg (regCLAMP_CNT TIM.page) = incLow (s.reg (regCLAMP_CNT TIM.page)))) ∧
  (∀ (req : Req) (s : State), s.accepts TIM.CIV_STEP = true →
    ∃ t, exec (.civilStepValue req 0x57E9) s = .next t
      ∧ (t.tbase 3).s = s.fld TIM.STEP_VAL_S_HI 15 0 * 2 ^ 32 + (s.reg TIM.STEP_VAL_S_LO).toNat
      ∧ (t.tbase 3).ns = (s.reg TIM.STEP_VAL_NS).toNat ∧ (t.tbase 3).frac = s.fld TIM.STEP_VAL_S_HI 31 16
      ∧ (t.tbase 3).sub % 2 ^ 32 = (s.tbase 3).sub % 2 ^ 32 ∧ t.rbit TIM.CIV_STAT 4 = true ∧ t.rct.map = []
      ∧ t.tim.rtcLoad = true ∧ t.rbit (regINT_FLAG TIM.page) 11 = true)

/-- Alarms, snapshots and the calendar (R350 to R358). Where the spec leaves a point open, the clauses follow
the model's choice (log entry 105). -/
def Obligations.Calendar : Prop :=
  (∀ (s : State), s.domainUp 1 = true → s.tim.rtcLoad = true ∨ (2 ≤ s.fld TIM.CIV_STAT 3 2 ∧ s.rbit rtcSTAT 0 = false) →
      epoch2000 ≤ (s.tbase 3).s → (s.tbase 3).s - epoch2000 ≤ calendarEnd →
    ∃ t, exec .rtcLoadFromTb3 s = .next t ∧ t.rtc.secs = (s.tbase 3).s - epoch2000 ∧ t.rtc.tacc = 0 ∧ t.tim.rtcLoad = false
      ∧ t.rbit rtcSTAT 0 = true ∧ t.rbit (regINT_FLAG RTC.page) 2 = true) ∧
  (∀ (a : Fin 4) (s : State), s.rbit (TIM.ALM_CFG a) 0 = true → s.almDeadline a ≤ s.tb (s.almBase a) →
    ∃ t, exec (.timeAlarm a) s = .next t ∧ t.rbit (TIM.ALM_CFG a) 0 = false ∧ t.rbit (TIM.ALM_CFG a) 8 = true
      ∧ t.rbit (TIM.ALM_CFG a) 9 = s.tim.skip.testBit a ∧ t.rbit (regINT_FLAG TIM.page) 12 = true) ∧
  (∀ (req : Req) (s : State), s.accepts (regCTRL TIM.page) = true →
    ∃ t, exec (.timeSnap req) s = .next t ∧ t.tim = s.tim ∧ ∀ k : Fin 4, t.reg (TIM.TB_S_LO k) = word (s.tbase k).s
      ∧ t.reg (TIM.TB_S_HI k) = word ((s.tbase k).s / 2 ^ 32 % 65536 + (s.tbase k).frac * 65536)
      ∧ t.reg (TIM.TB_NS k) = word (s.tbase k).ns) ∧
  (∀ (s : State), s.rbit rtcSTAT 1 = false → s.rtc.secs < calendarEnd →
    ∃ t, exec .rtcSecond s = .next t ∧ t.rtc.secs = s.rtc.secs + 1
      ∧ t.rtc.tacc = (s.rtc.tacc + 32768 * (s.reg RTC.TRIM).toInt) % 1000000000
      ∧ t.rtc.len = (32768 + (s.rtc.tacc + 32768 * (s.reg RTC.TRIM).toInt) / 1000000000).toNat) ∧
  (∀ (s : State), s.rbit rtcSTAT 1 = false → calendarEnd ≤ s.rtc.secs →
    ∃ t, exec .rtcSecond s = .next t ∧ t.rtc.secs = s.rtc.secs ∧ t.rbit rtcSTAT 0 = false ∧ t.rbit rtcSTAT 1 = true
      ∧ t.rbit (regINT_FLAG RTC.page) 6 = true) ∧
  (∀ (req : Req) (v : Word) (y m d : Nat) (s : State), s.accepts RTC.SET_TIME = true →
      y = s.fld RTC.SET_DATE 8 0 → m = s.fld RTC.SET_DATE 19 16 → d = s.fld RTC.SET_DATE 28 24 →
      y ≤ 399 → 1 ≤ m → m ≤ 12 → 1 ≤ d → (d : Int) ≤ monthDays (y + 2000) m →
      bits v 20 16 ≤ 23 → bits v 13 8 ≤ 59 → bits v 5 0 ≤ 59 →
    ∃ t, exec (.rtcSet req v) s = .next t
      ∧ t.rtc.secs = (daysFromCivil (y + 2000) m d - 10957).toNat * 86400 + bits v 20 16 * 3600 + bits v 13 8 * 60 + bits v 5 0
      ∧ t.rtc.tacc = 0 ∧ t.rbit rtcSTAT 0 = true ∧ t.rbit rtcSTAT 1 = false ∧ t.rbit (regINT_FLAG RTC.page) 2 = true) ∧
  (∀ (edges : Nat) (m : Int) (s : State), s.trimDone = true →
      m = roundAway (((edges : Int) - 2831155200) * 1000000000) 2831155200 →
    ∃ t, exec (.trimWindowDone edges) s = .next t ∧ t.reg RTC.TRIM_MEAS = iword m
      ∧ (s.rbit RTC.TRIM_CFG 4 = true → t.reg RTC.TRIM = iword (clampI (-200000) 200000 m))
      ∧ (s.rbit RTC.TRIM_CFG 4 = false → t.reg RTC.TRIM = s.reg RTC.TRIM)
      ∧ t.rbit rtcSTAT 2 = false ∧ t.rbit (regINT_FLAG RTC.page) 3 = true) ∧
  (∀ (n : Fin 2) (s : State), s.rbit RTC.ALM_CTRL n = true → s.rtcAlarm n ≤ s.rtc.secs →
    ∃ t, exec (.rtcAlarm n) s = .next t ∧ t.rbit RTC.ALM_CTRL n = false ∧ t.rbit RTC.ALM_CTRL (8 + n) = true
      ∧ t.rbit RTC.ALM_CTRL (16 + n) = s.rtc.skip.testBit n ∧ t.rbit (regINT_FLAG RTC.page) n = true) ∧
  (∀ (req : Req) (s : State), s.accepts (regCTRL RTC.page) = true → 0 < s.rtc.len → s.rtc.len < 2 ^ 32 →
    ∃ t, exec (.rtcSnap req) s = .next t ∧ t.rtc = s.rtc ∧ t.reg RTC.DATE = rtcDate s.rtc.secs
      ∧ t.reg RTC.TIME = rtcTime s.rtc.secs ∧ (t.reg RTC.PRESC).toNat < s.rtc.len
      ∧ t.reg64 RTC.SECS_LO RTC.SECS_HI = BitVec.ofNat 64 s.rtc.secs) ∧
  (∀ (s : State), s.pwr.vinOk = false → s.pwr.up = 1 →
    ∃ t, exec .pd0Loss s = .next t ∧ t.rtc.secs = 0 ∧ t.rtc.lost = true ∧ t.rbit rtcSTAT 0 = false
      ∧ ∀ b, ¬ (pageOf b = RTC.page ∧ b < 0x50000000) → t.reg b = s.reg b)

/-- The thread scheduler's commands, dispatch and takes (R362 to R369). Where the spec leaves a point open, the clauses follow
the model's choice (log entry 106). -/
def Obligations.Threads : Prop :=
  (∀ (req : Req) (n : Fin 256) (s : State), s.accepts (THS.CMD req) = true →
      (s.thread n).state = TH.FREE ∨ (s.thread n).state = TH.CANCELLED →
    ∃ t, exec (.threadInit req n) s = .next t ∧ t.reg (THS.RESULT req) = 0 ∧ t.thread n = { state := TH.BLOCKED, prio := s.fld (THS.ARG_LO req) 4 0, aff := affFit (s.fld (THS.ARG_LO req) 11 8) }) ∧
  (∀ (req : Req) (n : Fin 256) (s : State), s.accepts (THS.CMD req) = true → (s.thread n).ended = false →
      s.superseded n [TH.BLOCKED, TH.READY, TH.RUNNING, TH.WAITING] = false →
    ((s.thread n).state = TH.BLOCKED ∨ (s.thread n).state = TH.WAITING →
      ∃ t, exec (.threadReady req n) s = .next t ∧ t.reg (THS.RESULT req) = 0
        ∧ t.thread n = { s.thread n with state := TH.READY, cause := 1, leaving := false }
        ∧ t.readyList (s.thread n).prio = s.readyList (s.thread n).prio ++ [n.val]) ∧
    ((s.thread n).state = TH.RUNNING →
      ∃ t, exec (.threadReady req n) s = .next t ∧ t.thread n = { s.thread n with pend := true } ∧ t.ths.ready = s.ths.ready)) ∧
  (∀ (req : Req) (n : Fin 256) (s : State), s.accepts (THS.CMD req) = true →
      (s.thread n).state = TH.FREE ∨ (s.thread n).state = TH.CANCELLED → s.superseded n [TH.BLOCKED, TH.READY, TH.RUNNING, TH.WAITING] = false →
    ∃ t, exec (.threadReady req n) s = .next t ∧ t.ths.threads = s.ths.threads ∧ t.ths.ready = s.ths.ready ∧ t.reg (THS.RESULT req) = 2
      ∧ t.reg THS.IGN_CNT = incLow (s.reg THS.IGN_CNT) ∧ t.rbit (regINT_FLAG THS.page) 2 = true) ∧
  (∀ (req : Req) (n : Fin 256) (s : State), s.accepts (THS.CMD req) = true → s.superseded n [TH.BLOCKED, TH.READY, TH.RUNNING, TH.WAITING] = true →
    ∃ t, exec (.threadReady req n) s = .next t ∧ t.ths.threads = s.ths.threads ∧ t.ths.ready = s.ths.ready ∧ t.reg (THS.RESULT req) = 0) ∧
  (∀ (req : Req) (n : Fin 256) (s : State), s.accepts (THS.CMD req) = true → (s.thread n).ended = false →
      (s.thread n).state = TH.RUNNING → (s.thread n).pend = false →
    ∃ t, exec (.threadBlock req n) s = .next t ∧ t.thread n = { s.thread n with leaving := true, after := TH.BLOCKED }) ∧
  (∀ (req : Req) (n : Fin 256) (s : State), s.accepts (THS.CMD req) = true → (s.thread n).ended = false →
      (s.thread n).state = TH.READY → (s.thread n).pend = false →
    ∃ t, exec (.threadBlock req n) s = .next t ∧ t.thread n = { s.thread n with state := TH.BLOCKED }
      ∧ n.val ∉ t.readyList (s.thread n).prio) ∧
  (∀ (req : Req) (n : Fin 256) (s : State), s.accepts (THS.CMD req) = true → (s.thread n).ended = false →
      (s.thread n).state = TH.RUNNING ∨ (s.thread n).state = TH.READY → (s.thread n).pend = true →
    ∃ t, exec (.threadBlock req n) s = .next t ∧ t.thread n = { s.thread n with pend := false } ∧ t.ths.ready = s.ths.ready) ∧
  (∀ (req : Req) (n : Fin 256) (s : State), s.accepts (THS.CMD req) = true → (s.thread n).state ≠ TH.FREE →
    ∃ t, exec (.threadCancel req n) s = .next t
      ∧ ((s.thread n).state = TH.RUNNING → t.thread n = { s.thread n with leaving := true, after := TH.CANCELLED, cancelAt := some (s.tim.osc, (s.thread n).state) })
      ∧ ((s.thread n).state ≠ TH.RUNNING → t.thread n = { s.thread n with state := TH.CANCELLED, cancelAt := some (s.tim.osc, (s.thread n).state) }
          ∧ n.val ∉ t.readyList (s.thread n).prio)) ∧
  (∀ (req : Req) (n : Fin 256) (s : State), s.accepts (THS.CMD req) = true → (s.thread n).ended = false → (s.thread n).state ≠ TH.FREE →
    (∃ t, exec (.threadSetprio req n) s = .next t ∧ t.thread n = { s.thread n with prio := s.fld (THS.ARG_LO req) 4 0 }
      ∧ ((s.thread n).state = TH.READY → ∃ l, t.readyList (s.fld (THS.ARG_LO req) 4 0) = l ++ [n.val])) ∧
    (∃ t, exec (.threadSetaff req n) s = .next t ∧ t.thread n = { s.thread n with aff := affFit (s.fld (THS.ARG_LO req) 11 8) }
      ∧ t.ths.ready = s.ths.ready)) ∧
  (∀ (req : Req) (n : Fin 256) (s : State), s.accepts (THS.CMD req) = true → (s.thread n).ended = false →
      (s.thread n).state = TH.RUNNING →
    ∃ t, exec (.threadYield req n) s = .next t ∧ t.thread n = { s.thread n with leaving := true, after := TH.READY }) ∧
  (∀ (req : Req) (n : Fin 256) (b d : Nat) (s : State), s.accepts (THS.CMD req) = true → (s.thread n).ended = false →
      (s.thread n).pend = false → b = s.fld (THS.ARG_HI req) 30 28 → d = s.waitDeadline req b →
    ((s.thread n).state = TH.RUNNING → s.reached b d = false →
      ∃ t, exec (.threadWait req n) s = .next t
        ∧ t.thread n = { s.thread n with base := b, deadline := d, leaving := true, after := TH.WAITING }) ∧
    ((s.thread n).state = TH.READY → s.reached b d = false →
      ∃ t, exec (.threadWait req n) s = .next t ∧ t.thread n = { s.thread n with base := b, deadline := d, state := TH.WAITING }
        ∧ n.val ∉ t.readyList (s.thread n).prio) ∧
    ((s.thread n).state = TH.RUNNING → s.reached b d = true →
      ∃ t, exec (.threadWait req n) s = .next t
        ∧ t.thread n = { s.thread n with base := b, deadline := d, cause := 2, leaving := true, after := TH.READY })) ∧
  (∀ (req : Req) (n : Fin 256) (c : Instr) (s : State), s.accepts (THS.CMD req) = true → (s.thread n).state = TH.BLOCKED →
      c = .threadBlock req n ∨ c = .threadYield req n ∨ c = .threadWait req n ∨ c = .threadInit req n →
    ∃ t, exec c s = .next t ∧ t.ths.threads = s.ths.threads ∧ t.ths.ready = s.ths.ready ∧ t.reg (THS.RESULT req) = 1 ∧ t.rbit (regINT_FLAG THS.page) 0 = true) ∧
  (∀ (n : Fin 256) (s : State), s.domainUp 3 = true → s.reached (s.thread n).base (s.thread n).deadline = true →
      (s.thread n).state = TH.WAITING →
    ∃ t, exec (.waitDeadline n) s = .next t ∧ t.thread n = { s.thread n with state := TH.READY, cause := 2, leaving := false }
      ∧ t.readyList (s.thread n).prio = s.readyList (s.thread n).prio ++ [n.val]) ∧
  (∀ (p : Fin 46) (n : Nat) (s : State), s.ths.edges.testBit p = true → s.rbit (THS.EVT_BIND p) 8 = true →
      n = s.fld (THS.EVT_BIND p) 7 0 → (s.thread n).state = TH.BLOCKED ∨ (s.thread n).state = TH.WAITING →
    ∃ t, exec (.bindWake p) s = .next t
      ∧ t.thread n = { s.thread n with state := TH.READY, cause := 3, leaving := false }
      ∧ t.readyList (s.thread n).prio = s.readyList (s.thread n).prio ++ [n]) ∧
  (∀ (s : State), s.ths.changed = true → s.rbit (regCTRL THS.page) 0 = true →
    ∃ t, exec .dispatchDecision s = .next t ∧ t.ths.changed = false ∧ t.ths.threads = s.ths.threads ∧ t.ths.ready = s.ths.ready
      ∧ ∀ c : Fin 4, t.reg (THS.NEXT c) = word (s.nextOf s.proposals c)) ∧
  (∀ (req : Req) (c : Fin 4) (n : BitVec 9) (s : State), s.accepts (THS.TAKE c) = true → n.toNat = s.nextRead c →
      n.toNat ≠ TH.IDLE → s.cur c = TH.IDLE →
    ∃ t, exec (.threadTake req c n) s = .next t ∧ t.cur c = n.toNat ∧ t.reg (THS.PREV c) = word TH.IDLE
      ∧ t.thread n.toNat = { s.thread n.toNat with state := TH.RUNNING, leaving := false, core := c }
      ∧ n.toNat ∉ t.readyList (s.thread n.toNat).prio) ∧
  (∀ (req : Req) (c : Fin 4) (n : BitVec 9) (old : Nat) (s : State), s.accepts (THS.TAKE c) = true → n.toNat = s.nextRead c →
      n.toNat ≠ TH.IDLE → s.cur c = old → old ≠ TH.IDLE → old ≠ n.toNat → (s.thread old).leaving = false →
    ∃ t l, exec (.threadTake req c n) s = .next t ∧ t.cur c = n.toNat ∧ t.reg (THS.PREV c) = word old
      ∧ t.thread n.toNat = { s.thread n.toNat with state := TH.RUNNING, leaving := false, core := c }
      ∧ t.thread old = { s.thread old with state := TH.READY } ∧ t.readyList (s.thread old).prio = old :: l) ∧
  (∀ (req : Req) (c : Fin 4) (n : BitVec 9) (s : State), n.toNat ≠ s.nextRead c →
    ∃ t, exec (.threadTake req c n) s = .next t ∧ t.ths.threads = s.ths.threads ∧ t.ths.ready = s.ths.ready ∧ t.cur c = s.cur c
      ∧ t.reg (regCLAMP_CNT THS.page) = incLow (s.reg (regCLAMP_CNT THS.page))) ∧
  (∀ (h : Option (Fin 4)) (w : BadWord) (s : State),
    (∃ t, exec (.memoryError .corrected h) s = .next t ∧ t.reg THS.MEM_CE = incLow (s.reg THS.MEM_CE) ∧ t.sent = s.sent) ∧
    (∃ t, exec (.memoryError (.uncorrectable w) h) s = .next t ∧ t.reg THS.MEM_UE = incLow (s.reg THS.MEM_UE)
      ∧ t.rbit (regINT_FLAG THS.page) 1 = true ∧ ∀ x, h = some x → t.sent = s.sent ++ [.memoryFault x]))

/-- Telemetry queues: items, pointers, copies and configuration (R374 to R385). -/
def Obligations.Queues : Prop :=
  (∀ (req : Req) (q : Fin 64) (hi lo : Word) (s : State), s.accepts (TQU.PUSH_HI q) = true → lo = s.stagedLow req (TQU.PUSH_LO q) →
      s.tqEn q = true → s.tqSrc q = 0 → s.rbit (regCTRL TQU.page) 0 = true → (s.tq q).item = none →
      1 ≤ bits lo 4 0 → 128 ≤ bits lo 15 8 →
    (s.reg (TQU.GAP q) = 0 → span (s.tq q).pw (s.reg (TQU.REL q)) + bits lo 4 0 ≤ s.tqSize q - 2 →
      ∃ t x, exec (.queuePush req q hi) s = .next t ∧ (t.tq q).item = some x ∧ x.req = req.val ∧ x.left = bits lo 4 0 - 1
        ∧ x.admitted = true ∧ x.next = (s.tq q).pw + 1 ∧ (t.tq q).pw = (s.tq q).pw + word (bits lo 4 0)
        ∧ (t.tq q).seq = ((s.tq q).seq + 1) % 65536
        ∧ t.winWord (s.tqAddr q (s.tq q).pw) = lo32 (tqHead (bits lo 4 0) (bits lo 15 8) (s.tq q).seq (shortOf s.now))
        ∧ t.reg (TQU.WR q) = s.reg (TQU.WR q)) ∧
    (s.tqSize q - 2 < span (s.tq q).pw (s.reg (TQU.REL q)) + bits lo 4 0 →
      ∃ t x, exec (.queuePush req q hi) s = .next t ∧ (t.tq q).item = some x ∧ x.admitted = false ∧ (t.tq q).pw = (s.tq q).pw
        ∧ t.win = s.win ∧ t.reg (TQU.GAP q) = word (satInc 32 (s.reg (TQU.GAP q)).toNat)
        ∧ t.reg (TQU.LOST q) = word (satInc 32 (s.reg (TQU.LOST q)).toNat))) ∧
  (∀ (req : Req) (q : Fin 64) (hi : Word) (x : TqOpen) (s : State), s.accepts (TQU.PUSH_HI q) = true →
      s.tqEn q = true → s.tqSrc q = 0 → s.rbit (regCTRL TQU.page) 0 = true → (s.tq q).item = some x → x.left ≠ 0 → x.req = req.val →
      x.admitted = true →
    ∃ t, exec (.queuePush req q hi) s = .next t ∧ (t.tq q).item = some { x with left := x.left - 1, next := x.next + 1 }
      ∧ t.winWord (s.tqAddr q x.next) = s.stagedLow req (TQU.PUSH_LO q) ∧ t.winWord (s.tqAddr q x.next + 4) = hi) ∧
  (∀ (req : Req) (q : Fin 64) (hi : Word) (s : State), s.accepts (TQU.PUSH_HI q) = true →
      s.tqEn q = false ∨ s.tqSrc q ≠ 0 →
    ∃ t, exec (.queuePush req q hi) s = .next t ∧ t.tqu = s.tqu ∧ t.win = s.win ∧ t.rbit (regINT_FLAG TQU.page) 3 = true) ∧
  (∀ (i : TqItem) (l : List TqItem) (s : State), s.tqu.waiting = i :: l →
    (s.tqOf i.src = none →
      ∃ t, exec .itemOffer s = .next t ∧ t.tqu = { s.tqu with waiting := l } ∧ t.reg TQU.UNASSIGNED = incLow (s.reg TQU.UNASSIGNED)) ∧
    (∀ q, s.tqOf i.src = some q → (s.tq q).item = none →
      ∃ t x, exec .itemOffer s = .next t ∧ t.tqu.waiting = l ∧ (t.tq q).item = some x ∧ x.left = 0)) ∧
  (∀ (q : Fin 64) (x : TqOpen) (s : State), (s.tq q).item = some x → x.left = 0 →
    ∃ t, exec (.itemCommit q) s = .next t ∧ (t.tq q).item = none ∧ (t.tq q).pw = (s.tq q).pw
      ∧ (x.admitted = true → t.reg (TQU.WR q) = (s.tq q).pw
          ∧ (x.marker = true → t.reg (TQU.GAP q) = 0 ∧ t.rbit (regINT_FLAG TQU.page) 2 = true)
          ∧ (0 < (s.reg (TQU.THR q)).toNat → (s.reg (TQU.THR q)).toNat ≤ span (s.tq q).pw (s.reg (TQU.RD q)) →
              span (s.reg (TQU.WR q)) (s.reg (TQU.RD q)) < (s.reg (TQU.THR q)).toNat → t.rbit (regINT_FLAG TQU.page) 0 = true))
      ∧ (x.admitted = false → t.reg (TQU.WR q) = s.reg (TQU.WR q))) ∧
  (∀ (req : Req) (q : Fin 64) (s : State), s.accepts (TQU.CMD q) = true →
    (∃ t, exec (.queueMark req q) s = .next t ∧ t.reg (TQU.MARK q) = s.reg (TQU.RD q) ∧ t.reg (TQU.RD q) = s.reg (TQU.RD q)) ∧
    (∃ t, exec (.queueRewind req q) s = .next t ∧ t.reg (TQU.RD q) = s.reg (TQU.MARK q) ∧ t.reg (TQU.REL q) = s.reg (TQU.REL q)) ∧
    (s.tqu.copy = none → ∃ t, exec (.queueFlush req q) s = .next t ∧ t.reg (TQU.RD q) = s.reg (TQU.WR q) ∧ t.reg (TQU.MARK q) = s.reg (TQU.WR q)
      ∧ t.reg (TQU.REL q) = s.reg (TQU.WR q)) ∧
    (∀ x, (s.tq q).item = some x → ∃ t, exec (.queueAbort req q) s = .next t ∧ (t.tq q).item = none
      ∧ (t.tq q).seq = x.seq ∧ (t.tq q).pw = s.reg (TQU.WR q) ∧ t.reg (TQU.WR q) = s.reg (TQU.WR q))) ∧
  (∀ (req : Req) (q : Fin 64) (v : Word) (s : State), s.accepts (TQU.RD q) = true →
    ∃ t, exec (.queueRdWrite req q v) s = .next t ∧ t.reg (TQU.RD q) = clampSpan (s.reg (TQU.MARK q)) (s.reg (TQU.WR q)) v
      ∧ t.tqu = s.tqu) ∧
  (∀ (req : Req) (q : Fin 64) (v : Word) (s : State), s.accepts (TQU.REL q) = true → s.tqu.copy = none →
    ∃ t, exec (.queueRelease req q v) s = .next t ∧ t.reg (TQU.REL q) = clampSpan (s.reg (TQU.REL q)) (s.reg (TQU.RD q)) v
      ∧ t.tqu = s.tqu) ∧
  (∀ (req : Req) (q : Fin 64) (v w : Word) (c : TqCopy) (s : State), s.accepts (TQU.REL q) = true → s.tqu.copy = some c →
      c.queue = q.val → w = clampSpan (s.reg (TQU.REL q)) (s.reg (TQU.RD q)) v →
      span c.first (s.reg (TQU.REL q)) < span w (s.reg (TQU.REL q)) →
    ∃ t, exec (.queueRelease req q v) s = .next t ∧ t.tqu = { s.tqu with copy := some { c with rel := some w } }
      ∧ t.reg (TQU.REL q) = s.reg (TQU.REL q)) ∧
  (∀ (req : Req) (q : Fin 64) (n : BitVec 13) (s : State), s.accepts TQU.COPY_CTRL = true → s.tqu.copy = none →
      1 ≤ n.toNat → n.toNat ≤ 4096 → n.toNat ≤ span (s.reg (TQU.WR q)) (s.reg (TQU.RD q)) →
      inDram (s.reg64 TQU.COPY_ADDR_LO TQU.COPY_ADDR_HI).toNat (8 * n.toNat) = true →
    ∃ t c, exec (.queueCopy req q n) s = .next t ∧ t.tqu = { s.tqu with copy := some c } ∧ c.queue = q.val ∧ c.count = n.toNat
      ∧ c.first = s.reg (TQU.RD q) ∧ c.dest = (s.reg64 TQU.COPY_ADDR_LO TQU.COPY_ADDR_HI).toNat ∧ t.reg TQU.COPY_STAT = 1) ∧
  (∀ (c : TqCopy) (s : State), s.tqu.copy = some c → c.rel = none →
    ∃ t, exec .queueCopyDone s = .next t ∧ t.tqu = { s.tqu with copy := none } ∧ t.reg TQU.COPY_STAT = 0
      ∧ t.rbit (regINT_FLAG TQU.page) 4 = true ∧ t.win = s.win
      ∧ (∀ i j, i < c.count → j < 4 →
          (t.byte (c.dest + 8 * i + j)).toNat = (s.tqRead (s.tqAddr c.queue (c.first + word i))).toNat / 256 ^ j % 256)
      ∧ ∀ a, a < c.dest ∨ c.dest + 8 * c.count ≤ a → t.byte a = s.byte a) ∧
  (∀ (req : Req) (q : Fin 64) (v w : Word) (s : State), s.accepts (TQU.CFG q) = true → s.tqEn q = false →
      w = (s.fitted (TQU.CFG q) (putBit v 0 true)).1 →
    (s.tqSrcTaken q w = false → s.tqBadRegion q w = false →
      ∃ t, exec (.queueEnable req q v) s = .next t ∧ t.reg (TQU.CFG q) = w ∧ t.tqEn q = true ∧ t.tq q = {}
        ∧ t.reg (TQU.WR q) = 0 ∧ t.reg (TQU.RD q) = 0 ∧ t.reg (TQU.MARK q) = 0 ∧ t.reg (TQU.REL q) = 0 ∧ t.reg (TQU.GAP q) = 0) ∧
    (s.tqSrcTaken q w = true ∨ s.tqBadRegion q w = true →
      ∃ t, exec (.queueEnable req q v) s = .next t ∧ t.tqu = s.tqu ∧ t.tqEn q = false
        ∧ t.reg (regCLAMP_CNT TQU.page) = incLow (s.reg (regCLAMP_CNT TQU.page)))) ∧
  (∀ (req : Req) (q : Fin 64) (s : State), s.accepts (TQU.CFG q) = true → s.tqEn q = true →
    ∃ t, exec (.queueDisable req q) s = .next t ∧ t.tqEn q = false ∧ (t.tq q).item = none ∧ (t.tq q).pw = s.reg (TQU.WR q)
      ∧ t.reg (TQU.WR q) = s.reg (TQU.WR q))

/-- The Tally log: events, the rate limit, record writes, bank failures, searches and firmware records (R386 to R401). Where the spec leaves a point open, the clauses follow
the model's choice (log entry 107). -/
def Obligations.TallyLog : Prop :=
  (∀ (code : BitVec 10) (payload : List Word) (b : Bucket) (s : State), payload.length ≤ 58 → s.bucket code.toNat = b →
    (bit b.force 25 = true →
      ∃ t, exec (.logEvent code payload) s = .next t ∧ t.evr = s.evr ∧ t.reg EVR.LOST_CNT = incHigh (s.reg EVR.LOST_CNT)) ∧
    (bit b.force 25 = false → bits b.force 7 0 = 0 ∨ 65536 ≤ b.tok → s.evr.queue.length < 64 →
      ∃ t, exec (.logEvent code payload) s = .next t
        ∧ t.evr.queue = s.evr.queue ++ [{ code := code.toNat, stamp := s.now, payload := payload.flatMap (fun w => bytesBE 4 w.toNat) }]
        ∧ (bits b.force 7 0 ≠ 0 → (t.bucket code.toNat).tok = b.tok - 65536)) ∧
    (bit b.force 25 = false → (bits b.force 7 0 ≠ 0 ∧ b.tok < 65536) ∨ 64 ≤ s.evr.queue.length →
      ∃ t, exec (.logEvent code payload) s = .next t ∧ t.evr.queue = s.evr.queue
        ∧ (t.bucket code.toNat).sup = min (b.sup + 1) (2 ^ 32 - 1) ∧ (t.bucket code.toNat).last = s.now
        ∧ (b.sup = 0 → (t.bucket code.toNat).first = s.now) ∧ t.reg EVR.CNT = incHigh (s.reg EVR.CNT))) ∧
  (∀ (e : LogEntry) (l : List LogEntry) (r : List Byte) (k : Fin 66) (s : State), s.evr.queue = e :: l → s.domainUp 1 = true →
      r = recordBytes s.evr.nextSeq s.evr.opsec s.pwr.pcycle e →
    (s.pwr.mramProtect = true → ∀ fails,
      ∃ t, exec (.logRecordWrite ⟨fails, k⟩) s = .next t ∧ t.evr = s.evr ∧ t.mem = s.mem) ∧
    (s.pwr.mramProtect = false → (s.evr.stumpFailed && s.evr.stump) = false →
      (s.needSeg r.length = false → ∀ fails : Fin 3, fails.val < 2 →
        ∃ t, exec (.logRecordWrite ⟨fails, k⟩) s = .next t ∧ t.evr.queue = l ∧ t.evr.nextSeq = s.evr.nextSeq + 1
          ∧ t.evr.headSeq = s.evr.nextSeq ∧ t.evr.headAddr = logAddr s.evr.seg s.evr.pos ∧ t.evr.seg = s.evr.seg
          ∧ t.evr.pos = s.evr.pos + r.length + 4
          ∧ (∀ (i : Nat) (h : i < r.length), t.byte (segBase s.evr.seg + s.evr.pos + i) = r[i])
          ∧ (∀ a, a < segBase s.evr.seg + s.evr.pos ∨ segBase s.evr.seg + s.evr.pos + r.length + 4 ≤ a → t.byte a = s.byte a)
          ∧ t.reg EVR.CNT = incLow (s.reg EVR.CNT)
          ∧ t.reg EVR.ERR_CNT = (if fails.val = 1 then incLow (incHigh^[k.val] (s.reg EVR.ERR_CNT))
              else incHigh^[k.val] (s.reg EVR.ERR_CNT))) ∧
      (s.evr.seg < 128 →
        ∃ t, exec (.logRecordWrite ⟨2, k⟩) s = .next t ∧ t.evr.failA = (s.evr.failA || decide (s.evr.seg < 64))
          ∧ t.evr.failB = (s.evr.failB || decide (64 ≤ s.evr.seg)) ∧ t.rbit (regINT_FLAG EVR.page) 0 = true))) ∧
  (∀ (s : State), s.domainUp 1 = true → angleOf s.now = 0 →
    ∃ t, exec .logTokenRefill s = .next t ∧ (∀ c, (t.bucket c).force = (s.bucket c).cfg) ∧
    (s.codesInUse.Nodup → ∀ c ∈ s.codesInUse, ∀ x,
        x = min ((s.bucket c).tok + bits (s.bucket c).cfg 23 8) (bits (s.bucket c).cfg 7 0 * 65536) →
      (t.bucket c).tok = x ∧ (t.bucket c).cfg = (s.bucket c).cfg
        ∧ (x < 65536 → (t.bucket c).sup = (s.bucket c).sup)
        ∧ (65536 ≤ x → s.evr.queue.length + s.codesInUse.length ≤ 64 → (t.bucket c).sup = 0))) ∧
  (∀ (s : State), s.domainUp 1 = true → ∃ t, exec .opsecSecond s = .next t ∧ t.evr.opsec = word (satInc 32 s.evr.opsec.toNat)
    ∧ t.evr.ctlSecond = (if satInc 32 s.evr.opsec.toNat % 64 = 0 then !s.evr.ctlSecond else s.evr.ctlSecond)
    ∧ (satInc 32 s.evr.opsec.toNat % 64 ≠ 0 → t.mem = s.mem)) ∧
  (∀ (req : Req) (seq : Word) (s : State), s.accepts EVR.SEEK = true →
    ∃ t, exec (.logSeek req seq) s = .next t ∧ t.evr = { s.evr with seeking := some seq } ∧ t.reg EVR.SEEK_RES = word (2 ^ 31)) ∧
  (∀ (q : Word) (s : State), s.evr.seeking = some q →
    (∀ a, s.findRecord q = some a →
      ∃ t, exec .seekDone s = .next t ∧ t.evr = { s.evr with seeking := none } ∧ t.reg EVR.SEEK_RES = word (a + 2 ^ 30)) ∧
    (s.findRecord q = none →
      ∃ t, exec .seekDone s = .next t ∧ t.evr = { s.evr with seeking := none } ∧ t.reg EVR.SEEK_RES = 0)) ∧
  (∀ (req : Req) (key : BitVec 16) (a b : Bool) (s : State), s.accepts EVR.BANK_CLR = true →
    (key ≠ 0xBA4C → ∃ t, exec (.bankClr req key a b) s = .next t ∧ t.evr = s.evr) ∧
    (key = 0xBA4C → (a && s.evr.failA) = true ∨ (b && s.evr.failB) = true →
      ∃ t, exec (.bankClr req key a b) s = .next t ∧ t.evr.failA = (s.evr.failA && !a) ∧ t.evr.failB = (s.evr.failB && !b)
        ∧ t.evr.returned = s.evr.returned ++ (if (a && s.evr.failA) = true then [0] else []) ++ (if (b && s.evr.failB) = true then [64] else [])
        ∧ (∀ g, g < 64 → (a && s.evr.failA) = true → t.segValid g = false)
        ∧ ∀ g, 64 ≤ g → g < 128 → (b && s.evr.failB) = true → t.segValid g = false)) ∧
  (∀ (req : Req) (v : Word) (c n : Nat) (s : State), s.accepts (wrCtrl req) = true →
      c = clampN 0x300 0x3FF (bits v 9 0) → n = (min 232 (bits v 23 16) + 3) / 4 * 4 →
    ∃ t, exec (.firmwareRecord req v) s = .next t ∧ t.reg (wrCtrl req) = word (c + n * 65536) ∧
      (bit (s.bucket c).force 25 = false → bits (s.bucket c).force 7 0 = 0 ∨ 65536 ≤ (s.bucket c).tok → s.evr.queue.length < 64 →
        t.evr.queue = s.evr.queue ++ [{ code := c, stamp := s.now, payload := (List.range (n / 4)).flatMap (fun w => bytesBE 4 (s.reg (wrBuf req w)).toNat) }]))

/-- The vault's commands from the queue to their end (R406, R407): a command that fails its checks completes at once with the
code, one that passes them takes an idle engine, and its end writes OUT, OUT_LEN and STATUS and fills or stores a slot. Where the spec leaves a point open, the clauses follow
the model's choice (log entry 68). -/
def Obligations.VaultCommands : Prop :=
  (∀ p ∈ [(Instr.generate, KO.GENERATE), (.importPlain, KO.IMPORT_PLAIN), (.unwrap, KO.UNWRAP), (.wrap, KO.WRAP),
      (.derive, KO.DERIVE), (.agree, KO.AGREE), (.seal, KO.SEAL), (.kvtOpen, KO.OPEN), (.sign, KO.SIGN),
      (.verifyEcdsa, KO.VERIFY_ECDSA), (.verifyMldsa, KO.VERIFY_MLDSA), (.attest, KO.ATTEST), (.store, KO.STORE),
      (.exportPublic, KO.EXPORT_PUBLIC), (.random, KO.RANDOM), (.readCert, KO.READ_CERT)],
    ∀ (c : KvtCmd) (q l : List KvtCmd) (s : State), s.vaultNext p.2 c q l →
    (∀ e code, s.kvtCheck c = some code → s.idleEngine c = some e →
      ∃ t, exec p.1 s = .next t ∧ t.kvt = { s.kvt with queue := q ++ l } ∧ (t.byte c.addr).toNat = code % 256
        ∧ (t.byte (c.addr + 1)).toNat = code / 256 % 256 ∧ t.reg (KVT.DONE_CNT c.req) = s.reg (KVT.DONE_CNT c.req) + 1
        ∧ t.rbit (regINT_FLAG KVT.page) 0 = true) ∧
    (∀ e, s.kvtCheck c = none → s.idleEngine c = some e →
      ∃ t x, exec p.1 s = .next t ∧ t.kvt.queue = q ++ l ∧ t.kvt.flight = s.kvt.flight ++ [x] ∧ x = { s.kvtRun c with engine := e }
        ∧ x.cmd = c ∧ t.mem = s.mem ∧ t.regs = s.regs
        ∧ ∀ i, t.key i = if i = c.key ∧ p.2 = KO.SEAL ∧ (s.key i).nonceExt = false ∧ (s.kvtRun c).code = KR.OK then { s.key i with seals := (s.key i).seals + 1 }
            else s.key i)) ∧
  (∀ (engine : Fin 5) (x : KvtFlight) (s : State), s.kvt.flight.find? (fun y => y.engine = engine.val) = some x → x.store = none →
      x.cmd.addr + 64 ≤ x.cmd.f 24 8 ∨ x.cmd.f 24 8 + x.out.length ≤ x.cmd.addr →
    (x.fill = none →
      ∃ t, exec (.keyCommandDone engine) s = .next t ∧ t.kvt.slots = s.kvt.slots ∧ t.kvt.copies = s.kvt.copies
        ∧ (∀ y ∈ t.kvt.flight, y.engine ≠ engine.val) ∧ (t.byte x.cmd.addr).toNat = x.code % 256
        ∧ (t.byte (x.cmd.addr + 20)).toNat = x.out.length % 256
        ∧ (∀ (i : Nat) (h : i < x.out.length), t.byte (x.cmd.f 24 8 + i) = x.out[i])
        ∧ t.reg (KVT.DONE_CNT x.cmd.req) = s.reg (KVT.DONE_CNT x.cmd.req) + 1 ∧ t.rbit (regINT_FLAG KVT.page) 0 = true) ∧
    (∀ d k, x.fill = some (d, k) → (s.key d).st = KS.EMPTY →
      ∃ t, exec (.keyCommandDone engine) s = .next t
        ∧ t.key d = { k with st := KS.ACTIVE, gen := ((s.key d).gen + 1) % 65536 } ∧ (∀ i, i ≠ d → t.key i = s.key i)
        ∧ (t.byte x.cmd.addr).toNat = x.code % 256 ∧ t.rbit (regINT_FLAG KVT.page) 0 = true
        ∧ (k.persist = false → t.kvt.copies = s.kvt.copies)) ∧
    (∀ d k, x.fill = some (d, k) → (s.key d).st ≠ KS.EMPTY →
      ∃ t, exec (.keyCommandDone engine) s = .next t ∧ t.kvt.slots = s.kvt.slots ∧ (t.byte x.cmd.addr).toNat = KR.OCCUPIED))

/-- What each operation of the vault computes once its checks have passed (R402, R406, R409 to R412, R417): keys with the
attributes, origin, parent and depth, two shares whose XOR is the value, outputs, and codes. The algorithms are those R417 names. Where the spec leaves a point open, the clauses follow
the model's choice (log entries 28 and 68). -/
def Obligations.VaultResults : Prop :=
  ∀ (c : KvtCmd) (typ : Nat) (k : KeySlot) (kv dv input aux : List Byte) (s : State), typ = bits c.attr 7 4 → k = s.key c.key →
      kv = s.keyValue c.key → dv = s.keyValue c.dest → input = s.bytes (c.f 8 8) (c.f 16 4) → aux = s.bytes (c.f 32 8) (c.f 40 4) →
    (c.op = KO.GENERATE →
      (typ = KT.AES ∨ typ = KT.ecPrivate ∨ typ = KT.SECRET → ∃ v, v.length = keyLength typ ∧ (s.kvtRun c).makes s c 1 none v) ∧
      (typ ≠ KT.AES → typ ≠ KT.ecPrivate → typ ≠ KT.SECRET → (s.kvtRun c).fails KR.USAGE)) ∧
    (c.op = KO.IMPORT_PLAIN →
      (typ = KT.ecPublic ∨ typ = KT.mldsaDigest → input.length = keyLength typ → (s.kvtRun c).makes s c 4 none input) ∧
      (typ = KT.ecPublic ∨ typ = KT.mldsaDigest → input.length ≠ keyLength typ → (s.kvtRun c).fails KR.LENGTH)) ∧
    (c.op = KO.UNWRAP → input.length % 8 = 0 → 24 ≤ input.length → input.length ≤ 520 → 1 ≤ typ → typ ≤ 5 →
      match Config.kwUnwrap kv input with
      | none => (s.kvtRun c).fails KR.AUTH_FAIL
      | some v => if v.length = keyLength typ then (s.kvtRun c).makes s c 2 (some c.key) v else (s.kvtRun c).fails KR.LENGTH) ∧
    (c.op = KO.WRAP → dv.length % 8 = 0 → (s.kvtRun c).gives (c.f 20 4) (Config.kwWrap kv dv)) ∧
    (c.op = KO.DERIVE → typ = KT.AES ∨ typ = KT.SECRET → (saltInfo aux).1.length ≤ 128 → (saltInfo aux).2.length ≤ 256 →
      (s.kvtRun c).makes s c 3 (some c.key) (Config.hkdf kv (saltInfo aux).1 (saltInfo aux).2 (keyLength typ))) ∧
    (c.op = KO.AGREE → typ = KT.AES ∨ typ = KT.SECRET → (saltInfo input).1.length ≤ 128 → (saltInfo input).2.length ≤ 256 →
        aux.length = 97 →
      match Config.ecdh kv aux with
      | none => (s.kvtRun c).fails KR.AUTH_FAIL
      | some z => (s.kvtRun c).makes s c 3 (some c.key) (Config.hkdf z (saltInfo input).1 (saltInfo input).2 (keyLength typ))) ∧
    (c.op = KO.SEAL → input.length ≤ 2 ^ 24 →
      (k.nonceExt = false → aux.length ≤ 65536 → k.seals < 2 ^ 32 → k.fixed.length = 4 →
        (s.kvtRun c).gives (c.f 20 4) (k.fixed ++ bytesBE 8 k.seals ++ gcm kv (k.fixed ++ bytesBE 8 k.seals) input
          ++ Config.gcmTag kv (k.fixed ++ bytesBE 8 k.seals) aux (gcm kv (k.fixed ++ bytesBE 8 k.seals) input))) ∧
      (k.nonceExt = false → 2 ^ 32 ≤ k.seals → (s.kvtRun c).fails KR.LENGTH)) ∧
    (c.op = KO.OPEN → 16 ≤ input.length → input.length ≤ 2 ^ 24 → 12 ≤ aux.length → aux.length ≤ 65536 →
      if Config.gcmTag kv (aux.take 12) (aux.drop 12) (input.take (input.length - 16)) = input.drop (input.length - 16) then
        (s.kvtRun c).gives (c.f 20 4) (gcm kv (aux.take 12) (input.take (input.length - 16)))
      else (s.kvtRun c).fails KR.AUTH_FAIL) ∧
    (c.op = KO.SIGN → input.length ≤ 2 ^ 24 →
      ∃ r, (c.f 3 1 % 2 = 0 → (s.kvtRun c).gives (c.f 20 4) (Config.ecdsaSign kv (Config.sha384 input) r)) ∧
        (c.f 3 1 % 2 = 1 → input.length = 48 → (s.kvtRun c).gives (c.f 20 4) (Config.ecdsaSign kv input r))) ∧
    (c.op = KO.VERIFY_ECDSA → input.length ≤ 2 ^ 24 → aux.length = 96 → c.f 3 1 % 2 = 0 →
      if Config.ecdsaVerify kv (Config.sha384 input) aux = true then (s.kvtRun c).gives (c.f 20 4) []
      else (s.kvtRun c).fails KR.SIG_INVALID) ∧
    (c.op = KO.VERIFY_MLDSA → input.length ≤ 2 ^ 24 → 1952 ≤ aux.length →
      if Config.sha384 (aux.take 1952) ≠ kv then (s.kvtRun c).fails KR.DIGEST
      else if Config.mldsaVerify (aux.take 1952) input (aux.drop 1952) = true then (s.kvtRun c).gives (c.f 20 4) []
      else (s.kvtRun c).fails KR.SIG_INVALID) ∧
    (c.op = KO.ATTEST → aux.length = 48 → (s.kvtRun c).gives (c.f 20 4) (s.statement c.dest aux)) ∧
    (c.op = KO.STORE → (s.kvtRun c).code = KR.OK ∧ (s.kvtRun c).out = [] ∧ (s.kvtRun c).fill = none
      ∧ (s.kvtRun c).store = some c.dest) ∧
    (c.op = KO.EXPORT_PUBLIC →
      ((s.key c.dest).typ = KT.ecPrivate → (s.kvtRun c).gives (c.f 20 4) (Config.ecPublic dv)) ∧
      ((s.key c.dest).typ = KT.ecPublic → (s.kvtRun c).gives (c.f 20 4) dv)) ∧
    (c.op = KO.RANDOM → c.f 20 4 ≤ 65536 → (s.kvtRun c).code = KR.OK ∧ (s.kvtRun c).out.length = c.f 20 4) ∧
    (c.op = KO.READ_CERT →
      (s.kvt.factory = true → (s.kvtRun c).gives (c.f 20 4) Config.idevChain) ∧
      (s.kvt.factory = false → (s.kvtRun c).fails KR.EMPTY))

/-- Revocation, deletion, zeroization, reseals, masking and the entropy source (R408, R412, R413, R416, R418, R419). Where the spec leaves a point open, the clauses follow
the model's choice (log entry 68). -/
def Obligations.VaultLifecycle : Prop :=
  (∀ (req : Req) (slot : Fin 512) (s : State), slot.val ≠ 0 → s.accepts KVT.REVOKE = true →
    ∃ t, exec (.revoke req slot) s = .next t
      ∧ t.key slot = { s.key slot with st := KS.REVOKED, gen := ((s.key slot).gen + 1) % 65536, persist := false }
      ∧ (∀ i, i ≠ slot.val → t.key i = s.key i) ∧ t.keyCopy slot 0 = none ∧ t.keyCopy slot 1 = none
      ∧ t.rbit (regINT_FLAG KVT.page) 4 = true) ∧
  (∀ (req : Req) (s : State), s.accepts KVT.REVOKE = true →
    ∃ t, exec (.revoke req 0) s = .next t ∧ t.kvt = s.kvt
      ∧ t.reg (regCLAMP_CNT KVT.page) = incLow (s.reg (regCLAMP_CNT KVT.page))) ∧
  (∀ (req : Req) (slot : Fin 512) (s : State), slot.val ≠ 0 → s.accepts KVT.DELETE = true →
    ((s.key slot).st = KS.EMPTY → ∃ t, exec (.delete req slot) s = .next t ∧ t.kvt = s.kvt) ∧
    ((s.key slot).st ≠ KS.EMPTY →
      ∃ t, exec (.delete req slot) s = .next t ∧ t.key slot = { gen := (s.key slot).gen } ∧ (∀ i, i ≠ slot.val → t.key i = s.key i)
        ∧ t.keyCopy slot 0 = none ∧ t.keyCopy slot 1 = none)) ∧
  (∀ (req : Req) (s : State), s.accepts KVT.ZEROIZE = true →
    (∃ t, exec (.zeroizeVolatile req) s = .next t ∧ (∀ i, i ≠ 0 → (t.key i).st = KS.EMPTY ∧ (t.key i).gen = (s.key i).gen
        ∧ (t.key i).shareA = []) ∧ t.kvt.links = [] ∧ t.kvt.queue = [] ∧ t.kvt.flight = [] ∧ t.kvt.copies = s.kvt.copies
        ∧ t.kvt.factory = s.kvt.factory ∧ t.rbit (regINT_FLAG KVT.page) 5 = true) ∧
    (∃ t, exec (.zeroizePersistent req) s = .next t ∧ (∀ i, i ≠ 0 → (t.key i).st = KS.EMPTY ∧ (t.key i).gen = (s.key i).gen
        ∧ (t.key i).shareA = []) ∧ t.kvt.links = [] ∧ t.kvt.queue = [] ∧ t.kvt.flight = [] ∧ t.kvt.copies = []
        ∧ t.kvt.factory = s.kvt.factory ∧ t.rbit (regINT_FLAG KVT.page) 5 = true) ∧
    (∃ t, exec (.zeroizeFactory req) s = .next t ∧ (∀ i, (t.key i).st = KS.EMPTY ∧ (i ≠ 0 → (t.key i).gen = (s.key i).gen))
        ∧ t.kvt.links = [] ∧ t.kvt.queue = [] ∧ t.kvt.flight = [] ∧ t.kvt.copies = [] ∧ t.kvt.factory = false
        ∧ t.rbit (regINT_FLAG KVT.page) 5 = true)) ∧
  (∀ (req : Req) (s : State), s.accepts KVT.RESEAL = true →
    (s.kvt.reseal = false → s.kvt.state = 1 →
      ∃ t, exec (.reseal req) s = .next t ∧ t.kvt = { s.kvt with reseal := true }) ∧
    (s.kvt.reseal = true ∨ s.kvt.state ≠ 1 →
      ∃ t, exec (.reseal req) s = .next t ∧ t.kvt = s.kvt
        ∧ t.reg (regCLAMP_CNT KVT.page) = incLow (s.reg (regCLAMP_CNT KVT.page)))) ∧
  (∀ (s : State), s.kvt.reseal = true →
    ∃ t, exec .resealDone s = .next t ∧ t.kvt.epoch = s.kvt.epoch + 1 ∧ t.kvt.reseal = false ∧ (∀ i, t.key i = s.key i)
      ∧ t.rbit (regINT_FLAG KVT.page) 3 = true
      ∧ ∀ i, i < 512 → (s.key i).st = KS.ACTIVE → (s.key i).persist = true → (s.currentCopy i).isSome = true →
        ∃ c k, t.keyCopy i c = some k ∧ k.epoch = s.kvt.epoch + 1 ∧ k.slot = s.key i) ∧
  (∀ (s : State), s.domainUp 2 = true →
    ∃ t, exec .maskingPass s = .next t ∧ (∀ i, t.keyValue i = s.keyValue i) ∧ (∀ i, (t.key i).st = (s.key i).st)
      ∧ t.reg KVT.MASK_CNT = s.reg KVT.MASK_CNT + 1) ∧
  (∀ (test : Fin 2) (s : State), s.domainUp 2 = true →
    ∃ t, exec (.entropyFail test) s = .next t ∧ t.kvt = { s.kvt with entropyFailed := true }
      ∧ t.rbit (regINT_FLAG KVT.page) 1 = true ∧ t.reg KVT.ERR_CNT = incLow (s.reg KVT.ERR_CNT)) ∧
  (∀ (s : State), ∃ t, exec .entropyRecovered s = .next t ∧ t = { s with kvt := { s.kvt with entropyFailed := false } })

/-- The update engine's sessions: OPEN, CLOSE and ABORT, transfers, verification and the timeout (R431, R432, R436 to R438). Where the spec leaves a point open, the clauses follow
the model's choice (log entries 70 and 109). -/
def Obligations.UpdateSessions : Prop :=
  (∀ (req : Req) (src : Fin 4) (s : State), s.accepts UPD.SESSION = true →
    (s.upd.sess ≠ US.IDLE → ∃ t, exec (.sessionOpen req src) s = .next t ∧ s.updRefused t req UR.BUSY) ∧
    (s.upd.sess = US.IDLE → s.bootRec.trial ≠ 0 → ∃ t, exec (.sessionOpen req src) s = .next t ∧ s.updRefused t req UR.TRIAL) ∧
    (s.upd.sess = US.IDLE → s.bootRec.trial = 0 → src.val < 3 →
      ∃ t, exec (.sessionOpen req src) s = .next t ∧ t.reg UPD.RESULT = word UR.OK
        ∧ t.upd = { s.upd with sess := US.OPEN, owner := req, src := src.val, land := 0, lastAct := s.tb0s }
        ∧ ∀ a, offTrace a → t.byte a = if stagingBase ≤ a ∧ a < stagingBase + stagingSize then memReset a
            else (s.writeRec { s.bootRec with landing := 0 }).byte a)) ∧
  (∀ (req : Req) (s : State), s.accepts UPD.SESSION = true → ∀ c ∈ [Instr.sessionClose req, .sessionAbort req],
    (s.upd.sess = US.VERIFYING ∨ s.upd.sess = US.ACTIVATING → ∃ t, exec c s = .next t ∧ s.updRefused t req UR.STATE) ∧
    (s.upd.sess = US.IDLE → ∃ t, exec c s = .next t ∧ t.upd = s.updHeard req ∧ t.reg UPD.RESULT = word UR.OK) ∧
    (s.upd.sess = US.OPEN ∨ s.upd.sess = US.STAGED ∨ s.upd.sess = US.ACTIVATED →
      ∃ t, exec c s = .next t ∧ t.upd = { s.updHeard req with sess := US.IDLE, op := none } ∧ t.reg UPD.RESULT = word UR.OK
        ∧ ∀ a, offTrace a → t.byte a = s.byte a)) ∧
  (∀ (req : Req) (v : Word) (off n src m : Nat) (s : State), s.accepts UPD.XFER_CTRL = true → off = s.fld UPD.XFER_OFF 26 0 →
      n = clampN 4 (if bit v 30 = true then 2048 else 4194304) (bits v 22 0) / 4 * 4 →
      src = (s.reg64 UPD.XFER_SRC_LO UPD.XFER_SRC_HI).toNat → m = s.updLimit (s.xferBytes (min n 8) (bit v 30) src) →
    (s.upd.op ≠ none → ∃ t, exec (.xfer req v) s = .next t ∧ s.updRefused t req UR.BUSY) ∧
    (s.upd.op = none → req ≠ s.upd.owner → ∃ t, exec (.xfer req v) s = .next t ∧ s.updRefused t req UR.NOT_OWNER) ∧
    (s.upd.op = none → req = s.upd.owner → s.upd.sess ≠ US.OPEN → ∃ t, exec (.xfer req v) s = .next t ∧ s.updRefused t req UR.STATE) ∧
    (s.upd.op = none → req = s.upd.owner → s.upd.sess = US.OPEN →
      (off ≠ s.upd.land → ∃ t, exec (.xfer req v) s = .next t ∧ s.updRefused t req UR.SEQUENCE) ∧
      (off = s.upd.land → m < s.upd.land + n ∨ (bit v 30 = false ∧ inDram src n = false) →
        ∃ t, exec (.xfer req v) s = .next t ∧ s.updRefused t req UR.LENGTH) ∧
      (off = s.upd.land → s.upd.land + n ≤ m → bit v 30 = true ∨ inDram src n = true →
        ∃ t, exec (.xfer req v) s = .next t ∧ t.upd = { s.updHeard req with op := some (.xfer off n (bit v 30) src) }
          ∧ t.reg UPD.PROGRESS = 0))) ∧
  (∀ (off n src : Nat) (buf : Bool) (l : List Byte) (code : Nat) (s : State), s.upd.op = some (.xfer off n buf src) →
      l = s.xferBytes n buf src → code = (s.setBytes (stagingBase + off) (l.take (0x4000 - off))).headerCheck stagingBase →
    (¬(off < 0x4000 ∧ 0x4000 ≤ off + l.length) ∨ code = UR.OK →
      ∃ t, exec .xferDone s = .next t ∧ t.upd = { s.upd with op := none, land := off + l.length } ∧ t.reg UPD.RESULT = word UR.OK
        ∧ (∀ (i : Nat) (h : i < l.length), t.byte (stagingBase + off + i) = l[i])
        ∧ (∀ a, a < stagingBase + off ∨ stagingBase + off + l.length ≤ a → t.byte a = s.byte a)
        ∧ t.rbit (regINT_FLAG UPD.page) 1 = true
        ∧ (off < 0x4000 ∧ 0x4000 ≤ off + l.length → t.rbit (regINT_FLAG UPD.page) 0 = true)) ∧
    (off < 0x4000 → 0x4000 ≤ off + l.length → code ≠ UR.OK →
      ∃ t, exec .xferDone s = .next t ∧ t.upd = { s.upd with op := none, sess := US.IDLE } ∧ t.reg UPD.RESULT = word code
        ∧ t.rbit (regINT_FLAG UPD.page) 0 = true ∧ t.rbit (regINT_FLAG UPD.page) 1 = true)) ∧
  (∀ (req : Req) (s : State), s.accepts UPD.CMD = true →
    (req ≠ s.upd.owner → ∃ t, exec (.verify req) s = .next t ∧ s.updRefused t req UR.NOT_OWNER) ∧
    (req = s.upd.owner → s.upd.sess ≠ US.OPEN ∨ s.upd.land ≠ 0x4000 + s.imgLen stagingBase →
      ∃ t, exec (.verify req) s = .next t ∧ s.updRefused t req UR.STATE) ∧
    (req = s.upd.owner → s.upd.sess = US.OPEN → s.upd.land = 0x4000 + s.imgLen stagingBase → s.upd.op ≠ none →
      ∃ t, exec (.verify req) s = .next t ∧ s.updRefused t req UR.BUSY) ∧
    (s.upd.op = none → req = s.upd.owner → s.upd.sess = US.OPEN → s.upd.land = 0x4000 + s.imgLen stagingBase →
      ∃ t, exec (.verify req) s = .next t ∧ t.upd = { s.updHeard req with sess := US.VERIFYING, op := some .verify }
        ∧ t.reg UPD.PROGRESS = 0)) ∧
  (∀ (s : State), s.upd.op = some .verify →
    ∃ t, exec .verifyDone s = .next t ∧ t.reg UPD.RESULT = word (s.imageCheck stagingBase)
      ∧ t.rbit (regINT_FLAG UPD.page) 2 = true
      ∧ (s.imageCheck stagingBase = UR.OK → t.upd = { s.upd with op := none, sess := US.STAGED }
        ∧ ∀ a, t.byte a =
            (s.writeRec { s.bootRec with landing := s.imgKind stagingBase, landVer := s.imgVersion stagingBase }).byte a)
      ∧ (s.imageCheck stagingBase ≠ UR.OK → t.upd = { s.upd with op := none, sess := US.IDLE } ∧ ∀ a, t.byte a = s.byte a)) ∧
  (∀ (s : State),
    (s.upd.sess = US.OPEN ∨ s.upd.sess = US.STAGED → s.upd.lastAct + s.fld UPD.SESS_TO 11 0 ≤ s.tb0s →
      ∃ t, exec .sessionTimeout s = .next t ∧ t.upd = { s.upd with sess := US.IDLE, op := none }
        ∧ t.rbit (regINT_FLAG UPD.page) 7 = true ∧ t.bootRec = s.bootRec) ∧
    (s.upd.sess ≠ US.OPEN → s.upd.sess ≠ US.STAGED → exec .sessionTimeout s = .next s) ∧
    (s.tb0s < s.upd.lastAct + s.fld UPD.SESS_TO 11 0 → exec .sessionTimeout s = .next s))

/-- Activation, the trial and its end: ACTIVATE, CONFIRM, FALLBACK, MIG_DONE and the window (R431, R433 to R435, R427). Where the spec leaves a point open, the clauses follow
the model's choice (log entries 70 and 109). -/
def Obligations.UpdateActivation : Prop :=
  (∀ (req : Req) (idle : Bool) (s : State), s.accepts UPD.CMD = true → idle = decide (s.upd.sess = US.IDLE) →
    (s.upd.sess = US.STAGED → req ≠ s.upd.owner →
      ∃ t, exec (.activate req) s = .next t ∧ s.updRefused t req UR.NOT_OWNER) ∧
    (s.upd.sess ≠ US.STAGED → s.upd.sess ≠ US.IDLE ∨ s.bootRec.landing = 0 →
      ∃ t, exec (.activate req) s = .next t ∧ s.updRefused t req UR.STATE) ∧
    ((s.upd.sess = US.STAGED ∧ req = s.upd.owner) ∨ (s.upd.sess = US.IDLE ∧ s.bootRec.landing ≠ 0) →
      (s.bootRec.trial ≠ 0 → ∃ t, exec (.activate req) s = .next t ∧ s.updRefused t req UR.TRIAL) ∧
      (s.bootRec.trial = 0 → s.twn.role = .active ∧ s.paired = true →
        ∃ t, exec (.activate req) s = .next t ∧ s.updRefused t req UR.TWIN) ∧
      (s.bootRec.trial = 0 → s.twn.role ≠ .active ∨ s.paired = false →
        (s.imgKind stagingBase = 1 → s.imgSchema stagingBase < s.imgSchema (bankBase s.bootRec.active) →
          ∃ t, exec (.activate req) s = .next t ∧ s.updRefused t req UR.SCHEMA) ∧
        (s.imgKind stagingBase ≠ 1 ∨ s.imgSchema (bankBase s.bootRec.active) ≤ s.imgSchema stagingBase →
          ∃ t, exec (.activate req) s = .next t ∧ t.reg UPD.PROGRESS = 0
            ∧ t.upd = { s.updHeard req with sess := US.ACTIVATING, owner := req, op := some (.activate idle) }
            ∧ ∀ a, offTrace a → t.byte a = if idle = false ∨ s.imageCheck stagingBase = UR.OK then
                (s.eraseMem s.actBase s.actSize).byte a else s.byte a)))) ∧
  (∀ (idle flashOk : Bool) (pre kind tgt base n code : Nat) (c : State) (s : State), s.upd.op = some (.activate idle) →
      pre = (if idle = true then s.imageCheck stagingBase else UR.OK) → kind = s.imgKind stagingBase →
      tgt = 1 - (if kind = 1 then s.bootRec.active else s.bootRec.mpSlot) → base = (if kind = 1 then bankBase tgt else mpBase tgt) →
      n = 0x4000 + s.imgLen stagingBase →
      c = (s.eraseMem base (if kind = 1 then 0x8000000 else 0x100000)).setBytes base (s.bytes stagingBase n) →
      code = (if pre ≠ UR.OK then pre else if flashOk = false then UR.FLASH
        else if c.imageCheck base ≠ UR.OK then c.imageCheck base
        else if kind = 1 ∧ c.fslGood base = false then UR.DIGEST else UR.OK) →
    ∃ t, exec (.activateDone flashOk) s = .next t ∧ t.reg UPD.RESULT = word code ∧ t.rbit (regINT_FLAG UPD.page) 3 = true
      ∧ (code = UR.OK → t.upd = { s.upd with op := none, sess := US.ACTIVATED }
        ∧ ∀ a, t.byte a = (c.writeRec (if kind = 1 then
            (({ s.bootRec with trial := kind, boots := 0, landing := 0 } : BootRec).setVer tgt (s.imgVersion stagingBase)).setCfg tgt
              (1 - s.bootRec.cfgOf s.bootRec.active)
            else ({ s.bootRec with trial := kind, boots := 0, landing := 0 } : BootRec).setMpVer tgt (s.imgVersion stagingBase))).byte a)
      ∧ (code ≠ UR.OK → t.upd = { s.upd with op := none, sess := US.IDLE }
        ∧ ∀ a, t.byte a = if pre = UR.OK then c.byte a else s.byte a)) ∧
  (∀ (req : Req) (key : BitVec 16) (r : BootRec) (ok : Bool) (s : State), s.accepts UPD.CMD = true → r = s.bootRec →
      ok = ((r.trial = 1 && s.upd.migDone) || (r.trial = 2 && s.rbit (regSTAT MTR.page) 1)) →
    (key ≠ 0xC0F1 → ∃ t, exec (.confirm req key) s = .next t ∧ s.updRefused t req UR.KEY) ∧
    (key = 0xC0F1 → ok = false → ∃ t, exec (.confirm req key) s = .next t ∧ s.updRefused t req UR.STATE) ∧
    (key = 0xC0F1 → ok = true →
      ∀ r' : BootRec, r' = (if r.trial = 1 then { r with trial := 0, boots := 0, active := 1 - r.active }
          else { r with trial := 0, boots := 0, mpSlot := 1 - r.mpSlot } : BootRec).setFallback false →
      ∃ t, exec (.confirm req key) s = .next t ∧ (∀ a, offTrace a → t.byte a = (s.writeRec r').byte a)
        ∧ t.upd.window = none ∧ t.reg UPD.RESULT = word UR.OK ∧ t.rbit (regINT_FLAG UPD.page) 6 = true
        ∧ t.upd.fuse1 = (if r.trial = 1 then max s.upd.fuse1 (min (s.imgSvn (bankBase r'.active)) 64) else s.upd.fuse1)
        ∧ t.upd.fuse2 = if r.trial = 1 then s.upd.fuse2 else max s.upd.fuse2 (min (s.imgSvn (mpBase r'.mpSlot)) 32))) ∧
  (∀ (req : Req) (key : BitVec 16) (s : State), s.accepts UPD.CMD = true →
    (key ≠ 0xC0F1 → ∃ t, exec (.fallback req key) s = .next t ∧ s.updRefused t req UR.KEY) ∧
    (key = 0xC0F1 → s.bootRec.trial = 0 → ∃ t, exec (.fallback req key) s = .next t ∧ s.updRefused t req UR.STATE) ∧
    (key = 0xC0F1 → s.bootRec.trial ≠ 0 → s.kvt.queue = [] → s.kvt.flight = [] →
      ∃ t, exec (.fallback req key) s = .next t ∧ t.pwr.pd3Released = false ∧ t.rbit SYS.RST_CAUSE 2 = true
        ∧ t.upd = { fuse1 := s.upd.fuse1, fuse2 := s.upd.fuse2 }
        ∧ ∀ a, offTrace a → t.byte a = (s.writeRec (({ s.bootRec with trial := 0 } : BootRec).setFallback true)).byte a)) ∧
  (∀ (req : Req) (b : Nat) (s : State), s.accepts UPD.CMD = true → b = areaBase (s.bootRec.cfgOf (1 - s.bootRec.active)) →
      ∀ ok, ok = (s.bootRec.trial = 1 && s.memBE b 4 = 0x43464701 && s.memBE (b + 6) 1 = 2
        && s.memBE (b + 4) 2 = s.imgSchema (bankBase (1 - s.bootRec.active)) && s.memBE (b + 28) 4 = crc32 (s.bytes b 28)) →
    (ok = true → ∃ t, exec (.migDone req) s = .next t ∧ t.upd = { s.updHeard req with migDone := true } ∧ t.reg UPD.RESULT = word UR.OK) ∧
    (ok = false → ∃ t, exec (.migDone req) s = .next t ∧ s.updRefused t req UR.STATE)) ∧
  (∀ (w : Nat) (s : State), s.upd.window = some w →
    (840 ≤ s.tb0s - w → s.upd.warned = false →
      ∃ t, exec .windowWarn s = .next t ∧ t.upd = { s.upd with warned := true } ∧ t.rbit (regINT_FLAG UPD.page) 5 = true) ∧
    (s.tb0s - w < 840 ∨ s.upd.warned = true → exec .windowWarn s = .next s) ∧
    (900 ≤ s.tb0s - w → s.kvt.queue = [] → s.kvt.flight = [] →
      ∃ t, exec .windowExpiry s = .next t ∧ t.pwr.pd3Released = false ∧ t.rbit SYS.RST_CAUSE 2 = true
        ∧ t.upd = { fuse1 := s.upd.fuse1, fuse2 := s.upd.fuse2 }
        ∧ ∀ a, t.byte a = (s.writeRec (({ s.bootRec with trial := 0 } : BootRec).setFallback true)).byte a) ∧
    (s.tb0s - w < 900 → exec .windowExpiry s = .next s))

/-- Twin roles: entry to HUNT, ACTIVE without a partner, the link, the reference, demotion, rearming and the ACLK trim (R441, R442,
R447, R448, R456, R457, R461, R465). Where the spec leaves a point open, the clauses follow
the model's choice (log entries 71 and 110). -/
def Obligations.TwinRoles : Prop :=
  (∀ (req : Req) (s : State), s.accepts (regCTRL TWN.page) = true → s.twn.role = .solo → s.domainUp 9 = true →
    ∃ t, exec (.twinEnable req) s = .next t ∧ t.rbit (regCTRL TWN.page) 0 = true
      ∧ (s.pwr.twinPresent = true → t.twn = { s.twn.fresh with role := .hunt })
      ∧ (s.pwr.twinPresent = false → t.twn = s.twn)) ∧
  (∀ (s : State), s.twn.role = .hunt →
    (s.nextCnt < 2 ^ 31 → ∃ t, exec .huntTimeout s = .next t ∧ t.twn = { s.twn with role := .active }
      ∧ ∀ a, t.byte a = (s.storeClaim s.nextCnt).byte a) ∧
    (2 ^ 31 ≤ s.nextCnt → ∃ t, exec .huntTimeout s = .next t ∧ t.twn = s.twn ∧ t.rbit (regINT_FLAG TWN.page) 8 = true)) ∧
  (∀ (s : State), s.domainUp 9 = true → s.rbit (regCTRL TWN.page) 0 = true → s.pwr.twinPresent = true → s.twn.link = false →
    ∃ t, exec .twinLinkUp s = .next t ∧ t.twn.link = true ∧ t.rbit (regINT_FLAG TWN.page) 0 = true
      ∧ (s.twn.role ≠ .demoted → t.twn = { s.twn with link := true, rxSeq := [], broken := 0 })
      ∧ (s.twn.role = .demoted → t.twn.role = .pairing)) ∧
  (∀ (w : Twn) (s : State), w = { s.twn with link := false, ref := false, alive := decide (s.twn.role = .standby) && s.twn.alive } →
    ((s.twn.role ≠ .standby ∧ s.twn.role ≠ .pairing) ∨ (s.twn.role = .standby ∧ s.rbit TWN.CFG 16 = true) →
      ∃ t, exec .twinLinkDown s = .next t ∧ t.twn = w) ∧
    (s.twn.role = .pairing ∨ (s.twn.role = .standby ∧ s.rbit TWN.CFG 16 = false) →
      ∃ t, exec .twinLinkDown s = .next t ∧ t.twn = { w.fresh with role := .hunt })) ∧
  (∀ (s : State),
    (s.twn.role ≠ .standby ∨ s.rbit TWN.CFG 16 = true →
      ∃ t, exec .referenceLoss s = .next t ∧ t = { s with twn := { s.twn with ref := false } }) ∧
    (s.twn.role = .standby → s.rbit TWN.CFG 16 = false →
      ∃ t, exec .referenceLoss s = .next t ∧ t.twn = { ({ s.twn with ref := false } : Twn).fresh with role := .hunt })) ∧
  (∀ (n : Fin 13) (s : State), s.twn.role = .active → s.twn.link = false → s.pwr.twinPresent = true →
      s.rbit (STL.BRD_STAT n) 14 = true ∨ s.twoLost = true →
    ∃ t, exec .demote s = .next t ∧ t.twn = { s.twn with role := .demoted } ∧ t.rbit (regINT_FLAG TWN.page) 3 = true) ∧
  (∀ (req : Req) (s : State), s.accepts TWN.REARM = true →
    (s.twn.role = .suspect → ∃ t, exec (.twinRearm req) s = .next t ∧ t.twn.role = .pairing ∧ t.twn.ref = true
      ∧ t.twn.link = s.twn.link ∧ t.twn.aligned = none ∧ t.now = 0) ∧
    (s.twn.role ≠ .suspect → ∃ t, exec (.twinRearm req) s = .next t ∧ t.twn = s.twn ∧ t.now = s.now)) ∧
  (∀ (lat : BitVec 16) (want new : Int) (s : State), s.twn.role = .pairing ∨ s.twn.role = .standby →
      new = (if s.twn.aligned = none then clampI (-160) 160 want
        else clampI (sbits (s.reg TWN.LAT) 31 16 - 1) (sbits (s.reg TWN.LAT) 31 16 + 1) (clampI (-160) 160 want)) →
    ∃ t, exec (.aclkTrim lat want) s = .next t ∧ t.reg TWN.LAT = word (lat.toNat + unsigned 16 new * 65536)
      ∧ t.twn = s.twn ∧ ∀ a, a ≠ TWN.LAT → t.reg a = s.reg a)
/-- Frames of the twin link, taken in their turn: PAIR, CONTROL, switched frames, image bytes, journal entries and heartbeats, and
the heartbeat a module sends or misses (R443 to R446, R448, R450, R451, R453, R455, R462, R472). Where the spec leaves a point open, the clauses follow
the model's choice (log entries 71 and 101). -/
def Obligations.TwinFrames : Prop :=
  (∀ (h : TwinHead) (p : PairFrame) (s : State), s.hears 1 h → p.ver ≠ 1 →
    ∃ t, exec (.pairReceive h p) s = .next t ∧ t.rbit (regINT_FLAG TWN.page) 7 = true
      ∧ (s.twn.role ≠ .pairing → t.twn = s.twn.after 1 h)
      ∧ (s.twn.role = .pairing → t.twn = { (s.twn.after 1 h).fresh with role := .hunt })) ∧
  (∀ (h : TwinHead) (p : PairFrame) (s : State), s.hears 1 h → p.ver = 1 → s.twn.role = .pairing ∨ s.twn.role = .active → p.sig = none →
    ∃ t own l q r, exec (.pairReceive h p) s = .next t ∧ t.twn.peerPair = some p ∧ t.twn.keyed = false ∧ t.twn.ownPair = some own
      ∧ t.sent = l ++ [.pairFrame q { own with sig := some (Config.ecdsaSign Config.idevKey (Config.sha384 (s.pairBodies own p)) r) }]
      ∧ (s.twn.role = .pairing → s.twn.ownPair.isSome = true → s.twn.ownPair = some own ∧ l = s.sent)) ∧
  (∀ (h : TwinHead) (p own peer : PairFrame) (g : List Byte) (s : State), s.hears 1 h → p.ver = 1 →
      s.twn.role = .pairing ∨ s.twn.role = .active → p.sig = some g → s.twn.ownPair = some own → s.twn.peerPair = some peer →
    ∃ t, exec (.pairReceive h p) s = .next t
      ∧ (∀ pk z, Config.chainKey peer.chain = some pk → Config.ecdsaVerify pk (Config.sha384 (s.pairBodies own peer)) g = true →
          Config.ecdh s.twn.priv peer.pub = some z →
        t.twn.keyed = true ∧ t.twn.priv = [] ∧ (t.key 12).st = KS.EMPTY ∧ ∀ i, 8 ≤ i → i < 12 → (t.key i).st = KS.ACTIVE)
      ∧ (∀ pk, Config.chainKey peer.chain = some pk → Config.ecdsaVerify pk (Config.sha384 (s.pairBodies own peer)) g = false →
        t = s.modTwn (fun w => w.after 1 h))) ∧
  (∀ (h : TwinHead) (c : ControlFrame) (s : State), s.hears 1 h →
    ∃ t, exec (.controlReceive h c) s = .next t
      ∧ (∀ b, c = .align b → s.twn.role = .pairing → t.twn = { s.twn.after 1 h with alignAt := some b })
      ∧ (∀ b r, c = .handover b r → s.twn.role = .standby → t.twn = { s.twn.after 1 h with handover := some b, ret := r })
      ∧ (c = .yarderRequest → s.twn.role = .active → t.twn = { s.twn.after 1 h with yardAsked := true })
      ∧ (∀ e k, c = .txEntry e → e.length = 32 → s.twn.role = .pairing ∨ s.twn.role = .standby ∨ s.twn.role = .suspect →
          s.txjFind (natBE (e.take 8)) (natBE ((e.drop 8).take 8)) = some k → t.mem = (s.setBytes (txjAddr k) e).mem ∧ t.ksp = s.ksp)
      ∧ (∀ e, c = .txEntry e → e.length = 32 → s.twn.role = .pairing ∨ s.twn.role = .standby ∨ s.twn.role = .suspect →
          s.txjFind (natBE (e.take 8)) (natBE ((e.drop 8).take 8)) = none →
        t.mem = (s.setBytes (txjAddr s.ksp.head) e).mem ∧ t.ksp.head = (s.ksp.head + 1) % 1024)) ∧
  (∀ (h : TwinHead) (b : List Byte) (s : State), s.hears 1 h →
    (frameField b 12 2 = 0x8100 → frameField b 14 2 % 4096 = s.fld SWX.VID_TWIN 11 0 →
      s.storedBytes PORT.TWIN + (b.take 12 ++ b.drop 16).length ≤ 65536 →
      ∃ t x, exec (.switchFrameReceive h b) s = .next t ∧ t.stored PORT.TWIN = s.stored PORT.TWIN ++ [x]
        ∧ x.data = b.take 12 ++ b.drop 16 ∧ x.egress = PORT.HOST ∧ x.cls = 3) ∧
    (frameField b 12 2 ≠ 0x8100 ∨ frameField b 14 2 % 4096 ≠ s.fld SWX.VID_TWIN 11 0 →
      ∃ t, exec (.switchFrameReceive h b) s = .next t ∧ t.swx = s.swx ∧ t.reg SWX.DROP_CNT = incLow (s.reg SWX.DROP_CNT))) ∧
  (∀ (h : TwinHead) (off : BitVec 27) (bytes : List Byte) (s : State), s.hears 1 h → s.upd.sess = US.OPEN → s.upd.src = 2 →
      s.upd.op = none → off.toNat = s.upd.land → bytes ≠ [] → off.toNat + bytes.length ≤ s.updLimit bytes →
      ¬(off.toNat < 0x4000 ∧ 0x4000 ≤ off.toNat + bytes.length) →
    ∃ t, exec (.imageReceive h off bytes) s = .next t ∧ t.upd = { s.upd with land := off.toNat + bytes.length, lastAct := s.tb0s }
      ∧ t.reg UPD.PROGRESS = word bytes.length ∧ t.rbit (regINT_FLAG UPD.page) 1 = true
      ∧ ∀ a, t.byte a = (s.setBytes (stagingBase + off.toNat) bytes).byte a) ∧
  (∀ (h : TwinHead) (e : JournalEntry) (w : Twn) (s : State), s.hears 1 h → w = { s.twn.after 1 h with jseqRx := e.jseq } →
      s.twn.role = .standby ∨ s.twn.role = .suspect ∨ (s.twn.role = .pairing ∧ s.twn.aligned.isSome = true) →
    (s.twn.jseqRx = 0 ∨ e.jseq = s.twn.jseqRx + 1 →
      ∃ t, exec (.journalReceive h e) s = .next t
        ∧ t = ((({ s with twn := w } : State).setReg TWN.JSEQ (word e.jseq)).applyEntry e).1) ∧
    (s.twn.jseqRx ≠ 0 → e.jseq ≠ s.twn.jseqRx + 1 →
      ∃ t, exec (.journalReceive h e) s = .next t ∧ t = { s with twn := { s.twn.after 1 h with gap := true } })) ∧
  (∀ (s : State), s.twn.role ≠ .solo → s.domainUp 9 = true → s.twn.link = true → s.twn.load = [] → s.twn.held = [] →
      s.twn.handover = none →
    ∃ t, exec .heartbeatSend s = .next t
      ∧ t.sent = s.sent ++ [.twinFrame 0 ((s.keepDigest (s.now - 1)).twinBytes 0 1 (s.now - 1) ((s.keepDigest (s.now - 1)).hbBody (s.now - 1)))]
      ∧ t.ownDigest (s.now - 1) = some (s.digest (s.now - 1)) ∧ t.regs = s.regs) ∧
  (∀ (h : TwinHead) (n : Stamp) (b : Heartbeat) (w : Twn) (s : State), s.hears 0 h →
      w = { s.twn.after 0 h with heard := n, alive := true, missed := 0, peerRole := b.role, peerFlags := b.flags } →
    ∃ t, exec (.heartbeatReceive h n b) s = .next t ∧ t.reg TWN.PEER_CLAIM = b.claim
      ∧ (s.twn.role = .hunt → b.role = 3 → t.twn.role = .pairing ∧ t.twn.peerRole = 3)
      ∧ (s.twn.role = .hunt → b.role = 1 → b.meterLast.toNat < s.mtr.restoredLast.toNat ∨ (b.meterLast = s.mtr.restoredLast ∧ s.pwr.slotB = false) →
          (s.setReg TWN.PEER_CLAIM b.claim).nextCnt < 2 ^ 31 → t.twn = { w with role := .active })
      ∧ (s.twn.role = .hunt → b.role = 1 → s.mtr.restoredLast.toNat < b.meterLast.toNat ∨ (b.meterLast = s.mtr.restoredLast ∧ s.pwr.slotB = true) →
          t.twn = w)
      ∧ (s.twn.role = .standby → s.ownDigest n = some b.digest.toNat → t.twn = w)
      ∧ (s.twn.role = .active → t.twn = w ∧ (b.role = 4 → s.twn.peerRole ≠ 4 → t.rbit (regINT_FLAG TWN.page) 1 = true))) ∧
  (∀ (s : State), s.twn.alive = true → s.twn.heard.toNat + 2 < s.now.toNat → s.twn.role ≠ .solo →
    ∃ t, exec .heartbeatDue s = .next t ∧ t.twn = { s.twn with missed := s.twn.missed + 1 }
      ∧ t.reg TWN.CNT_B = incHigh (s.reg TWN.CNT_B))
/-- Epochs and the alignment: what the active sends at a boundary, and what a module that pairs or follows takes (R448, R452, R453,
R456). Where the spec leaves a point open, the clauses follow
the model's choice (log entries 71 and 110). -/
def Obligations.TwinEpochs : Prop :=
  (∀ (b : Stamp) (s : State), s.twn.role = .active → s.twn.link = true → s.domainUp 9 = true →
      b = stamp (cycleOf s.now) (angleOf s.now / 8 * 8) →
    ∃ t, exec .loopEpochSend s = .next t ∧ t.reg TWN.LEPOCH = shortOf b
      ∧ t.sent = s.sent ++ [.loopEpoch (s.twinSeq 0) (s.loopEpoch b)]
          ++ (if s.twn.keyed = true ∧ s.twn.peerRole = 2 then [.controlFrame (s.twinSeq 1) (.align b)] else [])) ∧
  (∀ (h : TwinHead) (e : LoopEpoch) (s : State), s.domainUp 9 = true → h.good = true → s.twn.role = .standby ∨ s.twn.role = .suspect →
    ∃ t, exec (.loopEpochReceive h e true) s = .next t ∧ t.reg TWN.LEPOCH = shortOf e.at_ ∧ t.twn.epoch = some e
      ∧ t.twn.whole = min (s.twn.whole + 1) 64 ∧ t.twn.torn = 0
      ∧ t.twn.load = (if s.twn.role = .standby then s.differing e else []) ∧ t.twn.role = s.twn.role) ∧
  (∀ (h : TwinHead) (e : LoopEpoch) (complete : Bool) (s : State), s.domainUp 9 = true → complete = false ∨ h.good = false →
    (s.twn.role = .pairing ∨ s.twn.role = .suspect ∨ (s.twn.role = .standby ∧ s.twn.torn + 1 < 64) →
      ∃ t, exec (.loopEpochReceive h e complete) s = .next t ∧ t.rbit (regINT_FLAG TWN.page) 5 = true
        ∧ t.reg TWN.CNT_B = incLow (s.reg TWN.CNT_B) ∧ t.twn.whole = 0 ∧ t.twn.torn = s.twn.torn + 1 ∧ t.twn.role = s.twn.role
        ∧ t.twn.epoch = s.twn.epoch) ∧
    (s.twn.role = .standby → 64 ≤ s.twn.torn + 1 →
      ∃ t, exec (.loopEpochReceive h e complete) s = .next t ∧ t.twn.role = .hunt ∧ t.twn.whole = 0)) ∧
  (∀ (h : TwinHead) (slot : List Byte) (s : State), s.hears 1 h → s.twn.role = .standby → slot.length = 2048 →
    ∃ t, exec (.meterEpochReceive h slot) s = .next t ∧ t.mtr.billing = setOfSlot slot
      ∧ t.mtr.due = some { set := setOfSlot slot, last := BitVec.ofNat 64 (natBE ((slot.drop 8).take 8)) }
      ∧ (s.mtr.snap = none → t.mtr.test = setOfSlot slot)
      ∧ t.twn = { s.twn.after 1 h with meterSeen := true, mseq := natBE ((slot.drop 4).take 4)
                                       meterAt := BitVec.ofNat 64 (natBE ((slot.drop 8).take 8)) }) ∧
  (∀ (s : State), s.twn.role = .active → s.twn.link = true → s.domainUp 9 = true → angleOf s.now = 0 →
    ∃ t, exec .yarderEpochSend s = .next t ∧ t.yrd = { s.yrd with newEvents := [], newReports := [] } ∧ t.twn.yardAsked = false
      ∧ t.sent = s.sent ++ [.yarderEpoch (s.twinSeq 1) (cycleOf s.now) s.yrd.newEvents s.yrd.newReports]
          ++ (if s.twn.yardAsked = true then [.yarderState ((s.twinSeq 1 + 1) % 2 ^ 32) t.yrd s.sch] else [])) ∧
  (∀ (h : TwinHead) (c : Nat) (ev : List LampEvent) (rp : List MacReport) (s : State), s.hears 1 h → s.twn.role = .standby →
    (∀ u, u = ({ s with twn := s.twn.after 1 h, yrd := { s.yrd with events := s.yrd.events ++ ev, reports := s.yrd.reports ++ rp } } : State) →
      ∃ t, exec (.yarderEpochReceive h c ev rp true) s = .next t
        ∧ (s.twn.inStep = true → t.yrd = (u.yarderPass c).yrd)
        ∧ (s.twn.inStep = false → t.yrd = u.yrd
            ∧ t.sent = s.sent ++ (if s.twn.yardSeen = true then [] else [.controlFrame (s.twinSeq 1) .yarderRequest]))
        ∧ t.twn.yardSeen = true) ∧
    (∃ t, exec (.yarderEpochReceive h c ev rp false) s = .next t ∧ t.twn.inStep = false ∧ t.yrd = s.yrd
      ∧ t.sent = s.sent ++ [.controlFrame (s.twinSeq 1) .yarderRequest])) ∧
  (∀ (h : TwinHead) (y : Yrd) (c : Sch) (s : State), s.hears 1 h → s.twn.role = .pairing ∨ s.twn.role = .standby →
    ∃ t, exec (.yarderResync h y c) s = .next t ∧ t.yrd = y ∧ t.sch = c ∧ t.twn = { s.twn.after 1 h with inStep := true }) ∧
  (∀ (slip : BitVec 12) (b : Stamp) (e : LoopEpoch) (s : State), s.twn.role = .pairing → s.twn.alignAt = some b → s.twn.epoch = some e →
      e.at_ = b → s.twn.aligned = none →
    ∃ t, exec (.alignmentStep slip) s = .next t ∧ t.now = e.at_ + BitVec.ofNat 64 slip.toNat
      ∧ t.twn = { s.twn with aligned := some (e.at_ + BitVec.ofNat 64 slip.toNat), load := [] }
      ∧ (∀ r, r < 52 → t.loop r = Tab.get (fun _ => ({} : Loop)) e.loops r)
      ∧ t.mfe = e.mfe ∧ t.chs = e.chs ∧ t.axe = { s.axe with srcs := e.latches } ∧ t.rct.integ = e.integ ∧ t.rct.lockCount = e.lockCount)
/-- Takeover, handover and drill: who decides and when, what the boundary of a takeover sets, and how a drill hands back (R457, R459,
R460, R462, R465). Where the spec leaves a point open, the clauses follow
the model's choice (log entry 110). -/
def Obligations.TwinTakeover : Prop :=
  (∀ (c : Fin 5) (s : State), s.twn.role ≠ .solo → s.twn.role ≠ .active → s.causeHolds c = true → s.twn.decided = none →
    (s.nextCnt < 2 ^ 31 →
      ∃ t, exec (.takeoverDecision c) s = .next t ∧ t.rbit (regINT_FLAG TWN.page) 2 = true
        ∧ t.reg TWN.CNT_A = incLow (s.reg TWN.CNT_A)
        ∧ t.twn = { s.twn with decided := some (if s.twinEligible = true then c.val else 5,
            if c.val = 3 then s.twn.handover.getD s.now else nextMult 8 s.now) }) ∧
    (2 ^ 31 ≤ s.nextCnt → ∃ t, exec (.takeoverDecision c) s = .next t ∧ t.twn = s.twn ∧ t.rbit (regINT_FLAG TWN.page) 8 = true)) ∧
  (∀ (c : Nat) (b : Stamp) (s : State), s.twn.decided = some (c, b) → b.toNat ≤ s.now.toNat →
    ∃ t, exec .takeover s = .next t ∧ t.twn.role = .active ∧ t.twn.decided = none ∧ t.twn.load = [] ∧ t.twn.pulseAt = some (b + 64)
      ∧ t.twn.feedAt = stamp (cycleOf b + 1) 0 ∧ t.reg64 TWN.LAST_TO_LO TWN.LAST_TO_HI = b
      ∧ (c = 5 → ∀ k, k < 48 → t.chState k = CH.OFF)
      ∧ (c ≠ 5 → ∀ e n, s.twn.epoch = some e → n < 13 → Tab.get (fun _ => 0) e.links n = LINK.LINKED → t.linkState n = LINK.LINKED)) ∧
  (∀ (b : Stamp) (s : State), s.twn.pulseAt = some b →
    (b.toNat ≤ s.now.toNat → ∃ t, exec .pulseResume s = .next t ∧ t = { s with twn := { s.twn with pulseAt := none } }) ∧
    (s.now.toNat < b.toNat → exec .pulseResume s = .next s)) ∧
  (∀ (req : Req) (key : BitVec 16) (s : State), s.accepts TWN.HANDOVER = true →
    (key.toNat = 0x7A4E → s.twn.role = .active → s.peerEligible = true → s.twn.handover = none →
      ∃ t, exec (.handover req key) s = .next t
        ∧ t.sent = s.sent ++ [.controlFrame (s.twinSeq 1) (.handover (nextMult 8 s.now) 0)]
        ∧ t.twn.handover = some (nextMult 8 s.now) ∧ t.twn.named = true ∧ t.twn.drill = false ∧ t.twn.ret = 0) ∧
    (key.toNat ≠ 0x7A4E ∨ s.twn.role ≠ .active ∨ s.peerEligible = false ∨ s.twn.handover.isSome = true →
      ∃ t, exec (.handover req key) s = .next t ∧ t.twn = s.twn ∧ t.sent = s.sent)) ∧
  (∀ (req : Req) (hi : Word) (at_ b : Stamp) (s : State), s.accepts TWN.DRILL_AT_HI = true → s.twn.role = .active →
      s.peerEligible = true → s.twn.handover = none → at_ = join64 hi (s.stagedLow req TWN.DRILL_AT_LO) →
      b = (if at_.toNat ≤ s.now.toNat then nextMult 8 s.now else roundUp 8 at_) →
    ∃ t, exec (.drillArm req hi) s = .next t ∧ t.reg64 TWN.DRILL_AT_LO TWN.DRILL_AT_HI = at_
      ∧ t.twn = { s.twn with handover := some b, named := false, drill := true, ret := s.fld TWN.DRILL_CTRL 15 0 }) ∧
  (∀ (req : Req) (ret : BitVec 16) (b : Stamp) (s : State), s.accepts TWN.DRILL_CTRL = true → s.twn.drill = true →
      s.twn.handover = some b →
    (s.twn.named = false → ∃ t, exec (.drillCancel req ret) s = .next t
      ∧ t.twn = { s.twn with handover := none, drill := false, ret := 0 } ∧ t.fld TWN.DRILL_CTRL 15 0 = ret.toNat) ∧
    (s.twn.named = true → ∃ t, exec (.drillCancel req ret) s = .next t ∧ t.twn = s.twn)) ∧
  (∀ (b : Stamp) (s : State), s.twn.role = .active → s.twn.named = true → s.twn.handover = some b → b.toNat ≤ s.now.toNat →
    ∃ t, exec .handoverExecute s = .next t ∧ t.twn.role = .standby ∧ t.twn.handover = none ∧ t.twn.aligned = some s.now
      ∧ t.twn.inStep = true ∧ t.twn.whole = 0 ∧ t.twn.meterSeen = false
      ∧ t.twn.returnAt = (if s.twn.drill = true ∧ s.twn.ret ≠ 0 then some (stamp (cycleOf b + s.twn.ret) 0) else none)
      ∧ (s.twn.drill = true → s.twn.ret = 0 → t.rbit (regINT_FLAG TWN.page) 6 = true)) ∧
  (∀ (b : Stamp) (s : State), s.twn.role = .standby → s.twn.returnAt = some b → b.toNat ≤ s.now.toNat → s.nextCnt < 2 ^ 31 →
    ∃ t, exec .drillReturn s = .next t ∧ t.rbit (regINT_FLAG TWN.page) 6 = true
      ∧ t.twn = { s.twn with returnAt := none, drill := false, ret := 0
                             decided := some (if s.twinEligible = true then 3 else 5, b) })

/-- Sessions of the segment protocol, the bundles on their way, and the journal operations of its page (R466 to R470, R474, R475,
R481). Where the spec leaves a point open, the clauses follow
the model's choice (log entry 102). -/
def Obligations.SegmentSessions : Prop :=
  (∀ (c : KspClient) (s : State), s.rbit (regCTRL KSP.page) 0 = true → c.port.toNat = s.fld KSP.LISTEN 15 0 →
      s.rbit KSP.LISTEN (if c.ipv6 then 17 else 16) = true →
    ((∀ i, i < 8 → s.kspSession i ≠ none) →
      ∃ t, exec (.kspConnect c) s = .next t ∧ t.ksp = s.ksp ∧ t.rbit (regINT_FLAG KSP.page) 1 = true
        ∧ t.reg KSP.REFUSED_CNT = incLow (s.reg KSP.REFUSED_CNT)) ∧
    (∀ i, (List.range 8).find? (fun i => s.kspSession i = none) = some i →
      (c.tls = false ∨ c.roles = none →
        ∃ t, exec (.kspConnect c) s = .next t ∧ t.ksp = s.ksp ∧ t.rbit (regINT_FLAG KSP.page) 1 = true) ∧
      (∀ r, c.tls = true → c.roles = some r →
        ∃ t, exec (.kspConnect c) s = .next t
          ∧ t.kspSession i = some { roles := r.toNat, ident := c.ident.toNat, since := s.tb0s }
          ∧ (∀ j, j ≠ i → t.kspSession j = s.kspSession j) ∧ t.reg (KSP.S_STAT i) = word (1 + r.toNat * 256)
          ∧ t.reg64 (KSP.S_ID_LO i) (KSP.S_ID_HI i) = c.ident ∧ t.reg (KSP.S_RX i) = 0 ∧ t.reg (KSP.S_TX i) = 0))) ∧
  (∀ (i : Fin 8) (vmin vmax : BitVec 8) (lo hi : Nat) (x : KspSession) (s : State), s.kspSession i = some x → x.opened = false →
      lo = max vmin.toNat 1 → hi = min vmax.toNat (s.fld KSP.LISTEN 21 20) →
    (hi < lo → ∃ t, exec (.hello i vmin vmax) s = .next t ∧ t.kspSession i = none ∧ t.reg (KSP.S_STAT i) = 0
      ∧ t.sent = s.sent ++ [.ksp i (kspMessage x.ver 1 0x0001 0 (tlvResult KP.VERSION 0))] ∧ t.rbit (regINT_FLAG KSP.page) 1 = true) ∧
    (lo ≤ hi → ∃ t, exec (.hello i vmin vmax) s = .next t
      ∧ t.kspSession i = some { x with opened := true, ver := hi, since := s.tb0s }
      ∧ t.reg (KSP.S_STAT i) = word (2 + hi * 16 + x.roles * 256) ∧ t.rbit (regINT_FLAG KSP.page) 0 = true
      ∧ t.sent = s.sent ++ [.ksp i (kspMessage hi 1 0x0001 0 (tlvResult KP.OK 0))])) ∧
  (∀ (i : Fin 8) (x : KspSession) (s : State), s.kspSession i = some x →
    (x.opened = false → x.since + 10 ≤ s.tb0s →
      ∃ t, exec (.helloTimeout i) s = .next t ∧ t.kspSession i = none ∧ t.reg (KSP.S_STAT i) = 0
        ∧ t.rbit (regINT_FLAG KSP.page) 1 = true) ∧
    (x.opened = true → x.since + 90 ≤ s.tb0s →
      ∃ t, exec (.sessionIdleTimeout i) s = .next t ∧ t.kspSession i = none ∧ t.reg (KSP.S_STAT i) = 0
        ∧ t.rbit (regINT_FLAG KSP.page) 0 = true)) ∧
  (∀ (s : State), s.now.toNat % (256 * 4096) = 0 →
    ∃ t, exec .bundleConvert s = .next t ∧ t.ksp = { s.ksp with bundles := s.ksp.bundles.map s.freezeBundle } ∧ t.sent = s.sent) ∧
  (∀ (b : KspBundle) (s : State), b.at_ = none →
    (∀ n, b.point = .ring n → s.freezeBundle b = { b with at_ := some n }) ∧
    (∀ p n, b.point = .civil p → civilToRing s.rct.map (tbParse p.toNat) = .value n →
      s.freezeBundle b = if cycleOf (BitVec.ofNat 64 n) < cycleOf s.now + 512 then { b with at_ := some (BitVec.ofNat 64 n) } else b)) ∧
  (∀ (b : KspBundle) (s : State), s.ksp.bundles = [b] → b.done = none → s.atArmPoint b = true →
    ∃ t q, exec .bundleArm s = .next t ∧ q = s.armBundle b
      ∧ t = (q.1.modKsp (fun k => { k with bundles := k.bundles.map (fun c => if c = b then q.2 else c) })).txjMark b.entry TX.ARMED
      ∧ t.txjState b.entry = TX.ARMED) ∧
  (∀ (b : KspBundle) (n : Stamp) (s : State), s.ksp.bundles = [b] → b.done = some n → n.toNat ≤ s.now.toNat →
    ∃ t, exec .bundleComplete s = .next t ∧ t.ksp.bundles = [] ∧ t.txjState b.entry = TX.DONE
      ∧ (∀ x, s.kspSession b.sess = some x → x.opened = true → x.ident = b.ident → s.twn.link = false →
          t.sent = s.sent ++ [.ksp b.sess (kspMessage x.ver 2 0x0013 b.txid (b.results.zipIdx.flatMap (fun r => tlvResult r.1 r.2)))])) ∧
  (∀ (req : Req) (s : State), s.accepts KSP.TXJ_CTRL = true →
    (s.ksp.op = none →
      (∃ t, exec (.txjPut req) s = .next t ∧ t.ksp = { s.ksp with op := some .put } ∧ t.rbit KSP.TXJ_RES 31 = true) ∧
      (∃ t, exec (.txjFind req) s = .next t ∧ t.ksp = { s.ksp with op := some .find } ∧ t.rbit KSP.TXJ_RES 31 = true) ∧
      (∃ t, exec (.txjUpdate req) s = .next t ∧ t.ksp = { s.ksp with op := some .update } ∧ t.rbit KSP.TXJ_RES 31 = true)) ∧
    (s.ksp.op ≠ none → ∀ c ∈ [Instr.txjPut req, .txjFind req, .txjUpdate req],
      ∃ t, exec c s = .next t ∧ t.ksp = s.ksp ∧ t.reg (regCLAMP_CNT KSP.page) = incLow (s.reg (regCLAMP_CNT KSP.page)))) ∧
  (∀ (s : State),
    (s.ksp.op = some .put →
      ∃ t, exec .txjDone s = .next t ∧ t.reg KSP.TXJ_RES = word s.ksp.head ∧ t.rbit (regINT_FLAG KSP.page) 2 = true
        ∧ t.ksp = { s.ksp with op := none, head := (s.ksp.head + 1) % 1024 }
        ∧ ∀ a, t.byte a = (s.txjWrite s.ksp.head s.txjBuf).byte a) ∧
    (s.ksp.op = some .find →
      ∃ t, exec .txjDone s = .next t ∧ t.rbit (regINT_FLAG KSP.page) 2 = true ∧ t.ksp = { s.ksp with op := none }
        ∧ (∀ i, s.txjFind (natBE (s.txjBuf.take 8)) (natBE ((s.txjBuf.drop 8).take 8)) = some i → t.reg KSP.TXJ_RES = word (i + 2 ^ 30))
        ∧ (s.txjFind (natBE (s.txjBuf.take 8)) (natBE ((s.txjBuf.drop 8).take 8)) = none → t.reg KSP.TXJ_RES = 0)) ∧
    (s.ksp.op = some .update →
      ∃ t, exec .txjDone s = .next t ∧ t.rbit (regINT_FLAG KSP.page) 2 = true ∧ t.ksp = { s.ksp with op := none }
        ∧ ∀ a, t.byte a = (s.txjWrite (s.fld KSP.TXJ_RES 9 0) s.txjBuf).byte a))
/-- Messages that read: executed at every arrival for a session of the role and version they need, and answered (R471, R472, R477
to R479). Where the spec leaves a point open, the clauses follow
the model's choice (log entry 102). -/
def Obligations.SegmentReads : Prop :=
  (∀ (h : KspHead) (x : KspSession) (s : State), s.kspMay h x 1 none →
    ∃ t, exec (.ping h) s = .next t ∧ s.kspAnswered t h x 1 0x0002 (tlvResult KP.OK 0) ∧ t.mem = s.mem) ∧
  (∀ (h : KspHead) (ids : List (BitVec 64)) (x : KspSession) (s : State), s.kspMay h x 2 (some ROLE.VIEW) →
    ∃ t, exec (.txQuery h ids) s = .next t ∧ t.mem = s.mem
      ∧ s.kspAnswered t h x 1 0x0012 (tlvResult KP.OK 0 ++ ids.flatMap (fun q => tlvData (bytesBE 8 q.toNat)
          ++ (match s.txjFind x.ident q.toNat with | some i => tlvState (s.txjState i) | none => [])))) ∧
  (∀ (h : KspHead) (a : Word) (n : BitVec 10) (p : State × List Byte) (x : KspSession) (s : State), s.kspMay h x 1 (some ROLE.VIEW) →
    (isPageAddr a.toNat = true → a.toNat % 4 = 0 → isPageAddr (a.toNat + 4 * (n.toNat - 1)) = true →
      p = (s.kspTake h.sess x).readRegs a.toNat n.toNat →
      ∃ t, exec (.regRead h a n) s = .next t ∧ t = p.1.kspReply h 0x0100 { data := p.2 } false) ∧
    (isPageAddr a.toNat = false ∨ a.toNat % 4 ≠ 0 ∨ isPageAddr (a.toNat + 4 * (n.toNat - 1)) = false →
      ∃ t, exec (.regRead h a n) s = .next t ∧ s.kspAnswered t h x 1 0x0100 (tlvResult KP.REFUSED 0) ∧ t.mem = s.mem)) ∧
  (∀ (h : KspHead) (a : Word) (n : BitVec 14) (x : KspSession) (s : State), s.kspMay h x 1 (some ROLE.VIEW) →
    ((∀ i, i < n.toNat → isWindow (a.toNat + 4 * i) = true) → a.toNat % 4 = 0 →
      ∃ t, exec (.winRead h a n) s = .next t ∧ t.win = s.win
        ∧ s.kspAnswered t h x 1 0x0102 (tlvResult KP.OK 0
            ++ tlvWords ((List.range n.toNat).map (fun i => (s.kspTake h.sess x).winView (a.toNat + 4 * i))))) ∧
    ((∃ i, i < n.toNat ∧ isWindow (a.toNat + 4 * i) = false) ∨ a.toNat % 4 ≠ 0 →
      ∃ t, exec (.winRead h a n) s = .next t ∧ s.kspAnswered t h x 1 0x0102 (tlvResult KP.REFUSED 0))) ∧
  (∀ (h : KspHead) (typ : BitVec 16) (x : KspSession) (s : State), s.kspMay h x 1 (some ROLE.VIEW) →
    ∃ t, exec (.configGet h typ) s = .next t ∧ t.mem = s.mem
      ∧ s.kspAnswered t h x 1 0x0110 (tlvResult KP.OK 0
          ++ ((s.cfgRecords s.runningArea 4096 32).filter (fun r => r.2.typ = typ)).flatMap (fun r => tlvData (recordOf r.2)))) ∧
  (∀ (h : KspHead) (x : KspSession) (s : State), s.kspMay h x 1 (some ROLE.VIEW) →
    (∃ t, exec (.meterRead h) s = .next t ∧ t.mtr = s.mtr ∧ s.kspAnswered t h x 1 0x0300 (tlvResult KP.OK 0 ++ tlvWords s.meterWords)) ∧
    (∃ t, exec (.meterCycle h) s = .next t ∧ t.mtr = s.mtr ∧ s.kspAnswered t h x 1 0x0301 (tlvResult KP.OK 0 ++ tlvWords s.cycleWords)) ∧
    (∀ n, s.newestSlot = some n → ∃ t, exec (.meterSlot h) s = .next t
      ∧ s.kspAnswered t h x 1 0x0302 (tlvResult KP.OK 0 ++ tlvData (s.bytes (mtrSlot n) 2048))) ∧
    (s.newestSlot = none → ∃ t, exec (.meterSlot h) s = .next t ∧ s.kspAnswered t h x 1 0x0302 (tlvResult KP.REFUSED 0)) ∧
    (∃ t, exec (.alarmList h) s = .next t ∧ t.ksp.alarms = s.ksp.alarms
      ∧ s.kspAnswered t h x 1 0x0402 (tlvResult KP.OK 0 ++ (s.ksp.alarms.take 1024).flatMap (fun q =>
          match s.recordBytes q with | some (_, b) => tlvRecord b | none => tlvWords [q])))) ∧
  (∀ (h : KspHead) (f : Word) (mask : BitVec 1024) (x : KspSession) (s : State), s.kspMay h x 1 (some ROLE.VIEW) →
    (2 ^ 31 ≤ (f - s.evr.oldestSeq).toNat → s.evr.nextSeq = s.evr.oldestSeq →
      ∃ t, exec (.logSubscribe h f mask) s = .next t
        ∧ t.kspSession h.sess = some { x with since := s.tb0s, stream := some { next := s.evr.oldestSeq, mask := mask.toNat } }
        ∧ t.sent = s.sent ++ [.ksp h.sess (kspMessage x.ver 1 0x0500 h.txid.toNat (tlvResult KP.OK 0)),
            .ksp h.sess (kspMessage x.ver 2 0x0503 0 (tlvWords [s.evr.oldestSeq]))]) ∧
    ((f - s.evr.oldestSeq).toNat < 2 ^ 31 → 2 ^ 31 ≤ (s.evr.nextSeq - f).toNat ∨ s.evr.nextSeq = f →
      ∃ t, exec (.logSubscribe h f mask) s = .next t
        ∧ t.kspSession h.sess = some { x with since := s.tb0s, stream := some { next := f, mask := mask.toNat } }
        ∧ t.sent = s.sent ++ [.ksp h.sess (kspMessage x.ver 1 0x0500 h.txid.toNat (tlvResult KP.OK 0))]) ∧
    (∀ b, f = s.evr.oldestSeq → s.evr.nextSeq = f + 1 → s.recordBytes f = some b → mask.toNat.testBit b.1 = true →
      ∃ t, exec (.logSubscribe h f mask) s = .next t
        ∧ t.sent = s.sent ++ [.ksp h.sess (kspMessage x.ver 1 0x0500 h.txid.toNat (tlvResult KP.OK 0)),
            .ksp h.sess (kspMessage x.ver 2 0x0501 0 (tlvRecord b.2))]) ∧
    (∃ t, exec (.logStop h) s = .next t ∧ t.kspSession h.sess = some { x with since := s.tb0s, stream := none }
      ∧ t.sent = s.sent ++ [.ksp h.sess (kspMessage x.ver 1 0x0502 h.txid.toNat (tlvResult KP.OK 0))])) ∧
  (∀ (h : KspHead) (u : State) (d : List Byte) (x : KspSession) (s : State), s.kspMay h x 1 (some ROLE.VIEW) →
      u = ((s.kspTake h.sess x).fabricWrite 0 (regCTRL TIM.page) 4).fabricWrite 0 (regCTRL RTC.page) 4 →
      d = tlvWords ((List.range 4).flatMap (fun k => [u.reg (TIM.TB_S_HI k), u.reg (TIM.TB_S_LO k), u.reg (TIM.TB_NS k)])
        ++ [u.view TIM.CIV_STAT, u.reg RTC.DATE, u.reg RTC.TIME]) →
    ∃ t, exec (.timeRead h) s = .next t ∧ t = u.kspReply h 0x0600 { data := d } false) ∧
  (∀ (h : KspHead) (x : KspSession) (s : State), s.kspMay h x 1 (some ROLE.UPDATE) →
    ∃ t, exec (.updStatus h) s = .next t ∧ t.upd = s.upd
      ∧ s.kspAnswered t h x 1 0x0705 (tlvResult KP.OK 0 ++ tlvWords ([regSTAT UPD.page, UPD.RESULT, UPD.LAND, UPD.PROGRESS, UPD.BOOT,
          UPD.WINDOW, UPD.RUN_VER, UPD.LAND_VER, UPD.MP_VER].map (s.kspTake h.sess x).view)))
/-- Messages that change state, every one of them: what makes one fail, a repeated one answered from the journal without any
effect, and the entry and the answer that an executed one leaves (R467, R469, R471, R472, R477). Where the spec leaves a point open, the clauses follow
the model's choice (log entry 102). -/
def Obligations.SegmentWrites : Prop :=
  (∀ (c : Instr) (h : KspHead) (msg ver : Nat) (role : Option Nat) (x : KspSession) (s : State),
      kspWriteOf c = some (h, msg, ver, role) → s.kspSession h.sess = some x → x.opened = true →
    (x.ver < ver → ∃ t, exec c s = .next t ∧ s.kspAnswered t h x 1 msg (tlvResult KP.UNKNOWN_MSG 0) ∧ t.mem = s.mem) ∧
    (ver ≤ x.ver → h.critical = true →
      ∃ t, exec c s = .next t ∧ s.kspAnswered t h x 1 msg (tlvResult KP.UNKNOWN_CRITICAL 0) ∧ t.mem = s.mem) ∧
    (∀ r, ver ≤ x.ver → h.critical = false → role = some r → x.roles.testBit r = false →
      ∃ t, exec c s = .next t ∧ s.kspAnswered t h x 1 msg (tlvResult KP.DENIED 0) ∧ t.ksp.denied = s.ksp.denied + 1
        ∧ t.ksp.head = s.ksp.head) ∧
    (s.kspMay h x ver role → h.txid = 0 →
      ∃ t, exec c s = .next t ∧ s.kspAnswered t h x 1 msg (tlvResult KP.MALFORMED 0) ∧ t.mem = s.mem) ∧
    (s.kspMay h x ver role → h.txid ≠ 0 → s.twn.role ≠ .solo → s.twn.role ≠ .active →
      ∃ t, exec c s = .next t ∧ s.kspAnswered t h x 1 msg (tlvResult KP.NOT_ACTIVE 0) ∧ t.mem = s.mem) ∧
    (∀ i, s.kspMay h x ver role → h.txid ≠ 0 → s.twn.role = .solo ∨ s.twn.role = .active →
        s.txjFind x.ident h.txid.toNat = some i → s.txjState i ≠ TX.LOST →
      (s.txjDigest i = h.digest.toNat →
        ∃ t, exec c s = .next t ∧ t.mem = s.mem ∧ t.win = s.win
          ∧ s.kspAnswered t h x 5 msg (tlvResult (s.txjCode i) (s.txjIndex i) ++ tlvState (s.txjState i))) ∧
      (s.txjDigest i ≠ h.digest.toNat →
        ∃ t, exec c s = .next t ∧ s.kspAnswered t h x 1 msg (tlvResult KP.TXID_CONFLICT 0) ∧ t.mem = s.mem))) ∧
  (∀ (c : Instr) (h : KspHead) (msg ver : Nat) (role : Option Nat) (s : State), kspWriteOf c = some (h, msg, ver, role) →
      (∀ x, s.kspSession h.sess = some x → x.opened = false) → exec c s = .next s) ∧
  (∀ (u : State) (h : KspHead) (msg : Nat) (x : KspSession) (a : KspAnswer), u.ksp.op = none →
    (∀ b, b = txjBody x.ident h.txid.toNat h.digest.toNat a.code a.index (a.st.getD TX.DONE) →
      ∀ n, (u.kspAfter h msg x a).byte n = (u.txjWrite u.ksp.head b).byte n) ∧
    (u.kspAfter h msg x a).ksp.head = (u.ksp.head + 1) % 1024 ∧ (u.kspAfter h msg x a).reg KSP.TXJ_RES = word u.ksp.head ∧
    (u.kspAfter h msg x a).rbit (regINT_FLAG KSP.page) 2 = true ∧
    (∀ y, u.kspSession h.sess = some y → u.twn.link = false →
      (u.kspAfter h msg x a).sent = u.sent ++ [.ksp h.sess (kspMessage y.ver 1 msg h.txid.toNat (tlvResult a.code a.index
        ++ (a.st.map tlvState).getD [] ++ (a.at_.map tlvStamp).getD [] ++ a.data))]))
/-- What each message that changes state does when it is executed: the writes the firmware makes as requester 0, a bundle queued, armed
or refused, one cancelled, records and alarms; and its answer (R346, R348, R431, R462, R471 to R476, R478, R479). Where the spec leaves a point open, the clauses follow
the model's choice (log entry 102). -/
def Obligations.SegmentOrders : Prop :=
  (∀ (c : Instr) (h : KspHead) (m : KspMember) (x : KspSession) (u : State) (q : State × Option Nat) (s : State),
      (∃ l, m = .regWrite l ∧ c = .regWrite h l .none) ∨ (∃ a d, m = .winWrite a d ∧ c = .winWrite h a d .none)
        ∨ (∃ b, m = .bankCommit b ∧ c = .bankCommit h b .none) ∨ (∃ n w, m = .override n w ∧ c = .override h n w .none)
        ∨ (∃ n o, m = .sceneSwitch n o ∧ c = .sceneSwitch h n o .none) ∨ (∃ k v, m = .setpoint k v ∧ c = .setpoint h k v .none)
        ∨ (∃ k v, m = .level k v ∧ c = .level h k v .none) ∨ (∃ e, m = .patternStart e ∧ c = .patternStart h e .none)
        ∨ (∃ e r b r' b', m = .endpointBudget e r b r' b' ∧ c = .endpointBudget h e r b r' b' .none) →
      s.kspMay h x (memberVer m) (some (memberRole m)) → s.kspFirst h x →
      u = s.kspTake h.sess x → q = u.fwWrites (u.memberWrites m 0) →
    ∃ t, exec c s = .next t
      ∧ t = q.1.kspAfter h (memberCode m) x { answerOf q with st := some TX.DONE, data := q.1.memberData m }) ∧
  (∀ (c : Instr) (h : KspHead) (m : KspMember) (p : CommitPoint) (x : KspSession) (u : State) (q : State × KspAnswer) (s : State),
      p ≠ .none →
      (∃ l, m = .regWrite l ∧ c = .regWrite h l p) ∨ (∃ a d, m = .winWrite a d ∧ c = .winWrite h a d p)
        ∨ (∃ b, m = .bankCommit b ∧ c = .bankCommit h b p) ∨ (∃ n w, m = .override n w ∧ c = .override h n w p)
        ∨ (∃ n o, m = .sceneSwitch n o ∧ c = .sceneSwitch h n o p) ∨ (∃ k v, m = .setpoint k v ∧ c = .setpoint h k v p)
        ∨ (∃ k v, m = .level k v ∧ c = .level h k v p) ∨ (∃ e, m = .patternStart e ∧ c = .patternStart h e p)
        ∨ (∃ e r b r' b', m = .endpointBudget e r b r' b' ∧ c = .endpointBudget h e r b r' b' p) →
      s.kspMay h x (memberVer m) (some (memberRole m)) → s.kspFirst h x →
      u = s.kspTake h.sess x → q = u.takeBundle h x (memberCode m) [m] p →
    ∃ t, exec c s = .next t ∧ t = q.1.kspAfter h (memberCode m) x q.2) ∧
  (∀ (h : KspHead) (ms : List BundleMember) (p : CommitPoint) (x : KspSession) (u : State) (s : State),
      s.kspMay h x 1 none → s.kspFirst h x → u = s.kspTake h.sess x →
    ((∃ b ∈ ms, b.stamped = true) → ∃ t, exec (.bundle h ms p) s = .next t ∧ t = u.kspAfter h 0x0010 x { code := KP.MALFORMED }) ∧
    (∀ q, (∀ b ∈ ms, b.stamped = false) → q = u.takeBundle h x 0x0010 (ms.map (·.msg)) p →
      ∃ t, exec (.bundle h ms p) s = .next t ∧ t = q.1.kspAfter h 0x0010 x q.2)) ∧
  (∀ (h : KspHead) (x : KspSession) (msg : Nat) (ms : List KspMember) (p : CommitPoint) (b : KspBundle) (s : State),
      b = s.freezeBundle { sess := h.sess, ident := x.ident, txid := h.txid.toNat, msg := msg, members := ms, point := p, entry := s.ksp.head } →
    (ms = [] ∨ 64 < ms.length ∨ (∃ n, p = .civil n ∧ x.ver < 2) → s.takeBundle h x msg ms p = (s, { code := KP.MALFORMED })) ∧
    (ms ≠ [] → ms.length ≤ 64 → (∀ n, p = .civil n → 2 ≤ x.ver) →
      (∀ k i, s.membersFault x (b.at_.getD 0) ms 0 = some (k, i) → k ≠ KP.DENIED →
        s.takeBundle h x msg ms p = (s, { code := k, index := i })) ∧
      (s.membersFault x (b.at_.getD 0) ms 0 = none →
        (s.conflicts ms p = true → s.takeBundle h x msg ms p = (s, { code := KP.CONFLICT })) ∧
        (s.conflicts ms p = false → 256 ≤ s.ksp.bundles.length → s.takeBundle h x msg ms p = (s, { code := KP.BUSY })) ∧
        (s.conflicts ms p = false → s.ksp.bundles.length < 256 → s.atArmPoint b = false →
          s.takeBundle h x msg ms p = (s.modKsp (fun k => { k with bundles := k.bundles ++ [b] }), { st := some TX.PENDING, at_ := b.at_ })) ∧
        (s.conflicts ms p = false → s.ksp.bundles.length < 256 → s.atArmPoint b = true →
          s.takeBundle h x msg ms p = ((s.armBundle b).1.modKsp (fun k => { k with bundles := k.bundles ++ [(s.armBundle b).2] }),
            { st := some TX.ARMED, at_ := b.at_ }))))) ∧
  (∀ (h : KspHead) (txid : BitVec 64) (x : KspSession) (u : State) (s : State), s.kspMay h x 2 none → s.kspFirst h x →
      u = s.kspTake h.sess x →
    (s.ksp.bundles.find? (fun b => b.ident = x.ident && b.txid = txid.toNat) = none →
      ∃ t, exec (.bundleCancel h txid) s = .next t ∧ t = u.kspAfter h 0x0011 x { code := KP.REFUSED }) ∧
    (∀ b, s.ksp.bundles.find? (fun b => b.ident = x.ident && b.txid = txid.toNat) = some b →
      ((∃ m ∈ b.members, x.roles.testBit (memberRole m) = false) →
        ∃ t, exec (.bundleCancel h txid) s = .next t ∧ t = (u.kspDenied 0x0011 x).kspAfter h 0x0011 x { code := KP.DENIED }) ∧
      ((∀ m ∈ b.members, x.roles.testBit (memberRole m) = true) → b.done ≠ none ∨ s.atArmPoint b = true →
        ∃ t, exec (.bundleCancel h txid) s = .next t ∧ t = u.kspAfter h 0x0011 x { code := KP.BUSY }) ∧
      ((∀ m ∈ b.members, x.roles.testBit (memberRole m) = true) → b.done = none → s.atArmPoint b = false →
        ∃ t, exec (.bundleCancel h txid) s = .next t
          ∧ t = ((u.modKsp (fun k => { k with bundles := k.bundles.filter (fun c => c ≠ b) })).txjMark b.entry TX.CANCELLED).kspAfter h 0x0011 x {}))) ∧
  (∀ (h : KspHead) (rs : List ConfigRecord) (all : List Byte) (x : KspSession) (u : State) (s : State), s.kspMay h x 1 (some ROLE.ENGINEER) →
      s.kspFirst h x → u = s.kspTake h.sess x →
      all = (rs.foldl putRecord ((s.cfgRecords s.runningArea 4096 32).map (·.2))).flatMap recordOf →
    (s.pwr.mramProtect = false → ¬(s.bootRec.trial = 1 ∧ s.oldArea = s.runningArea) → (∀ r ∈ rs, r.body.length ≤ 65527) →
        34 + all.length ≤ cfgSize →
      ∃ t, exec (.configPut h rs) s = .next t ∧ t = (u.setBytes (s.runningArea + 32) (all ++ [0, 0])).kspAfter h 0x0111 x {}) ∧
    (s.pwr.mramProtect = true ∨ (s.bootRec.trial = 1 ∧ s.oldArea = s.runningArea) ∨ (∃ r ∈ rs, 65527 < r.body.length)
        ∨ cfgSize < 34 + all.length →
      ∃ t, exec (.configPut h rs) s = .next t ∧ t = u.kspAfter h 0x0111 x { code := KP.REFUSED })) ∧
  (∀ (h : KspHead) (seqs : List Word) (x : KspSession) (u : State) (s : State), s.kspMay h x 1 (some ROLE.OPERATE) → s.kspFirst h x →
      u = s.kspTake h.sess x →
    ∃ t, ∃ v : State, exec (.alarmAck h seqs) s = .next t ∧ t = v.kspAfter h 0x0401 x {}
      ∧ v.ksp = { u.ksp with alarms := s.ksp.alarms.filter (fun q => !seqs.contains q) } ∧ v.mem = s.mem
      ∧ ((∀ j y, j ≠ h.sess.val → s.kspSession j = some y → y.opened = false) → v.sent = s.sent)) ∧
  (∀ (c : Instr) (h : KspHead) (msg ver : Nat) (role : Nat) (l : List (Nat × Word)) (x : KspSession) (u : State) (s : State),
      kspWriteOf c = some (h, msg, ver, some role) → s.kspMay h x ver (some role) → s.kspFirst h x → u = s.kspTake h.sess x →
      (∃ es, c = .scheduleLoad h es ∧ l = es.flatMap (fun (e : Fin 1024 × List Word) =>
          (e.2.take 8).zipIdx.map (fun w => (0x50800000 + 0x20 * e.1.val + 4 * w.2, w.1))))
        ∨ (∃ rs sc, c = .rulesLoad h rs sc
            ∧ l = rs.flatMap (fun (r : Fin 256 × List Word) => (r.2.take 16).zipIdx.map (fun w => (0x50840000 + 0x40 * r.1.val + 4 * w.2, w.1)))
              ++ sc.flatMap (fun (r : Fin 64 × List Word) => (r.2.take 16).zipIdx.map (fun w => (0x50844000 + 0x40 * r.1.val + 4 * w.2, w.1))))
        ∨ (∃ z, c = .tzLoad h z ∧ l = (z.table.take 32).zipIdx.flatMap (fun e => [(TIM.TZ_ENT_LO e.2, e.1.getD 0 0), (TIM.TZ_ENT_HI e.2, e.1.getD 1 0)])
            ++ [(TIM.DST_START, z.rules.getD 0 0), (TIM.DST_END, z.rules.getD 1 0), (TIM.TZ_CFG, z.cfg)])
        ∨ (c = .updOpen h ∧ l = [(UPD.SESSION, 16)]) ∨ (c = .updVerify h ∧ l = [(UPD.CMD, updCmdWord 1 0)])
        ∨ (c = .updActivate h ∧ l = [(UPD.CMD, updCmdWord 2 0)]) ∨ (c = .updConfirm h false ∧ l = [(UPD.CMD, updCmdWord 3 0xC0F1)])
        ∨ (c = .updConfirm h true ∧ l = [(UPD.CMD, updCmdWord 4 0xC0F1)]) ∨ (c = .twinCmd h .handover ∧ l = [(TWN.HANDOVER, 0x7A4E0000)])
        ∨ (∃ a r, c = .twinCmd h (.drill a r)
            ∧ l = [(TWN.DRILL_CTRL, word r.toNat), (TWN.DRILL_AT_LO, lo32 a), (TWN.DRILL_AT_HI, hi32 a)]) →
    ∃ t, exec c s = .next t ∧ t = (u.fwWrites l).1.kspAfter h msg x (answerOf (u.fwWrites l))) ∧
  (∀ (h : KspHead) (x : KspSession) (u : State) (s : State), s.kspMay h x 1 (some ROLE.TIME) → s.kspFirst h x → u = s.kspTake h.sess x →
    (∀ q, q = (u.timeOrder 1 x).fwWrites [(TIM.CIV_STEP, 0x57E90001)] →
      ∃ t, exec (.timeStep h .snap) s = .next t ∧ t = q.1.kspAfter h 0x0601 x (answerOf q)) ∧
    (∀ (v : BitVec 96) sec q, sec = v.toNat / 2 ^ 48 → q = (u.timeOrder 2 x).fwWrites [(TIM.STEP_VAL_S_LO, word sec),
          (TIM.STEP_VAL_S_HI, word (sec / 2 ^ 32 % 65536 + v.toNat % 65536 * 65536)), (TIM.STEP_VAL_NS, word (v.toNat / 65536)),
          (TIM.CIV_STEP, 0x57E90002)] →
      ∃ t, exec (.timeStep h (.value v)) s = .next t ∧ t = q.1.kspAfter h 0x0601 x (answerOf q))) ∧
  (∀ (h : KspHead) (buf : BitVec 33) (off : Word) (bytes : List Byte) (x : KspSession) (u v : State) (q : State × Option Nat) (s : State),
      s.kspMay h x 1 (some ROLE.UPDATE) → s.kspFirst h x → u = s.kspTake h.sess x →
      v = (if isDram buf.toNat && isDram (buf.toNat + bytes.length) then u.setBytes buf.toNat bytes else u) →
      q = v.fwWrites [(UPD.XFER_SRC_LO, word buf.toNat), (UPD.XFER_SRC_HI, word (buf.toNat / 2 ^ 32)), (UPD.XFER_OFF, off),
        (UPD.XFER_CTRL, word (bytes.length + 2 ^ 31))] →
    ∃ t, exec (.updData h buf off bytes) s = .next t ∧ t = q.1.kspAfter h 0x0701 x (answerOf q))
end

