-- ==== Sys2Proof/Laws/Bits.lean ====
section
/-!
SUPPORT. The laws of bit fields: what a field reads as after it, or another, is written.
-/

namespace Sys2Proof.Machine

theorem bits_lt (w : Word) (hi lo : Nat) : bits w hi lo < 2 ^ (hi + 1 - lo) := Nat.mod_lt _ (by positivity)

theorem word_toNat (n : Nat) : (word n).toNat = n % 2 ^ 32 := by simp [word]

/-- A word taken apart at a field. -/
theorem toNat_split (w : Word) (hi lo : Nat) (h : lo ≤ hi + 1) :
    w.toNat = w.toNat / 2 ^ (hi + 1) * 2 ^ (hi + 1) + bits w hi lo * 2 ^ lo + w.toNat % 2 ^ lo := by
  have e : 2 ^ (hi + 1) = 2 ^ lo * 2 ^ (hi + 1 - lo) := by rw [← pow_add]; congr 1; omega
  have a := Nat.div_add_mod (w.toNat / 2 ^ lo) (2 ^ (hi + 1 - lo))
  have b := Nat.div_add_mod w.toNat (2 ^ lo)
  have c : w.toNat / 2 ^ (hi + 1) = w.toNat / 2 ^ lo / 2 ^ (hi + 1 - lo) := by rw [e, Nat.div_div_eq_div_mul]
  rw [c, e, bits]
  generalize w.toNat / 2 ^ lo / 2 ^ (hi + 1 - lo) = x at *
  generalize w.toNat / 2 ^ lo % 2 ^ (hi + 1 - lo) = y at *
  generalize w.toNat / 2 ^ lo = z at *
  subst a
  nlinarith

/-- The number a written field leaves. -/
theorem putBits_toNat (w : Word) (hi lo v : Nat) (h : lo ≤ hi + 1) (hh : hi < 32) :
    (putBits w hi lo v).toNat =
      w.toNat / 2 ^ (hi + 1) * 2 ^ (hi + 1) + v % 2 ^ (hi + 1 - lo) * 2 ^ lo + w.toNat % 2 ^ lo := by
  have s := toNat_split w hi lo h
  have e : 2 ^ (hi + 1) = 2 ^ lo * 2 ^ (hi + 1 - lo) := by rw [← pow_add]; congr 1; omega
  have hv : v % 2 ^ (hi + 1 - lo) < 2 ^ (hi + 1 - lo) := Nat.mod_lt _ (by positivity)
  have hl : w.toNat % 2 ^ lo < 2 ^ lo := Nat.mod_lt _ (by positivity)
  have hw : w.toNat < 2 ^ 32 := w.isLt
  have hx : w.toNat / 2 ^ (hi + 1) < 2 ^ (32 - (hi + 1)) := by
    rw [Nat.div_lt_iff_lt_mul (by positivity), ← pow_add]
    rwa [show 32 - (hi + 1) + (hi + 1) = 32 by omega]
  have hp : 2 ^ 32 = 2 ^ (32 - (hi + 1)) * 2 ^ (hi + 1) := by rw [← pow_add]; congr 1; omega
  have lt : w.toNat / 2 ^ (hi + 1) * 2 ^ (hi + 1) + v % 2 ^ (hi + 1 - lo) * 2 ^ lo + w.toNat % 2 ^ lo < 2 ^ 32 := by
    generalize w.toNat / 2 ^ (hi + 1) = x at *
    generalize v % 2 ^ (hi + 1 - lo) = y at *
    generalize w.toNat % 2 ^ lo = z at *
    rw [hp, e]
    have : x + 1 ≤ 2 ^ (32 - (hi + 1)) := hx
    calc x * (2 ^ lo * 2 ^ (hi + 1 - lo)) + y * 2 ^ lo + z
        < x * (2 ^ lo * 2 ^ (hi + 1 - lo)) + (y + 1) * 2 ^ lo := by linarith [Nat.succ_mul y (2 ^ lo)]
      _ ≤ x * (2 ^ lo * 2 ^ (hi + 1 - lo)) + 2 ^ (hi + 1 - lo) * 2 ^ lo := by
          gcongr; omega
      _ = (x + 1) * (2 ^ lo * 2 ^ (hi + 1 - lo)) := by ring
      _ ≤ _ := by gcongr
  simp only [putBits, BitVec.toNat_ofNat]
  rw [Nat.mod_eq_of_lt]
  · omega
  · omega

/-- A written field reads back. -/
theorem bits_putBits (w : Word) (hi lo v : Nat) (h : lo ≤ hi + 1) (hh : hi < 32) :
    bits (putBits w hi lo v) hi lo = v % 2 ^ (hi + 1 - lo) := by
  have e : 2 ^ (hi + 1) = 2 ^ lo * 2 ^ (hi + 1 - lo) := by rw [← pow_add]; congr 1; omega
  have hl : w.toNat % 2 ^ lo < 2 ^ lo := Nat.mod_lt _ (by positivity)
  rw [bits, putBits_toNat w hi lo v h hh, e]
  generalize w.toNat / (2 ^ lo * 2 ^ (hi + 1 - lo)) = x
  generalize w.toNat % 2 ^ lo = z at *
  rw [show x * (2 ^ lo * 2 ^ (hi + 1 - lo)) + v % 2 ^ (hi + 1 - lo) * 2 ^ lo + z
      = z + 2 ^ lo * (v % 2 ^ (hi + 1 - lo) + 2 ^ (hi + 1 - lo) * x) by ring,
    Nat.add_mul_div_left _ _ (by positivity), Nat.div_eq_of_lt hl, zero_add, Nat.add_mul_mod_self_left, Nat.mod_mod]

/-- A field below a written one reads as before. -/
theorem bits_putBits_below (w : Word) (hi lo hi' lo' v : Nat) (h : lo ≤ hi + 1) (hh : hi < 32) (hd : hi' < lo) :
    bits (putBits w hi lo v) hi' lo' = bits w hi' lo' := by
  rcases Nat.lt_or_ge (hi' + 1) lo' with hb | hb
  · simp [bits, show hi' + 1 - lo' = 0 by omega, Nat.mod_one]
  have key : ∀ u : Nat, u / 2 ^ lo' % 2 ^ (hi' + 1 - lo') = u % 2 ^ lo / 2 ^ lo' % 2 ^ (hi' + 1 - lo') := by
    intro u
    have e : (2 : Nat) ^ lo = 2 ^ lo' * (2 ^ (hi' + 1 - lo') * 2 ^ (lo - (hi' + 1))) := by
      rw [← pow_add, ← pow_add]; congr 1; omega
    rw [e, Nat.mod_mul_right_div_self, Nat.mod_mul_right_mod]
  rw [bits, bits, key, key w.toNat, putBits_toNat w hi lo v h hh]
  congr 2
  have e : 2 ^ (hi + 1) = 2 ^ lo * 2 ^ (hi + 1 - lo) := by rw [← pow_add]; congr 1; omega
  rw [e]
  generalize w.toNat / (2 ^ lo * 2 ^ (hi + 1 - lo)) = x
  rw [show x * (2 ^ lo * 2 ^ (hi + 1 - lo)) + v % 2 ^ (hi + 1 - lo) * 2 ^ lo + w.toNat % 2 ^ lo
      = w.toNat % 2 ^ lo + 2 ^ lo * (v % 2 ^ (hi + 1 - lo) + 2 ^ (hi + 1 - lo) * x) by ring,
    Nat.add_mul_mod_self_left, Nat.mod_mod]

/-- A field above a written one reads as before. -/
theorem bits_putBits_above (w : Word) (hi lo hi' lo' v : Nat) (h : lo ≤ hi + 1) (hh : hi < 32) (hd : hi < lo') :
    bits (putBits w hi lo v) hi' lo' = bits w hi' lo' := by
  have key : ∀ u : Nat, u / 2 ^ lo' = u / 2 ^ (hi + 1) / 2 ^ (lo' - (hi + 1)) := by
    intro u; rw [Nat.div_div_eq_div_mul, ← pow_add]; congr 2; omega
  rw [bits, bits, key, key w.toNat, putBits_toNat w hi lo v h hh]
  congr 2
  have e : 2 ^ (hi + 1) = 2 ^ lo * 2 ^ (hi + 1 - lo) := by rw [← pow_add]; congr 1; omega
  have hv : v % 2 ^ (hi + 1 - lo) < 2 ^ (hi + 1 - lo) := Nat.mod_lt _ (by positivity)
  have hl : w.toNat % 2 ^ lo < 2 ^ lo := Nat.mod_lt _ (by positivity)
  generalize hx : w.toNat / 2 ^ (hi + 1) = x
  have small : v % 2 ^ (hi + 1 - lo) * 2 ^ lo + w.toNat % 2 ^ lo < 2 ^ (hi + 1) := by
    generalize v % 2 ^ (hi + 1 - lo) = y at *
    generalize w.toNat % 2 ^ lo = z at *
    rw [e]
    have : (y + 1) * 2 ^ lo ≤ 2 ^ (hi + 1 - lo) * 2 ^ lo := by gcongr; omega
    linarith [Nat.succ_mul y (2 ^ lo), Nat.mul_comm (2 ^ lo) (2 ^ (hi + 1 - lo))]
  rw [add_assoc, add_comm, Nat.add_mul_div_right _ _ (by positivity), Nat.div_eq_of_lt small, zero_add]

/-- One bit is a field of one bit. -/
theorem bit_eq_bits (w : Word) (i : Nat) : bit w i = decide (bits w i i = 1) := by simp [bit, bits]

theorem bit_putBits_below (w : Word) (hi lo i v : Nat) (h : lo ≤ hi + 1) (hh : hi < 32) (hd : i < lo) :
    bit (putBits w hi lo v) i = bit w i := by rw [bit_eq_bits, bits_putBits_below w hi lo i i v h hh hd, ← bit_eq_bits]

theorem bit_putBits_above (w : Word) (hi lo i v : Nat) (h : lo ≤ hi + 1) (hh : hi < 32) (hd : hi < i) :
    bit (putBits w hi lo v) i = bit w i := by rw [bit_eq_bits, bits_putBits_above w hi lo i i v h hh hd, ← bit_eq_bits]

/-- A written bit reads back. -/
theorem bit_putBit_same (w : Word) (i : Nat) (b : Bool) (h : i < 32) : bit (putBit w i b) i = b := by
  rw [bit_eq_bits, putBit, bits_putBits w i i _ (by omega) h]
  cases b <;> simp

/-- Another bit reads as before. -/
theorem bit_putBit_other (w : Word) (i j : Nat) (b : Bool) (h : i < 32) (hd : j ≠ i) : bit (putBit w i b) j = bit w j := by
  rcases Nat.lt_or_gt_of_ne hd with hd | hd
  · exact bit_putBits_below w i i j _ (by omega) h hd
  · exact bit_putBits_above w i i j _ (by omega) h hd

/-! ### Sets of bits -/

theorem nodup_eraseDups (l : List Nat) : l.eraseDups.Nodup := by
  induction hn : l.length using Nat.strong_induction_on generalizing l with
  | _ n ih =>
    cases l with
    | nil => simp
    | cons a l =>
      rw [List.eraseDups_cons, List.nodup_cons]
      refine ⟨by simp [List.mem_eraseDups], ih _ ?_ _ rfl⟩
      subst hn
      exact Nat.lt_succ_of_le (List.length_filter_le _ _)

/-- A bit of a number built from a list of indices is set exactly if its index is in the list. -/
theorem testBit_bitsOf (l : List Nat) (n : Nat) : (bitsOf l).testBit n = decide (n ∈ l) := by
  have hp : ((l.eraseDups).mergeSort (· ≤ ·)).Perm l.eraseDups := List.mergeSort_perm _ _
  have hs : bitsOf l = (((l.eraseDups).mergeSort (· ≤ ·)).map (fun i => 2 ^ i)).sum := ((hp.map _).sum_eq).symm
  have hl : ((l.eraseDups).mergeSort (· ≤ ·)).SortedLT := by
    rw [List.sortedLT_iff_nodup_and_sortedLE]
    refine ⟨hp.nodup_iff.2 (nodup_eraseDups l), ?_⟩
    rw [List.sortedLE_iff_pairwise]
    have := List.pairwise_mergeSort (le := fun a b : Nat => decide (a ≤ b)) (by intro a b c; simp; omega)
      (by intro a b; simp; omega) l.eraseDups
    simpa using this
  have e := Nat.bitIndices_sum_map_two_pow hl
  rw [← hs] at e
  have : n ∈ (bitsOf l).bitIndices ↔ n ∈ l := by rw [e, hp.mem_iff, List.mem_eraseDups]
  rw [Nat.mem_bitIndices] at this
  exact Bool.eq_iff_iff.2 (by simpa using this)

theorem mem_setBits (n v i : Nat) : i ∈ setBits n v ↔ i < n ∧ v.testBit i = true := by simp [setBits]

end Sys2Proof.Machine
end

