-- ==== Sys2Proof/Laws/Exec.lean ====
section
/-!
SUPPORT. What `exec` does with each command, by its meaning.
-/

namespace Sys2Proof.Machine

open Sys2Proof

theorem exec_powerOn (bad : BitVec 16) (s : State) : exec (.powerOn bad) s = execPowerOn bad s := rfl
theorem exec_domainPowerGood (d : Fin 12) (bad : Option (BitVec 8)) (s : State) :
    exec (.domainPowerGood d bad) s = execDomainPowerGood d bad s := rfl
theorem exec_pd3Release (open_ : Bool) (s : State) : exec (.pd3Release open_) s = execPd3Release open_ s := rfl
theorem exec_inputLoss (mv : BitVec 16) (s : State) : exec (.inputLoss mv) s = execInputLoss mv s := rfl
theorem exec_loadShed (s : State) : exec .loadShed s = execLoadShed s := rfl
theorem exec_finalCommitDone (s : State) : exec .finalCommitDone s = execFinalCommitDone s := rfl
theorem exec_holdEnd (s : State) : exec .holdEnd s = execHoldEnd s := rfl
theorem exec_warmStart (s : State) : exec .warmStart s = execWarmStart s := rfl
theorem exec_domainFault (d : Fin 12) (s : State) : exec (.domainFault d) s = execDomainFault d s := rfl
theorem exec_coreDomainFault (pd5 : Bool) (s : State) :
    exec (.coreDomainFault pd5) s = execCoreDomainFault pd5 s := rfl
theorem exec_essentialDomainFault (s : State) : exec .essentialDomainFault s = execEssentialDomainFault s := rfl
theorem exec_domEnWrite (req : Req) (v : Word) (s : State) : exec (.domEnWrite req v) s = execDomEnWrite req v s := rfl
theorem exec_pwrClearCounts (req : Req) (s : State) : exec (.pwrClearCounts req) s = execPwrClearCounts req s := rfl
theorem exec_bankTestGo (req : Req) (v : Word) (s : State) : exec (.bankTestGo req v) s = execBankTestGo req v s := rfl
theorem exec_bankTestStart (s : State) : exec .bankTestStart s = execBankTestStart s := rfl
theorem exec_bankTestDone (mj : BitVec 16) (s : State) : exec (.bankTestDone mj) s = execBankTestDone mj s := rfl
theorem exec_holdEstUpdate (bankMv : BitVec 16) (vinMv : BitVec 16) (s : State) :
    exec (.holdEstUpdate bankMv vinMv) s = execHoldEstUpdate bankMv vinMv s := rfl
theorem exec_vinOv (above : Bool) (mv : BitVec 16) (s : State) : exec (.vinOv above mv) s = execVinOv above mv s := rfl
theorem exec_tempHigh (edge : BitVec 16) (hot : BitVec 16) (s : State) :
    exec (.tempHigh edge hot) s = execTempHigh edge hot s := rfl
theorem exec_cellLow (mv : BitVec 12) (s : State) : exec (.cellLow mv) s = execCellLow mv s := rfl
theorem exec_boardPresent (n : Fin 13) (s : State) : exec (.boardPresent n) s = execBoardPresent n s := rfl
theorem exec_boardAbsent (n : Fin 13) (s : State) : exec (.boardAbsent n) s = execBoardAbsent n s := rfl
theorem exec_twinPresentChange (present : Bool) (s : State) :
    exec (.twinPresentChange present) s = execTwinPresentChange present s := rfl
theorem exec_hkInputChange (n : Fin 8) (on : Bool) (s : State) :
    exec (.hkInputChange n on) s = execHkInputChange n on s := rfl
theorem exec_relayCtrlWrite (req : Req) (v : Word) (s : State) :
    exec (.relayCtrlWrite req v) s = execRelayCtrlWrite req v s := rfl
theorem exec_accessFault (req : Req) (a : BitVec 64) (size : Fin 4) (write : Bool) (s : State) :
    exec (.accessFault req a size write) s = execAccessFault req a size write s := rfl
theorem exec_registerWrite (req : Req) (a : BitVec 64) (v : Word) (s : State) :
    exec (.registerWrite req a v) s = execRegisterWrite req a v s := rfl
theorem exec_latchedRead (req : Req) (a : BitVec 64) (s : State) :
    exec (.latchedRead req a) s = execLatchedRead req a s := rfl
theorem exec_intFlagClear (req : Req) (a : Word) (v : Word) (s : State) :
    exec (.intFlagClear req a v) s = execIntFlagClear req a v s := rfl
theorem exec_intForce (req : Req) (p : Fin 46) (v : Word) (s : State) :
    exec (.intForce req p v) s = execIntForce req p v s := rfl
theorem exec_lockWrite (req : Req) (p : Fin 46) (v : Word) (s : State) :
    exec (.lockWrite req p v) s = execLockWrite req p v s := rfl
theorem exec_parityError (p : Fin 46) (w : BadWord) (s : State) :
    exec (.parityError p w) s = execParityError p w s := rfl
theorem exec_sramEccError (e : EccError) (s : State) : exec (.sramEccError e) s = execSramEccError e s := rfl
theorem exec_parityClear (req : Req) (s : State) : exec (.parityClear req) s = execParityClear req s := rfl
theorem exec_systemReset (req : Req) (key : BitVec 16) (core : Bool) (s : State) :
    exec (.systemReset req key core) s = execSystemReset req key core s := rfl
theorem exec_coreReset (req : Req) (key : BitVec 16) (s : State) :
    exec (.coreReset req key) s = execCoreReset req key s := rfl
theorem exec_pageSoftReset (req : Req) (p : Fin 46) (s : State) :
    exec (.pageSoftReset req p) s = execPageSoftReset req p s := rfl
theorem exec_wdogEnable (req : Req) (v : Word) (s : State) : exec (.wdogEnable req v) s = execWdogEnable req v s := rfl
theorem exec_wdogKick (req : Req) (v : Word) (s : State) : exec (.wdogKick req v) s = execWdogKick req v s := rfl
theorem exec_wdogWarn (s : State) : exec .wdogWarn s = execWdogWarn s := rfl
theorem exec_wdogTimeout (s : State) : exec .wdogTimeout s = execWdogTimeout s := rfl
theorem exec_rctEnable (req : Req) (s : State) : exec (.rctEnable req) s = execRctEnable req s := rfl
theorem exec_rctDisable (req : Req) (s : State) : exec (.rctDisable req) s = execRctDisable req s := rfl
theorem exec_rctSoftReset (req : Req) (s : State) : exec (.rctSoftReset req) s = execRctSoftReset req s := rfl
theorem exec_ringSet (req : Req) (hi : Word) (s : State) : exec (.ringSet req hi) s = execRingSet req hi s := rfl
theorem exec_sampleRelease (live : List LaneBits) (perr : List (Fin 104)) (s : State) :
    exec (.sampleRelease live perr) s = execSampleRelease live perr s := rfl
theorem exec_firstLockStep (s : State) : exec .firstLockStep s = execFirstLockStep s := rfl
theorem exec_loopUpdate (s : State) : exec .loopUpdate s = execLoopUpdate s := rfl
theorem exec_freqTakesEffect (s : State) : exec .freqTakesEffect s = execFreqTakesEffect s := rfl
theorem exec_phaseLoss (k : Fin 3) (s : State) : exec (.phaseLoss k) s = execPhaseLoss k s := rfl
theorem exec_forceFly (req : Req) (s : State) : exec (.forceFly req) s = execForceFly req s := rfl
theorem exec_forceRelease (req : Req) (s : State) : exec (.forceRelease req) s = execForceRelease req s := rfl
theorem exec_pullTimeout (s : State) : exec .pullTimeout s = execPullTimeout s := rfl
theorem exec_mapCapture (s : State) : exec .mapCapture s = execMapCapture s := rfl
theorem exec_convert (req : Req) (toCivil : Bool) (s : State) :
    exec (.convert req toCivil) s = execConvert req toCivil s := rfl
theorem exec_convertDone (s : State) : exec .convertDone s = execConvertDone s := rfl
theorem exec_laneEnable (req : Req) (b : Fin 13) (v : Word) (s : State) :
    exec (.laneEnable req b v) s = execLaneEnable req b v s := rfl
theorem exec_trainSuccess (b : Fin 13) (s : State) : exec (.trainSuccess b) s = execTrainSuccess b s := rfl
theorem exec_laneUp (b : Fin 13) (s : State) : exec (.laneUp b) s = execLaneUp b s := rfl
theorem exec_trainFail (b : Fin 13) (s : State) : exec (.trainFail b) s = execTrainFail b s := rfl
theorem exec_laneLost (b : Fin 13) (s : State) : exec (.laneLost b) s = execLaneLost b s := rfl
theorem exec_fastOutput (i : Fin 104) (q : Fin 8) (live : BitVec 12) (perr : Bool) (s : State) :
    exec (.fastOutput i q live perr) s = execFastOutput i q live perr s := rfl
theorem exec_integratorSettled (i : Fin 104) (s : State) :
    exec (.integratorSettled i) s = execIntegratorSettled i s := rfl
theorem exec_playbackArm (req : Req) (check : Bool) (s : State) :
    exec (.playbackArm req check) s = execPlaybackArm req check s := rfl
theorem exec_captureArm (req : Req) (s : State) : exec (.captureArm req) s = execCaptureArm req s := rfl
theorem exec_sourceStart (s : State) : exec .sourceStart s = execSourceStart s := rfl
theorem exec_playbackFetch (s : State) : exec .playbackFetch s = execPlaybackFetch s := rfl
theorem exec_captureRecord (live : List LaneBits) (bad : List (Fin 13)) (s : State) :
    exec (.captureRecord live bad) s = execCaptureRecord live bad s := rfl
theorem exec_playbackCountDone (s : State) : exec .playbackCountDone s = execPlaybackCountDone s := rfl
theorem exec_playbackStop (req : Req) (s : State) : exec (.playbackStop req) s = execPlaybackStop req s := rfl
theorem exec_cenTickExec (s : State) : exec .cenTickExec s = execCenTickExec s := rfl
theorem exec_tableCheck (req : Req) (withTable : Bool) (s : State) :
    exec (.tableCheck req withTable) s = execTableCheck req withTable s := rfl
theorem exec_tableCheckDone (s : State) : exec .tableCheckDone s = execTableCheckDone s := rfl
theorem exec_cenCommitReq (req : Req) (table : Bool) (s : State) :
    exec (.cenCommitReq req table) s = execCenCommitReq req table s := rfl
theorem exec_cenCommitCancel (req : Req) (s : State) : exec (.cenCommitCancel req) s = execCenCommitCancel req s := rfl
theorem exec_cenCopy (req : Req) (s : State) : exec (.cenCopy req) s = execCenCopy req s := rfl
theorem exec_cenCopyDone (s : State) : exec .cenCopyDone s = execCenCopyDone s := rfl
theorem exec_cenCommitSwap (s : State) : exec .cenCommitSwap s = execCenCommitSwap s := rfl
theorem exec_fallbackEnter (r : Fin 64) (s : State) : exec (.fallbackEnter r) s = execFallbackEnter r s := rfl
theorem exec_fallbackExit (r : Fin 64) (s : State) : exec (.fallbackExit r) s = execFallbackExit r s := rfl
theorem exec_rearm (req : Req) (lo : Word) (hi : Word) (s : State) :
    exec (.rearm req lo hi) s = execRearm req lo hi s := rfl
theorem exec_rearmApply (r : Fin 64) (s : State) : exec (.rearmApply r) s = execRearmApply r s := rfl
theorem exec_cenEnable (req : Req) (s : State) : exec (.cenEnable req) s = execCenEnable req s := rfl
theorem exec_cenDisable (req : Req) (s : State) : exec (.cenDisable req) s = execCenDisable req s := rfl
theorem exec_mfeEnable (req : Req) (s : State) : exec (.mfeEnable req) s = execMfeEnable req s := rfl
theorem exec_mfeDisable (req : Req) (s : State) : exec (.mfeDisable req) s = execMfeDisable req s := rfl
theorem exec_mainsOutEnter (s : State) : exec .mainsOutEnter s = execMainsOutEnter s := rfl
theorem exec_prechargeEnter (s : State) : exec .prechargeEnter s = execPrechargeEnter s := rfl
theorem exec_busSettled (s : State) : exec .busSettled s = execBusSettled s := rfl
theorem exec_prechargeTimeout (s : State) : exec .prechargeTimeout s = execPrechargeTimeout s := rfl
theorem exec_feHalted (s : State) : exec .feHalted s = execFeHalted s := rfl
theorem exec_feGateOff (s : State) : exec .feGateOff s = execFeGateOff s := rfl
theorem exec_sagDetect (s : State) : exec .sagDetect s = execSagDetect s := rfl
theorem exec_classShed (s : State) : exec .classShed s = execClassShed s := rfl
theorem exec_busUndervoltage (s : State) : exec .busUndervoltage s = execBusUndervoltage s := rfl
theorem exec_restoreBegin (s : State) : exec .restoreBegin s = execRestoreBegin s := rfl
theorem exec_classRestore (s : State) : exec .classRestore s = execClassRestore s := rfl
theorem exec_channelRestoreStart (k : Fin 48) (s : State) :
    exec (.channelRestoreStart k) s = execChannelRestoreStart k s := rfl
theorem exec_channelEnable (req : Req) (k : Fin 48) (v : Word) (s : State) :
    exec (.channelEnable req k v) s = execChannelEnable req k v s := rfl
theorem exec_channelDisable (req : Req) (k : Fin 48) (v : Word) (s : State) :
    exec (.channelDisable req k v) s = execChannelDisable req k v s := rfl
theorem exec_channelStart (k : Fin 48) (s : State) : exec (.channelStart k) s = execChannelStart k s := rfl
theorem exec_startDone (k : Fin 48) (s : State) : exec (.startDone k) s = execStartDone k s := rfl
theorem exec_channelHalt (k : Fin 48) (s : State) : exec (.channelHalt k) s = execChannelHalt k s := rfl
theorem exec_channelSafeOff (k : Fin 48) (s : State) : exec (.channelSafeOff k) s = execChannelSafeOff k s := rfl
theorem exec_setpointStage (req : Req) (k : Option (Fin 48)) (v : Word) (s : State) :
    exec (.setpointStage req k v) s = execSetpointStage req k v s := rfl
theorem exec_setpointArm (req : Req) (k : Fin 48) (hi : Word) (s : State) :
    exec (.setpointArm req k hi) s = execSetpointArm req k hi s := rfl
theorem exec_setpointApply (k : Fin 48) (s : State) : exec (.setpointApply k) s = execSetpointApply k s := rfl
theorem exec_busSetpointArm (req : Req) (hi : Word) (s : State) :
    exec (.busSetpointArm req hi) s = execBusSetpointArm req hi s := rfl
theorem exec_busSetpointApply (s : State) : exec .busSetpointApply s = execBusSetpointApply s := rfl
theorem exec_pinTrip (n : Fin 13) (clocks : Nat) (held : Bool) (s : State) :
    exec (.pinTrip n clocks held) s = execPinTrip n clocks held s := rfl
theorem exec_pinArmed (n : Fin 13) (s : State) : exec (.pinArmed n) s = execPinArmed n s := rfl
theorem exec_forceTrip (req : Req) (v : Word) (s : State) : exec (.forceTrip req v) s = execForceTrip req v s := rfl
theorem exec_autoClear (src : AxeSource) (s : State) : exec (.autoClear src) s = execAutoClear src s := rfl
theorem exec_latchClear (req : Req) (s : State) : exec (.latchClear req) s = execLatchClear req s := rfl
theorem exec_lockoutClear (req : Req) (key : BitVec 16) (also : Bool) (s : State) :
    exec (.lockoutClear req key also) s = execLockoutClear req key also s := rfl
theorem exec_maskClassWrite (req : Req) (src : AxeSource) (v : Word) (s : State) :
    exec (.maskClassWrite req src v) s = execMaskClassWrite req src v s := rfl
theorem exec_channelTripped (k : Fin 48) (s : State) : exec (.channelTripped k) s = execChannelTripped k s := rfl
theorem exec_runEnWrite (req : Req) (v : Word) (s : State) : exec (.runEnWrite req v) s = execRunEnWrite req v s := rfl
theorem exec_boardRelease (n : Fin 13) (s : State) : exec (.boardRelease n) s = execBoardRelease n s := rfl
theorem exec_tripRestart (k : Fin 48) (s : State) : exec (.tripRestart k) s = execTripRestart k s := rfl
theorem exec_commandFrameLaunch (s : State) : exec .commandFrameLaunch s = execCommandFrameLaunch s := rfl
theorem exec_statusFrameReceive (n : Fin 13) (clean : Bool) (f : List Byte) (s : State) :
    exec (.statusFrameReceive n clean f) s = execStatusFrameReceive n clean f s := rfl
theorem exec_answerMissing (n : Fin 13) (s : State) : exec (.answerMissing n) s = execAnswerMissing n s := rfl
theorem exec_stlLinkLost (n : Fin 13) (s : State) : exec (.stlLinkLost n) s = execStlLinkLost n s := rfl
theorem exec_stlEnable (req : Req) (s : State) : exec (.stlEnable req) s = execStlEnable req s := rfl
theorem exec_stlDisable (req : Req) (s : State) : exec (.stlDisable req) s = execStlDisable req s := rfl
theorem exec_verLimitWrite (req : Req) (v : Word) (s : State) :
    exec (.verLimitWrite req v) s = execVerLimitWrite req v s := rfl
theorem exec_meteringTick (s : State) : exec .meteringTick s = execMeteringTick s := rfl
theorem exec_cyclePublish (s : State) : exec .cyclePublish s = execCyclePublish s := rfl
theorem exec_pulseOn (x : Fin 2) (s : State) : exec (.pulseOn x) s = execPulseOn x s := rfl
theorem exec_pulseOff (x : Fin 2) (s : State) : exec (.pulseOff x) s = execPulseOff x s := rfl
theorem exec_corReq (req : Req) (s : State) : exec (.corReq req) s = execCorReq req s := rfl
theorem exec_corSwap (s : State) : exec .corSwap s = execCorSwap s := rfl
theorem exec_corCopy (req : Req) (s : State) : exec (.corCopy req) s = execCorCopy req s := rfl
theorem exec_corCopyDone (s : State) : exec .corCopyDone s = execCorCopyDone s := rfl
theorem exec_periodicCommit (s : State) : exec .periodicCommit s = execPeriodicCommit s := rfl
theorem exec_commitWriteDone (ok : Bool) (s : State) : exec (.commitWriteDone ok) s = execCommitWriteDone ok s := rfl
theorem exec_meterSeal (req : Req) (s : State) : exec (.meterSeal req) s = execMeterSeal req s := rfl
theorem exec_accClearBilling (req : Req) (key : BitVec 16) (s : State) :
    exec (.accClearBilling req key) s = execAccClearBilling req key s := rfl
theorem exec_accClearTest (req : Req) (key : BitVec 16) (s : State) :
    exec (.accClearTest req key) s = execAccClearTest req key s := rfl
theorem exec_mtrEnable (req : Req) (on : Bool) (s : State) : exec (.mtrEnable req on) s = execMtrEnable req on s := rfl
theorem exec_dimPeriod (s : State) : exec .dimPeriod s = execDimPeriod s := rfl
theorem exec_patternErrorIdle (e : Fin 8) (s : State) : exec (.patternErrorIdle e) s = execPatternErrorIdle e s := rfl
theorem exec_levelArm (req : Req) (k : Fin 48) (hi : Word) (s : State) :
    exec (.levelArm req k hi) s = execLevelArm req k hi s := rfl
theorem exec_levelApply (k : Fin 48) (s : State) : exec (.levelApply k) s = execLevelApply k s := rfl
theorem exec_patternArm (req : Req) (e : Fin 8) (hi : Word) (s : State) :
    exec (.patternArm req e hi) s = execPatternArm req e hi s := rfl
theorem exec_patternBegin (e : Fin 8) (s : State) : exec (.patternBegin e) s = execPatternBegin e s := rfl
theorem exec_patternStop (req : Req) (e : Fin 8) (s : State) :
    exec (.patternStop req e) s = execPatternStop req e s := rfl
theorem exec_stringCheck (k : Fin 48) (s : State) : exec (.stringCheck k) s = execStringCheck k s := rfl
theorem exec_feederCheck (k : Fin 48) (s : State) : exec (.feederCheck k) s = execFeederCheck k s := rfl
theorem exec_diagClear (req : Req) (k : Fin 48) (s : State) : exec (.diagClear req k) s = execDiagClear req k s := rfl
theorem exec_txStart (f : Fin 48) (s : State) : exec (.txStart f) s = execTxStart f s := rfl
theorem exec_txTruncate (f : Fin 48) (s : State) : exec (.txTruncate f) s = execTxTruncate f s := rfl
theorem exec_phyFrameReceive (f : Fin 48) (x : PhyRx) (s : State) :
    exec (.phyFrameReceive f x) s = execPhyFrameReceive f x s := rfl
theorem exec_maskCommitReq (req : Req) (p : Fin 4) (v : Word) (s : State) :
    exec (.maskCommitReq req p v) s = execMaskCommitReq req p v s := rfl
theorem exec_maskCommitApply (f : Fin 48) (s : State) : exec (.maskCommitApply f) s = execMaskCommitApply f s := rfl
theorem exec_fphEnable (req : Req) (which : Fin 4 ⊕ Fin 48) (s : State) :
    exec (.fphEnable req which) s = execFphEnable req which s := rfl
theorem exec_macCycleStart (f : Fin 48) (s : State) : exec (.macCycleStart f) s = execMacCycleStart f s := rfl
theorem exec_beaconTransmit (f : Fin 48) (s : State) : exec (.beaconTransmit f) s = execBeaconTransmit f s := rfl
theorem exec_macFrameReceive (f : Fin 48) (s : State) : exec (.macFrameReceive f) s = execMacFrameReceive f s := rfl
theorem exec_ackReceive (f : Fin 48) (s : State) : exec (.ackReceive f) s = execAckReceive f s := rfl
theorem exec_retransmit (f : Fin 48) (s : State) : exec (.retransmit f) s = execRetransmit f s := rfl
theorem exec_deliveryTimeout (f : Fin 48) (s : State) : exec (.deliveryTimeout f) s = execDeliveryTimeout f s := rfl
theorem exec_joinRequest (f : Fin 48) (s : State) : exec (.joinRequest f) s = execJoinRequest f s := rfl
theorem exec_joinAuth (f : Fin 48) (s : State) : exec (.joinAuth f) s = execJoinAuth f s := rfl
theorem exec_joinConfirm (f : Fin 48) (s : State) : exec (.joinConfirm f) s = execJoinConfirm f s := rfl
theorem exec_joinTimeout (f : Fin 48) (s : State) : exec (.joinTimeout f) s = execJoinTimeout f s := rfl
theorem exec_nodeLost (i : Fin 4096) (s : State) : exec (.nodeLost i) s = execNodeLost i s := rfl
theorem exec_maskDistGo (req : Req) (f : Fin 48) (force : Bool) (s : State) :
    exec (.maskDistGo req f force) s = execMaskDistGo req f force s := rfl
theorem exec_maskDistCommit (f : Fin 48) (s : State) : exec (.maskDistCommit f) s = execMaskDistCommit f s := rfl
theorem exec_maskSwitch (f : Fin 48) (s : State) : exec (.maskSwitch f) s = execMaskSwitch f s := rfl
theorem exec_cruiseGo (req : Req) (f : Fin 48) (s : State) : exec (.cruiseGo req f) s = execCruiseGo req f s := rfl
theorem exec_probeReceive (f : Fin 48) (s : State) : exec (.probeReceive f) s = execProbeReceive f s := rfl
theorem exec_cruiseDone (f : Fin 48) (s : State) : exec (.cruiseDone f) s = execCruiseDone f s := rfl
theorem exec_cruiseApply (req : Req) (f : Fin 48) (s : State) :
    exec (.cruiseApply req f) s = execCruiseApply req f s := rfl
theorem exec_routeEffective (f : Fin 48) (s : State) : exec (.routeEffective f) s = execRouteEffective f s := rfl
theorem exec_routeAbandon (f : Fin 48) (s : State) : exec (.routeAbandon f) s = execRouteAbandon f s := rfl
theorem exec_bucketRefill (s : State) : exec .bucketRefill s = execBucketRefill s := rfl
theorem exec_nodeBlock (req : Req) (i : Fin 4096) (s : State) :
    exec (.nodeBlock req i) s = execNodeBlock req i s := rfl
theorem exec_nodeFree (req : Req) (i : Fin 4096) (s : State) : exec (.nodeFree req i) s = execNodeFree req i s := rfl
theorem exec_nodeLeave (req : Req) (i : Fin 4096) (s : State) :
    exec (.nodeLeave req i) s = execNodeLeave req i s := rfl
theorem exec_euiLookup (req : Req) (hi : Word) (s : State) : exec (.euiLookup req hi) s = execEuiLookup req hi s := rfl
theorem exec_euiLookupDone (s : State) : exec .euiLookupDone s = execEuiLookupDone s := rfl
theorem exec_yarderPass (s : State) : exec .yarderPass s = execYarderPass s := rfl
theorem exec_releaseHandoff (s : State) : exec .releaseHandoff s = execReleaseHandoff s := rfl
theorem exec_yrdEnable (req : Req) (s : State) : exec (.yrdEnable req) s = execYrdEnable req s := rfl
theorem exec_sceneArm (req : Req) (hi : Word) (s : State) : exec (.sceneArm req hi) s = execSceneArm req hi s := rfl
theorem exec_overrideArm (req : Req) (slot : Fin 256) (s : State) :
    exec (.overrideArm req slot) s = execOverrideArm req slot s := rfl
theorem exec_yrdCommitReq (req : Req) (s : State) : exec (.yrdCommitReq req) s = execYrdCommitReq req s := rfl
theorem exec_yrdCopy (req : Req) (s : State) : exec (.yrdCopy req) s = execYrdCopy req s := rfl
theorem exec_schCommitReq (req : Req) (s : State) : exec (.schCommitReq req) s = execSchCommitReq req s := rfl
theorem exec_schCopy (req : Req) (s : State) : exec (.schCopy req) s = execSchCopy req s := rfl
theorem exec_solarMinute (s : State) : exec .solarMinute s = execSolarMinute s := rfl
theorem exec_solarRecompute (req : Req) (lon : Bool) (v : Word) (s : State) :
    exec (.solarRecompute req lon v) s = execSolarRecompute req lon v s := rfl
theorem exec_frameIngress (i : SwitchIn) (s : State) : exec (.frameIngress i) s = execFrameIngress i s := rfl
theorem exec_engineDispatch (s : State) : exec .engineDispatch s = execEngineDispatch s := rfl
theorem exec_engineDone (e : Fin 8) (bad : Bool) (s : State) :
    exec (.engineDone e bad) s = execEngineDone e bad s := rfl
theorem exec_egressDone (port : Fin 4) (s : State) : exec (.egressDone port) s = execEgressDone port s := rfl
theorem exec_payloadHandoff (e : Fin 16384) (s : State) : exec (.payloadHandoff e) s = execPayloadHandoff e s := rfl
theorem exec_hostRxWrite (s : State) : exec .hostRxWrite s = execHostRxWrite s := rfl
theorem exec_hostTxFrame (s : State) : exec .hostTxFrame s = execHostTxFrame s := rfl
theorem exec_uplinkUp (u : Fin 2) (s : State) : exec (.uplinkUp u) s = execUplinkUp u s := rfl
theorem exec_uplinkDown (u : Fin 2) (los : Bool) (s : State) :
    exec (.uplinkDown u los) s = execUplinkDown u los s := rfl
theorem exec_classRevert (k : Fin 2) (s : State) : exec (.classRevert k) s = execClassRevert k s := rfl
theorem exec_speedTry (u : Fin 2) (s : State) : exec (.speedTry u) s = execSpeedTry u s := rfl
theorem exec_sfpAccess (req : Req) (u : Fin 2) (v : Word) (s : State) :
    exec (.sfpAccess req u v) s = execSfpAccess req u v s := rfl
theorem exec_sfpDone (u : Fin 2) (nak : Bool) (data : List Byte) (s : State) :
    exec (.sfpDone u nak data) s = execSfpDone u nak data s := rfl
theorem exec_sfpModuleChange (u : Fin 2) (inserted : Option Byte) (s : State) :
    exec (.sfpModuleChange u inserted) s = execSfpModuleChange u inserted s := rfl
theorem exec_txFaultChange (u : Fin 2) (fault : Bool) (s : State) :
    exec (.txFaultChange u fault) s = execTxFaultChange u fault s := rfl
theorem exec_timestampPop (req : Req) (u : Fin 2) (s : State) :
    exec (.timestampPop req u) s = execTimestampPop req u s := rfl
theorem exec_ptpMeasurement (req : Req) (k : Fin 2) (s : State) :
    exec (.ptpMeasurement req k) s = execPtpMeasurement req k s := rfl
theorem exec_domainHoldover (k : Fin 2) (s : State) : exec (.domainHoldover k) s = execDomainHoldover k s := rfl
theorem exec_domainEnable (req : Req) (k : Fin 2) (v : Word) (s : State) :
    exec (.domainEnable req k v) s = execDomainEnable req k v s := rfl
theorem exec_domainDisable (req : Req) (k : Fin 2) (v : Word) (s : State) :
    exec (.domainDisable req k v) s = execDomainDisable req k v s := rfl
theorem exec_civilUpdate (s : State) : exec .civilUpdate s = execCivilUpdate s := rfl
theorem exec_civilStepSnap (req : Req) (key : BitVec 16) (s : State) :
    exec (.civilStepSnap req key) s = execCivilStepSnap req key s := rfl
theorem exec_civilStepValue (req : Req) (key : BitVec 16) (s : State) :
    exec (.civilStepValue req key) s = execCivilStepValue req key s := rfl
theorem exec_rtcLoadFromTb3 (s : State) : exec .rtcLoadFromTb3 s = execRtcLoadFromTb3 s := rfl
theorem exec_timeAlarm (a : Fin 4) (s : State) : exec (.timeAlarm a) s = execTimeAlarm a s := rfl
theorem exec_timeSnap (req : Req) (s : State) : exec (.timeSnap req) s = execTimeSnap req s := rfl
theorem exec_rtcSecond (s : State) : exec .rtcSecond s = execRtcSecond s := rfl
theorem exec_rtcSet (req : Req) (v : Word) (s : State) : exec (.rtcSet req v) s = execRtcSet req v s := rfl
theorem exec_trimWindowDone (edges : Nat) (s : State) :
    exec (.trimWindowDone edges) s = execTrimWindowDone edges s := rfl
theorem exec_rtcAlarm (n : Fin 2) (s : State) : exec (.rtcAlarm n) s = execRtcAlarm n s := rfl
theorem exec_rtcSnap (req : Req) (s : State) : exec (.rtcSnap req) s = execRtcSnap req s := rfl
theorem exec_pd0Loss (s : State) : exec .pd0Loss s = execPd0Loss s := rfl
theorem exec_threadInit (req : Req) (t : Fin 256) (s : State) :
    exec (.threadInit req t) s = execThreadInit req t s := rfl
theorem exec_threadReady (req : Req) (t : Fin 256) (s : State) :
    exec (.threadReady req t) s = execThreadReady req t s := rfl
theorem exec_threadBlock (req : Req) (t : Fin 256) (s : State) :
    exec (.threadBlock req t) s = execThreadBlock req t s := rfl
theorem exec_threadCancel (req : Req) (t : Fin 256) (s : State) :
    exec (.threadCancel req t) s = execThreadCancel req t s := rfl
theorem exec_threadSetprio (req : Req) (t : Fin 256) (s : State) :
    exec (.threadSetprio req t) s = execThreadSetprio req t s := rfl
theorem exec_threadSetaff (req : Req) (t : Fin 256) (s : State) :
    exec (.threadSetaff req t) s = execThreadSetaff req t s := rfl
theorem exec_threadYield (req : Req) (t : Fin 256) (s : State) :
    exec (.threadYield req t) s = execThreadYield req t s := rfl
theorem exec_threadWait (req : Req) (t : Fin 256) (s : State) :
    exec (.threadWait req t) s = execThreadWait req t s := rfl
theorem exec_waitDeadline (t : Fin 256) (s : State) : exec (.waitDeadline t) s = execWaitDeadline t s := rfl
theorem exec_bindWake (p : Fin 46) (s : State) : exec (.bindWake p) s = execBindWake p s := rfl
theorem exec_dispatchDecision (s : State) : exec .dispatchDecision s = execDispatchDecision s := rfl
theorem exec_threadTake (req : Req) (c : Fin 4) (t : BitVec 9) (s : State) :
    exec (.threadTake req c t) s = execThreadTake req c t s := rfl
theorem exec_memoryError (e : EccError) (hart : Option (Fin 4)) (s : State) :
    exec (.memoryError e hart) s = execMemoryError e hart s := rfl
theorem exec_queuePush (req : Req) (q : Fin 64) (hi : Word) (s : State) :
    exec (.queuePush req q hi) s = execQueuePush req q hi s := rfl
theorem exec_itemOffer (s : State) : exec .itemOffer s = execItemOffer s := rfl
theorem exec_itemCommit (q : Fin 64) (s : State) : exec (.itemCommit q) s = execItemCommit q s := rfl
theorem exec_queueMark (req : Req) (q : Fin 64) (s : State) : exec (.queueMark req q) s = execQueueMark req q s := rfl
theorem exec_queueRewind (req : Req) (q : Fin 64) (s : State) :
    exec (.queueRewind req q) s = execQueueRewind req q s := rfl
theorem exec_queueFlush (req : Req) (q : Fin 64) (s : State) :
    exec (.queueFlush req q) s = execQueueFlush req q s := rfl
theorem exec_queueAbort (req : Req) (q : Fin 64) (s : State) :
    exec (.queueAbort req q) s = execQueueAbort req q s := rfl
theorem exec_queueRdWrite (req : Req) (q : Fin 64) (v : Word) (s : State) :
    exec (.queueRdWrite req q v) s = execQueueRdWrite req q v s := rfl
theorem exec_queueRelease (req : Req) (q : Fin 64) (v : Word) (s : State) :
    exec (.queueRelease req q v) s = execQueueRelease req q v s := rfl
theorem exec_queueCopy (req : Req) (q : Fin 64) (words : BitVec 13) (s : State) :
    exec (.queueCopy req q words) s = execQueueCopy req q words s := rfl
theorem exec_queueCopyDone (s : State) : exec .queueCopyDone s = execQueueCopyDone s := rfl
theorem exec_queueEnable (req : Req) (q : Fin 64) (v : Word) (s : State) :
    exec (.queueEnable req q v) s = execQueueEnable req q v s := rfl
theorem exec_queueDisable (req : Req) (q : Fin 64) (s : State) :
    exec (.queueDisable req q) s = execQueueDisable req q s := rfl
theorem exec_logEvent (code : BitVec 10) (payload : List Word) (s : State) :
    exec (.logEvent code payload) s = execLogEvent code payload s := rfl
theorem exec_logRecordWrite (w : LogWrite) (s : State) : exec (.logRecordWrite w) s = execLogRecordWrite w s := rfl
theorem exec_logTokenRefill (s : State) : exec .logTokenRefill s = execLogTokenRefill s := rfl
theorem exec_opsecSecond (s : State) : exec .opsecSecond s = execOpsecSecond s := rfl
theorem exec_logSeek (req : Req) (seq : Word) (s : State) : exec (.logSeek req seq) s = execLogSeek req seq s := rfl
theorem exec_bankClr (req : Req) (key : BitVec 16) (a : Bool) (b : Bool) (s : State) :
    exec (.bankClr req key a b) s = execBankClr req key a b s := rfl
theorem exec_firmwareRecord (req : Req) (v : Word) (s : State) :
    exec (.firmwareRecord req v) s = execFirmwareRecord req v s := rfl
theorem exec_generate (s : State) : exec .generate s = execGenerate s := rfl
theorem exec_importPlain (s : State) : exec .importPlain s = execImportPlain s := rfl
theorem exec_unwrap (s : State) : exec .unwrap s = execUnwrap s := rfl
theorem exec_wrap (s : State) : exec .wrap s = execWrap s := rfl
theorem exec_derive (s : State) : exec .derive s = execDerive s := rfl
theorem exec_agree (s : State) : exec .agree s = execAgree s := rfl
theorem exec_seal (s : State) : exec .seal s = execSeal s := rfl
theorem exec_kvtOpen (s : State) : exec .kvtOpen s = execOpen s := rfl
theorem exec_sign (s : State) : exec .sign s = execSign s := rfl
theorem exec_verifyEcdsa (s : State) : exec .verifyEcdsa s = execVerifyEcdsa s := rfl
theorem exec_verifyMldsa (s : State) : exec .verifyMldsa s = execVerifyMldsa s := rfl
theorem exec_attest (s : State) : exec .attest s = execAttest s := rfl
theorem exec_store (s : State) : exec .store s = execStore s := rfl
theorem exec_exportPublic (s : State) : exec .exportPublic s = execExportPublic s := rfl
theorem exec_random (s : State) : exec .random s = execRandom s := rfl
theorem exec_readCert (s : State) : exec .readCert s = execReadCert s := rfl
theorem exec_keyCommandDone (engine : Fin 5) (s : State) :
    exec (.keyCommandDone engine) s = execKeyCommandDone engine s := rfl
theorem exec_revoke (req : Req) (slot : Fin 512) (s : State) : exec (.revoke req slot) s = execRevoke req slot s := rfl
theorem exec_delete (req : Req) (slot : Fin 512) (s : State) : exec (.delete req slot) s = execDelete req slot s := rfl
theorem exec_zeroizeVolatile (req : Req) (s : State) : exec (.zeroizeVolatile req) s = execZeroizeVolatile req s := rfl
theorem exec_zeroizePersistent (req : Req) (s : State) :
    exec (.zeroizePersistent req) s = execZeroizePersistent req s := rfl
theorem exec_zeroizeFactory (req : Req) (s : State) : exec (.zeroizeFactory req) s = execZeroizeFactory req s := rfl
theorem exec_reseal (req : Req) (s : State) : exec (.reseal req) s = execReseal req s := rfl
theorem exec_resealDone (s : State) : exec .resealDone s = execResealDone s := rfl
theorem exec_maskingPass (s : State) : exec .maskingPass s = execMaskingPass s := rfl
theorem exec_entropyFail (test : Fin 2) (s : State) : exec (.entropyFail test) s = execEntropyFail test s := rfl
theorem exec_entropyRecovered (s : State) : exec .entropyRecovered s = execEntropyRecovered s := rfl
theorem exec_sessionOpen (req : Req) (src : Fin 4) (s : State) :
    exec (.sessionOpen req src) s = execSessionOpen req src s := rfl
theorem exec_sessionClose (req : Req) (s : State) : exec (.sessionClose req) s = execSessionClose req s := rfl
theorem exec_sessionAbort (req : Req) (s : State) : exec (.sessionAbort req) s = execSessionAbort req s := rfl
theorem exec_xfer (req : Req) (v : Word) (s : State) : exec (.xfer req v) s = execXfer req v s := rfl
theorem exec_xferDone (s : State) : exec .xferDone s = execXferDone s := rfl
theorem exec_verify (req : Req) (s : State) : exec (.verify req) s = execVerify req s := rfl
theorem exec_verifyDone (s : State) : exec .verifyDone s = execVerifyDone s := rfl
theorem exec_activate (req : Req) (s : State) : exec (.activate req) s = execActivate req s := rfl
theorem exec_activateDone (flashOk : Bool) (s : State) :
    exec (.activateDone flashOk) s = execActivateDone flashOk s := rfl
theorem exec_confirm (req : Req) (key : BitVec 16) (s : State) :
    exec (.confirm req key) s = execConfirm req key s := rfl
theorem exec_fallback (req : Req) (key : BitVec 16) (s : State) :
    exec (.fallback req key) s = execFallback req key s := rfl
theorem exec_migDone (req : Req) (s : State) : exec (.migDone req) s = execMigDone req s := rfl
theorem exec_sessionTimeout (s : State) : exec .sessionTimeout s = execSessionTimeout s := rfl
theorem exec_windowWarn (s : State) : exec .windowWarn s = execWindowWarn s := rfl
theorem exec_windowExpiry (s : State) : exec .windowExpiry s = execWindowExpiry s := rfl
theorem exec_twinEnable (req : Req) (s : State) : exec (.twinEnable req) s = execTwinEnable req s := rfl
theorem exec_huntTimeout (s : State) : exec .huntTimeout s = execHuntTimeout s := rfl
theorem exec_twinLinkUp (s : State) : exec .twinLinkUp s = execTwinLinkUp s := rfl
theorem exec_twinLinkDown (s : State) : exec .twinLinkDown s = execTwinLinkDown s := rfl
theorem exec_heartbeatSend (s : State) : exec .heartbeatSend s = execHeartbeatSend s := rfl
theorem exec_heartbeatReceive (h : TwinHead) (at_ : Stamp) (b : Heartbeat) (s : State) :
    exec (.heartbeatReceive h at_ b) s = execHeartbeatReceive h at_ b s := rfl
theorem exec_heartbeatDue (s : State) : exec .heartbeatDue s = execHeartbeatDue s := rfl
theorem exec_pairReceive (h : TwinHead) (p : PairFrame) (s : State) :
    exec (.pairReceive h p) s = execPairReceive h p s := rfl
theorem exec_controlReceive (h : TwinHead) (c : ControlFrame) (s : State) :
    exec (.controlReceive h c) s = execControlReceive h c s := rfl
theorem exec_alignmentStep (slip : BitVec 12) (s : State) :
    exec (.alignmentStep slip) s = execAlignmentStep slip s := rfl
theorem exec_aclkTrim (lat : BitVec 16) (want : Int) (s : State) :
    exec (.aclkTrim lat want) s = execAclkTrim lat want s := rfl
theorem exec_referenceLoss (s : State) : exec .referenceLoss s = execReferenceLoss s := rfl
theorem exec_loopEpochSend (s : State) : exec .loopEpochSend s = execLoopEpochSend s := rfl
theorem exec_loopEpochReceive (h : TwinHead) (e : LoopEpoch) (complete : Bool) (s : State) :
    exec (.loopEpochReceive h e complete) s = execLoopEpochReceive h e complete s := rfl
theorem exec_meterEpochReceive (h : TwinHead) (slot : List Byte) (s : State) :
    exec (.meterEpochReceive h slot) s = execMeterEpochReceive h slot s := rfl
theorem exec_journalReceive (h : TwinHead) (e : JournalEntry) (s : State) :
    exec (.journalReceive h e) s = execJournalReceive h e s := rfl
theorem exec_yarderEpochSend (s : State) : exec .yarderEpochSend s = execYarderEpochSend s := rfl
theorem exec_yarderEpochReceive (h : TwinHead) (c : Nat) (events : List LampEvent) (reports : List MacReport) (complete : Bool) (s : State) :
    exec (.yarderEpochReceive h c events reports complete) s = execYarderEpochReceive h c events reports complete s := rfl
theorem exec_yarderResync (h : TwinHead) (y : Yrd) (c : Sch) (s : State) :
    exec (.yarderResync h y c) s = execYarderResync h y c s := rfl
theorem exec_switchFrameReceive (h : TwinHead) (b : List Byte) (s : State) :
    exec (.switchFrameReceive h b) s = execSwitchFrameReceive h b s := rfl
theorem exec_imageReceive (h : TwinHead) (off : BitVec 27) (bytes : List Byte) (s : State) :
    exec (.imageReceive h off bytes) s = execImageReceive h off bytes s := rfl
theorem exec_takeoverDecision (c : Fin 5) (s : State) : exec (.takeoverDecision c) s = execTakeoverDecision c s := rfl
theorem exec_takeover (s : State) : exec .takeover s = execTakeover s := rfl
theorem exec_pulseResume (s : State) : exec .pulseResume s = execPulseResume s := rfl
theorem exec_demote (s : State) : exec .demote s = execDemote s := rfl
theorem exec_handover (req : Req) (key : BitVec 16) (s : State) :
    exec (.handover req key) s = execHandover req key s := rfl
theorem exec_drillArm (req : Req) (hi : Word) (s : State) : exec (.drillArm req hi) s = execDrillArm req hi s := rfl
theorem exec_drillCancel (req : Req) (ret : BitVec 16) (s : State) :
    exec (.drillCancel req ret) s = execDrillCancel req ret s := rfl
theorem exec_handoverExecute (s : State) : exec .handoverExecute s = execHandoverExecute s := rfl
theorem exec_drillReturn (s : State) : exec .drillReturn s = execDrillReturn s := rfl
theorem exec_twinRearm (req : Req) (s : State) : exec (.twinRearm req) s = execTwinRearm req s := rfl
theorem exec_kspConnect (c : KspClient) (s : State) : exec (.kspConnect c) s = execKspConnect c s := rfl
theorem exec_hello (i : Fin 8) (vmin : BitVec 8) (vmax : BitVec 8) (s : State) :
    exec (.hello i vmin vmax) s = execHello i vmin vmax s := rfl
theorem exec_helloTimeout (i : Fin 8) (s : State) : exec (.helloTimeout i) s = execHelloTimeout i s := rfl
theorem exec_sessionIdleTimeout (i : Fin 8) (s : State) :
    exec (.sessionIdleTimeout i) s = execSessionIdleTimeout i s := rfl
theorem exec_ping (h : KspHead) (s : State) : exec (.ping h) s = execPing h s := rfl
theorem exec_bundle (h : KspHead) (ms : List BundleMember) (p : CommitPoint) (s : State) :
    exec (.bundle h ms p) s = execBundle h ms p s := rfl
theorem exec_bundleCancel (h : KspHead) (txid : BitVec 64) (s : State) :
    exec (.bundleCancel h txid) s = execBundleCancel h txid s := rfl
theorem exec_txQuery (h : KspHead) (txids : List (BitVec 64)) (s : State) :
    exec (.txQuery h txids) s = execTxQuery h txids s := rfl
theorem exec_bundleConvert (s : State) : exec .bundleConvert s = execBundleConvert s := rfl
theorem exec_bundleArm (s : State) : exec .bundleArm s = execBundleArm s := rfl
theorem exec_bundleComplete (s : State) : exec .bundleComplete s = execBundleComplete s := rfl
theorem exec_regRead (h : KspHead) (a : Word) (n : BitVec 10) (s : State) :
    exec (.regRead h a n) s = execRegRead h a n s := rfl
theorem exec_regWrite (h : KspHead) (l : List (Word × Word)) (p : CommitPoint) (s : State) :
    exec (.regWrite h l p) s = execRegWrite h l p s := rfl
theorem exec_winRead (h : KspHead) (a : Word) (n : BitVec 14) (s : State) :
    exec (.winRead h a n) s = execWinRead h a n s := rfl
theorem exec_winWrite (h : KspHead) (a : Word) (d : List Word) (p : CommitPoint) (s : State) :
    exec (.winWrite h a d p) s = execWinWrite h a d p s := rfl
theorem exec_configGet (h : KspHead) (typ : BitVec 16) (s : State) :
    exec (.configGet h typ) s = execConfigGet h typ s := rfl
theorem exec_configPut (h : KspHead) (rs : List ConfigRecord) (s : State) :
    exec (.configPut h rs) s = execConfigPut h rs s := rfl
theorem exec_scheduleLoad (h : KspHead) (l : List (Fin 1024 × List Word)) (s : State) :
    exec (.scheduleLoad h l) s = execScheduleLoad h l s := rfl
theorem exec_rulesLoad (h : KspHead) (rules : List (Fin 256 × List Word)) (scenes : List (Fin 64 × List Word)) (s : State) :
    exec (.rulesLoad h rules scenes) s = execRulesLoad h rules scenes s := rfl
theorem exec_bankCommit (h : KspHead) (b : Fin 4) (p : CommitPoint) (s : State) :
    exec (.bankCommit h b p) s = execBankCommit h b p s := rfl
theorem exec_override (h : KspHead) (slot : Fin 256) (content : List Word) (p : CommitPoint) (s : State) :
    exec (.override h slot content p) s = execOverride h slot content p s := rfl
theorem exec_sceneSwitch (h : KspHead) (scene : Fin 64) (on : Bool) (p : CommitPoint) (s : State) :
    exec (.sceneSwitch h scene on p) s = execSceneSwitch h scene on p s := rfl
theorem exec_setpoint (h : KspHead) (target : Option (Fin 48)) (v : Word) (p : CommitPoint) (s : State) :
    exec (.setpoint h target v p) s = execSetpoint h target v p s := rfl
theorem exec_level (h : KspHead) (ch : Fin 48) (v : Word) (p : CommitPoint) (s : State) :
    exec (.level h ch v p) s = execLevel h ch v p s := rfl
theorem exec_patternStart (h : KspHead) (e : Fin 8) (p : CommitPoint) (s : State) :
    exec (.patternStart h e p) s = execPatternStart h e p s := rfl
theorem exec_endpointBudget (h : KspHead) (e : Fin 16384) (rateDn : Word) (burstDn : Word) (rateUp : Word) (burstUp : Word) (p : CommitPoint) (s : State) :
    exec (.endpointBudget h e rateDn burstDn rateUp burstUp p) s = execEndpointBudget h e rateDn burstDn rateUp burstUp p s := rfl
theorem exec_meterRead (h : KspHead) (s : State) : exec (.meterRead h) s = execMeterRead h s := rfl
theorem exec_meterCycle (h : KspHead) (s : State) : exec (.meterCycle h) s = execMeterCycle h s := rfl
theorem exec_meterSlot (h : KspHead) (s : State) : exec (.meterSlot h) s = execMeterSlot h s := rfl
theorem exec_alarmAck (h : KspHead) (seqs : List Word) (s : State) :
    exec (.alarmAck h seqs) s = execAlarmAck h seqs s := rfl
theorem exec_alarmList (h : KspHead) (s : State) : exec (.alarmList h) s = execAlarmList h s := rfl
theorem exec_logSubscribe (h : KspHead) (from_ : Word) (mask : BitVec 1024) (s : State) :
    exec (.logSubscribe h from_ mask) s = execLogSubscribe h from_ mask s := rfl
theorem exec_logStop (h : KspHead) (s : State) : exec (.logStop h) s = execLogStop h s := rfl
theorem exec_timeRead (h : KspHead) (s : State) : exec (.timeRead h) s = execTimeRead h s := rfl
theorem exec_timeStep (h : KspHead) (k : TimeStep) (s : State) : exec (.timeStep h k) s = execTimeStep h k s := rfl
theorem exec_tzLoad (h : KspHead) (z : ZoneLoad) (s : State) : exec (.tzLoad h z) s = execTzLoad h z s := rfl
theorem exec_updOpen (h : KspHead) (s : State) : exec (.updOpen h) s = execUpdOpen h s := rfl
theorem exec_updData (h : KspHead) (buf : BitVec 33) (off : Word) (bytes : List Byte) (s : State) :
    exec (.updData h buf off bytes) s = execUpdData h buf off bytes s := rfl
theorem exec_updVerify (h : KspHead) (s : State) : exec (.updVerify h) s = execUpdVerify h s := rfl
theorem exec_updActivate (h : KspHead) (s : State) : exec (.updActivate h) s = execUpdActivate h s := rfl
theorem exec_updConfirm (h : KspHead) (fallback : Bool) (s : State) :
    exec (.updConfirm h fallback) s = execUpdConfirm h fallback s := rfl
theorem exec_updStatus (h : KspHead) (s : State) : exec (.updStatus h) s = execUpdStatus h s := rfl
theorem exec_twinCmd (h : KspHead) (c : TwinCmd) (s : State) : exec (.twinCmd h c) s = execTwinCmd h c s := rfl
theorem exec_txjPut (req : Req) (s : State) : exec (.txjPut req) s = execTxjPut req s := rfl
theorem exec_txjFind (req : Req) (s : State) : exec (.txjFind req) s = execTxjFind req s := rfl
theorem exec_txjUpdate (req : Req) (s : State) : exec (.txjUpdate req) s = execTxjUpdate req s := rfl
theorem exec_seekDone (s : State) : exec .seekDone s = execSeekDone s := rfl
theorem exec_txjDone (s : State) : exec .txjDone s = execTxjDone s := rfl
theorem exec_txDisableRelease (u : Fin 2) (s : State) : exec (.txDisableRelease u) s = execTxDisableRelease u s := rfl
theorem exec_blockLockChange (u : Fin 2) (lock : Bool) (los : Bool) (s : State) :
    exec (.blockLockChange u lock los) s = execBlockLockChange u lock los s := rfl
theorem exec_vinReturn (mv : BitVec 16) (s : State) : exec (.vinReturn mv) s = execVinReturn mv s := rfl

end Sys2Proof.Machine
end

