-- ==== Sys2Proof/Laws/Tab.lean ====
section
/-!
SUPPORT. The laws of sparse tables: reading after writing, and that every operation keeps the canonical form.
-/

namespace Sys2Proof.Machine

variable {α : Type}

/-! ### Reading after writing -/

theorem Tab.get_erase_same (d : Nat → α) (k : Nat) (t : Tab α) : Tab.get d (Tab.erase k t) k = d k := by
  induction t with
  | nil => rfl
  | cons c t ih =>
    obtain ⟨a, w⟩ := c
    by_cases h : k = a <;> simp [Tab.erase, Tab.get, h, ih]
    simpa [h] using ih

theorem Tab.get_erase_other (d : Nat → α) (k x : Nat) (t : Tab α) (h : x ≠ k) :
    Tab.get d (Tab.erase k t) x = Tab.get d t x := by
  induction t with
  | nil => rfl
  | cons c t ih =>
    obtain ⟨a, w⟩ := c
    by_cases h1 : k = a
    · subst h1; simp [Tab.erase, Tab.get, ih, h]
    · by_cases h2 : x = a <;> simp [Tab.erase, Tab.get, h1, h2, ih]

theorem Tab.get_insert_same (d : Nat → α) (k : Nat) (v : α) (t : Tab α) (h : ∀ c ∈ t, c.1 ≠ k) :
    Tab.get d (Tab.insert k v t) k = v := by
  induction t with
  | nil => simp [Tab.insert, Tab.get]
  | cons c t ih =>
    obtain ⟨a, w⟩ := c
    have ha : k ≠ a := fun e => h (a, w) (by simp) e.symm
    by_cases hl : k < a
    · simp [Tab.insert, Tab.get, hl]
    · simp [Tab.insert, Tab.get, hl, ha, ih (fun c hc => h c (by simp [hc]))]

theorem Tab.get_insert_other (d : Nat → α) (k x : Nat) (v : α) (t : Tab α) (h : x ≠ k) :
    Tab.get d (Tab.insert k v t) x = Tab.get d t x := by
  induction t with
  | nil => simp [Tab.insert, Tab.get, h]
  | cons c t ih =>
    obtain ⟨a, w⟩ := c
    by_cases hl : k < a
    · simp [Tab.insert, Tab.get, hl, h]
    · simp [Tab.insert, Tab.get, hl, ih]

theorem Tab.mem_erase (k : Nat) (t : Tab α) (c : Nat × α) (h : c ∈ Tab.erase k t) : c ∈ t ∧ c.1 ≠ k := by
  induction t with
  | nil => simp [Tab.erase] at h
  | cons e t ih =>
    obtain ⟨a, w⟩ := e
    by_cases h1 : k = a
    · simp only [Tab.erase, h1, if_true] at h
      exact ⟨by simp [(ih (h1 ▸ h)).1], (ih (h1 ▸ h)).2⟩
    · simp only [Tab.erase, h1, if_false, List.mem_cons] at h
      rcases h with rfl | h
      · exact ⟨by simp, fun e => h1 e.symm⟩
      · exact ⟨by simp [(ih h).1], (ih h).2⟩

theorem Tab.mem_insert (k : Nat) (v : α) (t : Tab α) (c : Nat × α) (h : c ∈ Tab.insert k v t) : c = (k, v) ∨ c ∈ t := by
  induction t with
  | nil => simpa [Tab.insert] using h
  | cons e t ih =>
    obtain ⟨a, w⟩ := e
    by_cases hl : k < a
    · simpa [Tab.insert, hl] using h
    · simp only [Tab.insert, hl, if_false, List.mem_cons] at h
      rcases h with h | h
      · simp [h]
      · rcases ih h with h | h <;> simp [h]

/-- A key reads as the value put under it. -/
@[simp] theorem Tab.get_put_same [DecidableEq α] (d : Nat → α) (t : Tab α) (k : Nat) (v : α) :
    Tab.get d (Tab.put d t k v) k = v := by
  by_cases h : v = d k
  · simp [Tab.put, h, Tab.get_erase_same]
  · simp only [Tab.put, h, if_false]
    exact Tab.get_insert_same d k v _ (fun c hc => (Tab.mem_erase k t c hc).2)

/-- Every other key reads as before. -/
theorem Tab.get_put_other [DecidableEq α] (d : Nat → α) (t : Tab α) (k x : Nat) (v : α) (h : x ≠ k) :
    Tab.get d (Tab.put d t k v) x = Tab.get d t x := by
  by_cases hv : v = d k
  · simp [Tab.put, hv, Tab.get_erase_other _ _ _ _ h]
  · simp [Tab.put, hv, Tab.get_insert_other _ _ _ _ _ h, Tab.get_erase_other _ _ _ _ h]

/-- Reading any key after a put. -/
theorem Tab.get_put [DecidableEq α] (d : Nat → α) (t : Tab α) (k x : Nat) (v : α) :
    Tab.get d (Tab.put d t k v) x = if x = k then v else Tab.get d t x := by
  split
  · subst x; simp
  · exact Tab.get_put_other _ _ _ _ _ ‹_›

/-- A key outside a run of puts reads as before. -/
theorem Tab.get_putAll_other [DecidableEq α] (d : Nat → α) (l : List α) :
    ∀ (t : Tab α) (k x : Nat), (x < k ∨ k + l.length ≤ x) → Tab.get d (Tab.putAll d t k l) x = Tab.get d t x := by
  induction l with
  | nil => intros; rfl
  | cons v l ih =>
    intro t k x h
    simp only [List.length_cons] at h
    rw [Tab.putAll, ih _ _ _ (by omega), Tab.get_put_other _ _ _ _ _ (by omega)]

/-- A key inside a run of puts reads as the value of its place. -/
theorem Tab.get_putAll_in [DecidableEq α] (d : Nat → α) (l : List α) :
    ∀ (t : Tab α) (k i : Nat) (h : i < l.length), Tab.get d (Tab.putAll d t k l) (k + i) = l[i] := by
  induction l with
  | nil => intro t k i h; simp at h
  | cons v l ih =>
    intro t k i h
    cases i with
    | zero => simp [Tab.putAll, Tab.get_putAll_other]
    | succ i =>
      simp only [List.length_cons] at h
      have e : k + (i + 1) = k + 1 + i := by omega
      simp only [Tab.putAll, List.getElem_cons_succ, e]
      exact ih _ _ _ (by omega)

/-- What a table reads as after keys are dropped: dropped keys as unlisted ones, the others as before. -/
theorem Tab.get_dropIf (d : Nat → α) (p : Nat → Bool) (t : Tab α) (x : Nat) :
    Tab.get d (Tab.dropIf p t) x = if p x then d x else Tab.get d t x := by
  induction t with
  | nil => simp [Tab.dropIf, Tab.get]
  | cons c t ih =>
    obtain ⟨a, w⟩ := c
    simp only [Tab.dropIf] at ih
    cases hp : p a <;> by_cases hx : x = a <;> simp_all [Tab.dropIf, Tab.get]

/-! ### The canonical form -/

/-- The canonical form, said at once: keys strictly rising, and no pair that an unlisted key would give. -/
theorem Tab.wf_iff [DecidableEq α] (d : Nat → α) (t : Tab α) :
    Tab.wf d t = true ↔ t.Pairwise (fun a b => a.1 < b.1) ∧ ∀ c ∈ t, c.2 ≠ d c.1 := by
  induction t with
  | nil => simp [Tab.wf]
  | cons c t ih =>
    obtain ⟨k, v⟩ := c
    cases t with
    | nil => simp [Tab.wf]
    | cons e t =>
      obtain ⟨k', v'⟩ := e
      simp only [Tab.wf, Bool.and_eq_true, decide_eq_true_eq, ih, List.pairwise_cons, List.mem_cons, forall_eq_or_imp]
      constructor
      · rintro ⟨⟨h1, h2⟩, ⟨h3, h4⟩, h5, h6⟩
        exact ⟨⟨⟨h2, fun c hc => lt_trans h2 (h3 c hc)⟩, h3, h4⟩, h1, h5, h6⟩
      · rintro ⟨⟨⟨h2, _⟩, h3, h4⟩, h1, h5, h6⟩
        exact ⟨⟨h1, h2⟩, ⟨h3, h4⟩, h5, h6⟩

theorem Tab.erase_sublist (k : Nat) (t : Tab α) : (Tab.erase k t).Sublist t := by
  induction t with
  | nil => exact List.Sublist.slnil
  | cons c t ih =>
    obtain ⟨a, w⟩ := c
    by_cases h : k = a
    · simp only [Tab.erase, h, if_true]; exact .cons _ (h ▸ ih)
    · simp only [Tab.erase, h, if_false]; exact .cons_cons _ ih

theorem Tab.wf_of_sublist [DecidableEq α] (d : Nat → α) {t u : Tab α} (hs : u.Sublist t) (h : Tab.wf d t) : Tab.wf d u := by
  rw [Tab.wf_iff] at *
  exact ⟨h.1.sublist hs, fun c hc => h.2 c (hs.subset hc)⟩

theorem Tab.wf_insert [DecidableEq α] (d : Nat → α) (k : Nat) (v : α) (hv : v ≠ d k) (t : Tab α) (hk : ∀ c ∈ t, c.1 ≠ k)
    (h : Tab.wf d t) : Tab.wf d (Tab.insert k v t) := by
  induction t with
  | nil => simpa [Tab.insert, Tab.wf] using hv
  | cons c t ih =>
    obtain ⟨a, w⟩ := c
    have ha : a ≠ k := hk (a, w) (by simp)
    rw [Tab.wf_iff, List.pairwise_cons] at h
    by_cases hl : k < a
    · simp only [Tab.insert, hl, if_true]
      rw [Tab.wf_iff, List.pairwise_cons, List.pairwise_cons]
      refine ⟨⟨?_, h.1⟩, ?_⟩
      · intro c hc
        rcases List.mem_cons.1 hc with rfl | hc
        · exact hl
        · exact lt_trans hl (h.1.1 c hc)
      · intro c hc
        rcases List.mem_cons.1 hc with rfl | hc
        · exact hv
        · exact h.2 c hc
    · simp only [Tab.insert, hl, if_false]
      have ht : Tab.wf d t := (Tab.wf_iff d t).2 ⟨h.1.2, fun c hc => h.2 c (by simp [hc])⟩
      have hi := (Tab.wf_iff d _).1 (ih (fun c hc => hk c (by simp [hc])) ht)
      rw [Tab.wf_iff, List.pairwise_cons]
      refine ⟨⟨?_, hi.1⟩, ?_⟩
      · intro c hc
        rcases Tab.mem_insert k v t c hc with rfl | hc
        · omega
        · exact h.1.1 c hc
      · intro c hc
        rcases List.mem_cons.1 hc with rfl | hc
        · exact h.2 _ (by simp)
        · exact hi.2 c hc

/-- A put keeps the canonical form. -/
theorem Tab.wf_put [DecidableEq α] (d : Nat → α) (t : Tab α) (k : Nat) (v : α) (h : Tab.wf d t) :
    Tab.wf d (Tab.put d t k v) := by
  have he := Tab.wf_of_sublist d (Tab.erase_sublist k t) h
  by_cases hv : v = d k
  · simpa only [Tab.put, hv, if_true] using he
  · simp only [Tab.put, hv, if_false]
    exact Tab.wf_insert d k v hv _ (fun c hc => (Tab.mem_erase k t c hc).2) he

/-- A run of puts keeps the canonical form. -/
theorem Tab.wf_putAll [DecidableEq α] (d : Nat → α) (l : List α) :
    ∀ (t : Tab α) (k : Nat), Tab.wf d t → Tab.wf d (Tab.putAll d t k l) := by
  induction l with
  | nil => intro t k h; exact h
  | cons v l ih => intro t k h; exact ih _ _ (Tab.wf_put d t k v h)

/-- Dropping keys keeps the canonical form. -/
theorem Tab.wf_dropIf [DecidableEq α] (d : Nat → α) (p : Nat → Bool) (t : Tab α) (h : Tab.wf d t) :
    Tab.wf d (Tab.dropIf p t) := Tab.wf_of_sublist d List.filter_sublist h

/-- Puts of a list of pairs keep the canonical form. -/
theorem Tab.wf_foldl_put [DecidableEq α] {β : Type} (d : Nat → α) (key : β → Nat) (val : β → α) (l : List β) :
    ∀ t : Tab α, Tab.wf d t → Tab.wf d (l.foldl (fun t c => Tab.put d t (key c) (val c)) t) := by
  induction l with
  | nil => intro t h; exact h
  | cons c l ih => intro t h; exact ih _ (Tab.wf_put d t _ _ h)

end Sys2Proof.Machine
end

