-- ==== Sys2Proof/Laws/Keeps.lean ====
section
/-!
SUPPORT. What every operation of the model keeps: the queue of waiting commands, and the canonical form of the stores.
-/

namespace Sys2Proof.Machine

/-- `t` has the queue of `s0`, and is sound if `s0` is. -/
structure Keeps (s0 t : State) : Prop where
  pending : t.pending = s0.pending
  sound : s0.Sound → t.Sound

theorem Keeps.refl (s : State) : Keeps s s := ⟨rfl, id⟩

/-- A change of fields other than the stores and the queue. -/
theorem keeps_upd {s0 s : State} {now : Stamp} {sys : Sys} {pwr : Pwr} {rct : Rct} {tim : Tim} {rtc : Rtc} {sns : Sns}
    {cen : Cen} {mfe : Mfe} {chs : Tab Channel} {lgt : Lgt} {mtr : Mtr} {stl : Stl} {axe : Axe} {modems : Tab Modem}
    {macs : Tab Mac} {ntb : Ntb} {yrd : Yrd} {sch : Sch} {ths : Ths} {tqu : Tqu} {swx : Swx} {uplinks : Tab Uplink}
    {evr : Evr} {kvt : Kvt} {upd : Upd} {trc : Trc} {twn : Twn} {ksp : Ksp} {sent : List Output} {free : Nat}
    (h : Keeps s0 s) :
    Keeps s0 { regs := s.regs, win := s.win, mem := s.mem, now, sys, pwr, rct, tim, rtc, sns, cen, mfe, chs, lgt, mtr,
               stl, axe, modems, macs, ntb, yrd, sch, ths, tqu, swx, uplinks, evr, kvt, upd, trc, twn, ksp, sent, free,
               pending := s.pending } := ⟨h.1, h.2⟩

theorem keeps_foldl {α : Type} {s0 : State} {f : State → α → State} {s : State} (l : List α)
    (hf : ∀ s x, Keeps s0 s → Keeps s0 (f s x)) (h : Keeps s0 s) : Keeps s0 (l.foldl f s) := by
  induction l generalizing s with
  | nil => exact h
  | cons x l ih => exact ih (hf s x h)

theorem keeps_foldl_pair {α β : Type} {s0 : State} {f : State × β → α → State × β} {p : State × β} (l : List α)
    (hf : ∀ p x, Keeps s0 p.1 → Keeps s0 (f p x).1) (h : Keeps s0 p.1) : Keeps s0 (l.foldl f p).1 := by
  induction l generalizing p with
  | nil => exact h
  | cons x l ih => exact ih (hf p x h)

theorem keeps_of_eq {β : Type} {s0 t : State} {p : State × β} {b : β} (e : p = (t, b)) (h : Keeps s0 p.1) : Keeps s0 t := by
  subst e; exact h

theorem keeps_cut (s0 t : State) {P : Prop} (a : Keeps s0 t) (b : Keeps s0 t → P) : P := b a

theorem keeps_id {s0 s : State} (h : Keeps s0 s) : Keeps s0 (id s) := h

theorem keeps_ite {s0 s t : State} {c : Prop} [Decidable c] (hs : Keeps s0 s) (ht : Keeps s0 t) :
    Keeps s0 (if c then s else t) := by split <;> assumption

theorem keeps_ite_pair {β : Type} {s0 : State} {p q : State × β} {c : Prop} [Decidable c] (hs : Keeps s0 p.1)
    (ht : Keeps s0 q.1) : Keeps s0 (if c then p else q).1 := by split <;> assumption

theorem keeps_opt {s0 t : State} {x : Option State} (e : x = some t) (h : ∀ t, x = some t → Keeps s0 t) : Keeps s0 t := h t e

theorem keeps_opt_pair {β : Type} {s0 t : State} {b : β} {x : Option (State × β)} (e : x = some (t, b))
    (h : ∀ p, x = some p → Keeps s0 p.1) : Keeps s0 t := h _ e

/-- A change of the register file that keeps its form. -/
theorem keeps_regs {s0 s : State} {r : Tab Word} (hr : Registers.wf s.regs → Registers.wf r) (h : Keeps s0 s) :
    Keeps s0 { s with regs := r } := ⟨h.1, fun i => ⟨hr (h.2 i).1, (h.2 i).2⟩⟩

/-- A change of the windows that keeps their form. -/
theorem keeps_win {s0 s : State} {w : Tab Word} (hw : Windows.wf s.win → Windows.wf w) (h : Keeps s0 s) :
    Keeps s0 { s with win := w } := ⟨h.1, fun i => ⟨(h.2 i).1, hw (h.2 i).2.1, (h.2 i).2.2⟩⟩

/-- A change of memory that keeps its form. -/
theorem keeps_mem {s0 s : State} {m : Tab Byte} (hm : Memory.wf s.mem → Memory.wf m) (h : Keeps s0 s) :
    Keeps s0 { s with mem := m } := ⟨h.1, fun i => ⟨(h.2 i).1, (h.2 i).2.1, hm (h.2 i).2.2⟩⟩

theorem keeps_dropReg {s0 s : State} (p : Nat → Bool) (h : Keeps s0 s) : Keeps s0 { s with regs := Tab.dropIf p s.regs } :=
  keeps_regs (Tab.wf_dropIf _ _ _) h

theorem keeps_dropWin {s0 s : State} (p : Nat → Bool) (h : Keeps s0 s) : Keeps s0 { s with win := Tab.dropIf p s.win } :=
  keeps_win (Tab.wf_dropIf _ _ _) h

theorem keeps_dropMem {s0 s : State} (p : Nat → Bool) (h : Keeps s0 s) : Keeps s0 { s with mem := Tab.dropIf p s.mem } :=
  keeps_mem (Tab.wf_dropIf _ _ _) h

theorem keeps_lostStores {s0 s : State} (p : Nat → Bool) (h : Keeps s0 s) :
    Keeps s0 { s with win := [], mem := Tab.dropIf p s.mem } :=
  ⟨h.1, fun i => ⟨(h.2 i).1, rfl, Tab.wf_dropIf _ _ _ (h.2 i).2.2⟩⟩

theorem State.keepRegs_keeps {s0 : State} (s : State) (keep : Nat → Bool) (h : Keeps s0 s) : Keeps s0 (s.keepRegs keep) :=
  keeps_dropReg _ h

theorem State.setReg_keeps {s0 : State} (s : State) (a : Nat) (w : Word) (h : Keeps s0 s) : Keeps s0 (s.setReg a w) :=
  keeps_regs (Tab.wf_put _ _ _ _) h

theorem State.setWin_keeps {s0 : State} (s : State) (a : Nat) (w : Word) (h : Keeps s0 s) : Keeps s0 (s.setWin a w) :=
  keeps_win (Tab.wf_put _ _ _ _) h

theorem State.setByte_keeps {s0 : State} (s : State) (a : Nat) (b : Byte) (h : Keeps s0 s) : Keeps s0 (s.setByte a b) :=
  keeps_mem (Tab.wf_put _ _ _ _) h

theorem State.setBytes_keeps {s0 : State} (s : State) (a : Nat) (l : List Byte) (h : Keeps s0 s) :
    Keeps s0 (s.setBytes a l) := keeps_mem (Tab.wf_putAll _ _ _ _) h

theorem State.swapWin_keeps {s0 : State} (s : State) (a b n : Nat) (h : Keeps s0 s) : Keeps s0 (s.swapWin a b n) :=
  keeps_win (fun _ => Tab.wf_foldl_put _ _ _ _ _ rfl) h

theorem State.copyWin_keeps {s0 : State} (s : State) (a b n : Nat) (h : Keeps s0 s) : Keeps s0 (s.copyWin a b n) :=
  keeps_win (fun hw => Tab.wf_foldl_put _ _ _ _ _ (Tab.wf_dropIf _ _ _ hw)) h

end Sys2Proof.Machine
end

