-- ==== Sys2Proof/Laws/KeepOps.lean ====
section
/-!
SUPPORT. What the operations of Machine/Ops.lean keep: the queue, and the canonical form of the stores.
-/

namespace Sys2Proof.Machine

theorem State.modReg_keeps {s0 : State} (s : State) (a : ℕ) (f : Word → Word) (h : Keeps s0 s) :
    Keeps s0 (State.modReg s a f) := by
  unfold State.modReg
  repeat' first
    | with_reducible assumption
    | intro _
    | with_reducible apply keeps_ite
    | with_reducible apply keeps_ite_pair
    | with_reducible apply State.setReg_keeps
    | fail_if_no_progress with_reducible apply keeps_upd
    | with_reducible apply keeps_foldl
    | with_reducible apply keeps_foldl_pair
    | dsimp only
    | split
    | refine keeps_of_eq (by with_reducible assumption) ?_

theorem State.setFld_keeps {s0 : State} (s : State) (a : ℕ) (hi : ℕ) (lo : ℕ) (v : ℕ) (h : Keeps s0 s) :
    Keeps s0 (State.setFld s a hi lo v) := by
  unfold State.setFld
  repeat' first
    | with_reducible assumption
    | intro _
    | with_reducible apply keeps_ite
    | with_reducible apply keeps_ite_pair
    | with_reducible apply State.modReg_keeps
    | fail_if_no_progress with_reducible apply keeps_upd
    | with_reducible apply keeps_foldl
    | with_reducible apply keeps_foldl_pair
    | dsimp only
    | split
    | refine keeps_of_eq (by with_reducible assumption) ?_

theorem State.setRbit_keeps {s0 : State} (s : State) (a : ℕ) (i : ℕ) (b : Bool) (h : Keeps s0 s) :
    Keeps s0 (State.setRbit s a i b) := by
  unfold State.setRbit
  repeat' first
    | with_reducible assumption
    | intro _
    | with_reducible apply keeps_ite
    | with_reducible apply keeps_ite_pair
    | with_reducible apply State.modReg_keeps
    | fail_if_no_progress with_reducible apply keeps_upd
    | with_reducible apply keeps_foldl
    | with_reducible apply keeps_foldl_pair
    | dsimp only
    | split
    | refine keeps_of_eq (by with_reducible assumption) ?_

theorem State.setReg64_keeps {s0 : State} (s : State) (lo : ℕ) (hi : ℕ) (v : Stamp) (h : Keeps s0 s) :
    Keeps s0 (State.setReg64 s lo hi v) := by
  unfold State.setReg64
  repeat' first
    | with_reducible assumption
    | intro _
    | with_reducible apply keeps_ite
    | with_reducible apply keeps_ite_pair
    | with_reducible apply State.setReg_keeps
    | fail_if_no_progress with_reducible apply keeps_upd
    | with_reducible apply keeps_foldl
    | with_reducible apply keeps_foldl_pair
    | dsimp only
    | split
    | refine keeps_of_eq (by with_reducible assumption) ?_

theorem State.incLo_keeps {s0 : State} (s : State) (a : ℕ) (h : Keeps s0 s) :
    Keeps s0 (State.incLo s a) := by
  unfold State.incLo
  repeat' first
    | with_reducible assumption
    | intro _
    | with_reducible apply keeps_ite
    | with_reducible apply keeps_ite_pair
    | with_reducible apply State.modReg_keeps
    | fail_if_no_progress with_reducible apply keeps_upd
    | with_reducible apply keeps_foldl
    | with_reducible apply keeps_foldl_pair
    | dsimp only
    | split
    | refine keeps_of_eq (by with_reducible assumption) ?_

theorem State.incHi_keeps {s0 : State} (s : State) (a : ℕ) (h : Keeps s0 s) :
    Keeps s0 (State.incHi s a) := by
  unfold State.incHi
  repeat' first
    | with_reducible assumption
    | intro _
    | with_reducible apply keeps_ite
    | with_reducible apply keeps_ite_pair
    | with_reducible apply State.modReg_keeps
    | fail_if_no_progress with_reducible apply keeps_upd
    | with_reducible apply keeps_foldl
    | with_reducible apply keeps_foldl_pair
    | dsimp only
    | split
    | refine keeps_of_eq (by with_reducible assumption) ?_

theorem State.incReg_keeps {s0 : State} (s : State) (a : ℕ) (h : Keeps s0 s) :
    Keeps s0 (State.incReg s a) := by
  unfold State.incReg
  repeat' first
    | with_reducible assumption
    | intro _
    | with_reducible apply keeps_ite
    | with_reducible apply keeps_ite_pair
    | with_reducible apply State.modReg_keeps
    | fail_if_no_progress with_reducible apply keeps_upd
    | with_reducible apply keeps_foldl
    | with_reducible apply keeps_foldl_pair
    | dsimp only
    | split
    | refine keeps_of_eq (by with_reducible assumption) ?_

theorem State.draw_keeps {s0 : State} (s : State) (h : Keeps s0 s) :
    Keeps s0 (State.draw s) := by
  unfold State.draw
  repeat' first
    | with_reducible assumption
    | intro _
    | with_reducible apply keeps_ite
    | with_reducible apply keeps_ite_pair
    | fail_if_no_progress with_reducible apply keeps_upd
    | with_reducible apply keeps_foldl
    | with_reducible apply keeps_foldl_pair
    | dsimp only
    | split
    | refine keeps_of_eq (by with_reducible assumption) ?_

theorem State.emit_keeps {s0 : State} (s : State) (o : Output) (h : Keeps s0 s) :
    Keeps s0 (State.emit s o) := by
  unfold State.emit
  repeat' first
    | with_reducible assumption
    | intro _
    | with_reducible apply keeps_ite
    | with_reducible apply keeps_ite_pair
    | fail_if_no_progress with_reducible apply keeps_upd
    | with_reducible apply keeps_foldl
    | with_reducible apply keeps_foldl_pair
    | dsimp only
    | split
    | refine keeps_of_eq (by with_reducible assumption) ?_

theorem State.noteEdge_keeps {s0 : State} (s : State) (t : State) (page : ℕ) (h : Keeps s0 t) :
    Keeps s0 (State.noteEdge s t page) := by
  unfold State.noteEdge
  repeat' first
    | with_reducible assumption
    | intro _
    | with_reducible apply keeps_ite
    | with_reducible apply keeps_ite_pair
    | fail_if_no_progress with_reducible apply keeps_upd
    | with_reducible apply keeps_foldl
    | with_reducible apply keeps_foldl_pair
    | dsimp only
    | split
    | refine keeps_of_eq (by with_reducible assumption) ?_

theorem State.raise_keeps {s0 : State} (s : State) (page : ℕ) (b : ℕ) (h : Keeps s0 s) :
    Keeps s0 (State.raise s page b) := by
  unfold State.raise
  repeat' first
    | with_reducible assumption
    | intro _
    | with_reducible apply keeps_ite
    | with_reducible apply keeps_ite_pair
    | with_reducible apply State.noteEdge_keeps
    | with_reducible apply State.setRbit_keeps
    | fail_if_no_progress with_reducible apply keeps_upd
    | with_reducible apply keeps_foldl
    | with_reducible apply keeps_foldl_pair
    | dsimp only
    | split
    | refine keeps_of_eq (by with_reducible assumption) ?_

theorem State.telemetry_keeps {s0 : State} (s : State) (src : ℕ) (typ : ℕ) (words : List (BitVec 64)) (h : Keeps s0 s) :
    Keeps s0 (State.telemetry s src typ words) := by
  unfold State.telemetry
  repeat' first
    | with_reducible assumption
    | intro _
    | with_reducible apply keeps_ite
    | with_reducible apply keeps_ite_pair
    | fail_if_no_progress with_reducible apply keeps_upd
    | with_reducible apply keeps_foldl
    | with_reducible apply keeps_foldl_pair
    | dsimp only
    | split
    | refine keeps_of_eq (by with_reducible assumption) ?_

theorem State.defer_keeps {s0 : State} (s : State) (d : Deferred) (h : Keeps s0 s) :
    Keeps s0 (State.defer s d) := by
  unfold State.defer
  repeat' first
    | with_reducible assumption
    | intro _
    | with_reducible apply keeps_ite
    | with_reducible apply keeps_ite_pair
    | fail_if_no_progress with_reducible apply keeps_upd
    | with_reducible apply keeps_foldl
    | with_reducible apply keeps_foldl_pair
    | dsimp only
    | split
    | refine keeps_of_eq (by with_reducible assumption) ?_

theorem State.traceLost_keeps {s0 : State} (s : State) (h : Keeps s0 s) :
    Keeps s0 (State.traceLost s) := by
  unfold State.traceLost
  repeat' first
    | with_reducible assumption
    | intro _
    | with_reducible apply keeps_ite
    | with_reducible apply keeps_ite_pair
    | with_reducible apply State.raise_keeps
    | with_reducible apply State.incLo_keeps
    | fail_if_no_progress with_reducible apply keeps_upd
    | with_reducible apply keeps_foldl
    | with_reducible apply keeps_foldl_pair
    | dsimp only
    | split
    | refine keeps_of_eq (by with_reducible assumption) ?_

theorem State.tracePut_keeps {s0 : State} (s : State) (off : ℕ) (r : List Byte) (h : Keeps s0 s) :
    Keeps s0 (State.tracePut s off r) := by
  unfold State.tracePut
  repeat' first
    | with_reducible assumption
    | intro _
    | with_reducible apply keeps_ite
    | with_reducible apply keeps_ite_pair
    | with_reducible apply State.setBytes_keeps
    | with_reducible apply State.setReg_keeps
    | fail_if_no_progress with_reducible apply keeps_upd
    | with_reducible apply keeps_foldl
    | with_reducible apply keeps_foldl_pair
    | dsimp only
    | split
    | refine keeps_of_eq (by with_reducible assumption) ?_

theorem State.trace_keeps {s0 : State} (s : State) (src : ℕ) (payload : List Byte) (h : Keeps s0 s) :
    Keeps s0 (State.trace s src payload) := by
  unfold State.trace
  repeat' first
    | with_reducible assumption
    | intro _
    | with_reducible apply keeps_ite
    | with_reducible apply keeps_ite_pair
    | with_reducible apply State.traceLost_keeps
    | with_reducible apply State.tracePut_keeps
    | with_reducible apply State.raise_keeps
    | with_reducible apply State.setBytes_keeps
    | with_reducible apply State.incLo_keeps
    | fail_if_no_progress with_reducible apply keeps_upd
    | with_reducible apply keeps_foldl
    | with_reducible apply keeps_foldl_pair
    | dsimp only
    | split
    | refine keeps_of_eq (by with_reducible assumption) ?_

theorem State.countClamp_keeps {s0 : State} (s : State) (req : ℕ) (a : ℕ) (h : Keeps s0 s) :
    Keeps s0 (State.countClamp s req a) := by
  unfold State.countClamp
  repeat' first
    | with_reducible assumption
    | intro _
    | with_reducible apply keeps_ite
    | with_reducible apply keeps_ite_pair
    | with_reducible apply State.incLo_keeps
    | with_reducible apply State.setReg_keeps
    | with_reducible apply State.raise_keeps
    | fail_if_no_progress with_reducible apply keeps_upd
    | with_reducible apply keeps_foldl
    | with_reducible apply keeps_foldl_pair
    | dsimp only
    | split
    | refine keeps_of_eq (by with_reducible assumption) ?_

theorem State.bumpTwin_keeps {s0 : State} (s : State) (lane : ℕ) (h : Keeps s0 s) :
    Keeps s0 (State.bumpTwin s lane) := by
  unfold State.bumpTwin
  repeat' first
    | with_reducible assumption
    | intro _
    | with_reducible apply keeps_ite
    | with_reducible apply keeps_ite_pair
    | fail_if_no_progress with_reducible apply keeps_upd
    | with_reducible apply keeps_foldl
    | with_reducible apply keeps_foldl_pair
    | dsimp only
    | split
    | refine keeps_of_eq (by with_reducible assumption) ?_

theorem State.sendTwin_keeps {s0 : State} (s : State) (lane : ℕ) (ttype : ℕ) (at_ : Stamp) (body : List Byte) (h : Keeps s0 s) :
    Keeps s0 (State.sendTwin s lane ttype at_ body) := by
  unfold State.sendTwin
  repeat' first
    | with_reducible assumption
    | intro _
    | with_reducible apply keeps_ite
    | with_reducible apply keeps_ite_pair
    | with_reducible apply State.bumpTwin_keeps
    | with_reducible apply State.emit_keeps
    | fail_if_no_progress with_reducible apply keeps_upd
    | with_reducible apply keeps_foldl
    | with_reducible apply keeps_foldl_pair
    | dsimp only
    | split
    | refine keeps_of_eq (by with_reducible assumption) ?_

theorem State.storeClaim_keeps {s0 : State} (s : State) (n : ℕ) (h : Keeps s0 s) :
    Keeps s0 (State.storeClaim s n) := by
  unfold State.storeClaim
  repeat' first
    | with_reducible assumption
    | intro _
    | with_reducible apply keeps_ite
    | with_reducible apply keeps_ite_pair
    | with_reducible apply State.setBytes_keeps
    | fail_if_no_progress with_reducible apply keeps_upd
    | with_reducible apply keeps_foldl
    | with_reducible apply keeps_foldl_pair
    | dsimp only
    | split
    | refine keeps_of_eq (by with_reducible assumption) ?_

theorem State.sendJournal_keeps {s0 : State} (s : State) (kind : ℕ) (req : ℕ) (a : ℕ) (ws : List Word) (h : Keeps s0 s) :
    Keeps s0 (State.sendJournal s kind req a ws) := by
  unfold State.sendJournal
  repeat' first
    | with_reducible assumption
    | intro _
    | with_reducible apply keeps_ite
    | with_reducible apply keeps_ite_pair
    | with_reducible apply State.sendTwin_keeps
    | with_reducible apply State.setReg_keeps
    | fail_if_no_progress with_reducible apply keeps_upd
    | with_reducible apply keeps_foldl
    | with_reducible apply keeps_foldl_pair
    | dsimp only
    | split
    | refine keeps_of_eq (by with_reducible assumption) ?_

theorem State.journalWrite_keeps {s0 : State} (s : State) (req : ℕ) (a : ℕ) (w : Word) (h : Keeps s0 s) :
    Keeps s0 (State.journalWrite s req a w) := by
  unfold State.journalWrite
  repeat' first
    | with_reducible assumption
    | intro _
    | with_reducible apply keeps_ite
    | with_reducible apply keeps_ite_pair
    | with_reducible apply State.sendJournal_keeps
    | fail_if_no_progress with_reducible apply keeps_upd
    | with_reducible apply keeps_foldl
    | with_reducible apply keeps_foldl_pair
    | dsimp only
    | split
    | refine keeps_of_eq (by with_reducible assumption) ?_

theorem State.journalUpdate_keeps {s0 : State} (s : State) (a : ℕ) (ws : List Word) (h : Keeps s0 s) :
    Keeps s0 (State.journalUpdate s a ws) := by
  unfold State.journalUpdate
  repeat' first
    | with_reducible assumption
    | intro _
    | with_reducible apply keeps_ite
    | with_reducible apply keeps_ite_pair
    | with_reducible apply State.sendJournal_keeps
    | fail_if_no_progress with_reducible apply keeps_upd
    | with_reducible apply keeps_foldl
    | with_reducible apply keeps_foldl_pair
    | dsimp only
    | split
    | refine keeps_of_eq (by with_reducible assumption) ?_

theorem State.traceWrite_keeps {s0 : State} (s : State) (req : ℕ) (a : ℕ) (v : Word) (flags : ℕ) (h : Keeps s0 s) :
    Keeps s0 (State.traceWrite s req a v flags) := by
  unfold State.traceWrite
  repeat' first
    | with_reducible assumption
    | intro _
    | with_reducible apply keeps_ite
    | with_reducible apply keeps_ite_pair
    | with_reducible apply State.trace_keeps
    | fail_if_no_progress with_reducible apply keeps_upd
    | with_reducible apply keeps_foldl
    | with_reducible apply keeps_foldl_pair
    | dsimp only
    | split
    | refine keeps_of_eq (by with_reducible assumption) ?_

theorem State.finishWrite_keeps {s0 : State} (s : State) (req : ℕ) (a : ℕ) (v : Word) (stored : Word) (r : WriteResult) (h : Keeps s0 s) :
    Keeps s0 (State.finishWrite s req a v stored r) := by
  unfold State.finishWrite
  repeat' first
    | with_reducible assumption
    | intro _
    | with_reducible apply keeps_ite
    | with_reducible apply keeps_ite_pair
    | with_reducible apply State.journalWrite_keeps
    | with_reducible apply State.traceWrite_keeps
    | with_reducible apply State.countClamp_keeps
    | fail_if_no_progress with_reducible apply keeps_upd
    | with_reducible apply keeps_foldl
    | with_reducible apply keeps_foldl_pair
    | dsimp only
    | split
    | refine keeps_of_eq (by with_reducible assumption) ?_

theorem State.busWriteR_keeps {s0 : State} (s : State) (req : ℕ) (a : ℕ) (v : Word) (eff : State → State × WriteResult) (h : Keeps s0 s) (heff : ∀ s, Keeps s0 s → Keeps s0 (eff s).1) :
    Keeps s0 (State.busWriteR s req a v eff).1 := by
  unfold State.busWriteR
  repeat' first
    | with_reducible assumption
    | intro _
    | with_reducible apply keeps_ite
    | with_reducible apply keeps_ite_pair
    | with_reducible apply State.finishWrite_keeps
    | fail_if_no_progress with_reducible apply keeps_upd
    | with_reducible apply keeps_foldl
    | with_reducible apply keeps_foldl_pair
    | with_reducible apply heff
    | dsimp only
    | split
    | refine keeps_of_eq (by with_reducible assumption) ?_

theorem State.busWrite_keeps {s0 : State} (s : State) (req : ℕ) (a : ℕ) (v : Word) (eff : State → State × WriteResult) (h : Keeps s0 s) (heff : ∀ s, Keeps s0 s → Keeps s0 (eff s).1) :
    Keeps s0 (State.busWrite s req a v eff) := by
  unfold State.busWrite
  repeat' first
    | with_reducible assumption
    | intro _
    | with_reducible apply keeps_ite
    | with_reducible apply keeps_ite_pair
    | with_reducible apply State.busWriteR_keeps
    | fail_if_no_progress with_reducible apply keeps_upd
    | with_reducible apply keeps_foldl
    | with_reducible apply keeps_foldl_pair
    | with_reducible apply heff
    | dsimp only
    | split
    | refine keeps_of_eq (by with_reducible assumption) ?_

theorem State.store_keeps {s0 : State} (s : State) (a : ℕ) (v : Word) (h : Keeps s0 s) :
    Keeps s0 (State.store s a v).1 := by
  unfold State.store
  repeat' first
    | with_reducible assumption
    | intro _
    | with_reducible apply keeps_ite
    | with_reducible apply keeps_ite_pair
    | with_reducible apply State.setReg_keeps
    | fail_if_no_progress with_reducible apply keeps_upd
    | with_reducible apply keeps_foldl
    | with_reducible apply keeps_foldl_pair
    | dsimp only
    | split
    | refine keeps_of_eq (by with_reducible assumption) ?_

theorem State.setPort_keeps {s0 : State} (s : State) (r : ℕ) (p : ReqPort) (h : Keeps s0 s) :
    Keeps s0 (State.setPort s r p) := by
  unfold State.setPort
  repeat' first
    | with_reducible assumption
    | intro _
    | with_reducible apply keeps_ite
    | with_reducible apply keeps_ite_pair
    | fail_if_no_progress with_reducible apply keeps_upd
    | with_reducible apply keeps_foldl
    | with_reducible apply keeps_foldl_pair
    | dsimp only
    | split
    | refine keeps_of_eq (by with_reducible assumption) ?_

theorem State.stageLow_keeps {s0 : State} (s : State) (req : ℕ) (a : ℕ) (v : Word) (h : Keeps s0 s) :
    Keeps s0 (State.stageLow s req a v) := by
  unfold State.stageLow
  repeat' first
    | with_reducible assumption
    | intro _
    | with_reducible apply keeps_ite
    | with_reducible apply keeps_ite_pair
    | with_reducible apply State.setPort_keeps
    | fail_if_no_progress with_reducible apply keeps_upd
    | with_reducible apply keeps_foldl
    | with_reducible apply keeps_foldl_pair
    | dsimp only
    | split
    | refine keeps_of_eq (by with_reducible assumption) ?_

theorem State.loadPair_keeps {s0 : State} (s : State) (req : ℕ) (a : ℕ) (v : Word) (h : Keeps s0 s) :
    Keeps s0 (State.loadPair s req a v).1 := by
  unfold State.loadPair
  repeat' first
    | with_reducible assumption
    | intro _
    | with_reducible apply keeps_ite
    | with_reducible apply keeps_ite_pair
    | with_reducible apply State.setPort_keeps
    | with_reducible apply State.setReg_keeps
    | fail_if_no_progress with_reducible apply keeps_upd
    | with_reducible apply keeps_foldl
    | with_reducible apply keeps_foldl_pair
    | dsimp only
    | split
    | refine keeps_of_eq (by with_reducible assumption) ?_

theorem State.plainWrite_keeps {s0 : State} (s : State) (req : ℕ) (a : ℕ) (v : Word) (h : Keeps s0 s) :
    Keeps s0 (State.plainWrite s req a v).1 := by
  unfold State.plainWrite
  repeat' first
    | with_reducible assumption
    | intro _
    | with_reducible apply keeps_ite
    | with_reducible apply keeps_ite_pair
    | with_reducible apply State.stageLow_keeps
    | with_reducible apply State.setReg_keeps
    | with_reducible apply State.loadPair_keeps
    | with_reducible apply State.store_keeps
    | fail_if_no_progress with_reducible apply keeps_upd
    | with_reducible apply keeps_foldl
    | with_reducible apply keeps_foldl_pair
    | dsimp only
    | split
    | refine keeps_of_eq (by with_reducible assumption) ?_

theorem State.setBucket_keeps {s0 : State} (s : State) (code : ℕ) (b : Bucket) (h : Keeps s0 s) :
    Keeps s0 (State.setBucket s code b) := by
  unfold State.setBucket
  repeat' first
    | with_reducible assumption
    | intro _
    | with_reducible apply keeps_ite
    | with_reducible apply keeps_ite_pair
    | fail_if_no_progress with_reducible apply keeps_upd
    | with_reducible apply keeps_foldl
    | with_reducible apply keeps_foldl_pair
    | dsimp only
    | split
    | refine keeps_of_eq (by with_reducible assumption) ?_

theorem State.queueLog_keeps {s0 : State} (s : State) (e : LogEntry) (h : Keeps s0 s) :
    Keeps s0 (State.queueLog s e) := by
  unfold State.queueLog
  repeat' first
    | with_reducible assumption
    | intro _
    | with_reducible apply keeps_ite
    | with_reducible apply keeps_ite_pair
    | fail_if_no_progress with_reducible apply keeps_upd
    | with_reducible apply keeps_foldl
    | with_reducible apply keeps_foldl_pair
    | dsimp only
    | split
    | refine keeps_of_eq (by with_reducible assumption) ?_

theorem State.suppressLog_keeps {s0 : State} (s : State) (code : ℕ) (at_ : Stamp) (h : Keeps s0 s) :
    Keeps s0 (State.suppressLog s code at_) := by
  unfold State.suppressLog
  repeat' first
    | with_reducible assumption
    | intro _
    | with_reducible apply keeps_ite
    | with_reducible apply keeps_ite_pair
    | with_reducible apply State.incHi_keeps
    | with_reducible apply State.setBucket_keeps
    | fail_if_no_progress with_reducible apply keeps_upd
    | with_reducible apply keeps_foldl
    | with_reducible apply keeps_foldl_pair
    | dsimp only
    | split
    | refine keeps_of_eq (by with_reducible assumption) ?_

theorem State.logAt_keeps {s0 : State} (s : State) (code : ℕ) (at_ : Stamp) (payload : List Byte) (h : Keeps s0 s) :
    Keeps s0 (State.logAt s code at_ payload) := by
  unfold State.logAt
  repeat' first
    | with_reducible assumption
    | intro _
    | with_reducible apply keeps_ite
    | with_reducible apply keeps_ite_pair
    | with_reducible apply State.incHi_keeps
    | with_reducible apply State.suppressLog_keeps
    | with_reducible apply State.setBucket_keeps
    | with_reducible apply State.queueLog_keeps
    | fail_if_no_progress with_reducible apply keeps_upd
    | with_reducible apply keeps_foldl
    | with_reducible apply keeps_foldl_pair
    | dsimp only
    | split
    | refine keeps_of_eq (by with_reducible assumption) ?_

theorem State.log_keeps {s0 : State} (s : State) (code : ℕ) (payload : List Byte) (h : Keeps s0 s) :
    Keeps s0 (State.log s code payload) := by
  unfold State.log
  repeat' first
    | with_reducible assumption
    | intro _
    | with_reducible apply keeps_ite
    | with_reducible apply keeps_ite_pair
    | with_reducible apply State.logAt_keeps
    | fail_if_no_progress with_reducible apply keeps_upd
    | with_reducible apply keeps_foldl
    | with_reducible apply keeps_foldl_pair
    | dsimp only
    | split
    | refine keeps_of_eq (by with_reducible assumption) ?_

end Sys2Proof.Machine
end

