-- ==== Sys2Proof/Laws/KeepTxj.lean ====
section
/-!
SUPPORT. What the operations of Machine/Txj.lean keep: the queue, and the canonical form of the stores.
-/

namespace Sys2Proof.Machine

theorem State.modKsp_keeps {s0 : State} (s : State) (f : Ksp → Ksp) (h : Keeps s0 s) :
    Keeps s0 (State.modKsp s f) := by
  unfold State.modKsp
  repeat' first
    | with_reducible assumption
    | intro _
    | with_reducible apply keeps_ite
    | with_reducible apply keeps_ite_pair
    | fail_if_no_progress with_reducible apply keeps_upd
    | with_reducible apply keeps_foldl
    | with_reducible apply keeps_foldl_pair
    | dsimp only
    | split
    | refine keeps_of_eq (by with_reducible assumption) ?_

theorem State.txjWrite_keeps {s0 : State} (s : State) (i : ℕ) (body : List Byte) (h : Keeps s0 s) :
    Keeps s0 (State.txjWrite s i body) := by
  unfold State.txjWrite
  repeat' first
    | with_reducible assumption
    | intro _
    | with_reducible apply keeps_ite
    | with_reducible apply keeps_ite_pair
    | with_reducible apply State.setBytes_keeps
    | fail_if_no_progress with_reducible apply keeps_upd
    | with_reducible apply keeps_foldl
    | with_reducible apply keeps_foldl_pair
    | dsimp only
    | split
    | refine keeps_of_eq (by with_reducible assumption) ?_

theorem State.txjSend_keeps {s0 : State} (s : State) (i : ℕ) (h : Keeps s0 s) :
    Keeps s0 (State.txjSend s i) := by
  unfold State.txjSend
  repeat' first
    | with_reducible assumption
    | intro _
    | with_reducible apply keeps_ite
    | with_reducible apply keeps_ite_pair
    | with_reducible apply State.bumpTwin_keeps
    | with_reducible apply State.emit_keeps
    | fail_if_no_progress with_reducible apply keeps_upd
    | with_reducible apply keeps_foldl
    | with_reducible apply keeps_foldl_pair
    | dsimp only
    | split
    | refine keeps_of_eq (by with_reducible assumption) ?_

theorem State.txjAppend_keeps {s0 : State} (s : State) (body : List Byte) (h : Keeps s0 s) :
    Keeps s0 (State.txjAppend s body) := by
  unfold State.txjAppend
  repeat' first
    | with_reducible assumption
    | intro _
    | with_reducible apply keeps_ite
    | with_reducible apply keeps_ite_pair
    | with_reducible apply State.txjSend_keeps
    | with_reducible apply State.modKsp_keeps
    | with_reducible apply State.txjWrite_keeps
    | fail_if_no_progress with_reducible apply keeps_upd
    | with_reducible apply keeps_foldl
    | with_reducible apply keeps_foldl_pair
    | dsimp only
    | split
    | refine keeps_of_eq (by with_reducible assumption) ?_

theorem State.txjMark_keeps {s0 : State} (s : State) (i : ℕ) (st : ℕ) (h : Keeps s0 s) :
    Keeps s0 (State.txjMark s i st) := by
  unfold State.txjMark
  repeat' first
    | with_reducible assumption
    | intro _
    | with_reducible apply keeps_ite
    | with_reducible apply keeps_ite_pair
    | with_reducible apply State.txjSend_keeps
    | with_reducible apply State.txjWrite_keeps
    | fail_if_no_progress with_reducible apply keeps_upd
    | with_reducible apply keeps_foldl
    | with_reducible apply keeps_foldl_pair
    | dsimp only
    | split
    | refine keeps_of_eq (by with_reducible assumption) ?_

theorem State.txjPowerUp_keeps {s0 : State} (s : State) (h : Keeps s0 s) :
    Keeps s0 (State.txjPowerUp s) := by
  unfold State.txjPowerUp
  repeat' first
    | with_reducible assumption
    | intro _
    | with_reducible apply keeps_ite
    | with_reducible apply keeps_ite_pair
    | with_reducible apply State.txjWrite_keeps
    | fail_if_no_progress with_reducible apply keeps_upd
    | with_reducible apply keeps_foldl
    | with_reducible apply keeps_foldl_pair
    | dsimp only
    | split
    | refine keeps_of_eq (by with_reducible assumption) ?_

theorem State.txjReceive_keeps {s0 : State} (s : State) (e : List Byte) (h : Keeps s0 s) :
    Keeps s0 (State.txjReceive s e) := by
  unfold State.txjReceive
  repeat' first
    | with_reducible assumption
    | intro _
    | with_reducible apply keeps_ite
    | with_reducible apply keeps_ite_pair
    | with_reducible apply State.setBytes_keeps
    | with_reducible apply State.modKsp_keeps
    | fail_if_no_progress with_reducible apply keeps_upd
    | with_reducible apply keeps_foldl
    | with_reducible apply keeps_foldl_pair
    | dsimp only
    | split
    | refine keeps_of_eq (by with_reducible assumption) ?_

theorem State.kspSend_keeps {s0 : State} (s : State) (sess : ℕ) (flags : ℕ) (msg : ℕ) (txid : ℕ) (body : List Byte) (h : Keeps s0 s) :
    Keeps s0 (State.kspSend s sess flags msg txid body) := by
  unfold State.kspSend
  repeat' first
    | with_reducible assumption
    | intro _
    | with_reducible apply keeps_ite
    | with_reducible apply keeps_ite_pair
    | with_reducible apply State.emit_keeps
    | with_reducible apply State.incReg_keeps
    | fail_if_no_progress with_reducible apply keeps_upd
    | with_reducible apply keeps_foldl
    | with_reducible apply keeps_foldl_pair
    | dsimp only
    | split
    | refine keeps_of_eq (by with_reducible assumption) ?_

theorem State.setSession_keeps {s0 : State} (s : State) (i : ℕ) (x2 : Option KspSession) (h : Keeps s0 s) :
    Keeps s0 (State.setSession s i x2) := by
  unfold State.setSession
  repeat' first
    | with_reducible assumption
    | intro _
    | with_reducible apply keeps_ite
    | with_reducible apply keeps_ite_pair
    | with_reducible apply State.modKsp_keeps
    | fail_if_no_progress with_reducible apply keeps_upd
    | with_reducible apply keeps_foldl
    | with_reducible apply keeps_foldl_pair
    | dsimp only
    | split
    | refine keeps_of_eq (by with_reducible assumption) ?_

theorem State.kspEvent_keeps {s0 : State} (s : State) (msg : ℕ) (but : Option ℕ) (body : List Byte) (h : Keeps s0 s) :
    Keeps s0 (State.kspEvent s msg but body) := by
  unfold State.kspEvent
  repeat' first
    | with_reducible assumption
    | intro _
    | with_reducible apply keeps_ite
    | with_reducible apply keeps_ite_pair
    | with_reducible apply State.kspSend_keeps
    | fail_if_no_progress with_reducible apply keeps_upd
    | with_reducible apply keeps_foldl
    | with_reducible apply keeps_foldl_pair
    | dsimp only
    | split
    | refine keeps_of_eq (by with_reducible assumption) ?_

theorem State.kspAlarm_keeps {s0 : State} (s : State) (seq : Word) (record : List Byte) (h : Keeps s0 s) :
    Keeps s0 (State.kspAlarm s seq record) := by
  unfold State.kspAlarm
  repeat' first
    | with_reducible assumption
    | intro _
    | with_reducible apply keeps_ite
    | with_reducible apply keeps_ite_pair
    | with_reducible apply State.kspEvent_keeps
    | with_reducible apply State.modKsp_keeps
    | fail_if_no_progress with_reducible apply keeps_upd
    | with_reducible apply keeps_foldl
    | with_reducible apply keeps_foldl_pair
    | dsimp only
    | split
    | refine keeps_of_eq (by with_reducible assumption) ?_

theorem State.kspStream_keeps {s0 : State} (s : State) (seq : Word) (code : ℕ) (record : List Byte) (h : Keeps s0 s) :
    Keeps s0 (State.kspStream s seq code record) := by
  unfold State.kspStream
  repeat' first
    | with_reducible assumption
    | intro _
    | with_reducible apply keeps_ite
    | with_reducible apply keeps_ite_pair
    | with_reducible apply State.setSession_keeps
    | with_reducible apply State.kspSend_keeps
    | fail_if_no_progress with_reducible apply keeps_upd
    | with_reducible apply keeps_foldl
    | with_reducible apply keeps_foldl_pair
    | dsimp only
    | split
    | refine keeps_of_eq (by with_reducible assumption) ?_

theorem txjCtrlEff_keeps {s0 : State} (v : Word) (s : State) (h : Keeps s0 s) :
    Keeps s0 (txjCtrlEff v s).1 := by
  unfold txjCtrlEff
  repeat' first
    | with_reducible assumption
    | intro _
    | with_reducible apply keeps_ite
    | with_reducible apply keeps_ite_pair
    | with_reducible apply State.setRbit_keeps
    | with_reducible apply State.modKsp_keeps
    | fail_if_no_progress with_reducible apply keeps_upd
    | with_reducible apply keeps_foldl
    | with_reducible apply keeps_foldl_pair
    | dsimp only
    | split
    | refine keeps_of_eq (by with_reducible assumption) ?_

theorem State.txjDone_keeps {s0 : State} (s : State) (h : Keeps s0 s) :
    Keeps s0 (State.txjDone s) := by
  unfold State.txjDone
  repeat' first
    | with_reducible assumption
    | intro _
    | with_reducible apply keeps_ite
    | with_reducible apply keeps_ite_pair
    | with_reducible apply State.modKsp_keeps
    | with_reducible apply State.txjAppend_keeps
    | with_reducible apply State.setReg_keeps
    | with_reducible apply State.txjSend_keeps
    | with_reducible apply State.txjWrite_keeps
    | with_reducible apply State.setRbit_keeps
    | with_reducible apply State.raise_keeps
    | fail_if_no_progress with_reducible apply keeps_upd
    | with_reducible apply keeps_foldl
    | with_reducible apply keeps_foldl_pair
    | dsimp only
    | split
    | refine keeps_of_eq (by with_reducible assumption) ?_

theorem kspEff_keeps {s0 : State} (req : ℕ) (a : ℕ) (v : Word) (s : State) (h : Keeps s0 s) :
    Keeps s0 (kspEff req a v s).1 := by
  unfold kspEff
  repeat' first
    | with_reducible assumption
    | intro _
    | with_reducible apply keeps_ite
    | with_reducible apply keeps_ite_pair
    | with_reducible apply State.modKsp_keeps
    | with_reducible apply State.setReg_keeps
    | with_reducible apply txjCtrlEff_keeps
    | with_reducible apply State.plainWrite_keeps
    | with_reducible apply keeps_dropReg
    | with_reducible apply keeps_dropWin
    | with_reducible apply keeps_dropMem
    | with_reducible apply keeps_lostStores
    | fail_if_no_progress with_reducible apply keeps_upd
    | with_reducible apply keeps_foldl
    | with_reducible apply keeps_foldl_pair
    | dsimp only
    | split
    | refine keeps_of_eq (by with_reducible assumption) ?_

end Sys2Proof.Machine
end

