-- ==== Sys2Proof/Laws/KeepAxe.lean ====
section
/-!
SUPPORT. What the operations of Machine/Axe.lean keep: the queue, and the canonical form of the stores.
-/

namespace Sys2Proof.Machine

theorem State.modAxe_keeps {s0 : State} (s : State) (k : ℕ) (f : AxeSrc → AxeSrc) (h : Keeps s0 s) :
    Keeps s0 (State.modAxe s k f) := by
  unfold State.modAxe
  repeat' first
    | with_reducible assumption
    | intro _
    | with_reducible apply keeps_ite
    | with_reducible apply keeps_ite_pair
    | fail_if_no_progress with_reducible apply keeps_upd
    | with_reducible apply keeps_foldl
    | with_reducible apply keeps_foldl_pair
    | dsimp only
    | split
    | refine keeps_of_eq (by with_reducible assumption) ?_

theorem State.axeRefresh_keeps {s0 : State} (s : State) (h : Keeps s0 s) :
    Keeps s0 (State.axeRefresh s) := by
  unfold State.axeRefresh
  repeat' first
    | with_reducible assumption
    | intro _
    | with_reducible apply keeps_ite
    | with_reducible apply keeps_ite_pair
    | fail_if_no_progress with_reducible apply keeps_upd
    | with_reducible apply keeps_foldl
    | with_reducible apply keeps_foldl_pair
    | dsimp only
    | split
    | refine keeps_of_eq (by with_reducible assumption) ?_

theorem State.axeCount_keeps {s0 : State} (s : State) (k : ℕ) (boards : Bool) (h : Keeps s0 s) :
    Keeps s0 (State.axeCount s k boards) := by
  unfold State.axeCount
  repeat' first
    | with_reducible assumption
    | intro _
    | with_reducible apply keeps_ite
    | with_reducible apply keeps_ite_pair
    | with_reducible apply State.incLo_keeps
    | with_reducible apply State.modAxe_keeps
    | with_reducible apply State.incHi_keeps
    | fail_if_no_progress with_reducible apply keeps_upd
    | with_reducible apply keeps_foldl
    | with_reducible apply keeps_foldl_pair
    | dsimp only
    | split
    | refine keeps_of_eq (by with_reducible assumption) ?_

theorem State.axeHistory_keeps {s0 : State} (s : State) (k : ℕ) (cls : ℕ) (q : ℕ) (at_ : Stamp) (w3 : ℕ) (boards : ℕ) (h : Keeps s0 s) :
    Keeps s0 (State.axeHistory s k cls q at_ w3 boards) := by
  unfold State.axeHistory
  repeat' first
    | with_reducible assumption
    | intro _
    | with_reducible apply keeps_ite
    | with_reducible apply keeps_ite_pair
    | with_reducible apply State.setReg_keeps
    | with_reducible apply State.incHi_keeps
    | with_reducible apply State.setFld_keeps
    | with_reducible apply State.logAt_keeps
    | with_reducible apply State.telemetry_keeps
    | fail_if_no_progress with_reducible apply keeps_upd
    | with_reducible apply keeps_foldl
    | with_reducible apply keeps_foldl_pair
    | dsimp only
    | split
    | refine keeps_of_eq (by with_reducible assumption) ?_

theorem State.axeFirst_keeps {s0 : State} (s : State) (k : ℕ) (q : ℕ) (w3 : ℕ) (at_ : Stamp) (h : Keeps s0 s) :
    Keeps s0 (State.axeFirst s k q w3 at_) := by
  unfold State.axeFirst
  repeat' first
    | with_reducible assumption
    | intro _
    | with_reducible apply keeps_ite
    | with_reducible apply keeps_ite_pair
    | with_reducible apply State.setReg_keeps
    | with_reducible apply State.setReg64_keeps
    | fail_if_no_progress with_reducible apply keeps_upd
    | with_reducible apply keeps_foldl
    | with_reducible apply keeps_foldl_pair
    | dsimp only
    | split
    | refine keeps_of_eq (by with_reducible assumption) ?_

theorem State.axeTrip_keeps {s0 : State} (s : State) (k : ℕ) (at_ : Stamp) (q : ℕ) (w3 : ℕ) (h : Keeps s0 s) :
    Keeps s0 (State.axeTrip s k at_ q w3) := by
  unfold State.axeTrip
  repeat' first
    | with_reducible assumption
    | intro _
    | with_reducible apply keeps_ite
    | with_reducible apply keeps_ite_pair
    | with_reducible apply State.raise_keeps
    | with_reducible apply State.axeHistory_keeps
    | with_reducible apply State.axeCount_keeps
    | with_reducible apply State.modAxe_keeps
    | with_reducible apply State.axeFirst_keeps
    | with_reducible apply State.axeRefresh_keeps
    | fail_if_no_progress with_reducible apply keeps_upd
    | with_reducible apply keeps_foldl
    | with_reducible apply keeps_foldl_pair
    | dsimp only
    | split
    | refine keeps_of_eq (by with_reducible assumption) ?_

theorem State.laneTrip_keeps {s0 : State} (s : State) (n : ℕ) (h : Keeps s0 s) :
    Keeps s0 (State.laneTrip s n) := by
  unfold State.laneTrip
  repeat' first
    | with_reducible assumption
    | intro _
    | with_reducible apply keeps_ite
    | with_reducible apply keeps_ite_pair
    | with_reducible apply State.axeTrip_keeps
    | fail_if_no_progress with_reducible apply keeps_upd
    | with_reducible apply keeps_foldl
    | with_reducible apply keeps_foldl_pair
    | dsimp only
    | split
    | refine keeps_of_eq (by with_reducible assumption) ?_

theorem State.clearLatch_keeps {s0 : State} (s : State) (k : ℕ) (h : Keeps s0 s) :
    Keeps s0 (State.clearLatch s k) := by
  unfold State.clearLatch
  repeat' first
    | with_reducible assumption
    | intro _
    | with_reducible apply keeps_ite
    | with_reducible apply keeps_ite_pair
    | with_reducible apply State.modAxe_keeps
    | fail_if_no_progress with_reducible apply keeps_upd
    | with_reducible apply keeps_foldl
    | with_reducible apply keeps_foldl_pair
    | dsimp only
    | split
    | refine keeps_of_eq (by with_reducible assumption) ?_

theorem State.clearLatches_keeps {s0 : State} (s : State) (ks : List ℕ) (h : Keeps s0 s) :
    Keeps s0 (State.clearLatches s ks) := by
  unfold State.clearLatches
  repeat' first
    | with_reducible assumption
    | intro _
    | with_reducible apply keeps_ite
    | with_reducible apply keeps_ite_pair
    | with_reducible apply State.axeRefresh_keeps
    | with_reducible apply State.raise_keeps
    | with_reducible apply State.clearLatch_keeps
    | fail_if_no_progress with_reducible apply keeps_upd
    | with_reducible apply keeps_foldl
    | with_reducible apply keeps_foldl_pair
    | dsimp only
    | split
    | refine keeps_of_eq (by with_reducible assumption) ?_

theorem axeClearEff_keeps {s0 : State} (v : Word) (s : State) (h : Keeps s0 s) :
    Keeps s0 (axeClearEff v s).1 := by
  unfold axeClearEff
  repeat' first
    | with_reducible assumption
    | intro _
    | with_reducible apply keeps_ite
    | with_reducible apply keeps_ite_pair
    | with_reducible apply State.clearLatches_keeps
    | with_reducible apply State.setReg_keeps
    | fail_if_no_progress with_reducible apply keeps_upd
    | with_reducible apply keeps_foldl
    | with_reducible apply keeps_foldl_pair
    | dsimp only
    | split
    | refine keeps_of_eq (by with_reducible assumption) ?_

theorem axeForceEff_keeps {s0 : State} (v : Word) (s : State) (h : Keeps s0 s) :
    Keeps s0 (axeForceEff v s).1 := by
  unfold axeForceEff
  repeat' first
    | with_reducible assumption
    | intro _
    | with_reducible apply keeps_ite
    | with_reducible apply keeps_ite_pair
    | with_reducible apply State.setReg_keeps
    | with_reducible apply State.modAxe_keeps
    | with_reducible apply State.axeTrip_keeps
    | fail_if_no_progress with_reducible apply keeps_upd
    | with_reducible apply keeps_foldl
    | with_reducible apply keeps_foldl_pair
    | dsimp only
    | split
    | refine keeps_of_eq (by with_reducible assumption) ?_

theorem axeCfgEff_keeps {s0 : State} (a : ℕ) (srcs : List ℕ) (digital : Option ℕ) (v : Word) (s : State) (h : Keeps s0 s) :
    Keeps s0 (axeCfgEff a srcs digital v s).1 := by
  unfold axeCfgEff
  repeat' first
    | with_reducible assumption
    | intro _
    | with_reducible apply keeps_ite
    | with_reducible apply keeps_ite_pair
    | with_reducible apply State.setReg_keeps
    | with_reducible apply State.modAxe_keeps
    | with_reducible apply State.setRbit_keeps
    | with_reducible apply State.axeTrip_keeps
    | with_reducible apply State.axeRefresh_keeps
    | fail_if_no_progress with_reducible apply keeps_upd
    | with_reducible apply keeps_foldl
    | with_reducible apply keeps_foldl_pair
    | dsimp only
    | split
    | refine keeps_of_eq (by with_reducible assumption) ?_

theorem axeSourceEff_keeps {s0 : State} (src : AxeSource) (v : Word) (s : State) (h : Keeps s0 s) :
    Keeps s0 (axeSourceEff src v s).1 := by
  unfold axeSourceEff
  repeat' first
    | with_reducible assumption
    | intro _
    | with_reducible apply keeps_ite
    | with_reducible apply keeps_ite_pair
    | with_reducible apply axeCfgEff_keeps
    | fail_if_no_progress with_reducible apply keeps_upd
    | with_reducible apply keeps_foldl
    | with_reducible apply keeps_foldl_pair
    | dsimp only
    | split
    | refine keeps_of_eq (by with_reducible assumption) ?_

theorem axeRunEnEff_keeps {s0 : State} (v : Word) (s : State) (h : Keeps s0 s) :
    Keeps s0 (axeRunEnEff v s).1 := by
  unfold axeRunEnEff
  repeat' first
    | with_reducible assumption
    | intro _
    | with_reducible apply keeps_ite
    | with_reducible apply keeps_ite_pair
    | with_reducible apply State.store_keeps
    | with_reducible apply State.axeRefresh_keeps
    | fail_if_no_progress with_reducible apply keeps_upd
    | with_reducible apply keeps_foldl
    | with_reducible apply keeps_foldl_pair
    | dsimp only
    | split
    | refine keeps_of_eq (by with_reducible assumption) ?_

theorem State.axeFast_keeps {s0 : State} (s : State) (k : ℕ) (enabled : Bool) (valid : Bool) (counted : Bool) (at_ : Stamp) (q : ℕ) (w3 : ℕ) (h : Keeps s0 s) :
    Keeps s0 (State.axeFast s k enabled valid counted at_ q w3) := by
  unfold State.axeFast
  repeat' first
    | with_reducible assumption
    | intro _
    | with_reducible apply keeps_ite
    | with_reducible apply keeps_ite_pair
    | with_reducible apply State.modAxe_keeps
    | with_reducible apply State.axeTrip_keeps
    | fail_if_no_progress with_reducible apply keeps_upd
    | with_reducible apply keeps_foldl
    | with_reducible apply keeps_foldl_pair
    | dsimp only
    | split
    | refine keeps_of_eq (by with_reducible assumption) ?_

theorem State.clearPlaybackLatches_keeps {s0 : State} (s : State) (h : Keeps s0 s) :
    Keeps s0 (State.clearPlaybackLatches s) := by
  unfold State.clearPlaybackLatches
  repeat' first
    | with_reducible assumption
    | intro _
    | with_reducible apply keeps_ite
    | with_reducible apply keeps_ite_pair
    | with_reducible apply State.clearLatches_keeps
    | fail_if_no_progress with_reducible apply keeps_upd
    | with_reducible apply keeps_foldl
    | with_reducible apply keeps_foldl_pair
    | dsimp only
    | split
    | refine keeps_of_eq (by with_reducible assumption) ?_

end Sys2Proof.Machine
end

