-- ==== Sys2Proof/Laws/KeepRct.lean ====
section
/-!
SUPPORT. What the operations of Machine/Rct.lean keep: the queue, and the canonical form of the stores.
-/

namespace Sys2Proof.Machine

theorem State.setFreq_keeps {s0 : State} (s : State) (f : ℕ) (h : Keeps s0 s) :
    Keeps s0 (State.setFreq s f) := by
  unfold State.setFreq
  repeat' first
    | with_reducible assumption
    | intro _
    | with_reducible apply keeps_ite
    | with_reducible apply keeps_ite_pair
    | with_reducible apply State.setReg_keeps
    | fail_if_no_progress with_reducible apply keeps_upd
    | with_reducible apply keeps_foldl
    | with_reducible apply keeps_foldl_pair
    | dsimp only
    | split
    | refine keeps_of_eq (by with_reducible assumption) ?_

theorem State.modRct_keeps {s0 : State} (s : State) (f : Rct → Rct) (h : Keeps s0 s) :
    Keeps s0 (State.modRct s f) := by
  unfold State.modRct
  repeat' first
    | with_reducible assumption
    | intro _
    | with_reducible apply keeps_ite
    | with_reducible apply keeps_ite_pair
    | fail_if_no_progress with_reducible apply keeps_upd
    | with_reducible apply keeps_foldl
    | with_reducible apply keeps_foldl_pair
    | dsimp only
    | split
    | refine keeps_of_eq (by with_reducible assumption) ?_

theorem State.modPhase_keeps {s0 : State} (s : State) (k : ℕ) (f : Phase → Phase) (h : Keeps s0 s) :
    Keeps s0 (State.modPhase s k f) := by
  unfold State.modPhase
  repeat' first
    | with_reducible assumption
    | intro _
    | with_reducible apply keeps_ite
    | with_reducible apply keeps_ite_pair
    | with_reducible apply State.modRct_keeps
    | fail_if_no_progress with_reducible apply keeps_upd
    | with_reducible apply keeps_foldl
    | with_reducible apply keeps_foldl_pair
    | dsimp only
    | split
    | refine keeps_of_eq (by with_reducible assumption) ?_

theorem State.mapReset_keeps {s0 : State} (s : State) (h : Keeps s0 s) :
    Keeps s0 (State.mapReset s) := by
  unfold State.mapReset
  repeat' first
    | with_reducible assumption
    | intro _
    | with_reducible apply keeps_ite
    | with_reducible apply keeps_ite_pair
    | with_reducible apply State.raise_keeps
    | with_reducible apply State.modRct_keeps
    | fail_if_no_progress with_reducible apply keeps_upd
    | with_reducible apply keeps_foldl
    | with_reducible apply keeps_foldl_pair
    | dsimp only
    | split
    | refine keeps_of_eq (by with_reducible assumption) ?_

theorem State.runEnd_keeps {s0 : State} (s : State) (h : Keeps s0 s) :
    Keeps s0 (State.runEnd s) := by
  unfold State.runEnd
  repeat' first
    | with_reducible assumption
    | intro _
    | with_reducible apply keeps_ite
    | with_reducible apply keeps_ite_pair
    | with_reducible apply State.modRct_keeps
    | fail_if_no_progress with_reducible apply keeps_upd
    | with_reducible apply keeps_foldl
    | with_reducible apply keeps_foldl_pair
    | dsimp only
    | split
    | refine keeps_of_eq (by with_reducible assumption) ?_

theorem State.qualify_keeps {s0 : State} (s : State) (p : ℤ) (h : Keeps s0 s) :
    Keeps s0 (State.qualify s p) := by
  unfold State.qualify
  repeat' first
    | with_reducible assumption
    | intro _
    | with_reducible apply keeps_ite
    | with_reducible apply keeps_ite_pair
    | with_reducible apply State.modRct_keeps
    | fail_if_no_progress with_reducible apply keeps_upd
    | with_reducible apply keeps_foldl
    | with_reducible apply keeps_foldl_pair
    | dsimp only
    | split
    | refine keeps_of_eq (by with_reducible assumption) ?_

theorem State.crossing_keeps {s0 : State} (s : State) (k : ℕ) (p : ℤ) (h : Keeps s0 s) :
    Keeps s0 (State.crossing s k p) := by
  unfold State.crossing
  repeat' first
    | with_reducible assumption
    | intro _
    | with_reducible apply keeps_ite
    | with_reducible apply keeps_ite_pair
    | with_reducible apply State.modPhase_keeps
    | with_reducible apply State.setRbit_keeps
    | with_reducible apply State.qualify_keeps
    | fail_if_no_progress with_reducible apply keeps_upd
    | with_reducible apply keeps_foldl
    | with_reducible apply keeps_foldl_pair
    | dsimp only
    | split
    | refine keeps_of_eq (by with_reducible assumption) ?_

theorem State.zcTick_keeps {s0 : State} (s : State) (k : ℕ) (n : ℕ) (v : ℤ) (h : Keeps s0 s) :
    Keeps s0 (State.zcTick s k n v) := by
  unfold State.zcTick
  repeat' first
    | with_reducible assumption
    | intro _
    | with_reducible apply keeps_ite
    | with_reducible apply keeps_ite_pair
    | with_reducible apply State.modPhase_keeps
    | with_reducible apply State.crossing_keeps
    | fail_if_no_progress with_reducible apply keeps_upd
    | with_reducible apply keeps_foldl
    | with_reducible apply keeps_foldl_pair
    | dsimp only
    | split
    | refine keeps_of_eq (by with_reducible assumption) ?_

theorem State.flyEnter_keeps {s0 : State} (s : State) (cause : ℕ) (h : Keeps s0 s) :
    Keeps s0 (State.flyEnter s cause) := by
  unfold State.flyEnter
  repeat' first
    | with_reducible assumption
    | intro _
    | with_reducible apply keeps_ite
    | with_reducible apply keeps_ite_pair
    | with_reducible apply State.setFld_keeps
    | with_reducible apply State.setRbit_keeps
    | with_reducible apply State.modRct_keeps
    | with_reducible apply State.raise_keeps
    | with_reducible apply State.incLo_keeps
    | with_reducible apply State.log_keeps
    | fail_if_no_progress with_reducible apply keeps_upd
    | with_reducible apply keeps_foldl
    | with_reducible apply keeps_foldl_pair
    | dsimp only
    | split
    | refine keeps_of_eq (by with_reducible assumption) ?_

theorem State.rctIdle_keeps {s0 : State} (s : State) (h : Keeps s0 s) :
    Keeps s0 (State.rctIdle s) := by
  unfold State.rctIdle
  repeat' first
    | with_reducible assumption
    | intro _
    | with_reducible apply keeps_ite
    | with_reducible apply keeps_ite_pair
    | with_reducible apply State.setFld_keeps
    | with_reducible apply State.setRbit_keeps
    | with_reducible apply State.setFreq_keeps
    | with_reducible apply State.modRct_keeps
    | fail_if_no_progress with_reducible apply keeps_upd
    | with_reducible apply keeps_foldl
    | with_reducible apply keeps_foldl_pair
    | dsimp only
    | split
    | refine keeps_of_eq (by with_reducible assumption) ?_

theorem State.resetPageRegs_keeps {s0 : State} (s : State) (p : ℕ) (h : Keeps s0 s) :
    Keeps s0 (State.resetPageRegs s p) := by
  unfold State.resetPageRegs
  repeat' first
    | with_reducible assumption
    | intro _
    | with_reducible apply keeps_ite
    | with_reducible apply keeps_ite_pair
    | with_reducible apply keeps_dropReg
    | with_reducible apply keeps_dropWin
    | with_reducible apply keeps_dropMem
    | with_reducible apply keeps_lostStores
    | fail_if_no_progress with_reducible apply keeps_upd
    | with_reducible apply keeps_foldl
    | with_reducible apply keeps_foldl_pair
    | dsimp only
    | split
    | refine keeps_of_eq (by with_reducible assumption) ?_

theorem rctCtrlEff_keeps {s0 : State} (v : Word) (s : State) (h : Keeps s0 s) :
    Keeps s0 (rctCtrlEff v s).1 := by
  unfold rctCtrlEff
  repeat' first
    | with_reducible assumption
    | intro _
    | with_reducible apply keeps_ite
    | with_reducible apply keeps_ite_pair
    | with_reducible apply State.resetPageRegs_keeps
    | with_reducible apply State.setFld_keeps
    | with_reducible apply State.setReg_keeps
    | with_reducible apply State.rctIdle_keeps
    | fail_if_no_progress with_reducible apply keeps_upd
    | with_reducible apply keeps_foldl
    | with_reducible apply keeps_foldl_pair
    | dsimp only
    | split
    | refine keeps_of_eq (by with_reducible assumption) ?_

theorem ringSetEff_keeps {s0 : State} (req : ℕ) (v : Word) (s : State) (h : Keeps s0 s) :
    Keeps s0 (ringSetEff req v s).1 := by
  unfold ringSetEff
  repeat' first
    | with_reducible assumption
    | intro _
    | with_reducible apply keeps_ite
    | with_reducible apply keeps_ite_pair
    | with_reducible apply State.loadPair_keeps
    | with_reducible apply State.raise_keeps
    | with_reducible apply State.setRbit_keeps
    | fail_if_no_progress with_reducible apply keeps_upd
    | with_reducible apply keeps_foldl
    | with_reducible apply keeps_foldl_pair
    | dsimp only
    | split
    | refine keeps_of_eq (by with_reducible assumption) ?_

theorem rctCfgEff_keeps {s0 : State} (v : Word) (s : State) (h : Keeps s0 s) :
    Keeps s0 (rctCfgEff v s).1 := by
  unfold rctCfgEff
  repeat' first
    | with_reducible assumption
    | intro _
    | with_reducible apply keeps_ite
    | with_reducible apply keeps_ite_pair
    | with_reducible apply State.store_keeps
    | with_reducible apply State.rctIdle_keeps
    | fail_if_no_progress with_reducible apply keeps_upd
    | with_reducible apply keeps_foldl
    | with_reducible apply keeps_foldl_pair
    | dsimp only
    | split
    | refine keeps_of_eq (by with_reducible assumption) ?_

theorem rctForceEff_keeps {s0 : State} (v : Word) (s : State) (h : Keeps s0 s) :
    Keeps s0 (rctForceEff v s).1 := by
  unfold rctForceEff
  repeat' first
    | with_reducible assumption
    | intro _
    | with_reducible apply keeps_ite
    | with_reducible apply keeps_ite_pair
    | with_reducible apply State.flyEnter_keeps
    | with_reducible apply State.modRct_keeps
    | with_reducible apply State.runEnd_keeps
    | fail_if_no_progress with_reducible apply keeps_upd
    | with_reducible apply keeps_foldl
    | with_reducible apply keeps_foldl_pair
    | dsimp only
    | split
    | refine keeps_of_eq (by with_reducible assumption) ?_

theorem convCtrlEff_keeps {s0 : State} (v : Word) (s : State) (h : Keeps s0 s) :
    Keeps s0 (convCtrlEff v s).1 := by
  unfold convCtrlEff
  repeat' first
    | with_reducible assumption
    | intro _
    | with_reducible apply keeps_ite
    | with_reducible apply keeps_ite_pair
    | with_reducible apply State.setFld_keeps
    | with_reducible apply State.setRbit_keeps
    | fail_if_no_progress with_reducible apply keeps_upd
    | with_reducible apply keeps_foldl
    | with_reducible apply keeps_foldl_pair
    | dsimp only
    | split
    | refine keeps_of_eq (by with_reducible assumption) ?_

theorem State.trimAbort_keeps {s0 : State} (s : State) (h : Keeps s0 s) :
    Keeps s0 (State.trimAbort s) := by
  unfold State.trimAbort
  repeat' first
    | with_reducible assumption
    | intro _
    | with_reducible apply keeps_ite
    | with_reducible apply keeps_ite_pair
    | with_reducible apply State.raise_keeps
    | with_reducible apply State.setReg_keeps
    | with_reducible apply State.setRbit_keeps
    | fail_if_no_progress with_reducible apply keeps_upd
    | with_reducible apply keeps_foldl
    | with_reducible apply keeps_foldl_pair
    | dsimp only
    | split
    | refine keeps_of_eq (by with_reducible assumption) ?_

theorem State.trimOpen_keeps {s0 : State} (s : State) (from_ : ℕ) (h : Keeps s0 s) :
    Keeps s0 (State.trimOpen s from_) := by
  unfold State.trimOpen
  repeat' first
    | with_reducible assumption
    | intro _
    | with_reducible apply keeps_ite
    | with_reducible apply keeps_ite_pair
    | with_reducible apply State.setReg_keeps
    | with_reducible apply State.setRbit_keeps
    | fail_if_no_progress with_reducible apply keeps_upd
    | with_reducible apply keeps_foldl
    | with_reducible apply keeps_foldl_pair
    | dsimp only
    | split
    | refine keeps_of_eq (by with_reducible assumption) ?_

theorem State.trimCycle_keeps {s0 : State} (s : State) (locked : Bool) (h : Keeps s0 s) :
    Keeps s0 (State.trimCycle s locked) := by
  unfold State.trimCycle
  repeat' first
    | with_reducible assumption
    | intro _
    | with_reducible apply keeps_ite
    | with_reducible apply keeps_ite_pair
    | with_reducible apply State.setReg_keeps
    | with_reducible apply State.trimAbort_keeps
    | with_reducible apply State.trimOpen_keeps
    | fail_if_no_progress with_reducible apply keeps_upd
    | with_reducible apply keeps_foldl
    | with_reducible apply keeps_foldl_pair
    | dsimp only
    | split
    | refine keeps_of_eq (by with_reducible assumption) ?_

theorem State.judgeSequence_keeps {s0 : State} (s : State) (h : Keeps s0 s) :
    Keeps s0 (State.judgeSequence s) := by
  unfold State.judgeSequence
  repeat' first
    | with_reducible assumption
    | intro _
    | with_reducible apply keeps_ite
    | with_reducible apply keeps_ite_pair
    | with_reducible apply State.modRct_keeps
    | with_reducible apply State.setFld_keeps
    | with_reducible apply State.raise_keeps
    | fail_if_no_progress with_reducible apply keeps_upd
    | with_reducible apply keeps_foldl
    | with_reducible apply keeps_foldl_pair
    | dsimp only
    | split
    | refine keeps_of_eq (by with_reducible assumption) ?_

theorem State.afterPullin_keeps {s0 : State} (s : State) (e : ℤ) (h : Keeps s0 s) :
    Keeps s0 (State.afterPullin s e) := by
  unfold State.afterPullin
  repeat' first
    | with_reducible assumption
    | intro _
    | with_reducible apply keeps_ite
    | with_reducible apply keeps_ite_pair
    | with_reducible apply State.setFld_keeps
    | with_reducible apply State.modRct_keeps
    | fail_if_no_progress with_reducible apply keeps_upd
    | with_reducible apply keeps_foldl
    | with_reducible apply keeps_foldl_pair
    | dsimp only
    | split
    | refine keeps_of_eq (by with_reducible assumption) ?_

theorem State.afterLocked_keeps {s0 : State} (s : State) (e : ℤ) (h : Keeps s0 s) :
    Keeps s0 (State.afterLocked s e) := by
  unfold State.afterLocked
  repeat' first
    | with_reducible assumption
    | intro _
    | with_reducible apply keeps_ite
    | with_reducible apply keeps_ite_pair
    | with_reducible apply State.modRct_keeps
    | with_reducible apply State.raise_keeps
    | with_reducible apply State.setRbit_keeps
    | with_reducible apply State.flyEnter_keeps
    | fail_if_no_progress with_reducible apply keeps_upd
    | with_reducible apply keeps_foldl
    | with_reducible apply keeps_foldl_pair
    | dsimp only
    | split
    | refine keeps_of_eq (by with_reducible assumption) ?_

theorem State.trackCycle_keeps {s0 : State} (s : State) (h : Keeps s0 s) :
    Keeps s0 (State.trackCycle s) := by
  unfold State.trackCycle
  repeat' first
    | with_reducible assumption
    | intro _
    | with_reducible apply keeps_ite
    | with_reducible apply keeps_ite_pair
    | with_reducible apply State.modRct_keeps
    | with_reducible apply State.setFreq_keeps
    | with_reducible apply State.setReg_keeps
    | with_reducible apply State.afterPullin_keeps
    | with_reducible apply State.afterLocked_keeps
    | fail_if_no_progress with_reducible apply keeps_upd
    | with_reducible apply keeps_foldl
    | with_reducible apply keeps_foldl_pair
    | dsimp only
    | split
    | refine keeps_of_eq (by with_reducible assumption) ?_

theorem State.clearCycle_keeps {s0 : State} (s : State) (h : Keeps s0 s) :
    Keeps s0 (State.clearCycle s) := by
  unfold State.clearCycle
  repeat' first
    | with_reducible assumption
    | intro _
    | with_reducible apply keeps_ite
    | with_reducible apply keeps_ite_pair
    | with_reducible apply State.modPhase_keeps
    | fail_if_no_progress with_reducible apply keeps_upd
    | with_reducible apply keeps_foldl
    | with_reducible apply keeps_foldl_pair
    | dsimp only
    | split
    | refine keeps_of_eq (by with_reducible assumption) ?_

theorem State.flywheelMove_keeps {s0 : State} (s : State) (h : Keeps s0 s) :
    Keeps s0 (State.flywheelMove s) := by
  unfold State.flywheelMove
  repeat' first
    | with_reducible assumption
    | intro _
    | with_reducible apply keeps_ite
    | with_reducible apply keeps_ite_pair
    | with_reducible apply State.setFreq_keeps
    | fail_if_no_progress with_reducible apply keeps_upd
    | with_reducible apply keeps_foldl
    | with_reducible apply keeps_foldl_pair
    | dsimp only
    | split
    | refine keeps_of_eq (by with_reducible assumption) ?_

theorem State.loopUpdate_keeps {s0 : State} (s : State) (h : Keeps s0 s) :
    Keeps s0 (State.loopUpdate s) := by
  unfold State.loopUpdate
  repeat' first
    | with_reducible assumption
    | intro _
    | with_reducible apply keeps_ite
    | with_reducible apply keeps_ite_pair
    | with_reducible apply State.judgeSequence_keeps
    | with_reducible apply State.raise_keeps
    | with_reducible apply State.setFld_keeps
    | with_reducible apply State.trackCycle_keeps
    | with_reducible apply State.modRct_keeps
    | with_reducible apply State.flywheelMove_keeps
    | with_reducible apply State.trimCycle_keeps
    | with_reducible apply State.clearCycle_keeps
    | fail_if_no_progress with_reducible apply keeps_upd
    | with_reducible apply keeps_foldl
    | with_reducible apply keeps_foldl_pair
    | dsimp only
    | split
    | refine keeps_of_eq (by with_reducible assumption) ?_

theorem State.takeFreq_keeps {s0 : State} (s : State) (h : Keeps s0 s) :
    Keeps s0 (State.takeFreq s) := by
  unfold State.takeFreq
  repeat' first
    | with_reducible assumption
    | intro _
    | with_reducible apply keeps_ite
    | with_reducible apply keeps_ite_pair
    | with_reducible apply State.modRct_keeps
    | fail_if_no_progress with_reducible apply keeps_upd
    | with_reducible apply keeps_foldl
    | with_reducible apply keeps_foldl_pair
    | dsimp only
    | split
    | refine keeps_of_eq (by with_reducible assumption) ?_

end Sys2Proof.Machine
end

