-- ==== Sys2Proof/Laws/KeepTime.lean ====
section
/-!
SUPPORT. What the operations of Machine/Time.lean keep: the queue, and the canonical form of the stores.
-/

namespace Sys2Proof.Machine

theorem State.modTim_keeps {s0 : State} (s : State) (f : Tim → Tim) (h : Keeps s0 s) :
    Keeps s0 (State.modTim s f) := by
  unfold State.modTim
  repeat' first
    | with_reducible assumption
    | intro _
    | with_reducible apply keeps_ite
    | with_reducible apply keeps_ite_pair
    | fail_if_no_progress with_reducible apply keeps_upd
    | with_reducible apply keeps_foldl
    | with_reducible apply keeps_foldl_pair
    | dsimp only
    | split
    | refine keeps_of_eq (by with_reducible assumption) ?_

theorem State.setTbase_keeps {s0 : State} (s : State) (k : ℕ) (b : TimeBase) (h : Keeps s0 s) :
    Keeps s0 (State.setTbase s k b) := by
  unfold State.setTbase
  repeat' first
    | with_reducible assumption
    | intro _
    | with_reducible apply keeps_ite
    | with_reducible apply keeps_ite_pair
    | with_reducible apply State.modTim_keeps
    | fail_if_no_progress with_reducible apply keeps_upd
    | with_reducible apply keeps_foldl
    | with_reducible apply keeps_foldl_pair
    | dsimp only
    | split
    | refine keeps_of_eq (by with_reducible assumption) ?_

theorem State.tickBases_keeps {s0 : State} (s : State) (h : Keeps s0 s) :
    Keeps s0 (State.tickBases s) := by
  unfold State.tickBases
  repeat' first
    | with_reducible assumption
    | intro _
    | with_reducible apply keeps_ite
    | with_reducible apply keeps_ite_pair
    | with_reducible apply State.setTbase_keeps
    | fail_if_no_progress with_reducible apply keeps_upd
    | with_reducible apply keeps_foldl
    | with_reducible apply keeps_foldl_pair
    | dsimp only
    | split
    | refine keeps_of_eq (by with_reducible assumption) ?_

theorem State.stepBase_keeps {s0 : State} (s : State) (k : ℕ) (sec : ℕ) (ns : ℕ) (frac : ℕ) (h : Keeps s0 s) :
    Keeps s0 (State.stepBase s k sec ns frac) := by
  unfold State.stepBase
  repeat' first
    | with_reducible assumption
    | intro _
    | with_reducible apply keeps_ite
    | with_reducible apply keeps_ite_pair
    | with_reducible apply State.setTbase_keeps
    | with_reducible apply State.modTim_keeps
    | fail_if_no_progress with_reducible apply keeps_upd
    | with_reducible apply keeps_foldl
    | with_reducible apply keeps_foldl_pair
    | dsimp only
    | split
    | refine keeps_of_eq (by with_reducible assumption) ?_

theorem State.stepBaseTo_keeps {s0 : State} (s : State) (k : ℕ) (v : ℤ) (h : Keeps s0 s) :
    Keeps s0 (State.stepBaseTo s k v) := by
  unfold State.stepBaseTo
  repeat' first
    | with_reducible assumption
    | intro _
    | with_reducible apply keeps_ite
    | with_reducible apply keeps_ite_pair
    | with_reducible apply State.stepBase_keeps
    | fail_if_no_progress with_reducible apply keeps_upd
    | with_reducible apply keeps_foldl
    | with_reducible apply keeps_foldl_pair
    | dsimp only
    | split
    | refine keeps_of_eq (by with_reducible assumption) ?_

theorem State.convertAlarm_keeps {s0 : State} (s : State) (a : ℕ) (h : Keeps s0 s) :
    Keeps s0 (State.convertAlarm s a) := by
  unfold State.convertAlarm
  repeat' first
    | with_reducible assumption
    | intro _
    | with_reducible apply keeps_ite
    | with_reducible apply keeps_ite_pair
    | with_reducible apply State.modTim_keeps
    | fail_if_no_progress with_reducible apply keeps_upd
    | with_reducible apply keeps_foldl
    | with_reducible apply keeps_foldl_pair
    | dsimp only
    | split
    | refine keeps_of_eq (by with_reducible assumption) ?_

theorem State.zoneUpdate_keeps {s0 : State} (s : State) (h : Keeps s0 s) :
    Keeps s0 (State.zoneUpdate s) := by
  unfold State.zoneUpdate
  repeat' first
    | with_reducible assumption
    | intro _
    | with_reducible apply keeps_ite
    | with_reducible apply keeps_ite_pair
    | with_reducible apply State.modTim_keeps
    | with_reducible apply State.convertAlarm_keeps
    | fail_if_no_progress with_reducible apply keeps_upd
    | with_reducible apply keeps_foldl
    | with_reducible apply keeps_foldl_pair
    | dsimp only
    | split
    | refine keeps_of_eq (by with_reducible assumption) ?_

theorem State.modDom_keeps {s0 : State} (s : State) (k : ℕ) (f : PtpDomain → PtpDomain) (h : Keeps s0 s) :
    Keeps s0 (State.modDom s k f) := by
  unfold State.modDom
  repeat' first
    | with_reducible assumption
    | intro _
    | with_reducible apply keeps_ite
    | with_reducible apply keeps_ite_pair
    | with_reducible apply State.modTim_keeps
    | fail_if_no_progress with_reducible apply keeps_upd
    | with_reducible apply keeps_foldl
    | with_reducible apply keeps_foldl_pair
    | dsimp only
    | split
    | refine keeps_of_eq (by with_reducible assumption) ?_

theorem State.setDom_keeps {s0 : State} (s : State) (k : ℕ) (st : ℕ) (n : ℕ) (out : ℕ) (h : Keeps s0 s) :
    Keeps s0 (State.setDom s k st n out) := by
  unfold State.setDom
  repeat' first
    | with_reducible assumption
    | intro _
    | with_reducible apply keeps_ite
    | with_reducible apply keeps_ite_pair
    | with_reducible apply State.setReg_keeps
    | fail_if_no_progress with_reducible apply keeps_upd
    | with_reducible apply keeps_foldl
    | with_reducible apply keeps_foldl_pair
    | dsimp only
    | split
    | refine keeps_of_eq (by with_reducible assumption) ?_

theorem State.domStep_keeps {s0 : State} (s : State) (k : ℕ) (off : ℤ) (h : Keeps s0 s) :
    Keeps s0 (State.domStep s k off) := by
  unfold State.domStep
  repeat' first
    | with_reducible assumption
    | intro _
    | with_reducible apply keeps_ite
    | with_reducible apply keeps_ite_pair
    | with_reducible apply State.stepBaseTo_keeps
    | with_reducible apply State.modDom_keeps
    | with_reducible apply State.setReg_keeps
    | with_reducible apply State.setDom_keeps
    | with_reducible apply State.incHi_keeps
    | fail_if_no_progress with_reducible apply keeps_upd
    | with_reducible apply keeps_foldl
    | with_reducible apply keeps_foldl_pair
    | dsimp only
    | split
    | refine keeps_of_eq (by with_reducible assumption) ?_

theorem State.servo_keeps {s0 : State} (s : State) (k : ℕ) (h : Keeps s0 s) :
    Keeps s0 (State.servo s k) := by
  unfold State.servo
  repeat' first
    | with_reducible assumption
    | intro _
    | with_reducible apply keeps_ite
    | with_reducible apply keeps_ite_pair
    | with_reducible apply State.modDom_keeps
    | with_reducible apply State.setReg_keeps
    | with_reducible apply State.domStep_keeps
    | with_reducible apply State.raise_keeps
    | with_reducible apply State.incLo_keeps
    | with_reducible apply State.setDom_keeps
    | fail_if_no_progress with_reducible apply keeps_upd
    | with_reducible apply keeps_foldl
    | with_reducible apply keeps_foldl_pair
    | dsimp only
    | split
    | refine keeps_of_eq (by with_reducible assumption) ?_

theorem measEff_keeps {s0 : State} (k : ℕ) (v : Word) (s : State) (h : Keeps s0 s) :
    Keeps s0 (measEff k v s).1 := by
  unfold measEff
  repeat' first
    | with_reducible assumption
    | intro _
    | with_reducible apply keeps_ite
    | with_reducible apply keeps_ite_pair
    | with_reducible apply State.servo_keeps
    | fail_if_no_progress with_reducible apply keeps_upd
    | with_reducible apply keeps_foldl
    | with_reducible apply keeps_foldl_pair
    | dsimp only
    | split
    | refine keeps_of_eq (by with_reducible assumption) ?_

theorem domCfgEff_keeps {s0 : State} (k : ℕ) (v : Word) (s : State) (h : Keeps s0 s) :
    Keeps s0 (domCfgEff k v s).1 := by
  unfold domCfgEff
  repeat' first
    | with_reducible assumption
    | intro _
    | with_reducible apply keeps_ite
    | with_reducible apply keeps_ite_pair
    | with_reducible apply State.setReg_keeps
    | with_reducible apply State.modDom_keeps
    | with_reducible apply State.setDom_keeps
    | fail_if_no_progress with_reducible apply keeps_upd
    | with_reducible apply keeps_foldl
    | with_reducible apply keeps_foldl_pair
    | dsimp only
    | split
    | refine keeps_of_eq (by with_reducible assumption) ?_

theorem State.stepCivil_keeps {s0 : State} (s : State) (kind : ℕ) (sec : ℕ) (ns : ℕ) (frac : ℕ) (h : Keeps s0 s) :
    Keeps s0 (State.stepCivil s kind sec ns frac) := by
  unfold State.stepCivil
  repeat' first
    | with_reducible assumption
    | intro _
    | with_reducible apply keeps_ite
    | with_reducible apply keeps_ite_pair
    | with_reducible apply State.mapReset_keeps
    | with_reducible apply State.stepBase_keeps
    | with_reducible apply State.modTim_keeps
    | with_reducible apply State.trimAbort_keeps
    | with_reducible apply State.log_keeps
    | with_reducible apply State.raise_keeps
    | with_reducible apply State.incHi_keeps
    | fail_if_no_progress with_reducible apply keeps_upd
    | with_reducible apply keeps_foldl
    | with_reducible apply keeps_foldl_pair
    | dsimp only
    | split
    | refine keeps_of_eq (by with_reducible assumption) ?_

theorem State.stepCivilTo_keeps {s0 : State} (s : State) (kind : ℕ) (v : ℤ) (h : Keeps s0 s) :
    Keeps s0 (State.stepCivilTo s kind v) := by
  unfold State.stepCivilTo
  repeat' first
    | with_reducible assumption
    | intro _
    | with_reducible apply keeps_ite
    | with_reducible apply keeps_ite_pair
    | with_reducible apply State.stepCivil_keeps
    | fail_if_no_progress with_reducible apply keeps_upd
    | with_reducible apply keeps_foldl
    | with_reducible apply keeps_foldl_pair
    | dsimp only
    | split
    | refine keeps_of_eq (by with_reducible assumption) ?_

theorem State.setCiv_keeps {s0 : State} (s : State) (st : ℕ) (h : Keeps s0 s) :
    Keeps s0 (State.setCiv s st) := by
  unfold State.setCiv
  repeat' first
    | with_reducible assumption
    | intro _
    | with_reducible apply keeps_ite
    | with_reducible apply keeps_ite_pair
    | with_reducible apply State.setFld_keeps
    | fail_if_no_progress with_reducible apply keeps_upd
    | with_reducible apply keeps_foldl
    | with_reducible apply keeps_foldl_pair
    | dsimp only
    | split
    | refine keeps_of_eq (by with_reducible assumption) ?_

theorem State.civFlag_keeps {s0 : State} (s : State) (b : ℕ) (int : ℕ) (now_ : Bool) (h : Keeps s0 s) :
    Keeps s0 (State.civFlag s b int now_) := by
  unfold State.civFlag
  repeat' first
    | with_reducible assumption
    | intro _
    | with_reducible apply keeps_ite
    | with_reducible apply keeps_ite_pair
    | with_reducible apply State.setRbit_keeps
    | with_reducible apply State.raise_keeps
    | fail_if_no_progress with_reducible apply keeps_upd
    | with_reducible apply keeps_foldl
    | with_reducible apply keeps_foldl_pair
    | dsimp only
    | split
    | refine keeps_of_eq (by with_reducible assumption) ?_

theorem State.civSelect_keeps {s0 : State} (s : State) (h : Keeps s0 s) :
    Keeps s0 (State.civSelect s) := by
  unfold State.civSelect
  repeat' first
    | with_reducible assumption
    | intro _
    | with_reducible apply keeps_ite
    | with_reducible apply keeps_ite_pair
    | with_reducible apply State.raise_keeps
    | with_reducible apply State.setFld_keeps
    | with_reducible apply State.log_keeps
    | with_reducible apply State.incLo_keeps
    | with_reducible apply State.civFlag_keeps
    | fail_if_no_progress with_reducible apply keeps_upd
    | with_reducible apply keeps_foldl
    | with_reducible apply keeps_foldl_pair
    | dsimp only
    | split
    | refine keeps_of_eq (by with_reducible assumption) ?_

theorem State.civDiscipline_keeps {s0 : State} (s : State) (src : ℕ) (h : Keeps s0 s) :
    Keeps s0 (State.civDiscipline s src) := by
  unfold State.civDiscipline
  repeat' first
    | with_reducible assumption
    | intro _
    | with_reducible apply keeps_ite
    | with_reducible apply keeps_ite_pair
    | with_reducible apply State.setCiv_keeps
    | with_reducible apply State.stepCivilTo_keeps
    | with_reducible apply State.setReg_keeps
    | with_reducible apply State.setRbit_keeps
    | with_reducible apply State.raise_keeps
    | with_reducible apply State.civFlag_keeps
    | with_reducible apply State.modTim_keeps
    | fail_if_no_progress with_reducible apply keeps_upd
    | with_reducible apply keeps_foldl
    | with_reducible apply keeps_foldl_pair
    | dsimp only
    | split
    | refine keeps_of_eq (by with_reducible assumption) ?_

theorem State.civSnap_keeps {s0 : State} (s : State) (src : ℕ) (h : Keeps s0 s) :
    Keeps s0 (State.civSnap s src) := by
  unfold State.civSnap
  repeat' first
    | with_reducible assumption
    | intro _
    | with_reducible apply keeps_ite
    | with_reducible apply keeps_ite_pair
    | with_reducible apply State.modTim_keeps
    | with_reducible apply State.stepCivilTo_keeps
    | with_reducible apply State.countClamp_keeps
    | fail_if_no_progress with_reducible apply keeps_upd
    | with_reducible apply keeps_foldl
    | with_reducible apply keeps_foldl_pair
    | dsimp only
    | split
    | refine keeps_of_eq (by with_reducible assumption) ?_

theorem State.trimCivil_keeps {s0 : State} (s : State) (h : Keeps s0 s) :
    Keeps s0 (State.trimCivil s) := by
  unfold State.trimCivil
  repeat' first
    | with_reducible assumption
    | intro _
    | with_reducible apply keeps_ite
    | with_reducible apply keeps_ite_pair
    | with_reducible apply State.setReg_keeps
    | with_reducible apply State.trimAbort_keeps
    | with_reducible apply State.trimOpen_keeps
    | fail_if_no_progress with_reducible apply keeps_upd
    | with_reducible apply keeps_foldl
    | with_reducible apply keeps_foldl_pair
    | dsimp only
    | split
    | refine keeps_of_eq (by with_reducible assumption) ?_

theorem State.civilUpdate_keeps {s0 : State} (s : State) (h : Keeps s0 s) :
    Keeps s0 (State.civilUpdate s) := by
  unfold State.civilUpdate
  repeat' first
    | with_reducible assumption
    | intro _
    | with_reducible apply keeps_ite
    | with_reducible apply keeps_ite_pair
    | with_reducible apply State.civSelect_keeps
    | with_reducible apply State.zoneUpdate_keeps
    | with_reducible apply State.trimCivil_keeps
    | with_reducible apply State.civDiscipline_keeps
    | with_reducible apply State.civSnap_keeps
    | fail_if_no_progress with_reducible apply keeps_upd
    | with_reducible apply keeps_foldl
    | with_reducible apply keeps_foldl_pair
    | dsimp only
    | split
    | refine keeps_of_eq (by with_reducible assumption) ?_

theorem civStepEff_keeps {s0 : State} (req : ℕ) (v : Word) (s : State) (h : Keeps s0 s) :
    Keeps s0 (civStepEff req v s).1 := by
  unfold civStepEff
  repeat' first
    | with_reducible assumption
    | intro _
    | with_reducible apply keeps_ite
    | with_reducible apply keeps_ite_pair
    | with_reducible apply State.modTim_keeps
    | with_reducible apply State.stepCivil_keeps
    | with_reducible apply State.setRbit_keeps
    | fail_if_no_progress with_reducible apply keeps_upd
    | with_reducible apply keeps_foldl
    | with_reducible apply keeps_foldl_pair
    | dsimp only
    | split
    | refine keeps_of_eq (by with_reducible assumption) ?_

theorem tzCfgEff_keeps {s0 : State} (v : Word) (s : State) (h : Keeps s0 s) :
    Keeps s0 (tzCfgEff v s).1 := by
  unfold tzCfgEff
  repeat' first
    | with_reducible assumption
    | intro _
    | with_reducible apply keeps_ite
    | with_reducible apply keeps_ite_pair
    | with_reducible apply State.store_keeps
    | fail_if_no_progress with_reducible apply keeps_upd
    | with_reducible apply keeps_foldl
    | with_reducible apply keeps_foldl_pair
    | dsimp only
    | split
    | refine keeps_of_eq (by with_reducible assumption) ?_

theorem almCfgEff_keeps {s0 : State} (a : ℕ) (v : Word) (s : State) (h : Keeps s0 s) :
    Keeps s0 (almCfgEff a v s).1 := by
  unfold almCfgEff
  repeat' first
    | with_reducible assumption
    | intro _
    | with_reducible apply keeps_ite
    | with_reducible apply keeps_ite_pair
    | with_reducible apply State.store_keeps
    | with_reducible apply State.setRbit_keeps
    | with_reducible apply State.modTim_keeps
    | with_reducible apply State.convertAlarm_keeps
    | fail_if_no_progress with_reducible apply keeps_upd
    | with_reducible apply keeps_foldl
    | with_reducible apply keeps_foldl_pair
    | dsimp only
    | split
    | refine keeps_of_eq (by with_reducible assumption) ?_

theorem State.timSoftReset_keeps {s0 : State} (s : State) (h : Keeps s0 s) :
    Keeps s0 (State.timSoftReset s) := by
  unfold State.timSoftReset
  repeat' first
    | with_reducible assumption
    | intro _
    | with_reducible apply keeps_ite
    | with_reducible apply keeps_ite_pair
    | with_reducible apply State.resetPageRegs_keeps
    | with_reducible apply State.setReg_keeps
    | with_reducible apply State.setRbit_keeps
    | with_reducible apply State.modTim_keeps
    | fail_if_no_progress with_reducible apply keeps_upd
    | with_reducible apply keeps_foldl
    | with_reducible apply keeps_foldl_pair
    | dsimp only
    | split
    | refine keeps_of_eq (by with_reducible assumption) ?_

theorem State.timSnap_keeps {s0 : State} (s : State) (h : Keeps s0 s) :
    Keeps s0 (State.timSnap s) := by
  unfold State.timSnap
  repeat' first
    | with_reducible assumption
    | intro _
    | with_reducible apply keeps_ite
    | with_reducible apply keeps_ite_pair
    | with_reducible apply State.setReg_keeps
    | fail_if_no_progress with_reducible apply keeps_upd
    | with_reducible apply keeps_foldl
    | with_reducible apply keeps_foldl_pair
    | dsimp only
    | split
    | refine keeps_of_eq (by with_reducible assumption) ?_

theorem timCtrlEff_keeps {s0 : State} (v : Word) (s : State) (h : Keeps s0 s) :
    Keeps s0 (timCtrlEff v s).1 := by
  unfold timCtrlEff
  repeat' first
    | with_reducible assumption
    | intro _
    | with_reducible apply keeps_ite
    | with_reducible apply keeps_ite_pair
    | with_reducible apply State.timSoftReset_keeps
    | with_reducible apply State.timSnap_keeps
    | fail_if_no_progress with_reducible apply keeps_upd
    | with_reducible apply keeps_foldl
    | with_reducible apply keeps_foldl_pair
    | dsimp only
    | split
    | refine keeps_of_eq (by with_reducible assumption) ?_

theorem timEff_keeps {s0 : State} (req : ℕ) (a : ℕ) (v : Word) (s : State) (h : Keeps s0 s) :
    Keeps s0 (timEff req a v s).1 := by
  unfold timEff
  repeat' first
    | with_reducible assumption
    | intro _
    | with_reducible apply keeps_ite
    | with_reducible apply keeps_ite_pair
    | with_reducible apply timCtrlEff_keeps
    | with_reducible apply measEff_keeps
    | with_reducible apply domCfgEff_keeps
    | with_reducible apply civStepEff_keeps
    | with_reducible apply tzCfgEff_keeps
    | with_reducible apply almCfgEff_keeps
    | with_reducible apply State.plainWrite_keeps
    | fail_if_no_progress with_reducible apply keeps_upd
    | with_reducible apply keeps_foldl
    | with_reducible apply keeps_foldl_pair
    | dsimp only
    | split
    | refine keeps_of_eq (by with_reducible assumption) ?_

theorem State.modRtc_keeps {s0 : State} (s : State) (f : Rtc → Rtc) (h : Keeps s0 s) :
    Keeps s0 (State.modRtc s f) := by
  unfold State.modRtc
  repeat' first
    | with_reducible assumption
    | intro _
    | with_reducible apply keeps_ite
    | with_reducible apply keeps_ite_pair
    | fail_if_no_progress with_reducible apply keeps_upd
    | with_reducible apply keeps_foldl
    | with_reducible apply keeps_foldl_pair
    | dsimp only
    | split
    | refine keeps_of_eq (by with_reducible assumption) ?_

theorem State.rtcLoad_keeps {s0 : State} (s : State) (secs : ℕ) (h : Keeps s0 s) :
    Keeps s0 (State.rtcLoad s secs) := by
  unfold State.rtcLoad
  repeat' first
    | with_reducible assumption
    | intro _
    | with_reducible apply keeps_ite
    | with_reducible apply keeps_ite_pair
    | with_reducible apply State.modRtc_keeps
    | with_reducible apply State.trimAbort_keeps
    | with_reducible apply State.raise_keeps
    | with_reducible apply State.setRbit_keeps
    | fail_if_no_progress with_reducible apply keeps_upd
    | with_reducible apply keeps_foldl
    | with_reducible apply keeps_foldl_pair
    | dsimp only
    | split
    | refine keeps_of_eq (by with_reducible assumption) ?_

theorem setTimeEff_keeps {s0 : State} (v : Word) (s : State) (h : Keeps s0 s) :
    Keeps s0 (setTimeEff v s).1 := by
  unfold setTimeEff
  repeat' first
    | with_reducible assumption
    | intro _
    | with_reducible apply keeps_ite
    | with_reducible apply keeps_ite_pair
    | with_reducible apply State.setReg_keeps
    | with_reducible apply State.rtcLoad_keeps
    | fail_if_no_progress with_reducible apply keeps_upd
    | with_reducible apply keeps_foldl
    | with_reducible apply keeps_foldl_pair
    | dsimp only
    | split
    | refine keeps_of_eq (by with_reducible assumption) ?_

theorem State.rtcSnap_keeps {s0 : State} (s : State) (h : Keeps s0 s) :
    Keeps s0 (State.rtcSnap s) := by
  unfold State.rtcSnap
  repeat' first
    | with_reducible assumption
    | intro _
    | with_reducible apply keeps_ite
    | with_reducible apply keeps_ite_pair
    | with_reducible apply State.setReg_keeps
    | with_reducible apply State.draw_keeps
    | with_reducible apply State.setReg64_keeps
    | fail_if_no_progress with_reducible apply keeps_upd
    | with_reducible apply keeps_foldl
    | with_reducible apply keeps_foldl_pair
    | dsimp only
    | split
    | refine keeps_of_eq (by with_reducible assumption) ?_

theorem rtcCtrlEff_keeps {s0 : State} (v : Word) (s : State) (h : Keeps s0 s) :
    Keeps s0 (rtcCtrlEff v s).1 := by
  unfold rtcCtrlEff
  repeat' first
    | with_reducible assumption
    | intro _
    | with_reducible apply keeps_ite
    | with_reducible apply keeps_ite_pair
    | with_reducible apply State.setRbit_keeps
    | with_reducible apply State.setReg_keeps
    | with_reducible apply State.modRtc_keeps
    | with_reducible apply State.rtcSnap_keeps
    | fail_if_no_progress with_reducible apply keeps_upd
    | with_reducible apply keeps_foldl
    | with_reducible apply keeps_foldl_pair
    | dsimp only
    | split
    | refine keeps_of_eq (by with_reducible assumption) ?_

theorem trimCfgEff_keeps {s0 : State} (v : Word) (s : State) (h : Keeps s0 s) :
    Keeps s0 (trimCfgEff v s).1 := by
  unfold trimCfgEff
  repeat' first
    | with_reducible assumption
    | intro _
    | with_reducible apply keeps_ite
    | with_reducible apply keeps_ite_pair
    | with_reducible apply State.store_keeps
    | with_reducible apply State.trimAbort_keeps
    | fail_if_no_progress with_reducible apply keeps_upd
    | with_reducible apply keeps_foldl
    | with_reducible apply keeps_foldl_pair
    | dsimp only
    | split
    | refine keeps_of_eq (by with_reducible assumption) ?_

theorem almCtrlEff_keeps {s0 : State} (v : Word) (s : State) (h : Keeps s0 s) :
    Keeps s0 (almCtrlEff v s).1 := by
  unfold almCtrlEff
  repeat' first
    | with_reducible assumption
    | intro _
    | with_reducible apply keeps_ite
    | with_reducible apply keeps_ite_pair
    | with_reducible apply State.store_keeps
    | with_reducible apply State.modRtc_keeps
    | with_reducible apply State.setRbit_keeps
    | fail_if_no_progress with_reducible apply keeps_upd
    | with_reducible apply keeps_foldl
    | with_reducible apply keeps_foldl_pair
    | dsimp only
    | split
    | refine keeps_of_eq (by with_reducible assumption) ?_

theorem rtcEff_keeps {s0 : State} (req : ℕ) (a : ℕ) (v : Word) (s : State) (h : Keeps s0 s) :
    Keeps s0 (rtcEff req a v s).1 := by
  unfold rtcEff
  repeat' first
    | with_reducible assumption
    | intro _
    | with_reducible apply keeps_ite
    | with_reducible apply keeps_ite_pair
    | with_reducible apply rtcCtrlEff_keeps
    | with_reducible apply setTimeEff_keeps
    | with_reducible apply trimCfgEff_keeps
    | with_reducible apply almCtrlEff_keeps
    | with_reducible apply State.plainWrite_keeps
    | fail_if_no_progress with_reducible apply keeps_upd
    | with_reducible apply keeps_foldl
    | with_reducible apply keeps_foldl_pair
    | dsimp only
    | split
    | refine keeps_of_eq (by with_reducible assumption) ?_

theorem State.timPowerUp_keeps {s0 : State} (s : State) (h : Keeps s0 s) :
    Keeps s0 (State.timPowerUp s) := by
  unfold State.timPowerUp
  repeat' first
    | with_reducible assumption
    | intro _
    | with_reducible apply keeps_ite
    | with_reducible apply keeps_ite_pair
    | with_reducible apply State.setTbase_keeps
    | with_reducible apply State.setReg_keeps
    | with_reducible apply State.draw_keeps
    | with_reducible apply State.raise_keeps
    | with_reducible apply State.modRtc_keeps
    | fail_if_no_progress with_reducible apply keeps_upd
    | with_reducible apply keeps_foldl
    | with_reducible apply keeps_foldl_pair
    | dsimp only
    | split
    | refine keeps_of_eq (by with_reducible assumption) ?_

end Sys2Proof.Machine
end

