-- ==== Sys2Proof/Laws/KeepSense.lean ====
section
/-!
SUPPORT. What the operations of Machine/Sense.lean keep: the queue, and the canonical form of the stores.
-/

namespace Sys2Proof.Machine

theorem State.modSns_keeps {s0 : State} (s : State) (f : Sns → Sns) (h : Keeps s0 s) :
    Keeps s0 (State.modSns s f) := by
  unfold State.modSns
  repeat' first
    | with_reducible assumption
    | intro _
    | with_reducible apply keeps_ite
    | with_reducible apply keeps_ite_pair
    | fail_if_no_progress with_reducible apply keeps_upd
    | with_reducible apply keeps_foldl
    | with_reducible apply keeps_foldl_pair
    | dsimp only
    | split
    | refine keeps_of_eq (by with_reducible assumption) ?_

theorem State.setIn_keeps {s0 : State} (s : State) (i : ℕ) (x2 : SnsIn) (h : Keeps s0 s) :
    Keeps s0 (State.setIn s i x2) := by
  unfold State.setIn
  repeat' first
    | with_reducible assumption
    | intro _
    | with_reducible apply keeps_ite
    | with_reducible apply keeps_ite_pair
    | with_reducible apply State.modSns_keeps
    | fail_if_no_progress with_reducible apply keeps_upd
    | with_reducible apply keeps_foldl
    | with_reducible apply keeps_foldl_pair
    | dsimp only
    | split
    | refine keeps_of_eq (by with_reducible assumption) ?_

theorem State.setLaneTicks_keeps {s0 : State} (s : State) (b : ℕ) (n : ℕ) (h : Keeps s0 s) :
    Keeps s0 (State.setLaneTicks s b n) := by
  unfold State.setLaneTicks
  repeat' first
    | with_reducible assumption
    | intro _
    | with_reducible apply keeps_ite
    | with_reducible apply keeps_ite_pair
    | with_reducible apply State.modSns_keeps
    | fail_if_no_progress with_reducible apply keeps_upd
    | with_reducible apply keeps_foldl
    | with_reducible apply keeps_foldl_pair
    | dsimp only
    | split
    | refine keeps_of_eq (by with_reducible assumption) ?_

theorem State.setLane_keeps {s0 : State} (s : State) (b : ℕ) (st : ℕ) (h : Keeps s0 s) :
    Keeps s0 (State.setLane s b st) := by
  unfold State.setLane
  repeat' first
    | with_reducible assumption
    | intro _
    | with_reducible apply keeps_ite
    | with_reducible apply keeps_ite_pair
    | with_reducible apply State.setRbit_keeps
    | with_reducible apply State.setFld_keeps
    | fail_if_no_progress with_reducible apply keeps_upd
    | with_reducible apply keeps_foldl
    | with_reducible apply keeps_foldl_pair
    | dsimp only
    | split
    | refine keeps_of_eq (by with_reducible assumption) ?_

theorem State.dropLaneTicks_keeps {s0 : State} (s : State) (b : ℕ) (h : Keeps s0 s) :
    Keeps s0 (State.dropLaneTicks s b) := by
  unfold State.dropLaneTicks
  repeat' first
    | with_reducible assumption
    | intro _
    | with_reducible apply keeps_ite
    | with_reducible apply keeps_ite_pair
    | with_reducible apply State.setLaneTicks_keeps
    | fail_if_no_progress with_reducible apply keeps_upd
    | with_reducible apply keeps_foldl
    | with_reducible apply keeps_foldl_pair
    | dsimp only
    | split
    | refine keeps_of_eq (by with_reducible assumption) ?_

theorem State.liveLaneTrip_keeps {s0 : State} (s : State) (b : ℕ) (h : Keeps s0 s) :
    Keeps s0 (State.liveLaneTrip s b) := by
  unfold State.liveLaneTrip
  repeat' first
    | with_reducible assumption
    | intro _
    | with_reducible apply keeps_ite
    | with_reducible apply keeps_ite_pair
    | with_reducible apply State.laneTrip_keeps
    | fail_if_no_progress with_reducible apply keeps_upd
    | with_reducible apply keeps_foldl
    | with_reducible apply keeps_foldl_pair
    | dsimp only
    | split
    | refine keeps_of_eq (by with_reducible assumption) ?_

theorem State.refreshLane_keeps {s0 : State} (s : State) (b : ℕ) (h : Keeps s0 s) :
    Keeps s0 (State.refreshLane s b) := by
  unfold State.refreshLane
  repeat' first
    | with_reducible assumption
    | intro _
    | with_reducible apply keeps_ite
    | with_reducible apply keeps_ite_pair
    | with_reducible apply State.setLane_keeps
    | with_reducible apply State.dropLaneTicks_keeps
    | with_reducible apply State.liveLaneTrip_keeps
    | fail_if_no_progress with_reducible apply keeps_upd
    | with_reducible apply keeps_foldl
    | with_reducible apply keeps_foldl_pair
    | dsimp only
    | split
    | refine keeps_of_eq (by with_reducible assumption) ?_

theorem laneCfgEff_keeps {s0 : State} (b : ℕ) (v : Word) (s : State) (h : Keeps s0 s) :
    Keeps s0 (laneCfgEff b v s).1 := by
  unfold laneCfgEff
  repeat' first
    | with_reducible assumption
    | intro _
    | with_reducible apply keeps_ite
    | with_reducible apply keeps_ite_pair
    | with_reducible apply State.store_keeps
    | with_reducible apply State.refreshLane_keeps
    | fail_if_no_progress with_reducible apply keeps_upd
    | with_reducible apply keeps_foldl
    | with_reducible apply keeps_foldl_pair
    | dsimp only
    | split
    | refine keeps_of_eq (by with_reducible assumption) ?_

theorem State.resetFilters_keeps {s0 : State} (s : State) (h : Keeps s0 s) :
    Keeps s0 (State.resetFilters s) := by
  unfold State.resetFilters
  repeat' first
    | with_reducible assumption
    | intro _
    | with_reducible apply keeps_ite
    | with_reducible apply keeps_ite_pair
    | with_reducible apply State.modSns_keeps
    | fail_if_no_progress with_reducible apply keeps_upd
    | with_reducible apply keeps_foldl
    | with_reducible apply keeps_foldl_pair
    | dsimp only
    | split
    | refine keeps_of_eq (by with_reducible assumption) ?_

theorem State.endSource_keeps {s0 : State} (s : State) (strobe : Bool) (h : Keeps s0 s) :
    Keeps s0 (State.endSource s strobe) := by
  unfold State.endSource
  repeat' first
    | with_reducible assumption
    | intro _
    | with_reducible apply keeps_ite
    | with_reducible apply keeps_ite_pair
    | with_reducible apply State.modSns_keeps
    | with_reducible apply State.clearPlaybackLatches_keeps
    | with_reducible apply State.resetFilters_keeps
    | fail_if_no_progress with_reducible apply keeps_upd
    | with_reducible apply keeps_foldl
    | with_reducible apply keeps_foldl_pair
    | dsimp only
    | split
    | refine keeps_of_eq (by with_reducible assumption) ?_

theorem snsCtrlEff_keeps {s0 : State} (p : ℕ) (v : Word) (s : State) (h : Keeps s0 s) :
    Keeps s0 (snsCtrlEff p v s).1 := by
  unfold snsCtrlEff
  repeat' first
    | with_reducible assumption
    | intro _
    | with_reducible apply keeps_ite
    | with_reducible apply keeps_ite_pair
    | with_reducible apply State.refreshLane_keeps
    | with_reducible apply State.setReg_keeps
    | with_reducible apply State.endSource_keeps
    | with_reducible apply State.axeRefresh_keeps
    | with_reducible apply State.resetPageRegs_keeps
    | with_reducible apply State.modSns_keeps
    | with_reducible apply keeps_dropReg
    | with_reducible apply keeps_dropWin
    | with_reducible apply keeps_dropMem
    | with_reducible apply keeps_lostStores
    | fail_if_no_progress with_reducible apply keeps_upd
    | with_reducible apply keeps_foldl
    | with_reducible apply keeps_foldl_pair
    | dsimp only
    | split
    | refine keeps_of_eq (by with_reducible assumption) ?_

theorem inputCfgEff_keeps {s0 : State} (i : ℕ) (v : Word) (s : State) (h : Keeps s0 s) :
    Keeps s0 (inputCfgEff i v s).1 := by
  unfold inputCfgEff
  repeat' first
    | with_reducible assumption
    | intro _
    | with_reducible apply keeps_ite
    | with_reducible apply keeps_ite_pair
    | with_reducible apply State.store_keeps
    | fail_if_no_progress with_reducible apply keeps_upd
    | with_reducible apply keeps_foldl
    | with_reducible apply keeps_foldl_pair
    | dsimp only
    | split
    | refine keeps_of_eq (by with_reducible assumption) ?_

theorem State.takeCal_keeps {s0 : State} (s : State) (i : ℕ) (h : Keeps s0 s) :
    Keeps s0 (State.takeCal s i) := by
  unfold State.takeCal
  repeat' first
    | with_reducible assumption
    | intro _
    | with_reducible apply keeps_ite
    | with_reducible apply keeps_ite_pair
    | with_reducible apply State.setIn_keeps
    | with_reducible apply State.setRbit_keeps
    | fail_if_no_progress with_reducible apply keeps_upd
    | with_reducible apply keeps_foldl
    | with_reducible apply keeps_foldl_pair
    | dsimp only
    | split
    | refine keeps_of_eq (by with_reducible assumption) ?_

theorem State.slotRun_keeps {s0 : State} (s : State) (i : ℕ) (bs : List Bool) (h : Keeps s0 s) :
    Keeps s0 (State.slotRun s i bs) := by
  unfold State.slotRun
  repeat' first
    | with_reducible assumption
    | intro _
    | with_reducible apply keeps_ite
    | with_reducible apply keeps_ite_pair
    | with_reducible apply State.setIn_keeps
    | with_reducible apply State.raise_keeps
    | with_reducible apply State.setRbit_keeps
    | fail_if_no_progress with_reducible apply keeps_upd
    | with_reducible apply keeps_foldl
    | with_reducible apply keeps_foldl_pair
    | dsimp only
    | split
    | refine keeps_of_eq (by with_reducible assumption) ?_

theorem State.inputTick_keeps {s0 : State} (s : State) (i : ℕ) (bs : List Bool) (delivered : ℕ) (perr : Bool) (h : Keeps s0 s) :
    Keeps s0 (State.inputTick s i bs delivered perr) := by
  unfold State.inputTick
  repeat' first
    | with_reducible assumption
    | intro _
    | with_reducible apply keeps_ite
    | with_reducible apply keeps_ite_pair
    | with_reducible apply State.setIn_keeps
    | with_reducible apply State.setRbit_keeps
    | fail_if_no_progress with_reducible apply keeps_upd
    | with_reducible apply keeps_foldl
    | with_reducible apply keeps_foldl_pair
    | dsimp only
    | split
    | refine keeps_of_eq (by with_reducible assumption) ?_

theorem State.releaseSample_keeps {s0 : State} (s : State) (i : ℕ) (n : Stamp) (h : Keeps s0 s) :
    Keeps s0 (State.releaseSample s i n) := by
  unfold State.releaseSample
  repeat' first
    | with_reducible assumption
    | intro _
    | with_reducible apply keeps_ite
    | with_reducible apply keeps_ite_pair
    | with_reducible apply State.setIn_keeps
    | with_reducible apply State.setReg_keeps
    | with_reducible apply State.setRbit_keeps
    | with_reducible apply State.raise_keeps
    | with_reducible apply State.incLo_keeps
    | with_reducible apply State.incHi_keeps
    | fail_if_no_progress with_reducible apply keeps_upd
    | with_reducible apply keeps_foldl
    | with_reducible apply keeps_foldl_pair
    | dsimp only
    | split
    | refine keeps_of_eq (by with_reducible assumption) ?_

theorem State.setPb_keeps {s0 : State} (s : State) (st : ℕ) (h : Keeps s0 s) :
    Keeps s0 (State.setPb s st) := by
  unfold State.setPb
  repeat' first
    | with_reducible assumption
    | intro _
    | with_reducible apply keeps_ite
    | with_reducible apply keeps_ite_pair
    | with_reducible apply State.setFld_keeps
    | fail_if_no_progress with_reducible apply keeps_upd
    | with_reducible apply keeps_foldl
    | with_reducible apply keeps_foldl_pair
    | dsimp only
    | split
    | refine keeps_of_eq (by with_reducible assumption) ?_

theorem State.stopSource_keeps {s0 : State} (s : State) (cause : ℕ) (strobe : Bool) (h : Keeps s0 s) :
    Keeps s0 (State.stopSource s cause strobe) := by
  unfold State.stopSource
  repeat' first
    | with_reducible assumption
    | intro _
    | with_reducible apply keeps_ite
    | with_reducible apply keeps_ite_pair
    | with_reducible apply State.endSource_keeps
    | with_reducible apply State.setFld_keeps
    | with_reducible apply State.setPb_keeps
    | with_reducible apply State.axeRefresh_keeps
    | with_reducible apply State.raise_keeps
    | fail_if_no_progress with_reducible apply keeps_upd
    | with_reducible apply keeps_foldl
    | with_reducible apply keeps_foldl_pair
    | dsimp only
    | split
    | refine keeps_of_eq (by with_reducible assumption) ?_

theorem State.openPulses_keeps {s0 : State} (s : State) (h : Keeps s0 s) :
    Keeps s0 (State.openPulses s) := by
  unfold State.openPulses
  repeat' first
    | with_reducible assumption
    | intro _
    | with_reducible apply keeps_ite
    | with_reducible apply keeps_ite_pair
    | fail_if_no_progress with_reducible apply keeps_upd
    | with_reducible apply keeps_foldl
    | with_reducible apply keeps_foldl_pair
    | dsimp only
    | split
    | refine keeps_of_eq (by with_reducible assumption) ?_

theorem State.mtrPlayback_keeps {s0 : State} (s : State) (h : Keeps s0 s) :
    Keeps s0 (State.mtrPlayback s) := by
  unfold State.mtrPlayback
  repeat' first
    | with_reducible assumption
    | intro _
    | with_reducible apply keeps_ite
    | with_reducible apply keeps_ite_pair
    | with_reducible apply State.openPulses_keeps
    | fail_if_no_progress with_reducible apply keeps_upd
    | with_reducible apply keeps_foldl
    | with_reducible apply keeps_foldl_pair
    | dsimp only
    | split
    | refine keeps_of_eq (by with_reducible assumption) ?_

theorem pbCtrlEff_keeps {s0 : State} (v : Word) (s : State) (h : Keeps s0 s) :
    Keeps s0 (pbCtrlEff v s).1 := by
  unfold pbCtrlEff
  repeat' first
    | with_reducible assumption
    | intro _
    | with_reducible apply keeps_ite
    | with_reducible apply keeps_ite_pair
    | with_reducible apply State.setFld_keeps
    | with_reducible apply State.stopSource_keeps
    | with_reducible apply State.setReg_keeps
    | with_reducible apply State.modSns_keeps
    | with_reducible apply State.axeRefresh_keeps
    | with_reducible apply State.mtrPlayback_keeps
    | fail_if_no_progress with_reducible apply keeps_upd
    | with_reducible apply keeps_foldl
    | with_reducible apply keeps_foldl_pair
    | dsimp only
    | split
    | refine keeps_of_eq (by with_reducible assumption) ?_

theorem pbRegEff_keeps {s0 : State} (req : ℕ) (a : ℕ) (v : Word) (s : State) (h : Keeps s0 s) :
    Keeps s0 (pbRegEff req a v s).1 := by
  unfold pbRegEff
  repeat' first
    | with_reducible assumption
    | intro _
    | with_reducible apply keeps_ite
    | with_reducible apply keeps_ite_pair
    | with_reducible apply State.plainWrite_keeps
    | fail_if_no_progress with_reducible apply keeps_upd
    | with_reducible apply keeps_foldl
    | with_reducible apply keeps_foldl_pair
    | dsimp only
    | split
    | refine keeps_of_eq (by with_reducible assumption) ?_

theorem State.slotTick_keeps {s0 : State} (s : State) (i : ℕ) (bs : List Bool) (delivered : ℕ) (perr : Bool) (h : Keeps s0 s) :
    Keeps s0 (State.slotTick s i bs delivered perr) := by
  unfold State.slotTick
  repeat' first
    | with_reducible assumption
    | intro _
    | with_reducible apply keeps_ite
    | with_reducible apply keeps_ite_pair
    | with_reducible apply State.slotRun_keeps
    | with_reducible apply State.inputTick_keeps
    | with_reducible apply State.setIn_keeps
    | with_reducible apply State.takeCal_keeps
    | fail_if_no_progress with_reducible apply keeps_upd
    | with_reducible apply keeps_foldl
    | with_reducible apply keeps_foldl_pair
    | dsimp only
    | split
    | refine keeps_of_eq (by with_reducible assumption) ?_

theorem State.laneTick_keeps {s0 : State} (s : State) (live : List LaneBits) (perr : List (Fin 104)) (b : ℕ) (h : Keeps s0 s) :
    Keeps s0 (State.laneTick s live perr b) := by
  unfold State.laneTick
  repeat' first
    | with_reducible assumption
    | intro _
    | with_reducible apply keeps_ite
    | with_reducible apply keeps_ite_pair
    | with_reducible apply State.laneTrip_keeps
    | with_reducible apply State.setLaneTicks_keeps
    | with_reducible apply State.setFld_keeps
    | with_reducible apply State.slotTick_keeps
    | fail_if_no_progress with_reducible apply keeps_upd
    | with_reducible apply keeps_foldl
    | with_reducible apply keeps_foldl_pair
    | dsimp only
    | split
    | refine keeps_of_eq (by with_reducible assumption) ?_

theorem State.zcTicks_keeps {s0 : State} (s : State) (n : Stamp) (tickNo : ℕ) (h : Keeps s0 s) :
    Keeps s0 (State.zcTicks s n tickNo) := by
  unfold State.zcTicks
  repeat' first
    | with_reducible assumption
    | intro _
    | with_reducible apply keeps_ite
    | with_reducible apply keeps_ite_pair
    | with_reducible apply State.zcTick_keeps
    | fail_if_no_progress with_reducible apply keeps_upd
    | with_reducible apply keeps_foldl
    | with_reducible apply keeps_foldl_pair
    | dsimp only
    | split
    | refine keeps_of_eq (by with_reducible assumption) ?_

theorem State.pbTick_keeps {s0 : State} (s : State) (h : Keeps s0 s) :
    Keeps s0 (State.pbTick s) := by
  unfold State.pbTick
  repeat' first
    | with_reducible assumption
    | intro _
    | with_reducible apply keeps_ite
    | with_reducible apply keeps_ite_pair
    | with_reducible apply State.modSns_keeps
    | with_reducible apply State.incReg_keeps
    | fail_if_no_progress with_reducible apply keeps_upd
    | with_reducible apply keeps_foldl
    | with_reducible apply keeps_foldl_pair
    | dsimp only
    | split
    | refine keeps_of_eq (by with_reducible assumption) ?_

theorem State.pbDue_keeps {s0 : State} (s : State) (h : Keeps s0 s) :
    Keeps s0 (State.pbDue s) := by
  unfold State.pbDue
  repeat' first
    | with_reducible assumption
    | intro _
    | with_reducible apply keeps_ite
    | with_reducible apply keeps_ite_pair
    | with_reducible apply State.stopSource_keeps
    | fail_if_no_progress with_reducible apply keeps_upd
    | with_reducible apply keeps_foldl
    | with_reducible apply keeps_foldl_pair
    | dsimp only
    | split
    | refine keeps_of_eq (by with_reducible assumption) ?_

theorem State.tickStrobe_keeps {s0 : State} (s : State) (live : List LaneBits) (perr : List (Fin 104)) (h : Keeps s0 s) :
    Keeps s0 (State.tickStrobe s live perr) := by
  unfold State.tickStrobe
  repeat' first
    | with_reducible assumption
    | intro _
    | with_reducible apply keeps_ite
    | with_reducible apply keeps_ite_pair
    | with_reducible apply State.releaseSample_keeps
    | with_reducible apply State.laneTick_keeps
    | with_reducible apply State.modSns_keeps
    | with_reducible apply State.pbTick_keeps
    | with_reducible apply State.pbDue_keeps
    | with_reducible apply State.zcTicks_keeps
    | fail_if_no_progress with_reducible apply keeps_upd
    | with_reducible apply keeps_foldl
    | with_reducible apply keeps_foldl_pair
    | dsimp only
    | split
    | refine keeps_of_eq (by with_reducible assumption) ?_

theorem State.fastCompare_keeps {s0 : State} (s : State) (i : ℕ) (q : ℕ) (valid : Bool) (f : ℤ) (h : Keeps s0 s) :
    Keeps s0 (State.fastCompare s i q valid f) := by
  unfold State.fastCompare
  repeat' first
    | with_reducible assumption
    | intro _
    | with_reducible apply keeps_ite
    | with_reducible apply keeps_ite_pair
    | with_reducible apply State.axeFast_keeps
    | fail_if_no_progress with_reducible apply keeps_upd
    | with_reducible apply keeps_foldl
    | with_reducible apply keeps_foldl_pair
    | dsimp only
    | split
    | refine keeps_of_eq (by with_reducible assumption) ?_

end Sys2Proof.Machine
end

