-- ==== Sys2Proof/Laws/KeepControl.lean ====
section
/-!
SUPPORT. What the operations of Machine/Control.lean keep: the queue, and the canonical form of the stores.
-/

namespace Sys2Proof.Machine

theorem State.modCen_keeps {s0 : State} (s : State) (f : Cen → Cen) (h : Keeps s0 s) :
    Keeps s0 (State.modCen s f) := by
  unfold State.modCen
  repeat' first
    | with_reducible assumption
    | intro _
    | with_reducible apply keeps_ite
    | with_reducible apply keeps_ite_pair
    | fail_if_no_progress with_reducible apply keeps_upd
    | with_reducible apply keeps_foldl
    | with_reducible apply keeps_foldl_pair
    | dsimp only
    | split
    | refine keeps_of_eq (by with_reducible assumption) ?_

theorem State.modLoop_keeps {s0 : State} (s : State) (r : ℕ) (f : Loop → Loop) (h : Keeps s0 s) :
    Keeps s0 (State.modLoop s r f) := by
  unfold State.modLoop
  repeat' first
    | with_reducible assumption
    | intro _
    | with_reducible apply keeps_ite
    | with_reducible apply keeps_ite_pair
    | with_reducible apply State.modCen_keeps
    | fail_if_no_progress with_reducible apply keeps_upd
    | with_reducible apply keeps_foldl
    | with_reducible apply keeps_foldl_pair
    | dsimp only
    | split
    | refine keeps_of_eq (by with_reducible assumption) ?_

theorem State.tblInvalid_keeps {s0 : State} (s : State) (h : Keeps s0 s) :
    Keeps s0 (State.tblInvalid s) := by
  unfold State.tblInvalid
  repeat' first
    | with_reducible assumption
    | intro _
    | with_reducible apply keeps_ite
    | with_reducible apply keeps_ite_pair
    | with_reducible apply State.setRbit_keeps
    | fail_if_no_progress with_reducible apply keeps_upd
    | with_reducible apply keeps_foldl
    | with_reducible apply keeps_foldl_pair
    | dsimp only
    | split
    | refine keeps_of_eq (by with_reducible assumption) ?_

theorem State.askCheck_keeps {s0 : State} (s : State) (withTable : Bool) (h : Keeps s0 s) :
    Keeps s0 (State.askCheck s withTable) := by
  unfold State.askCheck
  repeat' first
    | with_reducible assumption
    | intro _
    | with_reducible apply keeps_ite
    | with_reducible apply keeps_ite_pair
    | with_reducible apply State.setRbit_keeps
    | fail_if_no_progress with_reducible apply keeps_upd
    | with_reducible apply keeps_foldl
    | with_reducible apply keeps_foldl_pair
    | dsimp only
    | split
    | refine keeps_of_eq (by with_reducible assumption) ?_

theorem tblCheckEff_keeps {s0 : State} (v : Word) (s : State) (h : Keeps s0 s) :
    Keeps s0 (tblCheckEff v s).1 := by
  unfold tblCheckEff
  repeat' first
    | with_reducible assumption
    | intro _
    | with_reducible apply keeps_ite
    | with_reducible apply keeps_ite_pair
    | with_reducible apply State.askCheck_keeps
    | with_reducible apply State.defer_keeps
    | fail_if_no_progress with_reducible apply keeps_upd
    | with_reducible apply keeps_foldl
    | with_reducible apply keeps_foldl_pair
    | dsimp only
    | split
    | refine keeps_of_eq (by with_reducible assumption) ?_

theorem State.modChan_keeps {s0 : State} (s : State) (k : ℕ) (f : Channel → Channel) (h : Keeps s0 s) :
    Keeps s0 (State.modChan s k f) := by
  unfold State.modChan
  repeat' first
    | with_reducible assumption
    | intro _
    | with_reducible apply keeps_ite
    | with_reducible apply keeps_ite_pair
    | fail_if_no_progress with_reducible apply keeps_upd
    | with_reducible apply keeps_foldl
    | with_reducible apply keeps_foldl_pair
    | dsimp only
    | split
    | refine keeps_of_eq (by with_reducible assumption) ?_

theorem State.modLgtCh_keeps {s0 : State} (s : State) (k : ℕ) (f : LgtCh → LgtCh) (h : Keeps s0 s) :
    Keeps s0 (State.modLgtCh s k f) := by
  unfold State.modLgtCh
  repeat' first
    | with_reducible assumption
    | intro _
    | with_reducible apply keeps_ite
    | with_reducible apply keeps_ite_pair
    | fail_if_no_progress with_reducible apply keeps_upd
    | with_reducible apply keeps_foldl
    | with_reducible apply keeps_foldl_pair
    | dsimp only
    | split
    | refine keeps_of_eq (by with_reducible assumption) ?_

theorem State.missed_keeps {s0 : State} (s : State) (r : ℕ) (sec : Section) (autoFb : Bool) (h : Keeps s0 s) :
    Keeps s0 (State.missed s r sec autoFb) := by
  unfold State.missed
  repeat' first
    | with_reducible assumption
    | intro _
    | with_reducible apply keeps_ite
    | with_reducible apply keeps_ite_pair
    | with_reducible apply State.incLo_keeps
    | with_reducible apply State.setFld_keeps
    | with_reducible apply State.raise_keeps
    | with_reducible apply State.modLoop_keeps
    | with_reducible apply State.log_keeps
    | fail_if_no_progress with_reducible apply keeps_upd
    | with_reducible apply keeps_foldl
    | with_reducible apply keeps_foldl_pair
    | dsimp only
    | split
    | refine keeps_of_eq (by with_reducible assumption) ?_

theorem State.evaluated_keeps {s0 : State} (s : State) (r : ℕ) (sec : Section) (h : Keeps s0 s) :
    Keeps s0 (State.evaluated s r sec) := by
  unfold State.evaluated
  repeat' first
    | with_reducible assumption
    | intro _
    | with_reducible apply keeps_ite
    | with_reducible apply keeps_ite_pair
    | with_reducible apply State.setFld_keeps
    | fail_if_no_progress with_reducible apply keeps_upd
    | with_reducible apply keeps_foldl
    | with_reducible apply keeps_foldl_pair
    | dsimp only
    | split
    | refine keeps_of_eq (by with_reducible assumption) ?_

theorem State.output_keeps {s0 : State} (s : State) (r : ℕ) (l : Loop) (h : Keeps s0 s) :
    Keeps s0 (State.output s r l) := by
  unfold State.output
  repeat' first
    | with_reducible assumption
    | intro _
    | with_reducible apply keeps_ite
    | with_reducible apply keeps_ite_pair
    | with_reducible apply State.modCen_keeps
    | with_reducible apply State.modLoop_keeps
    | fail_if_no_progress with_reducible apply keeps_upd
    | with_reducible apply keeps_foldl
    | with_reducible apply keeps_foldl_pair
    | dsimp only
    | split
    | refine keeps_of_eq (by with_reducible assumption) ?_

theorem State.innerEval_keeps {s0 : State} (s : State) (r : ℕ) (y : ℤ) (ref : ℤ) (rs : ℤ) (ff : ℤ) (bus : ℤ) (h : Keeps s0 s) :
    Keeps s0 (State.innerEval s r y ref rs ff bus) := by
  unfold State.innerEval
  repeat' first
    | with_reducible assumption
    | intro _
    | with_reducible apply keeps_ite
    | with_reducible apply keeps_ite_pair
    | with_reducible apply State.evaluated_keeps
    | with_reducible apply State.output_keeps
    | with_reducible apply State.modCen_keeps
    | fail_if_no_progress with_reducible apply keeps_upd
    | with_reducible apply keeps_foldl
    | with_reducible apply keeps_foldl_pair
    | dsimp only
    | split
    | refine keeps_of_eq (by with_reducible assumption) ?_

theorem State.fallbackEval_keeps {s0 : State} (s : State) (r : ℕ) (yo : ℤ) (ff : ℤ) (bus : ℤ) (h : Keeps s0 s) :
    Keeps s0 (State.fallbackEval s r yo ff bus) := by
  unfold State.fallbackEval
  repeat' first
    | with_reducible assumption
    | intro _
    | with_reducible apply keeps_ite
    | with_reducible apply keeps_ite_pair
    | with_reducible apply State.evaluated_keeps
    | with_reducible apply State.output_keeps
    | fail_if_no_progress with_reducible apply keeps_upd
    | with_reducible apply keeps_foldl
    | with_reducible apply keeps_foldl_pair
    | dsimp only
    | split
    | refine keeps_of_eq (by with_reducible assumption) ?_

theorem State.innerMissed_keeps {s0 : State} (s : State) (r : ℕ) (auto : Bool) (h : Keeps s0 s) :
    Keeps s0 (State.innerMissed s r auto) := by
  unfold State.innerMissed
  repeat' first
    | with_reducible assumption
    | intro _
    | with_reducible apply keeps_ite
    | with_reducible apply keeps_ite_pair
    | with_reducible apply State.missed_keeps
    | with_reducible apply State.output_keeps
    | fail_if_no_progress with_reducible apply keeps_upd
    | with_reducible apply keeps_foldl
    | with_reducible apply keeps_foldl_pair
    | dsimp only
    | split
    | refine keeps_of_eq (by with_reducible assumption) ?_

theorem State.innerEntry_keeps {s0 : State} (s : State) (r : ℕ) (h : Keeps s0 s) :
    Keeps s0 (State.innerEntry s r) := by
  unfold State.innerEntry
  repeat' first
    | with_reducible assumption
    | intro _
    | with_reducible apply keeps_ite
    | with_reducible apply keeps_ite_pair
    | with_reducible apply State.output_keeps
    | with_reducible apply State.fallbackEval_keeps
    | with_reducible apply State.innerMissed_keeps
    | with_reducible apply State.innerEval_keeps
    | fail_if_no_progress with_reducible apply keeps_upd
    | with_reducible apply keeps_foldl
    | with_reducible apply keeps_foldl_pair
    | dsimp only
    | split
    | refine keeps_of_eq (by with_reducible assumption) ?_

theorem State.omaxSeen_keeps {s0 : State} (s : State) (r : ℕ) (h : Keeps s0 s) :
    Keeps s0 (State.omaxSeen s r) := by
  unfold State.omaxSeen
  repeat' first
    | with_reducible assumption
    | intro _
    | with_reducible apply keeps_ite
    | with_reducible apply keeps_ite_pair
    | with_reducible apply State.modCen_keeps
    | fail_if_no_progress with_reducible apply keeps_upd
    | with_reducible apply keeps_foldl
    | with_reducible apply keeps_foldl_pair
    | dsimp only
    | split
    | refine keeps_of_eq (by with_reducible assumption) ?_

theorem State.outerMissed_keeps {s0 : State} (s : State) (r : ℕ) (h : Keeps s0 s) :
    Keeps s0 (State.outerMissed s r) := by
  unfold State.outerMissed
  repeat' first
    | with_reducible assumption
    | intro _
    | with_reducible apply keeps_ite
    | with_reducible apply keeps_ite_pair
    | with_reducible apply State.missed_keeps
    | with_reducible apply State.omaxSeen_keeps
    | with_reducible apply State.modLoop_keeps
    | fail_if_no_progress with_reducible apply keeps_upd
    | with_reducible apply keeps_foldl
    | with_reducible apply keeps_foldl_pair
    | dsimp only
    | split
    | refine keeps_of_eq (by with_reducible assumption) ?_

theorem State.outerEntry_keeps {s0 : State} (s : State) (r : ℕ) (h : Keeps s0 s) :
    Keeps s0 (State.outerEntry s r) := by
  unfold State.outerEntry
  repeat' first
    | with_reducible assumption
    | intro _
    | with_reducible apply keeps_ite
    | with_reducible apply keeps_ite_pair
    | with_reducible apply State.omaxSeen_keeps
    | with_reducible apply State.modLoop_keeps
    | with_reducible apply State.outerMissed_keeps
    | with_reducible apply State.evaluated_keeps
    | fail_if_no_progress with_reducible apply keeps_upd
    | with_reducible apply keeps_foldl
    | with_reducible apply keeps_foldl_pair
    | dsimp only
    | split
    | refine keeps_of_eq (by with_reducible assumption) ?_

theorem State.runEntry_keeps {s0 : State} (s : State) (w : Word) (h : Keeps s0 s) :
    Keeps s0 (State.runEntry s w) := by
  unfold State.runEntry
  repeat' first
    | with_reducible assumption
    | intro _
    | with_reducible apply keeps_ite
    | with_reducible apply keeps_ite_pair
    | with_reducible apply State.innerEntry_keeps
    | with_reducible apply State.outerEntry_keeps
    | fail_if_no_progress with_reducible apply keeps_upd
    | with_reducible apply keeps_foldl
    | with_reducible apply keeps_foldl_pair
    | dsimp only
    | split
    | refine keeps_of_eq (by with_reducible assumption) ?_

theorem State.runTick_keeps {s0 : State} (s : State) (h : Keeps s0 s) :
    Keeps s0 (State.runTick s) := by
  unfold State.runTick
  repeat' first
    | with_reducible assumption
    | intro _
    | with_reducible apply keeps_ite
    | with_reducible apply keeps_ite_pair
    | with_reducible apply State.runEntry_keeps
    | fail_if_no_progress with_reducible apply keeps_upd
    | with_reducible apply keeps_foldl
    | with_reducible apply keeps_foldl_pair
    | dsimp only
    | split
    | refine keeps_of_eq (by with_reducible assumption) ?_

theorem State.latchOutputs_keeps {s0 : State} (s : State) (h : Keeps s0 s) :
    Keeps s0 (State.latchOutputs s) := by
  unfold State.latchOutputs
  repeat' first
    | with_reducible assumption
    | intro _
    | with_reducible apply keeps_ite
    | with_reducible apply keeps_ite_pair
    | with_reducible apply State.modCen_keeps
    | fail_if_no_progress with_reducible apply keeps_upd
    | with_reducible apply keeps_foldl
    | with_reducible apply keeps_foldl_pair
    | dsimp only
    | split
    | refine keeps_of_eq (by with_reducible assumption) ?_

theorem State.applyCompares_keeps {s0 : State} (s : State) (h : Keeps s0 s) :
    Keeps s0 (State.applyCompares s) := by
  unfold State.applyCompares
  repeat' first
    | with_reducible assumption
    | intro _
    | with_reducible apply keeps_ite
    | with_reducible apply keeps_ite_pair
    | with_reducible apply State.setFld_keeps
    | with_reducible apply State.modCen_keeps
    | fail_if_no_progress with_reducible apply keeps_upd
    | with_reducible apply keeps_foldl
    | with_reducible apply keeps_foldl_pair
    | dsimp only
    | split
    | refine keeps_of_eq (by with_reducible assumption) ?_

theorem State.bankChange_keeps {s0 : State} (s : State) (old : State) (r : ℕ) (h : Keeps s0 s) :
    Keeps s0 (State.bankChange s old r) := by
  unfold State.bankChange
  repeat' first
    | with_reducible assumption
    | intro _
    | with_reducible apply keeps_ite
    | with_reducible apply keeps_ite_pair
    | with_reducible apply State.modLoop_keeps
    | fail_if_no_progress with_reducible apply keeps_upd
    | with_reducible apply keeps_foldl
    | with_reducible apply keeps_foldl_pair
    | dsimp only
    | split
    | refine keeps_of_eq (by with_reducible assumption) ?_

theorem State.swapBanks_keeps {s0 : State} (s : State) (table : Bool) (h : Keeps s0 s) :
    Keeps s0 (State.swapBanks s table) := by
  unfold State.swapBanks
  repeat' first
    | with_reducible assumption
    | intro _
    | with_reducible apply keeps_ite
    | with_reducible apply keeps_ite_pair
    | with_reducible apply State.swapWin_keeps
    | with_reducible apply State.bankChange_keeps
    | with_reducible apply State.tblInvalid_keeps
    | with_reducible apply State.modCen_keeps
    | fail_if_no_progress with_reducible apply keeps_upd
    | with_reducible apply keeps_foldl
    | with_reducible apply keeps_foldl_pair
    | dsimp only
    | split
    | refine keeps_of_eq (by with_reducible assumption) ?_

theorem State.commitDone_keeps {s0 : State} (s : State) (c : Commit) (h : Keeps s0 s) :
    Keeps s0 (State.commitDone s c) := by
  unfold State.commitDone
  repeat' first
    | with_reducible assumption
    | intro _
    | with_reducible apply keeps_ite
    | with_reducible apply keeps_ite_pair
    | with_reducible apply State.setRbit_keeps
    | with_reducible apply State.modReg_keeps
    | with_reducible apply State.raise_keeps
    | with_reducible apply State.setReg64_keeps
    | with_reducible apply State.log_keeps
    | with_reducible apply State.incHi_keeps
    | fail_if_no_progress with_reducible apply keeps_upd
    | with_reducible apply keeps_foldl
    | with_reducible apply keeps_foldl_pair
    | dsimp only
    | split
    | refine keeps_of_eq (by with_reducible assumption) ?_

theorem State.commitReq_keeps {s0 : State} (s : State) (table : Bool) (h : Keeps s0 s) :
    Keeps s0 (State.commitReq s table) := by
  unfold State.commitReq
  repeat' first
    | with_reducible assumption
    | intro _
    | with_reducible apply keeps_ite
    | with_reducible apply keeps_ite_pair
    | with_reducible apply State.setRbit_keeps
    | with_reducible apply State.modCen_keeps
    | with_reducible apply State.commitDone_keeps
    | with_reducible apply State.swapBanks_keeps
    | fail_if_no_progress with_reducible apply keeps_upd
    | with_reducible apply keeps_foldl
    | with_reducible apply keeps_foldl_pair
    | dsimp only
    | split
    | refine keeps_of_eq (by with_reducible assumption) ?_

theorem commitCtrlEff_keeps {s0 : State} (v : Word) (s : State) (h : Keeps s0 s) :
    Keeps s0 (commitCtrlEff v s).1 := by
  unfold commitCtrlEff
  repeat' first
    | with_reducible assumption
    | intro _
    | with_reducible apply keeps_ite
    | with_reducible apply keeps_ite_pair
    | with_reducible apply State.setRbit_keeps
    | with_reducible apply State.modCen_keeps
    | with_reducible apply State.tblInvalid_keeps
    | with_reducible apply State.commitReq_keeps
    | with_reducible apply State.defer_keeps
    | fail_if_no_progress with_reducible apply keeps_upd
    | with_reducible apply keeps_foldl
    | with_reducible apply keeps_foldl_pair
    | dsimp only
    | split
    | refine keeps_of_eq (by with_reducible assumption) ?_

theorem w0Eff_keeps {s0 : State} (a : ℕ) (v : Word) (s : State) (h : Keeps s0 s) :
    Keeps s0 (w0Eff a v s).1 := by
  unfold w0Eff
  repeat' first
    | with_reducible assumption
    | intro _
    | with_reducible apply keeps_ite
    | with_reducible apply keeps_ite_pair
    | with_reducible apply State.tblInvalid_keeps
    | with_reducible apply State.setWin_keeps
    | fail_if_no_progress with_reducible apply keeps_upd
    | with_reducible apply keeps_foldl
    | with_reducible apply keeps_foldl_pair
    | dsimp only
    | split
    | refine keeps_of_eq (by with_reducible assumption) ?_

theorem cenCtrlEff_keeps {s0 : State} (v : Word) (s : State) (h : Keeps s0 s) :
    Keeps s0 (cenCtrlEff v s).1 := by
  unfold cenCtrlEff
  repeat' first
    | with_reducible assumption
    | intro _
    | with_reducible apply keeps_ite
    | with_reducible apply keeps_ite_pair
    | with_reducible apply State.resetPageRegs_keeps
    | with_reducible apply State.setReg_keeps
    | with_reducible apply State.modCen_keeps
    | fail_if_no_progress with_reducible apply keeps_upd
    | with_reducible apply keeps_foldl
    | with_reducible apply keeps_foldl_pair
    | dsimp only
    | split
    | refine keeps_of_eq (by with_reducible assumption) ?_

theorem State.askRearm_keeps {s0 : State} (s : State) (mask : ℕ) (h : Keeps s0 s) :
    Keeps s0 (State.askRearm s mask) := by
  unfold State.askRearm
  repeat' first
    | with_reducible assumption
    | intro _
    | with_reducible apply keeps_ite
    | with_reducible apply keeps_ite_pair
    | with_reducible apply State.modLoop_keeps
    | fail_if_no_progress with_reducible apply keeps_upd
    | with_reducible apply keeps_foldl
    | with_reducible apply keeps_foldl_pair
    | dsimp only
    | split
    | refine keeps_of_eq (by with_reducible assumption) ?_

theorem cenEff_keeps {s0 : State} (req : ℕ) (a : ℕ) (v : Word) (s : State) (h : Keeps s0 s) :
    Keeps s0 (cenEff req a v s).1 := by
  unfold cenEff
  repeat' first
    | with_reducible assumption
    | intro _
    | with_reducible apply keeps_ite
    | with_reducible apply keeps_ite_pair
    | with_reducible apply cenCtrlEff_keeps
    | with_reducible apply tblCheckEff_keeps
    | with_reducible apply commitCtrlEff_keeps
    | with_reducible apply State.setPort_keeps
    | with_reducible apply State.askRearm_keeps
    | with_reducible apply State.defer_keeps
    | with_reducible apply State.setReg_keeps
    | with_reducible apply State.setFld_keeps
    | with_reducible apply State.plainWrite_keeps
    | fail_if_no_progress with_reducible apply keeps_upd
    | with_reducible apply keeps_foldl
    | with_reducible apply keeps_foldl_pair
    | dsimp only
    | split
    | refine keeps_of_eq (by with_reducible assumption) ?_

theorem State.initLoop_keeps {s0 : State} (s : State) (r : ℕ) (f : Loop → Loop) (h : Keeps s0 s) :
    Keeps s0 (State.initLoop s r f) := by
  unfold State.initLoop
  repeat' first
    | with_reducible assumption
    | intro _
    | with_reducible apply keeps_ite
    | with_reducible apply keeps_ite_pair
    | with_reducible apply State.modLoop_keeps
    | with_reducible apply State.setFld_keeps
    | fail_if_no_progress with_reducible apply keeps_upd
    | with_reducible apply keeps_foldl
    | with_reducible apply keeps_foldl_pair
    | dsimp only
    | split
    | refine keeps_of_eq (by with_reducible assumption) ?_

theorem State.cenTick_keeps {s0 : State} (s : State) (h : Keeps s0 s) :
    Keeps s0 (State.cenTick s) := by
  unfold State.cenTick
  repeat' first
    | with_reducible assumption
    | intro _
    | with_reducible apply keeps_ite
    | with_reducible apply keeps_ite_pair
    | with_reducible apply State.applyCompares_keeps
    | with_reducible apply State.latchOutputs_keeps
    | with_reducible apply State.modCen_keeps
    | with_reducible apply State.runTick_keeps
    | with_reducible apply State.modReg_keeps
    | fail_if_no_progress with_reducible apply keeps_upd
    | with_reducible apply keeps_foldl
    | with_reducible apply keeps_foldl_pair
    | dsimp only
    | split
    | refine keeps_of_eq (by with_reducible assumption) ?_

end Sys2Proof.Machine
end

