-- ==== Sys2Proof/Laws/KeepConverters.lean ====
section
/-!
SUPPORT. What the operations of Machine/Converters.lean keep: the queue, and the canonical form of the stores.
-/

namespace Sys2Proof.Machine

theorem State.modMfe_keeps {s0 : State} (s : State) (f : Mfe → Mfe) (h : Keeps s0 s) :
    Keeps s0 (State.modMfe s f) := by
  unfold State.modMfe
  repeat' first
    | with_reducible assumption
    | intro _
    | with_reducible apply keeps_ite
    | with_reducible apply keeps_ite_pair
    | fail_if_no_progress with_reducible apply keeps_upd
    | with_reducible apply keeps_foldl
    | with_reducible apply keeps_foldl_pair
    | dsimp only
    | split
    | refine keeps_of_eq (by with_reducible assumption) ?_

theorem State.chEvent_keeps {s0 : State} (s : State) (k : ℕ) (b : ℕ) (h : Keeps s0 s) :
    Keeps s0 (State.chEvent s k b) := by
  unfold State.chEvent
  repeat' first
    | with_reducible assumption
    | intro _
    | with_reducible apply keeps_ite
    | with_reducible apply keeps_ite_pair
    | with_reducible apply State.setRbit_keeps
    | with_reducible apply State.raise_keeps
    | fail_if_no_progress with_reducible apply keeps_upd
    | with_reducible apply keeps_foldl
    | with_reducible apply keeps_foldl_pair
    | dsimp only
    | split
    | refine keeps_of_eq (by with_reducible assumption) ?_

theorem State.setCh_keeps {s0 : State} (s : State) (k : ℕ) (st : ℕ) (h : Keeps s0 s) :
    Keeps s0 (State.setCh s k st) := by
  unfold State.setCh
  repeat' first
    | with_reducible assumption
    | intro _
    | with_reducible apply keeps_ite
    | with_reducible apply keeps_ite_pair
    | with_reducible apply State.modChan_keeps
    | with_reducible apply State.setFld_keeps
    | fail_if_no_progress with_reducible apply keeps_upd
    | with_reducible apply keeps_foldl
    | with_reducible apply keeps_foldl_pair
    | dsimp only
    | split
    | refine keeps_of_eq (by with_reducible assumption) ?_

theorem State.setFe_keeps {s0 : State} (s : State) (st : ℕ) (h : Keeps s0 s) :
    Keeps s0 (State.setFe s st) := by
  unfold State.setFe
  repeat' first
    | with_reducible assumption
    | intro _
    | with_reducible apply keeps_ite
    | with_reducible apply keeps_ite_pair
    | with_reducible apply State.modMfe_keeps
    | with_reducible apply State.setFld_keeps
    | fail_if_no_progress with_reducible apply keeps_upd
    | with_reducible apply keeps_foldl
    | with_reducible apply keeps_foldl_pair
    | dsimp only
    | split
    | refine keeps_of_eq (by with_reducible assumption) ?_

theorem State.shedChannel_keeps {s0 : State} (s : State) (k : ℕ) (h : Keeps s0 s) :
    Keeps s0 (State.shedChannel s k) := by
  unfold State.shedChannel
  repeat' first
    | with_reducible assumption
    | intro _
    | with_reducible apply keeps_ite
    | with_reducible apply keeps_ite_pair
    | with_reducible apply State.modChan_keeps
    | with_reducible apply State.setCh_keeps
    | with_reducible apply State.raise_keeps
    | with_reducible apply State.chEvent_keeps
    | with_reducible apply State.incHi_keeps
    | fail_if_no_progress with_reducible apply keeps_upd
    | with_reducible apply keeps_foldl
    | with_reducible apply keeps_foldl_pair
    | dsimp only
    | split
    | refine keeps_of_eq (by with_reducible assumption) ?_

theorem State.shedClass_keeps {s0 : State} (s : State) (c : ℕ) (h : Keeps s0 s) :
    Keeps s0 (State.shedClass s c) := by
  unfold State.shedClass
  repeat' first
    | with_reducible assumption
    | intro _
    | with_reducible apply keeps_ite
    | with_reducible apply keeps_ite_pair
    | with_reducible apply State.shedChannel_keeps
    | fail_if_no_progress with_reducible apply keeps_upd
    | with_reducible apply keeps_foldl
    | with_reducible apply keeps_foldl_pair
    | dsimp only
    | split
    | refine keeps_of_eq (by with_reducible assumption) ?_

theorem State.restoreDone_keeps {s0 : State} (s : State) (h : Keeps s0 s) :
    Keeps s0 (State.restoreDone s) := by
  unfold State.restoreDone
  repeat' first
    | with_reducible assumption
    | intro _
    | with_reducible apply keeps_ite
    | with_reducible apply keeps_ite_pair
    | with_reducible apply State.raise_keeps
    | with_reducible apply State.setRbit_keeps
    | with_reducible apply State.setFe_keeps
    | fail_if_no_progress with_reducible apply keeps_upd
    | with_reducible apply keeps_foldl
    | with_reducible apply keeps_foldl_pair
    | dsimp only
    | split
    | refine keeps_of_eq (by with_reducible assumption) ?_

theorem State.restoreClass_keeps {s0 : State} (s : State) (c : ℕ) (h : Keeps s0 s) :
    Keeps s0 (State.restoreClass s c) := by
  unfold State.restoreClass
  repeat' first
    | with_reducible assumption
    | intro _
    | with_reducible apply keeps_ite
    | with_reducible apply keeps_ite_pair
    | with_reducible apply State.modChan_keeps
    | with_reducible apply State.modMfe_keeps
    | with_reducible apply State.restoreDone_keeps
    | fail_if_no_progress with_reducible apply keeps_upd
    | with_reducible apply keeps_foldl
    | with_reducible apply keeps_foldl_pair
    | dsimp only
    | split
    | refine keeps_of_eq (by with_reducible assumption) ?_

theorem State.restoreNext_keeps {s0 : State} (s : State) (h : Keeps s0 s) :
    Keeps s0 (State.restoreNext s) := by
  unfold State.restoreNext
  repeat' first
    | with_reducible assumption
    | intro _
    | with_reducible apply keeps_ite
    | with_reducible apply keeps_ite_pair
    | with_reducible apply State.restoreClass_keeps
    | with_reducible apply State.restoreDone_keeps
    | fail_if_no_progress with_reducible apply keeps_upd
    | with_reducible apply keeps_foldl
    | with_reducible apply keeps_foldl_pair
    | dsimp only
    | split
    | refine keeps_of_eq (by with_reducible assumption) ?_

theorem State.mfeTick_keeps {s0 : State} (s : State) (h : Keeps s0 s) :
    Keeps s0 (State.mfeTick s) := by
  unfold State.mfeTick
  repeat' first
    | with_reducible assumption
    | intro _
    | with_reducible apply keeps_ite
    | with_reducible apply keeps_ite_pair
    | with_reducible apply State.modMfe_keeps
    | fail_if_no_progress with_reducible apply keeps_upd
    | with_reducible apply keeps_foldl
    | with_reducible apply keeps_foldl_pair
    | dsimp only
    | split
    | refine keeps_of_eq (by with_reducible assumption) ?_

theorem State.dimEnded_keeps {s0 : State} (s : State) (t : State) (k : ℕ) (h : Keeps s0 t) :
    Keeps s0 (State.dimEnded s t k) := by
  unfold State.dimEnded
  repeat' first
    | with_reducible assumption
    | intro _
    | with_reducible apply keeps_ite
    | with_reducible apply keeps_ite_pair
    | with_reducible apply State.modLgtCh_keeps
    | fail_if_no_progress with_reducible apply keeps_upd
    | with_reducible apply keeps_foldl
    | with_reducible apply keeps_foldl_pair
    | dsimp only
    | split
    | refine keeps_of_eq (by with_reducible assumption) ?_

theorem State.frameOff_keeps {s0 : State} (s : State) (k : ℕ) (h : Keeps s0 s) :
    Keeps s0 (State.frameOff s k) := by
  unfold State.frameOff
  repeat' first
    | with_reducible assumption
    | intro _
    | with_reducible apply keeps_ite
    | with_reducible apply keeps_ite_pair
    | with_reducible apply State.modChan_keeps
    | with_reducible apply State.setCh_keeps
    | fail_if_no_progress with_reducible apply keeps_upd
    | with_reducible apply keeps_foldl
    | with_reducible apply keeps_foldl_pair
    | dsimp only
    | split
    | refine keeps_of_eq (by with_reducible assumption) ?_

theorem State.frameChannel_keeps {s0 : State} (s : State) (k : ℕ) (h : Keeps s0 s) :
    Keeps s0 (State.frameChannel s k) := by
  unfold State.frameChannel
  repeat' first
    | with_reducible assumption
    | intro _
    | with_reducible apply keeps_ite
    | with_reducible apply keeps_ite_pair
    | with_reducible apply State.frameOff_keeps
    | with_reducible apply State.modChan_keeps
    | with_reducible apply State.dimEnded_keeps
    | fail_if_no_progress with_reducible apply keeps_upd
    | with_reducible apply keeps_foldl
    | with_reducible apply keeps_foldl_pair
    | dsimp only
    | split
    | refine keeps_of_eq (by with_reducible assumption) ?_

theorem State.frameFeOff_keeps {s0 : State} (s : State) (h : Keeps s0 s) :
    Keeps s0 (State.frameFeOff s) := by
  unfold State.frameFeOff
  repeat' first
    | with_reducible assumption
    | intro _
    | with_reducible apply keeps_ite
    | with_reducible apply keeps_ite_pair
    | with_reducible apply State.modMfe_keeps
    | with_reducible apply State.setFe_keeps
    | fail_if_no_progress with_reducible apply keeps_upd
    | with_reducible apply keeps_foldl
    | with_reducible apply keeps_foldl_pair
    | dsimp only
    | split
    | refine keeps_of_eq (by with_reducible assumption) ?_

theorem State.frameRide_keeps {s0 : State} (s : State) (h : Keeps s0 s) :
    Keeps s0 (State.frameRide s) := by
  unfold State.frameRide
  repeat' first
    | with_reducible assumption
    | intro _
    | with_reducible apply keeps_ite
    | with_reducible apply keeps_ite_pair
    | with_reducible apply State.modMfe_keeps
    | with_reducible apply State.setFe_keeps
    | fail_if_no_progress with_reducible apply keeps_upd
    | with_reducible apply keeps_foldl
    | with_reducible apply keeps_foldl_pair
    | dsimp only
    | split
    | refine keeps_of_eq (by with_reducible assumption) ?_

theorem State.frameUv_keeps {s0 : State} (s : State) (h : Keeps s0 s) :
    Keeps s0 (State.frameUv s) := by
  unfold State.frameUv
  repeat' first
    | with_reducible assumption
    | intro _
    | with_reducible apply keeps_ite
    | with_reducible apply keeps_ite_pair
    | with_reducible apply State.shedChannel_keeps
    | with_reducible apply State.modMfe_keeps
    | fail_if_no_progress with_reducible apply keeps_upd
    | with_reducible apply keeps_foldl
    | with_reducible apply keeps_foldl_pair
    | dsimp only
    | split
    | refine keeps_of_eq (by with_reducible assumption) ?_

theorem State.mfeFrame_keeps {s0 : State} (s : State) (h : Keeps s0 s) :
    Keeps s0 (State.mfeFrame s) := by
  unfold State.mfeFrame
  repeat' first
    | with_reducible assumption
    | intro _
    | with_reducible apply keeps_ite
    | with_reducible apply keeps_ite_pair
    | with_reducible apply State.modMfe_keeps
    | with_reducible apply State.frameUv_keeps
    | with_reducible apply State.frameRide_keeps
    | with_reducible apply State.frameFeOff_keeps
    | with_reducible apply State.frameChannel_keeps
    | fail_if_no_progress with_reducible apply keeps_upd
    | with_reducible apply keeps_foldl
    | with_reducible apply keeps_foldl_pair
    | dsimp only
    | split
    | refine keeps_of_eq (by with_reducible assumption) ?_

theorem spNextEff_keeps {s0 : State} (k : ℕ) (v : Word) (s : State) (h : Keeps s0 s) :
    Keeps s0 (spNextEff k v s).1 := by
  unfold spNextEff
  repeat' first
    | with_reducible assumption
    | intro _
    | with_reducible apply keeps_ite
    | with_reducible apply keeps_ite_pair
    | with_reducible apply State.setReg_keeps
    | fail_if_no_progress with_reducible apply keeps_upd
    | with_reducible apply keeps_foldl
    | with_reducible apply keeps_foldl_pair
    | dsimp only
    | split
    | refine keeps_of_eq (by with_reducible assumption) ?_

theorem busSpNextEff_keeps {s0 : State} (v : Word) (s : State) (h : Keeps s0 s) :
    Keeps s0 (busSpNextEff v s).1 := by
  unfold busSpNextEff
  repeat' first
    | with_reducible assumption
    | intro _
    | with_reducible apply keeps_ite
    | with_reducible apply keeps_ite_pair
    | with_reducible apply State.setReg_keeps
    | fail_if_no_progress with_reducible apply keeps_upd
    | with_reducible apply keeps_foldl
    | with_reducible apply keeps_foldl_pair
    | dsimp only
    | split
    | refine keeps_of_eq (by with_reducible assumption) ?_

theorem State.armLate_keeps {s0 : State} (s : State) (st : Stamp) (late : Bool) (stat : ℕ) (bitNo : ℕ) (onLate : State → State) (h : Keeps s0 s) (honLate : ∀ s, Keeps s0 s → Keeps s0 (onLate s)) :
    Keeps s0 (State.armLate s st late stat bitNo onLate) := by
  unfold State.armLate
  repeat' first
    | with_reducible assumption
    | intro _
    | with_reducible apply keeps_ite
    | with_reducible apply keeps_ite_pair
    | with_reducible apply State.setRbit_keeps
    | fail_if_no_progress with_reducible apply keeps_upd
    | with_reducible apply keeps_foldl
    | with_reducible apply keeps_foldl_pair
    | with_reducible apply honLate
    | dsimp only
    | split
    | refine keeps_of_eq (by with_reducible assumption) ?_

theorem State.armSetPoint_keeps {s0 : State} (s : State) (k : ℕ) (n : ℕ) (st : Stamp) (h : Keeps s0 s) :
    Keeps s0 (State.armSetPoint s k n st) := by
  unfold State.armSetPoint
  repeat' first
    | with_reducible assumption
    | intro _
    | with_reducible apply keeps_ite
    | with_reducible apply keeps_ite_pair
    | with_reducible apply State.modChan_keeps
    | with_reducible apply State.armLate_keeps
    | with_reducible apply State.setRbit_keeps
    | with_reducible apply State.log_keeps
    | with_reducible apply State.chEvent_keeps
    | with_reducible apply State.incLo_keeps
    | fail_if_no_progress with_reducible apply keeps_upd
    | with_reducible apply keeps_foldl
    | with_reducible apply keeps_foldl_pair
    | dsimp only
    | split
    | refine keeps_of_eq (by with_reducible assumption) ?_

theorem spArmEff_keeps {s0 : State} (req : ℕ) (k : ℕ) (v : Word) (s : State) (h : Keeps s0 s) :
    Keeps s0 (spArmEff req k v s).1 := by
  unfold spArmEff
  repeat' first
    | with_reducible assumption
    | intro _
    | with_reducible apply keeps_ite
    | with_reducible apply keeps_ite_pair
    | with_reducible apply State.loadPair_keeps
    | with_reducible apply State.armSetPoint_keeps
    | with_reducible apply State.defer_keeps
    | fail_if_no_progress with_reducible apply keeps_upd
    | with_reducible apply keeps_foldl
    | with_reducible apply keeps_foldl_pair
    | dsimp only
    | split
    | refine keeps_of_eq (by with_reducible assumption) ?_

theorem State.armBusSetPoint_keeps {s0 : State} (s : State) (n : ℕ) (st : Stamp) (h : Keeps s0 s) :
    Keeps s0 (State.armBusSetPoint s n st) := by
  unfold State.armBusSetPoint
  repeat' first
    | with_reducible assumption
    | intro _
    | with_reducible apply keeps_ite
    | with_reducible apply keeps_ite_pair
    | with_reducible apply State.modMfe_keeps
    | with_reducible apply State.armLate_keeps
    | with_reducible apply State.log_keeps
    | with_reducible apply State.raise_keeps
    | fail_if_no_progress with_reducible apply keeps_upd
    | with_reducible apply keeps_foldl
    | with_reducible apply keeps_foldl_pair
    | dsimp only
    | split
    | refine keeps_of_eq (by with_reducible assumption) ?_

theorem busArmEff_keeps {s0 : State} (req : ℕ) (v : Word) (s : State) (h : Keeps s0 s) :
    Keeps s0 (busArmEff req v s).1 := by
  unfold busArmEff
  repeat' first
    | with_reducible assumption
    | intro _
    | with_reducible apply keeps_ite
    | with_reducible apply keeps_ite_pair
    | with_reducible apply State.loadPair_keeps
    | with_reducible apply State.armBusSetPoint_keeps
    | with_reducible apply State.defer_keeps
    | fail_if_no_progress with_reducible apply keeps_upd
    | with_reducible apply keeps_foldl
    | with_reducible apply keeps_foldl_pair
    | dsimp only
    | split
    | refine keeps_of_eq (by with_reducible assumption) ?_

theorem chCtrlEff_keeps {s0 : State} (k : ℕ) (v : Word) (s : State) (h : Keeps s0 s) :
    Keeps s0 (chCtrlEff k v s).1 := by
  unfold chCtrlEff
  repeat' first
    | with_reducible assumption
    | intro _
    | with_reducible apply keeps_ite
    | with_reducible apply keeps_ite_pair
    | with_reducible apply State.chEvent_keeps
    | with_reducible apply State.store_keeps
    | with_reducible apply State.dimEnded_keeps
    | with_reducible apply State.modChan_keeps
    | fail_if_no_progress with_reducible apply keeps_upd
    | with_reducible apply keeps_foldl
    | with_reducible apply keeps_foldl_pair
    | dsimp only
    | split
    | refine keeps_of_eq (by with_reducible assumption) ?_

theorem chPageCtrlEff_keeps {s0 : State} (p : ℕ) (v : Word) (s : State) (h : Keeps s0 s) :
    Keeps s0 (chPageCtrlEff p v s).1 := by
  unfold chPageCtrlEff
  repeat' first
    | with_reducible assumption
    | intro _
    | with_reducible apply keeps_ite
    | with_reducible apply keeps_ite_pair
    | with_reducible apply State.resetPageRegs_keeps
    | with_reducible apply State.modChan_keeps
    | fail_if_no_progress with_reducible apply keeps_upd
    | with_reducible apply keeps_foldl
    | with_reducible apply keeps_foldl_pair
    | dsimp only
    | split
    | refine keeps_of_eq (by with_reducible assumption) ?_

theorem mfeCtrlEff_keeps {s0 : State} (v : Word) (s : State) (h : Keeps s0 s) :
    Keeps s0 (mfeCtrlEff v s).1 := by
  unfold mfeCtrlEff
  repeat' first
    | with_reducible assumption
    | intro _
    | with_reducible apply keeps_ite
    | with_reducible apply keeps_ite_pair
    | with_reducible apply State.resetPageRegs_keeps
    | with_reducible apply State.setReg_keeps
    | with_reducible apply State.modMfe_keeps
    | fail_if_no_progress with_reducible apply keeps_upd
    | with_reducible apply keeps_foldl
    | with_reducible apply keeps_foldl_pair
    | dsimp only
    | split
    | refine keeps_of_eq (by with_reducible assumption) ?_

theorem mfeEff_keeps {s0 : State} (req : ℕ) (a : ℕ) (v : Word) (s : State) (h : Keeps s0 s) :
    Keeps s0 (mfeEff req a v s).1 := by
  unfold mfeEff
  repeat' first
    | with_reducible assumption
    | intro _
    | with_reducible apply keeps_ite
    | with_reducible apply keeps_ite_pair
    | with_reducible apply mfeCtrlEff_keeps
    | with_reducible apply busSpNextEff_keeps
    | with_reducible apply busArmEff_keeps
    | with_reducible apply State.plainWrite_keeps
    | fail_if_no_progress with_reducible apply keeps_upd
    | with_reducible apply keeps_foldl
    | with_reducible apply keeps_foldl_pair
    | dsimp only
    | split
    | refine keeps_of_eq (by with_reducible assumption) ?_

theorem chnEff_keeps {s0 : State} (req : ℕ) (a : ℕ) (v : Word) (s : State) (h : Keeps s0 s) :
    Keeps s0 (chnEff req a v s).1 := by
  unfold chnEff
  repeat' first
    | with_reducible assumption
    | intro _
    | with_reducible apply keeps_ite
    | with_reducible apply keeps_ite_pair
    | with_reducible apply chPageCtrlEff_keeps
    | with_reducible apply chCtrlEff_keeps
    | with_reducible apply spNextEff_keeps
    | with_reducible apply spArmEff_keeps
    | with_reducible apply State.plainWrite_keeps
    | fail_if_no_progress with_reducible apply keeps_upd
    | with_reducible apply keeps_foldl
    | with_reducible apply keeps_foldl_pair
    | dsimp only
    | split
    | refine keeps_of_eq (by with_reducible assumption) ?_

theorem State.startChannel_keeps {s0 : State} (s : State) (k : ℕ) (event : State → State) (h : Keeps s0 s) (hevent : ∀ s, Keeps s0 s → Keeps s0 (event s)) :
    Keeps s0 (State.startChannel s k event) := by
  unfold State.startChannel
  repeat' first
    | with_reducible assumption
    | intro _
    | with_reducible apply keeps_ite
    | with_reducible apply keeps_ite_pair
    | with_reducible apply State.initLoop_keeps
    | with_reducible apply State.modLgtCh_keeps
    | with_reducible apply State.modChan_keeps
    | with_reducible apply State.setCh_keeps
    | fail_if_no_progress with_reducible apply keeps_upd
    | with_reducible apply keeps_foldl
    | with_reducible apply keeps_foldl_pair
    | with_reducible apply hevent
    | dsimp only
    | split
    | refine keeps_of_eq (by with_reducible assumption) ?_

theorem State.shedAtEnable_keeps {s0 : State} (s : State) (k : ℕ) (h : Keeps s0 s) :
    Keeps s0 (State.shedAtEnable s k) := by
  unfold State.shedAtEnable
  repeat' first
    | with_reducible assumption
    | intro _
    | with_reducible apply keeps_ite
    | with_reducible apply keeps_ite_pair
    | with_reducible apply State.modChan_keeps
    | with_reducible apply State.setCh_keeps
    | fail_if_no_progress with_reducible apply keeps_upd
    | with_reducible apply keeps_foldl
    | with_reducible apply keeps_foldl_pair
    | dsimp only
    | split
    | refine keeps_of_eq (by with_reducible assumption) ?_

end Sys2Proof.Machine
end

