-- ==== Sys2Proof/Laws/KeepStageLink.lean ====
section
/-!
SUPPORT. What the operations of Machine/StageLink.lean keep: the queue, and the canonical form of the stores.
-/

namespace Sys2Proof.Machine

theorem State.modBoard_keeps {s0 : State} (s : State) (n : ℕ) (f : StlBoard → StlBoard) (h : Keeps s0 s) :
    Keeps s0 (State.modBoard s n f) := by
  unfold State.modBoard
  repeat' first
    | with_reducible assumption
    | intro _
    | with_reducible apply keeps_ite
    | with_reducible apply keeps_ite_pair
    | fail_if_no_progress with_reducible apply keeps_upd
    | with_reducible apply keeps_foldl
    | with_reducible apply keeps_foldl_pair
    | dsimp only
    | split
    | refine keeps_of_eq (by with_reducible assumption) ?_

theorem State.stlEvent_keeps {s0 : State} (s : State) (n : ℕ) (b : ℕ) (h : Keeps s0 s) :
    Keeps s0 (State.stlEvent s n b) := by
  unfold State.stlEvent
  repeat' first
    | with_reducible assumption
    | intro _
    | with_reducible apply keeps_ite
    | with_reducible apply keeps_ite_pair
    | with_reducible apply State.setRbit_keeps
    | with_reducible apply State.raise_keeps
    | fail_if_no_progress with_reducible apply keeps_upd
    | with_reducible apply keeps_foldl
    | with_reducible apply keeps_foldl_pair
    | dsimp only
    | split
    | refine keeps_of_eq (by with_reducible assumption) ?_

theorem State.setLink_keeps {s0 : State} (s : State) (n : ℕ) (st : ℕ) (h : Keeps s0 s) :
    Keeps s0 (State.setLink s n st) := by
  unfold State.setLink
  repeat' first
    | with_reducible assumption
    | intro _
    | with_reducible apply keeps_ite
    | with_reducible apply keeps_ite_pair
    | with_reducible apply State.setFld_keeps
    | with_reducible apply State.log_keeps
    | with_reducible apply State.stlEvent_keeps
    | fail_if_no_progress with_reducible apply keeps_upd
    | with_reducible apply keeps_foldl
    | with_reducible apply keeps_foldl_pair
    | dsimp only
    | split
    | refine keeps_of_eq (by with_reducible assumption) ?_

theorem State.dropLink_keeps {s0 : State} (s : State) (n : ℕ) (st : ℕ) (h : Keeps s0 s) :
    Keeps s0 (State.dropLink s n st) := by
  unfold State.dropLink
  repeat' first
    | with_reducible assumption
    | intro _
    | with_reducible apply keeps_ite
    | with_reducible apply keeps_ite_pair
    | with_reducible apply State.setFld_keeps
    | with_reducible apply State.modBoard_keeps
    | with_reducible apply State.setLink_keeps
    | fail_if_no_progress with_reducible apply keeps_upd
    | with_reducible apply keeps_foldl
    | with_reducible apply keeps_foldl_pair
    | dsimp only
    | split
    | refine keeps_of_eq (by with_reducible assumption) ?_

theorem State.dropLinks_keeps {s0 : State} (s : State) (h : Keeps s0 s) :
    Keeps s0 (State.dropLinks s) := by
  unfold State.dropLinks
  repeat' first
    | with_reducible assumption
    | intro _
    | with_reducible apply keeps_ite
    | with_reducible apply keeps_ite_pair
    | with_reducible apply State.dropLink_keeps
    | fail_if_no_progress with_reducible apply keeps_upd
    | with_reducible apply keeps_foldl
    | with_reducible apply keeps_foldl_pair
    | dsimp only
    | split
    | refine keeps_of_eq (by with_reducible assumption) ?_

theorem State.negotiate_keeps {s0 : State} (s : State) (n : ℕ) (h : Keeps s0 s) :
    Keeps s0 (State.negotiate s n) := by
  unfold State.negotiate
  repeat' first
    | with_reducible assumption
    | intro _
    | with_reducible apply keeps_ite
    | with_reducible apply keeps_ite_pair
    | with_reducible apply State.modBoard_keeps
    | with_reducible apply State.setLink_keeps
    | with_reducible apply State.setFld_keeps
    | fail_if_no_progress with_reducible apply keeps_upd
    | with_reducible apply keeps_foldl
    | with_reducible apply keeps_foldl_pair
    | dsimp only
    | split
    | refine keeps_of_eq (by with_reducible assumption) ?_

theorem State.stlRefresh_keeps {s0 : State} (s : State) (h : Keeps s0 s) :
    Keeps s0 (State.stlRefresh s) := by
  unfold State.stlRefresh
  repeat' first
    | with_reducible assumption
    | intro _
    | with_reducible apply keeps_ite
    | with_reducible apply keeps_ite_pair
    | with_reducible apply State.modBoard_keeps
    | with_reducible apply State.dropLink_keeps
    | with_reducible apply State.negotiate_keeps
    | fail_if_no_progress with_reducible apply keeps_upd
    | with_reducible apply keeps_foldl
    | with_reducible apply keeps_foldl_pair
    | dsimp only
    | split
    | refine keeps_of_eq (by with_reducible assumption) ?_

theorem State.launchFrame_keeps {s0 : State} (s : State) (n : ℕ) (h : Keeps s0 s) :
    Keeps s0 (State.launchFrame s n) := by
  unfold State.launchFrame
  repeat' first
    | with_reducible assumption
    | intro _
    | with_reducible apply keeps_ite
    | with_reducible apply keeps_ite_pair
    | with_reducible apply State.emit_keeps
    | with_reducible apply State.modBoard_keeps
    | with_reducible apply State.setFld_keeps
    | fail_if_no_progress with_reducible apply keeps_upd
    | with_reducible apply keeps_foldl
    | with_reducible apply keeps_foldl_pair
    | dsimp only
    | split
    | refine keeps_of_eq (by with_reducible assumption) ?_

theorem State.statusRegs_keeps {s0 : State} (s : State) (n : ℕ) (f : List Byte) (h : Keeps s0 s) :
    Keeps s0 (State.statusRegs s n f) := by
  unfold State.statusRegs
  repeat' first
    | with_reducible assumption
    | intro _
    | with_reducible apply keeps_ite
    | with_reducible apply keeps_ite_pair
    | with_reducible apply State.setFld_keeps
    | with_reducible apply State.setReg_keeps
    | with_reducible apply State.setRbit_keeps
    | with_reducible apply State.stlEvent_keeps
    | fail_if_no_progress with_reducible apply keeps_upd
    | with_reducible apply keeps_foldl
    | with_reducible apply keeps_foldl_pair
    | dsimp only
    | split
    | refine keeps_of_eq (by with_reducible assumption) ?_

theorem State.statusLink_keeps {s0 : State} (s : State) (n : ℕ) (f : List Byte) (h : Keeps s0 s) :
    Keeps s0 (State.statusLink s n f) := by
  unfold State.statusLink
  repeat' first
    | with_reducible assumption
    | intro _
    | with_reducible apply keeps_ite
    | with_reducible apply keeps_ite_pair
    | with_reducible apply State.negotiate_keeps
    | with_reducible apply State.stlEvent_keeps
    | with_reducible apply State.dropLink_keeps
    | with_reducible apply State.setFld_keeps
    | with_reducible apply State.modBoard_keeps
    | with_reducible apply State.setLink_keeps
    | with_reducible apply State.log_keeps
    | fail_if_no_progress with_reducible apply keeps_upd
    | with_reducible apply keeps_foldl
    | with_reducible apply keeps_foldl_pair
    | dsimp only
    | split
    | refine keeps_of_eq (by with_reducible assumption) ?_

theorem State.receiveStatus_keeps {s0 : State} (s : State) (n : ℕ) (clean : Bool) (f : List Byte) (h : Keeps s0 s) :
    Keeps s0 (State.receiveStatus s n clean f) := by
  unfold State.receiveStatus
  repeat' first
    | with_reducible assumption
    | intro _
    | with_reducible apply keeps_ite
    | with_reducible apply keeps_ite_pair
    | with_reducible apply State.modBoard_keeps
    | with_reducible apply State.statusLink_keeps
    | with_reducible apply State.statusRegs_keeps
    | with_reducible apply State.incLo_keeps
    | fail_if_no_progress with_reducible apply keeps_upd
    | with_reducible apply keeps_foldl
    | with_reducible apply keeps_foldl_pair
    | dsimp only
    | split
    | refine keeps_of_eq (by with_reducible assumption) ?_

theorem stlCtrlEff_keeps {s0 : State} (v : Word) (s : State) (h : Keeps s0 s) :
    Keeps s0 (stlCtrlEff v s).1 := by
  unfold stlCtrlEff
  repeat' first
    | with_reducible assumption
    | intro _
    | with_reducible apply keeps_ite
    | with_reducible apply keeps_ite_pair
    | with_reducible apply State.dropLinks_keeps
    | with_reducible apply State.resetPageRegs_keeps
    | with_reducible apply State.stlRefresh_keeps
    | with_reducible apply State.setReg_keeps
    | fail_if_no_progress with_reducible apply keeps_upd
    | with_reducible apply keeps_foldl
    | with_reducible apply keeps_foldl_pair
    | dsimp only
    | split
    | refine keeps_of_eq (by with_reducible assumption) ?_

theorem verLimitEff_keeps {s0 : State} (v : Word) (s : State) (h : Keeps s0 s) :
    Keeps s0 (verLimitEff v s).1 := by
  unfold verLimitEff
  repeat' first
    | with_reducible assumption
    | intro _
    | with_reducible apply keeps_ite
    | with_reducible apply keeps_ite_pair
    | with_reducible apply State.store_keeps
    | with_reducible apply State.negotiate_keeps
    | fail_if_no_progress with_reducible apply keeps_upd
    | with_reducible apply keeps_foldl
    | with_reducible apply keeps_foldl_pair
    | dsimp only
    | split
    | refine keeps_of_eq (by with_reducible assumption) ?_

theorem stlEff_keeps {s0 : State} (req : ℕ) (a : ℕ) (v : Word) (s : State) (h : Keeps s0 s) :
    Keeps s0 (stlEff req a v s).1 := by
  unfold stlEff
  repeat' first
    | with_reducible assumption
    | intro _
    | with_reducible apply keeps_ite
    | with_reducible apply keeps_ite_pair
    | with_reducible apply stlCtrlEff_keeps
    | with_reducible apply verLimitEff_keeps
    | with_reducible apply State.plainWrite_keeps
    | fail_if_no_progress with_reducible apply keeps_upd
    | with_reducible apply keeps_foldl
    | with_reducible apply keeps_foldl_pair
    | dsimp only
    | split
    | refine keeps_of_eq (by with_reducible assumption) ?_

theorem State.shadowFrame_keeps {s0 : State} (s : State) (n : ℕ) (h : Keeps s0 s) :
    Keeps s0 (State.shadowFrame s n) := by
  unfold State.shadowFrame
  repeat' first
    | with_reducible assumption
    | intro _
    | with_reducible apply keeps_ite
    | with_reducible apply keeps_ite_pair
    | fail_if_no_progress with_reducible apply keeps_upd
    | with_reducible apply keeps_foldl
    | with_reducible apply keeps_foldl_pair
    | dsimp only
    | split
    | refine keeps_of_eq (by with_reducible assumption) ?_

end Sys2Proof.Machine
end

