-- ==== Sys2Proof/Laws/KeepLighting.lean ====
section
/-!
SUPPORT. What the operations of Machine/Lighting.lean keep: the queue, and the canonical form of the stores.
-/

namespace Sys2Proof.Machine

theorem State.modPe_keeps {s0 : State} (s : State) (e : ℕ) (f : PatternEngine → PatternEngine) (h : Keeps s0 s) :
    Keeps s0 (State.modPe s e f) := by
  unfold State.modPe
  repeat' first
    | with_reducible assumption
    | intro _
    | with_reducible apply keeps_ite
    | with_reducible apply keeps_ite_pair
    | fail_if_no_progress with_reducible apply keeps_upd
    | with_reducible apply keeps_foldl
    | with_reducible apply keeps_foldl_pair
    | dsimp only
    | split
    | refine keeps_of_eq (by with_reducible assumption) ?_

theorem State.memberStep_keeps {s0 : State} (s : State) (k : ℕ) (e : ℕ) (h : Keeps s0 s) :
    Keeps s0 (State.memberStep s k e) := by
  unfold State.memberStep
  repeat' first
    | with_reducible assumption
    | intro _
    | with_reducible apply keeps_ite
    | with_reducible apply keeps_ite_pair
    | with_reducible apply State.modLgtCh_keeps
    | with_reducible apply State.modPe_keeps
    | with_reducible apply State.raise_keeps
    | with_reducible apply State.setRbit_keeps
    | with_reducible apply State.log_keeps
    | fail_if_no_progress with_reducible apply keeps_upd
    | with_reducible apply keeps_foldl
    | with_reducible apply keeps_foldl_pair
    | dsimp only
    | split
    | refine keeps_of_eq (by with_reducible assumption) ?_

theorem State.setPe_keeps {s0 : State} (s : State) (e : ℕ) (st : ℕ) (h : Keeps s0 s) :
    Keeps s0 (State.setPe s e st) := by
  unfold State.setPe
  repeat' first
    | with_reducible assumption
    | intro _
    | with_reducible apply keeps_ite
    | with_reducible apply keeps_ite_pair
    | with_reducible apply State.setFld_keeps
    | fail_if_no_progress with_reducible apply keeps_upd
    | with_reducible apply keeps_foldl
    | with_reducible apply keeps_foldl_pair
    | dsimp only
    | split
    | refine keeps_of_eq (by with_reducible assumption) ?_

theorem State.enginePeriod_keeps {s0 : State} (s : State) (e : ℕ) (h : Keeps s0 s) :
    Keeps s0 (State.enginePeriod s e) := by
  unfold State.enginePeriod
  repeat' first
    | with_reducible assumption
    | intro _
    | with_reducible apply keeps_ite
    | with_reducible apply keeps_ite_pair
    | with_reducible apply State.modPe_keeps
    | with_reducible apply State.setPe_keeps
    | with_reducible apply State.memberStep_keeps
    | with_reducible apply State.raise_keeps
    | fail_if_no_progress with_reducible apply keeps_upd
    | with_reducible apply keeps_foldl
    | with_reducible apply keeps_foldl_pair
    | dsimp only
    | split
    | refine keeps_of_eq (by with_reducible assumption) ?_

theorem State.dimChannel_keeps {s0 : State} (s : State) (k : ℕ) (amin : ℕ) (h : Keeps s0 s) :
    Keeps s0 (State.dimChannel s k amin) := by
  unfold State.dimChannel
  repeat' first
    | with_reducible assumption
    | intro _
    | with_reducible apply keeps_ite
    | with_reducible apply keeps_ite_pair
    | with_reducible apply State.modLgtCh_keeps
    | with_reducible apply State.setReg_keeps
    | with_reducible apply State.incHi_keeps
    | fail_if_no_progress with_reducible apply keeps_upd
    | with_reducible apply keeps_foldl
    | with_reducible apply keeps_foldl_pair
    | dsimp only
    | split
    | refine keeps_of_eq (by with_reducible assumption) ?_

theorem State.dimNone_keeps {s0 : State} (s : State) (k : ℕ) (h : Keeps s0 s) :
    Keeps s0 (State.dimNone s k) := by
  unfold State.dimNone
  repeat' first
    | with_reducible assumption
    | intro _
    | with_reducible apply keeps_ite
    | with_reducible apply keeps_ite_pair
    | with_reducible apply State.modLgtCh_keeps
    | with_reducible apply State.setReg_keeps
    | fail_if_no_progress with_reducible apply keeps_upd
    | with_reducible apply keeps_foldl
    | with_reducible apply keeps_foldl_pair
    | dsimp only
    | split
    | refine keeps_of_eq (by with_reducible assumption) ?_

theorem State.dimPeriod_keeps {s0 : State} (s : State) (h : Keeps s0 s) :
    Keeps s0 (State.dimPeriod s) := by
  unfold State.dimPeriod
  repeat' first
    | with_reducible assumption
    | intro _
    | with_reducible apply keeps_ite
    | with_reducible apply keeps_ite_pair
    | with_reducible apply State.enginePeriod_keeps
    | with_reducible apply State.modLgtCh_keeps
    | with_reducible apply State.dimNone_keeps
    | with_reducible apply State.dimChannel_keeps
    | fail_if_no_progress with_reducible apply keeps_upd
    | with_reducible apply keeps_foldl
    | with_reducible apply keeps_foldl_pair
    | dsimp only
    | split
    | refine keeps_of_eq (by with_reducible assumption) ?_

theorem State.diaTick_keeps {s0 : State} (s : State) (k : ℕ) (h : Keeps s0 s) :
    Keeps s0 (State.diaTick s k) := by
  unfold State.diaTick
  repeat' first
    | with_reducible assumption
    | intro _
    | with_reducible apply keeps_ite
    | with_reducible apply keeps_ite_pair
    | with_reducible apply State.modLgtCh_keeps
    | fail_if_no_progress with_reducible apply keeps_upd
    | with_reducible apply keeps_foldl
    | with_reducible apply keeps_foldl_pair
    | dsimp only
    | split
    | refine keeps_of_eq (by with_reducible assumption) ?_

theorem State.diaMaps_keeps {s0 : State} (s : State) (k : ℕ) (st : ℕ) (h : Keeps s0 s) :
    Keeps s0 (State.diaMaps s k st) := by
  unfold State.diaMaps
  repeat' first
    | with_reducible assumption
    | intro _
    | with_reducible apply keeps_ite
    | with_reducible apply keeps_ite_pair
    | with_reducible apply State.setRbit_keeps
    | fail_if_no_progress with_reducible apply keeps_upd
    | with_reducible apply keeps_foldl
    | with_reducible apply keeps_foldl_pair
    | dsimp only
    | split
    | refine keeps_of_eq (by with_reducible assumption) ?_

theorem State.takeResult_keeps {s0 : State} (s : State) (k : ℕ) (r : ℕ) (at_ : Stamp) (mi : ℤ) (mv : ℤ) (h : Keeps s0 s) :
    Keeps s0 (State.takeResult s k r at_ mi mv) := by
  unfold State.takeResult
  repeat' first
    | with_reducible assumption
    | intro _
    | with_reducible apply keeps_ite
    | with_reducible apply keeps_ite_pair
    | with_reducible apply State.setFld_keeps
    | with_reducible apply State.modLgtCh_keeps
    | with_reducible apply State.incHi_keeps
    | with_reducible apply State.diaMaps_keeps
    | with_reducible apply State.logAt_keeps
    | with_reducible apply State.raise_keeps
    | fail_if_no_progress with_reducible apply keeps_upd
    | with_reducible apply keeps_foldl
    | with_reducible apply keeps_foldl_pair
    | dsimp only
    | split
    | refine keeps_of_eq (by with_reducible assumption) ?_

theorem State.armLevel_keeps {s0 : State} (s : State) (k : ℕ) (n : ℕ) (st : Stamp) (h : Keeps s0 s) :
    Keeps s0 (State.armLevel s k n st) := by
  unfold State.armLevel
  repeat' first
    | with_reducible assumption
    | intro _
    | with_reducible apply keeps_ite
    | with_reducible apply keeps_ite_pair
    | with_reducible apply State.modLgtCh_keeps
    | with_reducible apply State.armLate_keeps
    | with_reducible apply State.log_keeps
    | with_reducible apply State.raise_keeps
    | with_reducible apply State.incLo_keeps
    | fail_if_no_progress with_reducible apply keeps_upd
    | with_reducible apply keeps_foldl
    | with_reducible apply keeps_foldl_pair
    | dsimp only
    | split
    | refine keeps_of_eq (by with_reducible assumption) ?_

theorem lvlArmEff_keeps {s0 : State} (req : ℕ) (k : ℕ) (v : Word) (s : State) (h : Keeps s0 s) :
    Keeps s0 (lvlArmEff req k v s).1 := by
  unfold lvlArmEff
  repeat' first
    | with_reducible assumption
    | intro _
    | with_reducible apply keeps_ite
    | with_reducible apply keeps_ite_pair
    | with_reducible apply State.loadPair_keeps
    | with_reducible apply State.armLevel_keeps
    | with_reducible apply State.defer_keeps
    | fail_if_no_progress with_reducible apply keeps_upd
    | with_reducible apply keeps_foldl
    | with_reducible apply keeps_foldl_pair
    | dsimp only
    | split
    | refine keeps_of_eq (by with_reducible assumption) ?_

theorem State.armEngine_keeps {s0 : State} (s : State) (e : ℕ) (st : Stamp) (h : Keeps s0 s) :
    Keeps s0 (State.armEngine s e st) := by
  unfold State.armEngine
  repeat' first
    | with_reducible assumption
    | intro _
    | with_reducible apply keeps_ite
    | with_reducible apply keeps_ite_pair
    | with_reducible apply State.modPe_keeps
    | with_reducible apply State.setPe_keeps
    | with_reducible apply State.setRbit_keeps
    | with_reducible apply State.armLate_keeps
    | with_reducible apply State.log_keeps
    | with_reducible apply State.raise_keeps
    | fail_if_no_progress with_reducible apply keeps_upd
    | with_reducible apply keeps_foldl
    | with_reducible apply keeps_foldl_pair
    | dsimp only
    | split
    | refine keeps_of_eq (by with_reducible assumption) ?_

theorem peArmEff_keeps {s0 : State} (req : ℕ) (e : ℕ) (v : Word) (s : State) (h : Keeps s0 s) :
    Keeps s0 (peArmEff req e v s).1 := by
  unfold peArmEff
  repeat' first
    | with_reducible assumption
    | intro _
    | with_reducible apply keeps_ite
    | with_reducible apply keeps_ite_pair
    | with_reducible apply State.loadPair_keeps
    | with_reducible apply State.armEngine_keeps
    | with_reducible apply State.defer_keeps
    | fail_if_no_progress with_reducible apply keeps_upd
    | with_reducible apply keeps_foldl
    | with_reducible apply keeps_foldl_pair
    | dsimp only
    | split
    | refine keeps_of_eq (by with_reducible assumption) ?_

theorem State.lgtReset_keeps {s0 : State} (s : State) (h : Keeps s0 s) :
    Keeps s0 (State.lgtReset s) := by
  unfold State.lgtReset
  repeat' first
    | with_reducible assumption
    | intro _
    | with_reducible apply keeps_ite
    | with_reducible apply keeps_ite_pair
    | with_reducible apply State.resetPageRegs_keeps
    | fail_if_no_progress with_reducible apply keeps_upd
    | with_reducible apply keeps_foldl
    | with_reducible apply keeps_foldl_pair
    | dsimp only
    | split
    | refine keeps_of_eq (by with_reducible assumption) ?_

theorem lgtEff_keeps {s0 : State} (req : ℕ) (a : ℕ) (v : Word) (s : State) (h : Keeps s0 s) :
    Keeps s0 (lgtEff req a v s).1 := by
  unfold lgtEff
  repeat' first
    | with_reducible assumption
    | intro _
    | with_reducible apply keeps_ite
    | with_reducible apply keeps_ite_pair
    | with_reducible apply State.lgtReset_keeps
    | with_reducible apply State.setReg_keeps
    | with_reducible apply State.dimEnded_keeps
    | with_reducible apply State.store_keeps
    | with_reducible apply State.modLgtCh_keeps
    | with_reducible apply lvlArmEff_keeps
    | with_reducible apply State.modPe_keeps
    | with_reducible apply peArmEff_keeps
    | with_reducible apply State.plainWrite_keeps
    | fail_if_no_progress with_reducible apply keeps_upd
    | with_reducible apply keeps_foldl
    | with_reducible apply keeps_foldl_pair
    | dsimp only
    | split
    | refine keeps_of_eq (by with_reducible assumption) ?_

theorem w6Eff_keeps {s0 : State} (a : ℕ) (v : Word) (s : State) (h : Keeps s0 s) :
    Keeps s0 (w6Eff a v s).1 := by
  unfold w6Eff
  repeat' first
    | with_reducible assumption
    | intro _
    | with_reducible apply keeps_ite
    | with_reducible apply keeps_ite_pair
    | with_reducible apply State.setWin_keeps
    | fail_if_no_progress with_reducible apply keeps_upd
    | with_reducible apply keeps_foldl
    | with_reducible apply keeps_foldl_pair
    | dsimp only
    | split
    | refine keeps_of_eq (by with_reducible assumption) ?_

theorem diaEff_keeps {s0 : State} (req : ℕ) (a : ℕ) (v : Word) (s : State) (h : Keeps s0 s) :
    Keeps s0 (diaEff req a v s).1 := by
  unfold diaEff
  repeat' first
    | with_reducible assumption
    | intro _
    | with_reducible apply keeps_ite
    | with_reducible apply keeps_ite_pair
    | with_reducible apply State.resetPageRegs_keeps
    | with_reducible apply State.modLgtCh_keeps
    | with_reducible apply State.setReg_keeps
    | with_reducible apply State.diaMaps_keeps
    | with_reducible apply State.setFld_keeps
    | with_reducible apply State.plainWrite_keeps
    | fail_if_no_progress with_reducible apply keeps_upd
    | with_reducible apply keeps_foldl
    | with_reducible apply keeps_foldl_pair
    | dsimp only
    | split
    | refine keeps_of_eq (by with_reducible assumption) ?_

end Sys2Proof.Machine
end

