-- ==== Sys2Proof/Laws/KeepQueues.lean ====
section
/-!
SUPPORT. What the operations of Machine/Queues.lean keep: the queue, and the canonical form of the stores.
-/

namespace Sys2Proof.Machine

theorem State.modTq_keeps {s0 : State} (s : State) (q : ℕ) (f : TqQueue → TqQueue) (h : Keeps s0 s) :
    Keeps s0 (State.modTq s q f) := by
  unfold State.modTq
  repeat' first
    | with_reducible assumption
    | intro _
    | with_reducible apply keeps_ite
    | with_reducible apply keeps_ite_pair
    | fail_if_no_progress with_reducible apply keeps_upd
    | with_reducible apply keeps_foldl
    | with_reducible apply keeps_foldl_pair
    | dsimp only
    | split
    | refine keeps_of_eq (by with_reducible assumption) ?_

theorem State.tqPut_keeps {s0 : State} (s : State) (q : ℕ) (x2 : Word) (v : BitVec 64) (h : Keeps s0 s) :
    Keeps s0 (State.tqPut s q x2 v) := by
  unfold State.tqPut
  repeat' first
    | with_reducible assumption
    | intro _
    | with_reducible apply keeps_ite
    | with_reducible apply keeps_ite_pair
    | with_reducible apply State.setWin_keeps
    | fail_if_no_progress with_reducible apply keeps_upd
    | with_reducible apply keeps_foldl
    | with_reducible apply keeps_foldl_pair
    | dsimp only
    | split
    | refine keeps_of_eq (by with_reducible assumption) ?_

theorem State.tqOffer_keeps {s0 : State} (s : State) (q : ℕ) (req : ℕ) (len : ℕ) (typ : ℕ) (h : Keeps s0 s) :
    Keeps s0 (State.tqOffer s q req len typ) := by
  unfold State.tqOffer
  repeat' first
    | with_reducible assumption
    | intro _
    | with_reducible apply keeps_ite
    | with_reducible apply keeps_ite_pair
    | with_reducible apply State.tqPut_keeps
    | with_reducible apply State.modTq_keeps
    | with_reducible apply State.raise_keeps
    | with_reducible apply State.setReg_keeps
    | fail_if_no_progress with_reducible apply keeps_upd
    | with_reducible apply keeps_foldl
    | with_reducible apply keeps_foldl_pair
    | dsimp only
    | split
    | refine keeps_of_eq (by with_reducible assumption) ?_

theorem State.tqWord_keeps {s0 : State} (s : State) (q : ℕ) (v : BitVec 64) (h : Keeps s0 s) :
    Keeps s0 (State.tqWord s q v) := by
  unfold State.tqWord
  repeat' first
    | with_reducible assumption
    | intro _
    | with_reducible apply keeps_ite
    | with_reducible apply keeps_ite_pair
    | with_reducible apply State.tqPut_keeps
    | with_reducible apply State.modTq_keeps
    | fail_if_no_progress with_reducible apply keeps_upd
    | with_reducible apply keeps_foldl
    | with_reducible apply keeps_foldl_pair
    | dsimp only
    | split
    | refine keeps_of_eq (by with_reducible assumption) ?_

theorem State.tqCommit_keeps {s0 : State} (s : State) (q : ℕ) (h : Keeps s0 s) :
    Keeps s0 (State.tqCommit s q) := by
  unfold State.tqCommit
  repeat' first
    | with_reducible assumption
    | intro _
    | with_reducible apply keeps_ite
    | with_reducible apply keeps_ite_pair
    | with_reducible apply State.modTq_keeps
    | with_reducible apply State.setReg_keeps
    | with_reducible apply State.raise_keeps
    | with_reducible apply State.setRbit_keeps
    | fail_if_no_progress with_reducible apply keeps_upd
    | with_reducible apply keeps_foldl
    | with_reducible apply keeps_foldl_pair
    | dsimp only
    | split
    | refine keeps_of_eq (by with_reducible assumption) ?_

theorem relEff_keeps {s0 : State} (q : ℕ) (v : Word) (s : State) (h : Keeps s0 s) :
    Keeps s0 (relEff q v s).1 := by
  unfold relEff
  repeat' first
    | with_reducible assumption
    | intro _
    | with_reducible apply keeps_ite
    | with_reducible apply keeps_ite_pair
    | with_reducible apply State.setReg_keeps
    | fail_if_no_progress with_reducible apply keeps_upd
    | with_reducible apply keeps_foldl
    | with_reducible apply keeps_foldl_pair
    | dsimp only
    | split
    | refine keeps_of_eq (by with_reducible assumption) ?_

theorem State.tqAbort_keeps {s0 : State} (s : State) (q : ℕ) (h : Keeps s0 s) :
    Keeps s0 (State.tqAbort s q) := by
  unfold State.tqAbort
  repeat' first
    | with_reducible assumption
    | intro _
    | with_reducible apply keeps_ite
    | with_reducible apply keeps_ite_pair
    | with_reducible apply State.modTq_keeps
    | fail_if_no_progress with_reducible apply keeps_upd
    | with_reducible apply keeps_foldl
    | with_reducible apply keeps_foldl_pair
    | dsimp only
    | split
    | refine keeps_of_eq (by with_reducible assumption) ?_

theorem State.tqCmd_keeps {s0 : State} (s : State) (q : ℕ) (v : Word) (h : Keeps s0 s) :
    Keeps s0 (State.tqCmd s q v) := by
  unfold State.tqCmd
  repeat' first
    | with_reducible assumption
    | intro _
    | with_reducible apply keeps_ite
    | with_reducible apply keeps_ite_pair
    | with_reducible apply State.setReg_keeps
    | with_reducible apply relEff_keeps
    | with_reducible apply State.tqAbort_keeps
    | fail_if_no_progress with_reducible apply keeps_upd
    | with_reducible apply keeps_foldl
    | with_reducible apply keeps_foldl_pair
    | dsimp only
    | split
    | refine keeps_of_eq (by with_reducible assumption) ?_

theorem tqCfgEff_keeps {s0 : State} (q : ℕ) (v : Word) (s : State) (h : Keeps s0 s) :
    Keeps s0 (tqCfgEff q v s).1 := by
  unfold tqCfgEff
  repeat' first
    | with_reducible assumption
    | intro _
    | with_reducible apply keeps_ite
    | with_reducible apply keeps_ite_pair
    | with_reducible apply State.modTq_keeps
    | with_reducible apply State.setRbit_keeps
    | with_reducible apply State.setReg_keeps
    | fail_if_no_progress with_reducible apply keeps_upd
    | with_reducible apply keeps_foldl
    | with_reducible apply keeps_foldl_pair
    | dsimp only
    | split
    | refine keeps_of_eq (by with_reducible assumption) ?_

theorem tqPushEff_keeps {s0 : State} (req : ℕ) (q : ℕ) (v : Word) (s : State) (h : Keeps s0 s) :
    Keeps s0 (tqPushEff req q v s).1 := by
  unfold tqPushEff
  repeat' first
    | with_reducible assumption
    | intro _
    | with_reducible apply keeps_ite
    | with_reducible apply keeps_ite_pair
    | with_reducible apply State.setPort_keeps
    | with_reducible apply State.raise_keeps
    | with_reducible apply State.tqOffer_keeps
    | with_reducible apply State.tqCommit_keeps
    | with_reducible apply State.tqWord_keeps
    | fail_if_no_progress with_reducible apply keeps_upd
    | with_reducible apply keeps_foldl
    | with_reducible apply keeps_foldl_pair
    | dsimp only
    | split
    | refine keeps_of_eq (by with_reducible assumption) ?_

theorem tqCopyEff_keeps {s0 : State} (v : Word) (s : State) (h : Keeps s0 s) :
    Keeps s0 (tqCopyEff v s).1 := by
  unfold tqCopyEff
  repeat' first
    | with_reducible assumption
    | intro _
    | with_reducible apply keeps_ite
    | with_reducible apply keeps_ite_pair
    | with_reducible apply State.setReg_keeps
    | with_reducible apply State.store_keeps
    | fail_if_no_progress with_reducible apply keeps_upd
    | with_reducible apply keeps_foldl
    | with_reducible apply keeps_foldl_pair
    | dsimp only
    | split
    | refine keeps_of_eq (by with_reducible assumption) ?_

theorem tquEff_keeps {s0 : State} (req : ℕ) (a : ℕ) (v : Word) (s : State) (h : Keeps s0 s) :
    Keeps s0 (tquEff req a v s).1 := by
  unfold tquEff
  repeat' first
    | with_reducible assumption
    | intro _
    | with_reducible apply keeps_ite
    | with_reducible apply keeps_ite_pair
    | with_reducible apply State.resetPageRegs_keeps
    | with_reducible apply State.setReg_keeps
    | with_reducible apply tqCopyEff_keeps
    | with_reducible apply State.plainWrite_keeps
    | with_reducible apply tqCfgEff_keeps
    | with_reducible apply State.store_keeps
    | with_reducible apply relEff_keeps
    | with_reducible apply State.tqCmd_keeps
    | with_reducible apply tqPushEff_keeps
    | fail_if_no_progress with_reducible apply keeps_upd
    | with_reducible apply keeps_foldl
    | with_reducible apply keeps_foldl_pair
    | dsimp only
    | split
    | refine keeps_of_eq (by with_reducible assumption) ?_

end Sys2Proof.Machine
end

