-- ==== Sys2Proof/Laws/KeepThreads.lean ====
section
/-!
SUPPORT. What the operations of Machine/Threads.lean keep: the queue, and the canonical form of the stores.
-/

namespace Sys2Proof.Machine

theorem State.modThread_keeps {s0 : State} (s : State) (t : ℕ) (f : Thread → Thread) (h : Keeps s0 s) :
    Keeps s0 (State.modThread s t f) := by
  unfold State.modThread
  repeat' first
    | with_reducible assumption
    | intro _
    | with_reducible apply keeps_ite
    | with_reducible apply keeps_ite_pair
    | fail_if_no_progress with_reducible apply keeps_upd
    | with_reducible apply keeps_foldl
    | with_reducible apply keeps_foldl_pair
    | dsimp only
    | split
    | refine keeps_of_eq (by with_reducible assumption) ?_

theorem State.setReady_keeps {s0 : State} (s : State) (p : ℕ) (l : List ℕ) (h : Keeps s0 s) :
    Keeps s0 (State.setReady s p l) := by
  unfold State.setReady
  repeat' first
    | with_reducible assumption
    | intro _
    | with_reducible apply keeps_ite
    | with_reducible apply keeps_ite_pair
    | fail_if_no_progress with_reducible apply keeps_upd
    | with_reducible apply keeps_foldl
    | with_reducible apply keeps_foldl_pair
    | dsimp only
    | split
    | refine keeps_of_eq (by with_reducible assumption) ?_

theorem State.unready_keeps {s0 : State} (s : State) (t : ℕ) (h : Keeps s0 s) :
    Keeps s0 (State.unready s t) := by
  unfold State.unready
  repeat' first
    | with_reducible assumption
    | intro _
    | with_reducible apply keeps_ite
    | with_reducible apply keeps_ite_pair
    | with_reducible apply State.setReady_keeps
    | fail_if_no_progress with_reducible apply keeps_upd
    | with_reducible apply keeps_foldl
    | with_reducible apply keeps_foldl_pair
    | dsimp only
    | split
    | refine keeps_of_eq (by with_reducible assumption) ?_

theorem State.makeReady_keeps {s0 : State} (s : State) (t : ℕ) (cause : ℕ) (h : Keeps s0 s) :
    Keeps s0 (State.makeReady s t cause) := by
  unfold State.makeReady
  repeat' first
    | with_reducible assumption
    | intro _
    | with_reducible apply keeps_ite
    | with_reducible apply keeps_ite_pair
    | with_reducible apply State.setReady_keeps
    | with_reducible apply State.modThread_keeps
    | fail_if_no_progress with_reducible apply keeps_upd
    | with_reducible apply keeps_foldl
    | with_reducible apply keeps_foldl_pair
    | dsimp only
    | split
    | refine keeps_of_eq (by with_reducible assumption) ?_

theorem State.traceThread_keeps {s0 : State} (s : State) (kind : ℕ) (t : ℕ) (core : ℕ) (flags : ℕ) (req : ℕ) (other : ℕ) (h : Keeps s0 s) :
    Keeps s0 (State.traceThread s kind t core flags req other) := by
  unfold State.traceThread
  repeat' first
    | with_reducible assumption
    | intro _
    | with_reducible apply keeps_ite
    | with_reducible apply keeps_ite_pair
    | with_reducible apply State.trace_keeps
    | fail_if_no_progress with_reducible apply keeps_upd
    | with_reducible apply keeps_foldl
    | with_reducible apply keeps_foldl_pair
    | dsimp only
    | split
    | refine keeps_of_eq (by with_reducible assumption) ?_

theorem State.thDone_keeps {s0 : State} (s : State) (req : ℕ) (kind : ℕ) (t : ℕ) (h : Keeps s0 s) :
    Keeps s0 (State.thDone s req kind t) := by
  unfold State.thDone
  repeat' first
    | with_reducible assumption
    | intro _
    | with_reducible apply keeps_ite
    | with_reducible apply keeps_ite_pair
    | with_reducible apply State.traceThread_keeps
    | with_reducible apply State.setReg_keeps
    | fail_if_no_progress with_reducible apply keeps_upd
    | with_reducible apply keeps_foldl
    | with_reducible apply keeps_foldl_pair
    | dsimp only
    | split
    | refine keeps_of_eq (by with_reducible assumption) ?_

theorem State.thRefuse_keeps {s0 : State} (s : State) (req : ℕ) (t : ℕ) (h : Keeps s0 s) :
    Keeps s0 (State.thRefuse s req t).1 := by
  unfold State.thRefuse
  repeat' first
    | with_reducible assumption
    | intro _
    | with_reducible apply keeps_ite
    | with_reducible apply keeps_ite_pair
    | with_reducible apply State.traceThread_keeps
    | with_reducible apply State.raise_keeps
    | with_reducible apply State.setReg_keeps
    | fail_if_no_progress with_reducible apply keeps_upd
    | with_reducible apply keeps_foldl
    | with_reducible apply keeps_foldl_pair
    | dsimp only
    | split
    | refine keeps_of_eq (by with_reducible assumption) ?_

theorem State.thIgnore_keeps {s0 : State} (s : State) (req : ℕ) (h : Keeps s0 s) :
    Keeps s0 (State.thIgnore s req) := by
  unfold State.thIgnore
  repeat' first
    | with_reducible assumption
    | intro _
    | with_reducible apply keeps_ite
    | with_reducible apply keeps_ite_pair
    | with_reducible apply State.raise_keeps
    | with_reducible apply State.incLo_keeps
    | with_reducible apply State.setReg_keeps
    | fail_if_no_progress with_reducible apply keeps_upd
    | with_reducible apply keeps_foldl
    | with_reducible apply keeps_foldl_pair
    | dsimp only
    | split
    | refine keeps_of_eq (by with_reducible assumption) ?_

theorem State.leave_keeps {s0 : State} (s : State) (t : ℕ) (after : ℕ) (h : Keeps s0 s) :
    Keeps s0 (State.leave s t after) := by
  unfold State.leave
  repeat' first
    | with_reducible assumption
    | intro _
    | with_reducible apply keeps_ite
    | with_reducible apply keeps_ite_pair
    | with_reducible apply State.modThread_keeps
    | fail_if_no_progress with_reducible apply keeps_upd
    | with_reducible apply keeps_foldl
    | with_reducible apply keeps_foldl_pair
    | dsimp only
    | split
    | refine keeps_of_eq (by with_reducible assumption) ?_

theorem State.thInit_keeps {s0 : State} (s : State) (req : ℕ) (t : ℕ) (h : Keeps s0 s) :
    Keeps s0 (State.thInit s req t).1 := by
  unfold State.thInit
  repeat' first
    | with_reducible assumption
    | intro _
    | with_reducible apply keeps_ite
    | with_reducible apply keeps_ite_pair
    | with_reducible apply State.setReg_keeps
    | with_reducible apply State.modThread_keeps
    | with_reducible apply State.thRefuse_keeps
    | fail_if_no_progress with_reducible apply keeps_upd
    | with_reducible apply keeps_foldl
    | with_reducible apply keeps_foldl_pair
    | dsimp only
    | split
    | refine keeps_of_eq (by with_reducible assumption) ?_

theorem State.thReady_keeps {s0 : State} (s : State) (req : ℕ) (t : ℕ) (h : Keeps s0 s) :
    Keeps s0 (State.thReady s req t).1 := by
  unfold State.thReady
  repeat' first
    | with_reducible assumption
    | intro _
    | with_reducible apply keeps_ite
    | with_reducible apply keeps_ite_pair
    | with_reducible apply State.traceThread_keeps
    | with_reducible apply State.setReg_keeps
    | with_reducible apply State.thIgnore_keeps
    | with_reducible apply State.thDone_keeps
    | with_reducible apply State.makeReady_keeps
    | with_reducible apply State.modThread_keeps
    | fail_if_no_progress with_reducible apply keeps_upd
    | with_reducible apply keeps_foldl
    | with_reducible apply keeps_foldl_pair
    | dsimp only
    | split
    | refine keeps_of_eq (by with_reducible assumption) ?_

theorem State.thBlock_keeps {s0 : State} (s : State) (req : ℕ) (t : ℕ) (h : Keeps s0 s) :
    Keeps s0 (State.thBlock s req t).1 := by
  unfold State.thBlock
  repeat' first
    | with_reducible assumption
    | intro _
    | with_reducible apply keeps_ite
    | with_reducible apply keeps_ite_pair
    | with_reducible apply State.thRefuse_keeps
    | with_reducible apply State.thDone_keeps
    | with_reducible apply State.modThread_keeps
    | with_reducible apply State.leave_keeps
    | with_reducible apply State.unready_keeps
    | fail_if_no_progress with_reducible apply keeps_upd
    | with_reducible apply keeps_foldl
    | with_reducible apply keeps_foldl_pair
    | dsimp only
    | split
    | refine keeps_of_eq (by with_reducible assumption) ?_

theorem State.thCancel_keeps {s0 : State} (s : State) (req : ℕ) (t : ℕ) (h : Keeps s0 s) :
    Keeps s0 (State.thCancel s req t).1 := by
  unfold State.thCancel
  repeat' first
    | with_reducible assumption
    | intro _
    | with_reducible apply keeps_ite
    | with_reducible apply keeps_ite_pair
    | with_reducible apply State.thRefuse_keeps
    | with_reducible apply State.thDone_keeps
    | with_reducible apply State.modThread_keeps
    | with_reducible apply State.leave_keeps
    | with_reducible apply State.unready_keeps
    | fail_if_no_progress with_reducible apply keeps_upd
    | with_reducible apply keeps_foldl
    | with_reducible apply keeps_foldl_pair
    | dsimp only
    | split
    | refine keeps_of_eq (by with_reducible assumption) ?_

theorem State.thSetPrio_keeps {s0 : State} (s : State) (req : ℕ) (t : ℕ) (h : Keeps s0 s) :
    Keeps s0 (State.thSetPrio s req t).1 := by
  unfold State.thSetPrio
  repeat' first
    | with_reducible assumption
    | intro _
    | with_reducible apply keeps_ite
    | with_reducible apply keeps_ite_pair
    | with_reducible apply State.thRefuse_keeps
    | with_reducible apply State.modThread_keeps
    | with_reducible apply State.unready_keeps
    | with_reducible apply State.thDone_keeps
    | with_reducible apply State.setReady_keeps
    | fail_if_no_progress with_reducible apply keeps_upd
    | with_reducible apply keeps_foldl
    | with_reducible apply keeps_foldl_pair
    | dsimp only
    | split
    | refine keeps_of_eq (by with_reducible assumption) ?_

theorem State.thSetAff_keeps {s0 : State} (s : State) (req : ℕ) (t : ℕ) (h : Keeps s0 s) :
    Keeps s0 (State.thSetAff s req t).1 := by
  unfold State.thSetAff
  repeat' first
    | with_reducible assumption
    | intro _
    | with_reducible apply keeps_ite
    | with_reducible apply keeps_ite_pair
    | with_reducible apply State.thRefuse_keeps
    | with_reducible apply State.setReg_keeps
    | with_reducible apply State.modThread_keeps
    | fail_if_no_progress with_reducible apply keeps_upd
    | with_reducible apply keeps_foldl
    | with_reducible apply keeps_foldl_pair
    | dsimp only
    | split
    | refine keeps_of_eq (by with_reducible assumption) ?_

theorem State.thYield_keeps {s0 : State} (s : State) (req : ℕ) (t : ℕ) (h : Keeps s0 s) :
    Keeps s0 (State.thYield s req t).1 := by
  unfold State.thYield
  repeat' first
    | with_reducible assumption
    | intro _
    | with_reducible apply keeps_ite
    | with_reducible apply keeps_ite_pair
    | with_reducible apply State.thRefuse_keeps
    | with_reducible apply State.thDone_keeps
    | with_reducible apply State.leave_keeps
    | fail_if_no_progress with_reducible apply keeps_upd
    | with_reducible apply keeps_foldl
    | with_reducible apply keeps_foldl_pair
    | dsimp only
    | split
    | refine keeps_of_eq (by with_reducible assumption) ?_

theorem State.thWait_keeps {s0 : State} (s : State) (req : ℕ) (t : ℕ) (h : Keeps s0 s) :
    Keeps s0 (State.thWait s req t).1 := by
  unfold State.thWait
  repeat' first
    | with_reducible assumption
    | intro _
    | with_reducible apply keeps_ite
    | with_reducible apply keeps_ite_pair
    | with_reducible apply State.thRefuse_keeps
    | with_reducible apply State.thDone_keeps
    | with_reducible apply State.modThread_keeps
    | with_reducible apply State.leave_keeps
    | with_reducible apply State.unready_keeps
    | fail_if_no_progress with_reducible apply keeps_upd
    | with_reducible apply keeps_foldl
    | with_reducible apply keeps_foldl_pair
    | dsimp only
    | split
    | refine keeps_of_eq (by with_reducible assumption) ?_

theorem thCmdEff_keeps {s0 : State} (req : ℕ) (v : Word) (s : State) (h : Keeps s0 s) :
    Keeps s0 (thCmdEff req v s).1 := by
  unfold thCmdEff
  repeat' first
    | with_reducible assumption
    | intro _
    | with_reducible apply keeps_ite
    | with_reducible apply keeps_ite_pair
    | with_reducible apply State.thInit_keeps
    | with_reducible apply State.thReady_keeps
    | with_reducible apply State.thBlock_keeps
    | with_reducible apply State.thCancel_keeps
    | with_reducible apply State.thSetPrio_keeps
    | with_reducible apply State.thSetAff_keeps
    | with_reducible apply State.thYield_keeps
    | with_reducible apply State.thWait_keeps
    | with_reducible apply State.thRefuse_keeps
    | fail_if_no_progress with_reducible apply keeps_upd
    | with_reducible apply keeps_foldl
    | with_reducible apply keeps_foldl_pair
    | dsimp only
    | split
    | refine keeps_of_eq (by with_reducible assumption) ?_

theorem State.dispatchNow_keeps {s0 : State} (s : State) (h : Keeps s0 s) :
    Keeps s0 (State.dispatchNow s) := by
  unfold State.dispatchNow
  repeat' first
    | with_reducible assumption
    | intro _
    | with_reducible apply keeps_ite
    | with_reducible apply keeps_ite_pair
    | with_reducible apply State.setReg_keeps
    | with_reducible apply State.traceThread_keeps
    | fail_if_no_progress with_reducible apply keeps_upd
    | with_reducible apply keeps_foldl
    | with_reducible apply keeps_foldl_pair
    | dsimp only
    | split
    | refine keeps_of_eq (by with_reducible assumption) ?_

theorem State.settle_keeps {s0 : State} (s : State) (t : ℕ) (h : Keeps s0 s) :
    Keeps s0 (State.settle s t) := by
  unfold State.settle
  repeat' first
    | with_reducible assumption
    | intro _
    | with_reducible apply keeps_ite
    | with_reducible apply keeps_ite_pair
    | with_reducible apply State.modThread_keeps
    | with_reducible apply State.makeReady_keeps
    | with_reducible apply State.setReady_keeps
    | fail_if_no_progress with_reducible apply keeps_upd
    | with_reducible apply keeps_foldl
    | with_reducible apply keeps_foldl_pair
    | dsimp only
    | split
    | refine keeps_of_eq (by with_reducible assumption) ?_

theorem takeEff_keeps {s0 : State} (req : ℕ) (c : ℕ) (v : Word) (s : State) (h : Keeps s0 s) :
    Keeps s0 (takeEff req c v s).1 := by
  unfold takeEff
  repeat' first
    | with_reducible assumption
    | intro _
    | with_reducible apply keeps_ite
    | with_reducible apply keeps_ite_pair
    | with_reducible apply State.setReg_keeps
    | with_reducible apply State.modThread_keeps
    | with_reducible apply State.unready_keeps
    | with_reducible apply State.settle_keeps
    | with_reducible apply State.traceThread_keeps
    | fail_if_no_progress with_reducible apply keeps_upd
    | with_reducible apply keeps_foldl
    | with_reducible apply keeps_foldl_pair
    | dsimp only
    | split
    | refine keeps_of_eq (by with_reducible assumption) ?_

theorem State.thsReset_keeps {s0 : State} (s : State) (h : Keeps s0 s) :
    Keeps s0 (State.thsReset s) := by
  unfold State.thsReset
  repeat' first
    | with_reducible assumption
    | intro _
    | with_reducible apply keeps_ite
    | with_reducible apply keeps_ite_pair
    | with_reducible apply State.resetPageRegs_keeps
    | fail_if_no_progress with_reducible apply keeps_upd
    | with_reducible apply keeps_foldl
    | with_reducible apply keeps_foldl_pair
    | dsimp only
    | split
    | refine keeps_of_eq (by with_reducible assumption) ?_

theorem thsEff_keeps {s0 : State} (req : ℕ) (a : ℕ) (v : Word) (s : State) (h : Keeps s0 s) :
    Keeps s0 (thsEff req a v s).1 := by
  unfold thsEff
  repeat' first
    | with_reducible assumption
    | intro _
    | with_reducible apply keeps_ite
    | with_reducible apply keeps_ite_pair
    | with_reducible apply State.thsReset_keeps
    | with_reducible apply State.setReg_keeps
    | with_reducible apply thCmdEff_keeps
    | with_reducible apply takeEff_keeps
    | with_reducible apply State.plainWrite_keeps
    | fail_if_no_progress with_reducible apply keeps_upd
    | with_reducible apply keeps_foldl
    | with_reducible apply keeps_foldl_pair
    | dsimp only
    | split
    | refine keeps_of_eq (by with_reducible assumption) ?_

theorem State.threadCmd_keeps {s0 : State} (s : State) (req : Req) (op : ℕ) (t : Fin 256) (h : Keeps s0 s) :
    Keeps s0 (State.threadCmd s req op t) := by
  unfold State.threadCmd
  repeat' first
    | with_reducible assumption
    | intro _
    | with_reducible apply keeps_ite
    | with_reducible apply keeps_ite_pair
    | with_reducible apply State.busWrite_keeps
    | with_reducible apply thsEff_keeps
    | fail_if_no_progress with_reducible apply keeps_upd
    | with_reducible apply keeps_foldl
    | with_reducible apply keeps_foldl_pair
    | dsimp only
    | split
    | refine keeps_of_eq (by with_reducible assumption) ?_

end Sys2Proof.Machine
end

