-- ==== Sys2Proof/Laws/KeepPhy.lean ====
section
/-!
SUPPORT. What the operations of Machine/Phy.lean keep: the queue, and the canonical form of the stores.
-/

namespace Sys2Proof.Machine

theorem State.modModem_keeps {s0 : State} (s : State) (f : ℕ) (g : Modem → Modem) (h : Keeps s0 s) :
    Keeps s0 (State.modModem s f g) := by
  unfold State.modModem
  repeat' first
    | with_reducible assumption
    | intro _
    | with_reducible apply keeps_ite
    | with_reducible apply keeps_ite_pair
    | fail_if_no_progress with_reducible apply keeps_upd
    | with_reducible apply keeps_foldl
    | with_reducible apply keeps_foldl_pair
    | dsimp only
    | split
    | refine keeps_of_eq (by with_reducible assumption) ?_

theorem State.fphEvent_keeps {s0 : State} (s : State) (f : ℕ) (b : ℕ) (h : Keeps s0 s) :
    Keeps s0 (State.fphEvent s f b) := by
  unfold State.fphEvent
  repeat' first
    | with_reducible assumption
    | intro _
    | with_reducible apply keeps_ite
    | with_reducible apply keeps_ite_pair
    | with_reducible apply State.setRbit_keeps
    | with_reducible apply State.raise_keeps
    | fail_if_no_progress with_reducible apply keeps_upd
    | with_reducible apply keeps_foldl
    | with_reducible apply keeps_foldl_pair
    | dsimp only
    | split
    | refine keeps_of_eq (by with_reducible assumption) ?_

theorem State.putSlot_keeps {s0 : State} (s : State) (f : ℕ) (t : ℕ) (bs : List Byte) (h : Keeps s0 s) :
    Keeps s0 (State.putSlot s f t bs) := by
  unfold State.putSlot
  repeat' first
    | with_reducible assumption
    | intro _
    | with_reducible apply keeps_ite
    | with_reducible apply keeps_ite_pair
    | with_reducible apply State.setWin_keeps
    | with_reducible apply State.journalUpdate_keeps
    | fail_if_no_progress with_reducible apply keeps_upd
    | with_reducible apply keeps_foldl
    | with_reducible apply keeps_foldl_pair
    | dsimp only
    | split
    | refine keeps_of_eq (by with_reducible assumption) ?_

theorem State.clearSlot_keeps {s0 : State} (s : State) (f : ℕ) (t : ℕ) (h : Keeps s0 s) :
    Keeps s0 (State.clearSlot s f t) := by
  unfold State.clearSlot
  repeat' first
    | with_reducible assumption
    | intro _
    | with_reducible apply keeps_ite
    | with_reducible apply keeps_ite_pair
    | with_reducible apply State.journalUpdate_keeps
    | with_reducible apply State.setWin_keeps
    | fail_if_no_progress with_reducible apply keeps_upd
    | with_reducible apply keeps_foldl
    | with_reducible apply keeps_foldl_pair
    | dsimp only
    | split
    | refine keeps_of_eq (by with_reducible assumption) ?_

theorem State.takeSlot_keeps {s0 : State} (s : State) (f : ℕ) (h : Keeps s0 s) :
    Keeps s0 (State.takeSlot s f).1 := by
  unfold State.takeSlot
  repeat' first
    | with_reducible assumption
    | intro _
    | with_reducible apply keeps_ite
    | with_reducible apply keeps_ite_pair
    | with_reducible apply State.clearSlot_keeps
    | fail_if_no_progress with_reducible apply keeps_upd
    | with_reducible apply keeps_foldl
    | with_reducible apply keeps_foldl_pair
    | dsimp only
    | split
    | refine keeps_of_eq (by with_reducible assumption) ?_

theorem State.txDrop_keeps {s0 : State} (s : State) (f : ℕ) (h : Keeps s0 s) :
    Keeps s0 (State.txDrop s f) := by
  unfold State.txDrop
  repeat' first
    | with_reducible assumption
    | intro _
    | with_reducible apply keeps_ite
    | with_reducible apply keeps_ite_pair
    | with_reducible apply State.fphEvent_keeps
    | with_reducible apply State.setFld_keeps
    | fail_if_no_progress with_reducible apply keeps_upd
    | with_reducible apply keeps_foldl
    | with_reducible apply keeps_foldl_pair
    | dsimp only
    | split
    | refine keeps_of_eq (by with_reducible assumption) ?_

theorem State.phyTransmit_keeps {s0 : State} (s : State) (f : ℕ) (r : TxReq) (h : Keeps s0 s) :
    Keeps s0 (State.phyTransmit s f r) := by
  unfold State.phyTransmit
  repeat' first
    | with_reducible assumption
    | intro _
    | with_reducible apply keeps_ite
    | with_reducible apply keeps_ite_pair
    | with_reducible apply State.setFld_keeps
    | with_reducible apply State.fphEvent_keeps
    | with_reducible apply State.incLo_keeps
    | with_reducible apply State.modModem_keeps
    | with_reducible apply State.draw_keeps
    | with_reducible apply State.emit_keeps
    | fail_if_no_progress with_reducible apply keeps_upd
    | with_reducible apply keeps_foldl
    | with_reducible apply keeps_foldl_pair
    | dsimp only
    | split
    | refine keeps_of_eq (by with_reducible assumption) ?_

theorem State.replaceMap_keeps {s0 : State} (s : State) (f : ℕ) (addr : ℕ) (snr : List (ℤ × ℤ × ℤ)) (h : Keeps s0 s) :
    Keeps s0 (State.replaceMap s f addr snr) := by
  unfold State.replaceMap
  repeat' first
    | with_reducible assumption
    | intro _
    | with_reducible apply keeps_ite
    | with_reducible apply keeps_ite_pair
    | with_reducible apply State.takeSlot_keeps
    | with_reducible apply State.putSlot_keeps
    | with_reducible apply State.clearSlot_keeps
    | with_reducible apply State.fphEvent_keeps
    | with_reducible apply State.modModem_keeps
    | fail_if_no_progress with_reducible apply keeps_upd
    | with_reducible apply keeps_foldl
    | with_reducible apply keeps_foldl_pair
    | dsimp only
    | split
    | refine keeps_of_eq (by with_reducible assumption) ?_

theorem State.phyFrame_keeps {s0 : State} (s : State) (f : ℕ) (fc : List Byte) (blocks : List (List Byte × Bool)) (snr : List (ℤ × ℤ × ℤ)) (h : Keeps s0 s) :
    Keeps s0 (State.phyFrame s f fc blocks snr) := by
  unfold State.phyFrame
  repeat' first
    | with_reducible assumption
    | intro _
    | with_reducible apply keeps_ite
    | with_reducible apply keeps_ite_pair
    | with_reducible apply State.setReg_keeps
    | with_reducible apply State.incLo_keeps
    | with_reducible apply State.modModem_keeps
    | with_reducible apply State.replaceMap_keeps
    | fail_if_no_progress with_reducible apply keeps_upd
    | with_reducible apply keeps_foldl
    | with_reducible apply keeps_foldl_pair
    | dsimp only
    | split
    | refine keeps_of_eq (by with_reducible assumption) ?_

theorem State.robustSlot_keeps {s0 : State} (s : State) (f : ℕ) (h : Keeps s0 s) :
    Keeps s0 (State.robustSlot s f) := by
  unfold State.robustSlot
  repeat' first
    | with_reducible assumption
    | intro _
    | with_reducible apply keeps_ite
    | with_reducible apply keeps_ite_pair
    | with_reducible apply State.putSlot_keeps
    | fail_if_no_progress with_reducible apply keeps_upd
    | with_reducible apply keeps_foldl
    | with_reducible apply keeps_foldl_pair
    | dsimp only
    | split
    | refine keeps_of_eq (by with_reducible assumption) ?_

theorem State.maskApply_keeps {s0 : State} (s : State) (f : ℕ) (h : Keeps s0 s) :
    Keeps s0 (State.maskApply s f) := by
  unfold State.maskApply
  repeat' first
    | with_reducible assumption
    | intro _
    | with_reducible apply keeps_ite
    | with_reducible apply keeps_ite_pair
    | with_reducible apply State.copyWin_keeps
    | with_reducible apply State.robustSlot_keeps
    | with_reducible apply State.clearSlot_keeps
    | with_reducible apply State.fphEvent_keeps
    | with_reducible apply State.setRbit_keeps
    | fail_if_no_progress with_reducible apply keeps_upd
    | with_reducible apply keeps_foldl
    | with_reducible apply keeps_foldl_pair
    | dsimp only
    | split
    | refine keeps_of_eq (by with_reducible assumption) ?_

theorem State.maskRequest_keeps {s0 : State} (s : State) (f : ℕ) (h : Keeps s0 s) :
    Keeps s0 (State.maskRequest s f).1 := by
  unfold State.maskRequest
  repeat' first
    | with_reducible assumption
    | intro _
    | with_reducible apply keeps_ite
    | with_reducible apply keeps_ite_pair
    | with_reducible apply State.setRbit_keeps
    | with_reducible apply State.fphEvent_keeps
    | fail_if_no_progress with_reducible apply keeps_upd
    | with_reducible apply keeps_foldl
    | with_reducible apply keeps_foldl_pair
    | dsimp only
    | split
    | refine keeps_of_eq (by with_reducible assumption) ?_

theorem maskReqEff_keeps {s0 : State} (p : ℕ) (v : Word) (s : State) (h : Keeps s0 s) :
    Keeps s0 (maskReqEff p v s).1 := by
  unfold maskReqEff
  repeat' first
    | with_reducible assumption
    | intro _
    | with_reducible apply keeps_ite
    | with_reducible apply keeps_ite_pair
    | with_reducible apply State.maskRequest_keeps
    | fail_if_no_progress with_reducible apply keeps_upd
    | with_reducible apply keeps_foldl
    | with_reducible apply keeps_foldl_pair
    | dsimp only
    | split
    | refine keeps_of_eq (by with_reducible assumption) ?_

theorem fphEff_keeps {s0 : State} (req : ℕ) (a : ℕ) (v : Word) (s : State) (h : Keeps s0 s) :
    Keeps s0 (fphEff req a v s).1 := by
  unfold fphEff
  repeat' first
    | with_reducible assumption
    | intro _
    | with_reducible apply keeps_ite
    | with_reducible apply keeps_ite_pair
    | with_reducible apply State.resetPageRegs_keeps
    | with_reducible apply State.setReg_keeps
    | with_reducible apply maskReqEff_keeps
    | with_reducible apply State.plainWrite_keeps
    | with_reducible apply State.modModem_keeps
    | with_reducible apply keeps_dropReg
    | with_reducible apply keeps_dropWin
    | with_reducible apply keeps_dropMem
    | with_reducible apply keeps_lostStores
    | fail_if_no_progress with_reducible apply keeps_upd
    | with_reducible apply keeps_foldl
    | with_reducible apply keeps_foldl_pair
    | dsimp only
    | split
    | refine keeps_of_eq (by with_reducible assumption) ?_

theorem w7MapEff_keeps {s0 : State} (f : ℕ) (o : ℕ) (a : ℕ) (v : Word) (s : State) (h : Keeps s0 s) :
    Keeps s0 (w7MapEff f o a v s).1 := by
  unfold w7MapEff
  repeat' first
    | with_reducible assumption
    | intro _
    | with_reducible apply keeps_ite
    | with_reducible apply keeps_ite_pair
    | with_reducible apply State.setWin_keeps
    | fail_if_no_progress with_reducible apply keeps_upd
    | with_reducible apply keeps_foldl
    | with_reducible apply keeps_foldl_pair
    | dsimp only
    | split
    | refine keeps_of_eq (by with_reducible assumption) ?_

theorem w7EntryEff_keeps {s0 : State} (o : ℕ) (a : ℕ) (v : Word) (w : Word) (s : State) (h : Keeps s0 s) :
    Keeps s0 (w7EntryEff o a v w s).1 := by
  unfold w7EntryEff
  repeat' first
    | with_reducible assumption
    | intro _
    | with_reducible apply keeps_ite
    | with_reducible apply keeps_ite_pair
    | with_reducible apply State.setWin_keeps
    | fail_if_no_progress with_reducible apply keeps_upd
    | with_reducible apply keeps_foldl
    | with_reducible apply keeps_foldl_pair
    | dsimp only
    | split
    | refine keeps_of_eq (by with_reducible assumption) ?_

theorem w7Eff_keeps {s0 : State} (a : ℕ) (v : Word) (s : State) (h : Keeps s0 s) :
    Keeps s0 (w7Eff a v s).1 := by
  unfold w7Eff
  repeat' first
    | with_reducible assumption
    | intro _
    | with_reducible apply keeps_ite
    | with_reducible apply keeps_ite_pair
    | with_reducible apply w7MapEff_keeps
    | with_reducible apply w7EntryEff_keeps
    | fail_if_no_progress with_reducible apply keeps_upd
    | with_reducible apply keeps_foldl
    | with_reducible apply keeps_foldl_pair
    | dsimp only
    | split
    | refine keeps_of_eq (by with_reducible assumption) ?_

end Sys2Proof.Machine
end

