-- ==== Sys2Proof/Laws/KeepVault.lean ====
section
/-!
SUPPORT. What the operations of Machine/Vault.lean keep: the queue, and the canonical form of the stores.
-/

namespace Sys2Proof.Machine

theorem State.modKvt_keeps {s0 : State} (s : State) (f : Kvt → Kvt) (h : Keeps s0 s) :
    Keeps s0 (State.modKvt s f) := by
  unfold State.modKvt
  repeat' first
    | with_reducible assumption
    | intro _
    | with_reducible apply keeps_ite
    | with_reducible apply keeps_ite_pair
    | fail_if_no_progress with_reducible apply keeps_upd
    | with_reducible apply keeps_foldl
    | with_reducible apply keeps_foldl_pair
    | dsimp only
    | split
    | refine keeps_of_eq (by with_reducible assumption) ?_

theorem State.setKey_keeps {s0 : State} (s : State) (i : ℕ) (k : KeySlot) (h : Keeps s0 s) :
    Keeps s0 (State.setKey s i k) := by
  unfold State.setKey
  repeat' first
    | with_reducible assumption
    | intro _
    | with_reducible apply keeps_ite
    | with_reducible apply keeps_ite_pair
    | with_reducible apply State.modKvt_keeps
    | fail_if_no_progress with_reducible apply keeps_upd
    | with_reducible apply keeps_foldl
    | with_reducible apply keeps_foldl_pair
    | dsimp only
    | split
    | refine keeps_of_eq (by with_reducible assumption) ?_

theorem State.fillKey_keeps {s0 : State} (s : State) (i : ℕ) (k : KeySlot) (h : Keeps s0 s) :
    Keeps s0 (State.fillKey s i k) := by
  unfold State.fillKey
  repeat' first
    | with_reducible assumption
    | intro _
    | with_reducible apply keeps_ite
    | with_reducible apply keeps_ite_pair
    | with_reducible apply State.setKey_keeps
    | fail_if_no_progress with_reducible apply keeps_upd
    | with_reducible apply keeps_foldl
    | with_reducible apply keeps_foldl_pair
    | dsimp only
    | split
    | refine keeps_of_eq (by with_reducible assumption) ?_

theorem State.setCopy_keeps {s0 : State} (s : State) (i : ℕ) (c : ℕ) (k : Option KeyCopy) (h : Keeps s0 s) :
    Keeps s0 (State.setCopy s i c k) := by
  unfold State.setCopy
  repeat' first
    | with_reducible assumption
    | intro _
    | with_reducible apply keeps_ite
    | with_reducible apply keeps_ite_pair
    | with_reducible apply State.modKvt_keeps
    | fail_if_no_progress with_reducible apply keeps_upd
    | with_reducible apply keeps_foldl
    | with_reducible apply keeps_foldl_pair
    | dsimp only
    | split
    | refine keeps_of_eq (by with_reducible assumption) ?_

theorem State.writeCopy_keeps {s0 : State} (s : State) (i : ℕ) (epoch : ℕ) (h : Keeps s0 s) :
    Keeps s0 (State.writeCopy s i epoch) := by
  unfold State.writeCopy
  repeat' first
    | with_reducible assumption
    | intro _
    | with_reducible apply keeps_ite
    | with_reducible apply keeps_ite_pair
    | with_reducible apply State.setCopy_keeps
    | fail_if_no_progress with_reducible apply keeps_upd
    | with_reducible apply keeps_foldl
    | with_reducible apply keeps_foldl_pair
    | dsimp only
    | split
    | refine keeps_of_eq (by with_reducible assumption) ?_

theorem State.clearCopies_keeps {s0 : State} (s : State) (i : ℕ) (h : Keeps s0 s) :
    Keeps s0 (State.clearCopies s i) := by
  unfold State.clearCopies
  repeat' first
    | with_reducible assumption
    | intro _
    | with_reducible apply keeps_ite
    | with_reducible apply keeps_ite_pair
    | with_reducible apply State.setCopy_keeps
    | fail_if_no_progress with_reducible apply keeps_upd
    | with_reducible apply keeps_foldl
    | with_reducible apply keeps_foldl_pair
    | dsimp only
    | split
    | refine keeps_of_eq (by with_reducible assumption) ?_

theorem State.emptyKey_keeps {s0 : State} (s : State) (i : ℕ) (h : Keeps s0 s) :
    Keeps s0 (State.emptyKey s i) := by
  unfold State.emptyKey
  repeat' first
    | with_reducible assumption
    | intro _
    | with_reducible apply keeps_ite
    | with_reducible apply keeps_ite_pair
    | with_reducible apply State.setKey_keeps
    | fail_if_no_progress with_reducible apply keeps_upd
    | with_reducible apply keeps_foldl
    | with_reducible apply keeps_foldl_pair
    | dsimp only
    | split
    | refine keeps_of_eq (by with_reducible assumption) ?_

theorem State.kvtComplete_keeps {s0 : State} (s : State) (x1 : KvtFlight) (h : Keeps s0 s) :
    Keeps s0 (State.kvtComplete s x1) := by
  unfold State.kvtComplete
  repeat' first
    | with_reducible assumption
    | intro _
    | with_reducible apply keeps_ite
    | with_reducible apply keeps_ite_pair
    | with_reducible apply State.fillKey_keeps
    | with_reducible apply State.writeCopy_keeps
    | with_reducible apply State.setKey_keeps
    | with_reducible apply State.setBytes_keeps
    | with_reducible apply State.incReg_keeps
    | with_reducible apply State.modReg_keeps
    | with_reducible apply State.raise_keeps
    | fail_if_no_progress with_reducible apply keeps_upd
    | with_reducible apply keeps_foldl
    | with_reducible apply keeps_foldl_pair
    | dsimp only
    | split
    | refine keeps_of_eq (by with_reducible assumption) ?_

theorem State.kvtDispatch_keeps {s0 : State} (s : State) (op : ℕ) (h : Keeps s0 s) :
    Keeps s0 (State.kvtDispatch s op) := by
  unfold State.kvtDispatch
  repeat' first
    | with_reducible assumption
    | intro _
    | with_reducible apply keeps_ite
    | with_reducible apply keeps_ite_pair
    | with_reducible apply State.draw_keeps
    | with_reducible apply State.modKvt_keeps
    | with_reducible apply State.kvtComplete_keeps
    | with_reducible apply State.setKey_keeps
    | fail_if_no_progress with_reducible apply keeps_upd
    | with_reducible apply keeps_foldl
    | with_reducible apply keeps_foldl_pair
    | dsimp only
    | split
    | refine keeps_of_eq (by with_reducible assumption) ?_

theorem State.kvtFlush_keeps {s0 : State} (s : State) (h : Keeps s0 s) :
    Keeps s0 (State.kvtFlush s) := by
  unfold State.kvtFlush
  repeat' first
    | with_reducible assumption
    | intro _
    | with_reducible apply keeps_ite
    | with_reducible apply keeps_ite_pair
    | with_reducible apply State.kvtComplete_keeps
    | with_reducible apply State.modKvt_keeps
    | fail_if_no_progress with_reducible apply keeps_upd
    | with_reducible apply keeps_foldl
    | with_reducible apply keeps_foldl_pair
    | dsimp only
    | split
    | refine keeps_of_eq (by with_reducible assumption) ?_

theorem State.clearVolatile_keeps {s0 : State} (s : State) (h : Keeps s0 s) :
    Keeps s0 (State.clearVolatile s) := by
  unfold State.clearVolatile
  repeat' first
    | with_reducible assumption
    | intro _
    | with_reducible apply keeps_ite
    | with_reducible apply keeps_ite_pair
    | with_reducible apply State.emptyKey_keeps
    | with_reducible apply State.modKvt_keeps
    | fail_if_no_progress with_reducible apply keeps_upd
    | with_reducible apply keeps_foldl
    | with_reducible apply keeps_foldl_pair
    | dsimp only
    | split
    | refine keeps_of_eq (by with_reducible assumption) ?_

theorem State.resealStop_keeps {s0 : State} (s : State) (h : Keeps s0 s) :
    Keeps s0 (State.resealStop s) := by
  unfold State.resealStop
  repeat' first
    | with_reducible assumption
    | intro _
    | with_reducible apply keeps_ite
    | with_reducible apply keeps_ite_pair
    | with_reducible apply State.modKvt_keeps
    | fail_if_no_progress with_reducible apply keeps_upd
    | with_reducible apply keeps_foldl
    | with_reducible apply keeps_foldl_pair
    | dsimp only
    | split
    | refine keeps_of_eq (by with_reducible assumption) ?_

theorem State.kvtQueue_keeps {s0 : State} (s : State) (c : KvtCmd) (h : Keeps s0 s) :
    Keeps s0 (State.kvtQueue s c) := by
  unfold State.kvtQueue
  repeat' first
    | with_reducible assumption
    | intro _
    | with_reducible apply keeps_ite
    | with_reducible apply keeps_ite_pair
    | with_reducible apply State.kvtComplete_keeps
    | with_reducible apply State.modKvt_keeps
    | fail_if_no_progress with_reducible apply keeps_upd
    | with_reducible apply keeps_foldl
    | with_reducible apply keeps_foldl_pair
    | dsimp only
    | split
    | refine keeps_of_eq (by with_reducible assumption) ?_

theorem submitEff_keeps {s0 : State} (req : ℕ) (r : ℕ) (v : Word) (s : State) (h : Keeps s0 s) :
    Keeps s0 (submitEff req r v s).1 := by
  unfold submitEff
  repeat' first
    | with_reducible assumption
    | intro _
    | with_reducible apply keeps_ite
    | with_reducible apply keeps_ite_pair
    | with_reducible apply State.loadPair_keeps
    | with_reducible apply State.setBytes_keeps
    | with_reducible apply State.kvtQueue_keeps
    | with_reducible apply State.incReg_keeps
    | fail_if_no_progress with_reducible apply keeps_upd
    | with_reducible apply keeps_foldl
    | with_reducible apply keeps_foldl_pair
    | dsimp only
    | split
    | refine keeps_of_eq (by with_reducible assumption) ?_

theorem revokeEff_keeps {s0 : State} (v : Word) (s : State) (h : Keeps s0 s) :
    Keeps s0 (revokeEff v s).1 := by
  unfold revokeEff
  repeat' first
    | with_reducible assumption
    | intro _
    | with_reducible apply keeps_ite
    | with_reducible apply keeps_ite_pair
    | with_reducible apply State.clearCopies_keeps
    | with_reducible apply State.setKey_keeps
    | with_reducible apply State.log_keeps
    | with_reducible apply State.raise_keeps
    | fail_if_no_progress with_reducible apply keeps_upd
    | with_reducible apply keeps_foldl
    | with_reducible apply keeps_foldl_pair
    | dsimp only
    | split
    | refine keeps_of_eq (by with_reducible assumption) ?_

theorem deleteEff_keeps {s0 : State} (v : Word) (s : State) (h : Keeps s0 s) :
    Keeps s0 (deleteEff v s).1 := by
  unfold deleteEff
  repeat' first
    | with_reducible assumption
    | intro _
    | with_reducible apply keeps_ite
    | with_reducible apply keeps_ite_pair
    | with_reducible apply State.clearCopies_keeps
    | with_reducible apply State.emptyKey_keeps
    | fail_if_no_progress with_reducible apply keeps_upd
    | with_reducible apply keeps_foldl
    | with_reducible apply keeps_foldl_pair
    | dsimp only
    | split
    | refine keeps_of_eq (by with_reducible assumption) ?_

theorem zeroizeEff_keeps {s0 : State} (req : ℕ) (v : Word) (s : State) (h : Keeps s0 s) :
    Keeps s0 (zeroizeEff req v s).1 := by
  unfold zeroizeEff
  repeat' first
    | with_reducible assumption
    | intro _
    | with_reducible apply keeps_ite
    | with_reducible apply keeps_ite_pair
    | with_reducible apply State.clearVolatile_keeps
    | with_reducible apply State.kvtFlush_keeps
    | with_reducible apply State.modKvt_keeps
    | with_reducible apply State.emptyKey_keeps
    | with_reducible apply State.log_keeps
    | with_reducible apply State.raise_keeps
    | fail_if_no_progress with_reducible apply keeps_upd
    | with_reducible apply keeps_foldl
    | with_reducible apply keeps_foldl_pair
    | dsimp only
    | split
    | refine keeps_of_eq (by with_reducible assumption) ?_

theorem resealEff_keeps {s0 : State} (v : Word) (s : State) (h : Keeps s0 s) :
    Keeps s0 (resealEff v s).1 := by
  unfold resealEff
  repeat' first
    | with_reducible assumption
    | intro _
    | with_reducible apply keeps_ite
    | with_reducible apply keeps_ite_pair
    | with_reducible apply State.modKvt_keeps
    | fail_if_no_progress with_reducible apply keeps_upd
    | with_reducible apply keeps_foldl
    | with_reducible apply keeps_foldl_pair
    | dsimp only
    | split
    | refine keeps_of_eq (by with_reducible assumption) ?_

theorem kvtEff_keeps {s0 : State} (req : ℕ) (a : ℕ) (v : Word) (s : State) (h : Keeps s0 s) :
    Keeps s0 (kvtEff req a v s).1 := by
  unfold kvtEff
  repeat' first
    | with_reducible assumption
    | intro _
    | with_reducible apply keeps_ite
    | with_reducible apply keeps_ite_pair
    | with_reducible apply State.resealStop_keeps
    | with_reducible apply State.clearVolatile_keeps
    | with_reducible apply State.resetPageRegs_keeps
    | with_reducible apply revokeEff_keeps
    | with_reducible apply deleteEff_keeps
    | with_reducible apply zeroizeEff_keeps
    | with_reducible apply resealEff_keeps
    | with_reducible apply submitEff_keeps
    | with_reducible apply State.plainWrite_keeps
    | fail_if_no_progress with_reducible apply keeps_upd
    | with_reducible apply keeps_foldl
    | with_reducible apply keeps_foldl_pair
    | dsimp only
    | split
    | refine keeps_of_eq (by with_reducible assumption) ?_

theorem State.kvtPowerUp_keeps {s0 : State} (s : State) (bad : Option ℕ) (h : Keeps s0 s) :
    Keeps s0 (State.kvtPowerUp s bad) := by
  unfold State.kvtPowerUp
  repeat' first
    | with_reducible assumption
    | intro _
    | with_reducible apply keeps_ite
    | with_reducible apply keeps_ite_pair
    | with_reducible apply State.log_keeps
    | with_reducible apply State.raise_keeps
    | with_reducible apply State.modKvt_keeps
    | with_reducible apply State.setKey_keeps
    | with_reducible apply State.incHi_keeps
    | with_reducible apply State.draw_keeps
    | fail_if_no_progress with_reducible apply keeps_upd
    | with_reducible apply keeps_foldl
    | with_reducible apply keeps_foldl_pair
    | dsimp only
    | split
    | refine keeps_of_eq (by with_reducible assumption) ?_

theorem State.kvtWrite_keeps {s0 : State} (s : State) (req : Req) (a : ℕ) (key : ℕ) (low : ℕ) (h : Keeps s0 s) :
    Keeps s0 (State.kvtWrite s req a key low) := by
  unfold State.kvtWrite
  repeat' first
    | with_reducible assumption
    | intro _
    | with_reducible apply keeps_ite
    | with_reducible apply keeps_ite_pair
    | with_reducible apply State.busWrite_keeps
    | with_reducible apply kvtEff_keeps
    | fail_if_no_progress with_reducible apply keeps_upd
    | with_reducible apply keeps_foldl
    | with_reducible apply keeps_foldl_pair
    | dsimp only
    | split
    | refine keeps_of_eq (by with_reducible assumption) ?_

end Sys2Proof.Machine
end

