-- ==== Sys2Proof/Laws/KeepNodes.lean ====
section
/-!
SUPPORT. What the operations of Machine/Nodes.lean keep: the queue, and the canonical form of the stores.
-/

namespace Sys2Proof.Machine

theorem State.setWinByte_keeps {s0 : State} (s : State) (a : ℕ) (v : ℕ) (h : Keeps s0 s) :
    Keeps s0 (State.setWinByte s a v) := by
  unfold State.setWinByte
  repeat' first
    | with_reducible assumption
    | intro _
    | with_reducible apply keeps_ite
    | with_reducible apply keeps_ite_pair
    | with_reducible apply State.setWin_keeps
    | fail_if_no_progress with_reducible apply keeps_upd
    | with_reducible apply keeps_foldl
    | with_reducible apply keeps_foldl_pair
    | dsimp only
    | split
    | refine keeps_of_eq (by with_reducible assumption) ?_

theorem State.setWinField_keeps {s0 : State} (s : State) (a : ℕ) (n : ℕ) (v : ℕ) (h : Keeps s0 s) :
    Keeps s0 (State.setWinField s a n v) := by
  unfold State.setWinField
  repeat' first
    | with_reducible assumption
    | intro _
    | with_reducible apply keeps_ite
    | with_reducible apply keeps_ite_pair
    | with_reducible apply State.setWinByte_keeps
    | fail_if_no_progress with_reducible apply keeps_upd
    | with_reducible apply keeps_foldl
    | with_reducible apply keeps_foldl_pair
    | dsimp only
    | split
    | refine keeps_of_eq (by with_reducible assumption) ?_

theorem State.updNode_keeps {s0 : State} (s : State) (i : ℕ) (l : List (ℕ × ℕ × ℕ)) (h : Keeps s0 s) :
    Keeps s0 (State.updNode s i l) := by
  unfold State.updNode
  repeat' first
    | with_reducible assumption
    | intro _
    | with_reducible apply keeps_ite
    | with_reducible apply keeps_ite_pair
    | with_reducible apply State.setWinField_keeps
    | with_reducible apply State.setWinByte_keeps
    | with_reducible apply State.journalUpdate_keeps
    | fail_if_no_progress with_reducible apply keeps_upd
    | with_reducible apply keeps_foldl
    | with_reducible apply keeps_foldl_pair
    | dsimp only
    | split
    | refine keeps_of_eq (by with_reducible assumption) ?_

theorem State.updEp_keeps {s0 : State} (s : State) (e : ℕ) (l : List (ℕ × ℕ × ℕ)) (h : Keeps s0 s) :
    Keeps s0 (State.updEp s e l) := by
  unfold State.updEp
  repeat' first
    | with_reducible assumption
    | intro _
    | with_reducible apply keeps_ite
    | with_reducible apply keeps_ite_pair
    | with_reducible apply State.setWinField_keeps
    | with_reducible apply State.setWinByte_keeps
    | with_reducible apply State.journalUpdate_keeps
    | fail_if_no_progress with_reducible apply keeps_upd
    | with_reducible apply keeps_foldl
    | with_reducible apply keeps_foldl_pair
    | dsimp only
    | split
    | refine keeps_of_eq (by with_reducible assumption) ?_

theorem State.modMacNode_keeps {s0 : State} (s : State) (i : ℕ) (f : MacNode → MacNode) (h : Keeps s0 s) :
    Keeps s0 (State.modMacNode s i f) := by
  unfold State.modMacNode
  repeat' first
    | with_reducible assumption
    | intro _
    | with_reducible apply keeps_ite
    | with_reducible apply keeps_ite_pair
    | fail_if_no_progress with_reducible apply keeps_upd
    | with_reducible apply keeps_foldl
    | with_reducible apply keeps_foldl_pair
    | dsimp only
    | split
    | refine keeps_of_eq (by with_reducible assumption) ?_

theorem State.modMac_keeps {s0 : State} (s : State) (f : ℕ) (g : Mac → Mac) (h : Keeps s0 s) :
    Keeps s0 (State.modMac s f g) := by
  unfold State.modMac
  repeat' first
    | with_reducible assumption
    | intro _
    | with_reducible apply keeps_ite
    | with_reducible apply keeps_ite_pair
    | fail_if_no_progress with_reducible apply keeps_upd
    | with_reducible apply keeps_foldl
    | with_reducible apply keeps_foldl_pair
    | dsimp only
    | split
    | refine keeps_of_eq (by with_reducible assumption) ?_

theorem State.fmaEvent_keeps {s0 : State} (s : State) (f : ℕ) (b : ℕ) (h : Keeps s0 s) :
    Keeps s0 (State.fmaEvent s f b) := by
  unfold State.fmaEvent
  repeat' first
    | with_reducible assumption
    | intro _
    | with_reducible apply keeps_ite
    | with_reducible apply keeps_ite_pair
    | with_reducible apply State.setRbit_keeps
    | with_reducible apply State.raise_keeps
    | fail_if_no_progress with_reducible apply keeps_upd
    | with_reducible apply keeps_foldl
    | with_reducible apply keeps_foldl_pair
    | dsimp only
    | split
    | refine keeps_of_eq (by with_reducible assumption) ?_

theorem State.report_keeps {s0 : State} (s : State) (r : MacReport) (h : Keeps s0 s) :
    Keeps s0 (State.report s r) := by
  unfold State.report
  repeat' first
    | with_reducible assumption
    | intro _
    | with_reducible apply keeps_ite
    | with_reducible apply keeps_ite_pair
    | fail_if_no_progress with_reducible apply keeps_upd
    | with_reducible apply keeps_foldl
    | with_reducible apply keeps_foldl_pair
    | dsimp only
    | split
    | refine keeps_of_eq (by with_reducible assumption) ?_

theorem State.presence_keeps {s0 : State} (s : State) (e : LampEvent) (h : Keeps s0 s) :
    Keeps s0 (State.presence s e) := by
  unfold State.presence
  repeat' first
    | with_reducible assumption
    | intro _
    | with_reducible apply keeps_ite
    | with_reducible apply keeps_ite_pair
    | fail_if_no_progress with_reducible apply keeps_upd
    | with_reducible apply keeps_foldl
    | with_reducible apply keeps_foldl_pair
    | dsimp only
    | split
    | refine keeps_of_eq (by with_reducible assumption) ?_

theorem State.failFrame_keeps {s0 : State} (s : State) (m : MacFrame) (h : Keeps s0 s) :
    Keeps s0 (State.failFrame s m) := by
  unfold State.failFrame
  repeat' first
    | with_reducible assumption
    | intro _
    | with_reducible apply keeps_ite
    | with_reducible apply keeps_ite_pair
    | with_reducible apply State.report_keeps
    | fail_if_no_progress with_reducible apply keeps_upd
    | with_reducible apply keeps_foldl
    | with_reducible apply keeps_foldl_pair
    | dsimp only
    | split
    | refine keeps_of_eq (by with_reducible assumption) ?_

theorem State.failNode_keeps {s0 : State} (s : State) (f : ℕ) (i : ℕ) (h : Keeps s0 s) :
    Keeps s0 (State.failNode s f i) := by
  unfold State.failNode
  repeat' first
    | with_reducible assumption
    | intro _
    | with_reducible apply keeps_ite
    | with_reducible apply keeps_ite_pair
    | with_reducible apply State.failFrame_keeps
    | with_reducible apply State.modMac_keeps
    | fail_if_no_progress with_reducible apply keeps_upd
    | with_reducible apply keeps_foldl
    | with_reducible apply keeps_foldl_pair
    | dsimp only
    | split
    | refine keeps_of_eq (by with_reducible assumption) ?_

theorem State.macSend_keeps {s0 : State} (s : State) (f : ℕ) (x2 : MacFrame) (h : Keeps s0 s) :
    Keeps s0 (State.macSend s f x2) := by
  unfold State.macSend
  repeat' first
    | with_reducible assumption
    | intro _
    | with_reducible apply keeps_ite
    | with_reducible apply keeps_ite_pair
    | with_reducible apply State.modMac_keeps
    | fail_if_no_progress with_reducible apply keeps_upd
    | with_reducible apply keeps_foldl
    | with_reducible apply keeps_foldl_pair
    | dsimp only
    | split
    | refine keeps_of_eq (by with_reducible assumption) ?_

theorem State.macMgmt_keeps {s0 : State} (s : State) (f : ℕ) (i : ℕ) (sub : ℕ) (body : List Byte) (h : Keeps s0 s) :
    Keeps s0 (State.macMgmt s f i sub body) := by
  unfold State.macMgmt
  repeat' first
    | with_reducible assumption
    | intro _
    | with_reducible apply keeps_ite
    | with_reducible apply keeps_ite_pair
    | with_reducible apply State.macSend_keeps
    | fail_if_no_progress with_reducible apply keeps_upd
    | with_reducible apply keeps_foldl
    | with_reducible apply keeps_foldl_pair
    | dsimp only
    | split
    | refine keeps_of_eq (by with_reducible assumption) ?_

theorem State.markChildren_keeps {s0 : State} (s : State) (f : ℕ) (h : Keeps s0 s) :
    Keeps s0 (State.markChildren s f) := by
  unfold State.markChildren
  repeat' first
    | with_reducible assumption
    | intro _
    | with_reducible apply keeps_ite
    | with_reducible apply keeps_ite_pair
    | with_reducible apply State.updNode_keeps
    | fail_if_no_progress with_reducible apply keeps_upd
    | with_reducible apply keeps_foldl
    | with_reducible apply keeps_foldl_pair
    | dsimp only
    | split
    | refine keeps_of_eq (by with_reducible assumption) ?_

theorem State.maskAck_keeps {s0 : State} (s : State) (f : ℕ) (i : ℕ) (h : Keeps s0 s) :
    Keeps s0 (State.maskAck s f i) := by
  unfold State.maskAck
  repeat' first
    | with_reducible assumption
    | intro _
    | with_reducible apply keeps_ite
    | with_reducible apply keeps_ite_pair
    | with_reducible apply State.setFld_keeps
    | with_reducible apply State.modMac_keeps
    | fail_if_no_progress with_reducible apply keeps_upd
    | with_reducible apply keeps_foldl
    | with_reducible apply keeps_foldl_pair
    | dsimp only
    | split
    | refine keeps_of_eq (by with_reducible assumption) ?_

theorem State.clearWin_keeps {s0 : State} (s : State) (a : ℕ) (n : ℕ) (h : Keeps s0 s) :
    Keeps s0 (State.clearWin s a n) := by
  unfold State.clearWin
  repeat' first
    | with_reducible assumption
    | intro _
    | with_reducible apply keeps_ite
    | with_reducible apply keeps_ite_pair
    | with_reducible apply keeps_dropReg
    | with_reducible apply keeps_dropWin
    | with_reducible apply keeps_dropMem
    | with_reducible apply keeps_lostStores
    | fail_if_no_progress with_reducible apply keeps_upd
    | with_reducible apply keeps_foldl
    | with_reducible apply keeps_foldl_pair
    | dsimp only
    | split
    | refine keeps_of_eq (by with_reducible assumption) ?_

theorem State.freeEp_keeps {s0 : State} (s : State) (e : ℕ) (h : Keeps s0 s) :
    Keeps s0 (State.freeEp s e) := by
  unfold State.freeEp
  repeat' first
    | with_reducible assumption
    | intro _
    | with_reducible apply keeps_ite
    | with_reducible apply keeps_ite_pair
    | with_reducible apply State.clearWin_keeps
    | with_reducible apply State.journalUpdate_keeps
    | fail_if_no_progress with_reducible apply keeps_upd
    | with_reducible apply keeps_foldl
    | with_reducible apply keeps_foldl_pair
    | dsimp only
    | split
    | refine keeps_of_eq (by with_reducible assumption) ?_

theorem State.freeEps_keeps {s0 : State} (s : State) (i : ℕ) (h : Keeps s0 s) :
    Keeps s0 (State.freeEps s i) := by
  unfold State.freeEps
  repeat' first
    | with_reducible assumption
    | intro _
    | with_reducible apply keeps_ite
    | with_reducible apply keeps_ite_pair
    | with_reducible apply State.freeEp_keeps
    | fail_if_no_progress with_reducible apply keeps_upd
    | with_reducible apply keeps_foldl
    | with_reducible apply keeps_foldl_pair
    | dsimp only
    | split
    | refine keeps_of_eq (by with_reducible assumption) ?_

theorem State.freeNode_keeps {s0 : State} (s : State) (i : ℕ) (h : Keeps s0 s) :
    Keeps s0 (State.freeNode s i) := by
  unfold State.freeNode
  repeat' first
    | with_reducible assumption
    | intro _
    | with_reducible apply keeps_ite
    | with_reducible apply keeps_ite_pair
    | with_reducible apply State.freeEps_keeps
    | with_reducible apply State.failNode_keeps
    | with_reducible apply State.clearWin_keeps
    | with_reducible apply State.journalUpdate_keeps
    | with_reducible apply State.modKvt_keeps
    | with_reducible apply State.markChildren_keeps
    | with_reducible apply State.maskAck_keeps
    | fail_if_no_progress with_reducible apply keeps_upd
    | with_reducible apply keeps_foldl
    | with_reducible apply keeps_foldl_pair
    | dsimp only
    | split
    | refine keeps_of_eq (by with_reducible assumption) ?_

theorem State.loseNode_keeps {s0 : State} (s : State) (i : ℕ) (h : Keeps s0 s) :
    Keeps s0 (State.loseNode s i) := by
  unfold State.loseNode
  repeat' first
    | with_reducible assumption
    | intro _
    | with_reducible apply keeps_ite
    | with_reducible apply keeps_ite_pair
    | with_reducible apply State.fmaEvent_keeps
    | with_reducible apply State.updNode_keeps
    | with_reducible apply State.markChildren_keeps
    | with_reducible apply State.maskAck_keeps
    | with_reducible apply State.failNode_keeps
    | with_reducible apply State.log_keeps
    | fail_if_no_progress with_reducible apply keeps_upd
    | with_reducible apply keeps_foldl
    | with_reducible apply keeps_foldl_pair
    | dsimp only
    | split
    | refine keeps_of_eq (by with_reducible assumption) ?_

theorem State.leaveNode_keeps {s0 : State} (s : State) (i : ℕ) (h : Keeps s0 s) :
    Keeps s0 (State.leaveNode s i) := by
  unfold State.leaveNode
  repeat' first
    | with_reducible assumption
    | intro _
    | with_reducible apply keeps_ite
    | with_reducible apply keeps_ite_pair
    | with_reducible apply State.macMgmt_keeps
    | with_reducible apply State.markChildren_keeps
    | with_reducible apply State.maskAck_keeps
    | with_reducible apply State.failNode_keeps
    | with_reducible apply State.updNode_keeps
    | fail_if_no_progress with_reducible apply keeps_upd
    | with_reducible apply keeps_foldl
    | with_reducible apply keeps_foldl_pair
    | dsimp only
    | split
    | refine keeps_of_eq (by with_reducible assumption) ?_

theorem State.evict_keeps {s0 : State} (s : State) (i : ℕ) (h : Keeps s0 s) :
    Keeps s0 (State.evict s i) := by
  unfold State.evict
  repeat' first
    | with_reducible assumption
    | intro _
    | with_reducible apply keeps_ite
    | with_reducible apply keeps_ite_pair
    | with_reducible apply State.raise_keeps
    | with_reducible apply State.fmaEvent_keeps
    | with_reducible apply State.freeNode_keeps
    | with_reducible apply State.log_keeps
    | fail_if_no_progress with_reducible apply keeps_upd
    | with_reducible apply keeps_foldl
    | with_reducible apply keeps_foldl_pair
    | dsimp only
    | split
    | refine keeps_of_eq (by with_reducible assumption) ?_

theorem State.admitUp_keeps {s0 : State} (s : State) (f : ℕ) (e : ℕ) (n : ℕ) (h : Keeps s0 s) :
    Keeps s0 (State.admitUp s f e n).1 := by
  unfold State.admitUp
  repeat' first
    | with_reducible assumption
    | intro _
    | with_reducible apply keeps_ite
    | with_reducible apply keeps_ite_pair
    | with_reducible apply State.updEp_keeps
    | with_reducible apply State.fmaEvent_keeps
    | fail_if_no_progress with_reducible apply keeps_upd
    | with_reducible apply keeps_foldl
    | with_reducible apply keeps_foldl_pair
    | dsimp only
    | split
    | refine keeps_of_eq (by with_reducible assumption) ?_

theorem State.holdDown_keeps {s0 : State} (s : State) (h_ : HeldElem) (h : Keeps s0 s) :
    Keeps s0 (State.holdDown s h_) := by
  unfold State.holdDown
  repeat' first
    | with_reducible assumption
    | intro _
    | with_reducible apply keeps_ite
    | with_reducible apply keeps_ite_pair
    | with_reducible apply State.fmaEvent_keeps
    | with_reducible apply State.updEp_keeps
    | fail_if_no_progress with_reducible apply keeps_upd
    | with_reducible apply keeps_foldl
    | with_reducible apply keeps_foldl_pair
    | dsimp only
    | split
    | refine keeps_of_eq (by with_reducible assumption) ?_

theorem State.refill_keeps {s0 : State} (s : State) (e : ℕ) (h : Keeps s0 s) :
    Keeps s0 (State.refill s e) := by
  unfold State.refill
  repeat' first
    | with_reducible assumption
    | intro _
    | with_reducible apply keeps_ite
    | with_reducible apply keeps_ite_pair
    | with_reducible apply State.updEp_keeps
    | fail_if_no_progress with_reducible apply keeps_upd
    | with_reducible apply keeps_foldl
    | with_reducible apply keeps_foldl_pair
    | dsimp only
    | split
    | refine keeps_of_eq (by with_reducible assumption) ?_

theorem w2Eff_keeps {s0 : State} (a : ℕ) (v : Word) (s : State) (h : Keeps s0 s) :
    Keeps s0 (w2Eff a v s).1 := by
  unfold w2Eff
  repeat' first
    | with_reducible assumption
    | intro _
    | with_reducible apply keeps_ite
    | with_reducible apply keeps_ite_pair
    | with_reducible apply State.setWinByte_keeps
    | with_reducible apply State.leaveNode_keeps
    | fail_if_no_progress with_reducible apply keeps_upd
    | with_reducible apply keeps_foldl
    | with_reducible apply keeps_foldl_pair
    | dsimp only
    | split
    | refine keeps_of_eq (by with_reducible assumption) ?_

theorem State.sendBudget_keeps {s0 : State} (s : State) (e : ℕ) (h : Keeps s0 s) :
    Keeps s0 (State.sendBudget s e) := by
  unfold State.sendBudget
  repeat' first
    | with_reducible assumption
    | intro _
    | with_reducible apply keeps_ite
    | with_reducible apply keeps_ite_pair
    | with_reducible apply State.updEp_keeps
    | with_reducible apply State.macMgmt_keeps
    | fail_if_no_progress with_reducible apply keeps_upd
    | with_reducible apply keeps_foldl
    | with_reducible apply keeps_foldl_pair
    | dsimp only
    | split
    | refine keeps_of_eq (by with_reducible assumption) ?_

theorem w3Eff_keeps {s0 : State} (a : ℕ) (v : Word) (s : State) (h : Keeps s0 s) :
    Keeps s0 (w3Eff a v s).1 := by
  unfold w3Eff
  repeat' first
    | with_reducible assumption
    | intro _
    | with_reducible apply keeps_ite
    | with_reducible apply keeps_ite_pair
    | with_reducible apply State.sendBudget_keeps
    | with_reducible apply State.setWin_keeps
    | with_reducible apply State.setWinField_keeps
    | fail_if_no_progress with_reducible apply keeps_upd
    | with_reducible apply keeps_foldl
    | with_reducible apply keeps_foldl_pair
    | dsimp only
    | split
    | refine keeps_of_eq (by with_reducible assumption) ?_

theorem ntbCmdEff_keeps {s0 : State} (v : Word) (s : State) (h : Keeps s0 s) :
    Keeps s0 (ntbCmdEff v s).1 := by
  unfold ntbCmdEff
  repeat' first
    | with_reducible assumption
    | intro _
    | with_reducible apply keeps_ite
    | with_reducible apply keeps_ite_pair
    | with_reducible apply State.raise_keeps
    | with_reducible apply State.setReg_keeps
    | with_reducible apply State.macMgmt_keeps
    | with_reducible apply State.freeNode_keeps
    | with_reducible apply State.leaveNode_keeps
    | fail_if_no_progress with_reducible apply keeps_upd
    | with_reducible apply keeps_foldl
    | with_reducible apply keeps_foldl_pair
    | dsimp only
    | split
    | refine keeps_of_eq (by with_reducible assumption) ?_

theorem ntbEff_keeps {s0 : State} (req : ℕ) (a : ℕ) (v : Word) (s : State) (h : Keeps s0 s) :
    Keeps s0 (ntbEff req a v s).1 := by
  unfold ntbEff
  repeat' first
    | with_reducible assumption
    | intro _
    | with_reducible apply keeps_ite
    | with_reducible apply keeps_ite_pair
    | with_reducible apply State.resetPageRegs_keeps
    | with_reducible apply ntbCmdEff_keeps
    | with_reducible apply State.loadPair_keeps
    | with_reducible apply State.plainWrite_keeps
    | fail_if_no_progress with_reducible apply keeps_upd
    | with_reducible apply keeps_foldl
    | with_reducible apply keeps_foldl_pair
    | dsimp only
    | split
    | refine keeps_of_eq (by with_reducible assumption) ?_

end Sys2Proof.Machine
end

