-- ==== Sys2Proof/Laws/KeepMac.lean ====
section
/-!
SUPPORT. What the operations of Machine/Mac.lean keep: the queue, and the canonical form of the stores.
-/

namespace Sys2Proof.Machine

theorem State.takeFcnt_keeps {s0 : State} (s : State) (f : ℕ) (key : ℕ) (i : ℕ) (h : Keeps s0 s) :
    Keeps s0 (State.takeFcnt s f key i).1 := by
  unfold State.takeFcnt
  repeat' first
    | with_reducible assumption
    | intro _
    | with_reducible apply keeps_ite
    | with_reducible apply keeps_ite_pair
    | with_reducible apply State.modMacNode_keeps
    | with_reducible apply State.modMac_keeps
    | fail_if_no_progress with_reducible apply keeps_upd
    | with_reducible apply keeps_foldl
    | with_reducible apply keeps_foldl_pair
    | dsimp only
    | split
    | refine keeps_of_eq (by with_reducible assumption) ?_

theorem State.addChain_keeps {s0 : State} (s : State) (f : ℕ) (l : List Alloc) (at_ : ℕ) (h : Keeps s0 s) :
    ∀ t, State.addChain s f l at_ = some t → Keeps s0 t := by
  unfold State.addChain
  intro t e
  dsimp only at e
  split at e
  · obtain rfl := Option.some.inj e; exact State.modMac_keeps _ _ _ h
  · simp at e

theorem State.enqueueTx_keeps {s0 : State} (s : State) (f : ℕ) (r : TxReq) (h : Keeps s0 s) :
    Keeps s0 (State.enqueueTx s f r) := by
  unfold State.enqueueTx
  repeat' first
    | with_reducible assumption
    | intro _
    | with_reducible apply keeps_ite
    | with_reducible apply keeps_ite_pair
    | with_reducible apply State.modModem_keeps
    | fail_if_no_progress with_reducible apply keeps_upd
    | with_reducible apply keeps_foldl
    | with_reducible apply keeps_foldl_pair
    | dsimp only
    | split
    | refine keeps_of_eq (by with_reducible assumption) ?_

theorem State.placeFrame_keeps {s0 : State} (s : State) (f : ℕ) (x2 : MacFrame) (h : Keeps s0 s) :
    Keeps s0 (State.placeFrame s f x2) := by
  unfold State.placeFrame
  repeat' first
    | with_reducible assumption
    | intro _
    | with_reducible apply keeps_ite
    | with_reducible apply keeps_ite_pair
    | with_reducible apply State.takeFcnt_keeps
    | with_reducible apply State.enqueueTx_keeps
    | with_reducible apply State.modMac_keeps
    | fail_if_no_progress with_reducible apply keeps_upd
    | with_reducible apply keeps_foldl
    | with_reducible apply keeps_foldl_pair
    | (refine keeps_opt (by with_reducible assumption) ?_; with_reducible apply State.addChain_keeps)
    | dsimp only
    | split
    | refine keeps_of_eq (by with_reducible assumption) ?_

theorem State.grant_keeps {s0 : State} (s : State) (f : ℕ) (i : ℕ) (n : ℕ) (h : Keeps s0 s) :
    Keeps s0 (State.grant s f i n) := by
  unfold State.grant
  repeat' first
    | with_reducible assumption
    | intro _
    | with_reducible apply keeps_ite
    | with_reducible apply keeps_ite_pair
    | with_reducible apply State.modMacNode_keeps
    | fail_if_no_progress with_reducible apply keeps_upd
    | with_reducible apply keeps_foldl
    | with_reducible apply keeps_foldl_pair
    | (refine keeps_opt (by with_reducible assumption) ?_; with_reducible apply State.addChain_keeps)
    | dsimp only
    | split
    | refine keeps_of_eq (by with_reducible assumption) ?_

theorem State.grantJoin_keeps {s0 : State} (s : State) (f : ℕ) (x2 : JoinSession) (h : Keeps s0 s) :
    Keeps s0 (State.grantJoin s f x2) := by
  unfold State.grantJoin
  repeat' first
    | with_reducible assumption
    | intro _
    | with_reducible apply keeps_ite
    | with_reducible apply keeps_ite_pair
    | fail_if_no_progress with_reducible apply keeps_upd
    | with_reducible apply keeps_foldl
    | with_reducible apply keeps_foldl_pair
    | (refine keeps_opt (by with_reducible assumption) ?_; with_reducible apply State.addChain_keeps)
    | dsimp only
    | split
    | refine keeps_of_eq (by with_reducible assumption) ?_

theorem State.payloadFrame_keeps {s0 : State} (s : State) (f : ℕ) (e : ℕ) (h_ : HeldElem) (h : Keeps s0 s) :
    Keeps s0 (State.payloadFrame s f e h_) := by
  unfold State.payloadFrame
  repeat' first
    | with_reducible assumption
    | intro _
    | with_reducible apply keeps_ite
    | with_reducible apply keeps_ite_pair
    | with_reducible apply State.updEp_keeps
    | with_reducible apply State.macSend_keeps
    | fail_if_no_progress with_reducible apply keeps_upd
    | with_reducible apply keeps_foldl
    | with_reducible apply keeps_foldl_pair
    | dsimp only
    | split
    | refine keeps_of_eq (by with_reducible assumption) ?_

theorem State.servePayload_keeps {s0 : State} (s : State) (f : ℕ) (e : ℕ) (h : Keeps s0 s) :
    ∀ t, State.servePayload s f e = some t → Keeps s0 t := by
  unfold State.servePayload
  intro t e_
  split at e_
  · simp at e_
  · dsimp only at e_
    split at e_
    · simp at e_
    · split at e_
      · obtain rfl := Option.some.inj e_
        exact State.modMac_keeps _ _ _ (State.placeFrame_keeps _ _ _ (State.payloadFrame_keeps _ _ _ _ h))
      · simp at e_

theorem State.serveAll_keeps {s0 : State} (s : State) (f : ℕ) (n : ℕ) (h : Keeps s0 s) :
    Keeps s0 (State.serveAll s f n) := by
  fun_induction State.serveAll s f n
  all_goals
    repeat' first
      | with_reducible assumption
      | intro _
      | with_reducible apply keeps_ite
      | with_reducible apply keeps_ite_pair
      | fail_if_no_progress with_reducible apply keeps_upd
      | with_reducible apply keeps_foldl
      | with_reducible apply keeps_foldl_pair
      | apply_assumption
      | (refine keeps_opt (by with_reducible assumption) ?_; with_reducible apply State.servePayload_keeps)
      | dsimp only
      | split
      | refine keeps_of_eq (by with_reducible assumption) ?_

theorem State.setCruise_keeps {s0 : State} (s : State) (f : ℕ) (st : ℕ) (h : Keeps s0 s) :
    Keeps s0 (State.setCruise s f st) := by
  unfold State.setCruise
  repeat' first
    | with_reducible assumption
    | intro _
    | with_reducible apply keeps_ite
    | with_reducible apply keeps_ite_pair
    | with_reducible apply State.setFld_keeps
    | fail_if_no_progress with_reducible apply keeps_upd
    | with_reducible apply keeps_foldl
    | with_reducible apply keeps_foldl_pair
    | dsimp only
    | split
    | refine keeps_of_eq (by with_reducible assumption) ?_

theorem State.modCruise_keeps {s0 : State} (s : State) (f : ℕ) (g : Cruise → Cruise) (h : Keeps s0 s) :
    Keeps s0 (State.modCruise s f g) := by
  unfold State.modCruise
  repeat' first
    | with_reducible assumption
    | intro _
    | with_reducible apply keeps_ite
    | with_reducible apply keeps_ite_pair
    | with_reducible apply State.modMac_keeps
    | fail_if_no_progress with_reducible apply keeps_upd
    | with_reducible apply keeps_foldl
    | with_reducible apply keeps_foldl_pair
    | dsimp only
    | split
    | refine keeps_of_eq (by with_reducible assumption) ?_

theorem State.probeAlloc_keeps {s0 : State} (s : State) (f : ℕ) (node : Option ℕ) (h : Keeps s0 s) :
    Keeps s0 (State.probeAlloc s f node) := by
  unfold State.probeAlloc
  repeat' first
    | with_reducible assumption
    | intro _
    | with_reducible apply keeps_ite
    | with_reducible apply keeps_ite_pair
    | with_reducible apply State.modCruise_keeps
    | with_reducible apply State.takeFcnt_keeps
    | with_reducible apply State.enqueueTx_keeps
    | fail_if_no_progress with_reducible apply keeps_upd
    | with_reducible apply keeps_foldl
    | with_reducible apply keeps_foldl_pair
    | (refine keeps_opt (by with_reducible assumption) ?_; with_reducible apply State.addChain_keeps)
    | dsimp only
    | split
    | refine keeps_of_eq (by with_reducible assumption) ?_

theorem State.cruiseCycle_keeps {s0 : State} (s : State) (f : ℕ) (h : Keeps s0 s) :
    Keeps s0 (State.cruiseCycle s f) := by
  unfold State.cruiseCycle
  repeat' first
    | with_reducible assumption
    | intro _
    | with_reducible apply keeps_ite
    | with_reducible apply keeps_ite_pair
    | with_reducible apply State.probeAlloc_keeps
    | with_reducible apply State.setCruise_keeps
    | with_reducible apply State.grant_keeps
    | fail_if_no_progress with_reducible apply keeps_upd
    | with_reducible apply keeps_foldl
    | with_reducible apply keeps_foldl_pair
    | dsimp only
    | split
    | refine keeps_of_eq (by with_reducible assumption) ?_

theorem State.sendMaps_keeps {s0 : State} (s : State) (f : ℕ) (h : Keeps s0 s) :
    Keeps s0 (State.sendMaps s f) := by
  unfold State.sendMaps
  repeat' first
    | with_reducible assumption
    | intro _
    | with_reducible apply keeps_ite
    | with_reducible apply keeps_ite_pair
    | with_reducible apply State.macMgmt_keeps
    | with_reducible apply State.modModem_keeps
    | fail_if_no_progress with_reducible apply keeps_upd
    | with_reducible apply keeps_foldl
    | with_reducible apply keeps_foldl_pair
    | dsimp only
    | split
    | refine keeps_of_eq (by with_reducible assumption) ?_

theorem State.freePending_keeps {s0 : State} (s : State) (f : ℕ) (h : Keeps s0 s) :
    Keeps s0 (State.freePending s f) := by
  unfold State.freePending
  repeat' first
    | with_reducible assumption
    | intro _
    | with_reducible apply keeps_ite
    | with_reducible apply keeps_ite_pair
    | with_reducible apply State.freeNode_keeps
    | with_reducible apply State.raise_keeps
    | with_reducible apply State.setReg_keeps
    | fail_if_no_progress with_reducible apply keeps_upd
    | with_reducible apply keeps_foldl
    | with_reducible apply keeps_foldl_pair
    | dsimp only
    | split
    | refine keeps_of_eq (by with_reducible assumption) ?_

theorem State.macCycle_keeps {s0 : State} (s : State) (f : ℕ) (h : Keeps s0 s) :
    Keeps s0 (State.macCycle s f) := by
  unfold State.macCycle
  repeat' first
    | with_reducible assumption
    | intro _
    | with_reducible apply keeps_ite
    | with_reducible apply keeps_ite_pair
    | with_reducible apply State.sendMaps_keeps
    | with_reducible apply State.modMac_keeps
    | with_reducible apply State.placeFrame_keeps
    | with_reducible apply State.freePending_keeps
    | with_reducible apply State.grantJoin_keeps
    | with_reducible apply State.cruiseCycle_keeps
    | with_reducible apply State.grant_keeps
    | with_reducible apply State.serveAll_keeps
    | with_reducible apply State.setReg_keeps
    | fail_if_no_progress with_reducible apply keeps_upd
    | with_reducible apply keeps_foldl
    | with_reducible apply keeps_foldl_pair
    | dsimp only
    | split
    | refine keeps_of_eq (by with_reducible assumption) ?_

theorem State.beacon_keeps {s0 : State} (s : State) (f : ℕ) (h : Keeps s0 s) :
    Keeps s0 (State.beacon s f) := by
  unfold State.beacon
  repeat' first
    | with_reducible assumption
    | intro _
    | with_reducible apply keeps_ite
    | with_reducible apply keeps_ite_pair
    | with_reducible apply State.takeFcnt_keeps
    | with_reducible apply State.enqueueTx_keeps
    | fail_if_no_progress with_reducible apply keeps_upd
    | with_reducible apply keeps_foldl
    | with_reducible apply keeps_foldl_pair
    | dsimp only
    | split
    | refine keeps_of_eq (by with_reducible assumption) ?_

theorem State.popRx_keeps {s0 : State} (s : State) (f : ℕ) (h : Keeps s0 s) :
    Keeps s0 (State.popRx s f) := by
  unfold State.popRx
  repeat' first
    | with_reducible assumption
    | intro _
    | with_reducible apply keeps_ite
    | with_reducible apply keeps_ite_pair
    | with_reducible apply State.modModem_keeps
    | fail_if_no_progress with_reducible apply keeps_upd
    | with_reducible apply keeps_foldl
    | with_reducible apply keeps_foldl_pair
    | dsimp only
    | split
    | refine keeps_of_eq (by with_reducible assumption) ?_

theorem State.heardFrom_keeps {s0 : State} (s : State) (f : ℕ) (i : ℕ) (r : RxFrame) (h : Keeps s0 s) :
    Keeps s0 (State.heardFrom s f i r) := by
  unfold State.heardFrom
  repeat' first
    | with_reducible assumption
    | intro _
    | with_reducible apply keeps_ite
    | with_reducible apply keeps_ite_pair
    | with_reducible apply State.updNode_keeps
    | with_reducible apply State.incLo_keeps
    | with_reducible apply State.modMacNode_keeps
    | fail_if_no_progress with_reducible apply keeps_upd
    | with_reducible apply keeps_foldl
    | with_reducible apply keeps_foldl_pair
    | dsimp only
    | split
    | refine keeps_of_eq (by with_reducible assumption) ?_

theorem State.elemTelemetry_keeps {s0 : State} (s : State) (f : ℕ) (addr : ℕ) (ep : ℕ) (cls : ℕ) (b : List Byte) (h : Keeps s0 s) :
    Keeps s0 (State.elemTelemetry s f addr ep cls b) := by
  unfold State.elemTelemetry
  repeat' first
    | with_reducible assumption
    | intro _
    | with_reducible apply keeps_ite
    | with_reducible apply keeps_ite_pair
    | with_reducible apply State.telemetry_keeps
    | fail_if_no_progress with_reducible apply keeps_upd
    | with_reducible apply keeps_foldl
    | with_reducible apply keeps_foldl_pair
    | dsimp only
    | split
    | refine keeps_of_eq (by with_reducible assumption) ?_

theorem State.cmdAck_keeps {s0 : State} (s : State) (f : ℕ) (i : ℕ) (ep : ℕ) (b : List Byte) (h : Keeps s0 s) :
    Keeps s0 (State.cmdAck s f i ep b) := by
  unfold State.cmdAck
  repeat' first
    | with_reducible assumption
    | intro _
    | with_reducible apply keeps_ite
    | with_reducible apply keeps_ite_pair
    | with_reducible apply State.modMacNode_keeps
    | with_reducible apply State.modMac_keeps
    | with_reducible apply State.updNode_keeps
    | with_reducible apply State.report_keeps
    | with_reducible apply State.updEp_keeps
    | fail_if_no_progress with_reducible apply keeps_upd
    | with_reducible apply keeps_foldl
    | with_reducible apply keeps_foldl_pair
    | dsimp only
    | split
    | refine keeps_of_eq (by with_reducible assumption) ?_

theorem State.routeAck_keeps {s0 : State} (s : State) (f : ℕ) (i : ℕ) (h : Keeps s0 s) :
    Keeps s0 (State.routeAck s f i) := by
  unfold State.routeAck
  repeat' first
    | with_reducible assumption
    | intro _
    | with_reducible apply keeps_ite
    | with_reducible apply keeps_ite_pair
    | with_reducible apply State.modCruise_keeps
    | fail_if_no_progress with_reducible apply keeps_upd
    | with_reducible apply keeps_foldl
    | with_reducible apply keeps_foldl_pair
    | dsimp only
    | split
    | refine keeps_of_eq (by with_reducible assumption) ?_

theorem State.neighbours_keeps {s0 : State} (s : State) (f : ℕ) (i : ℕ) (b : List Byte) (h : Keeps s0 s) :
    Keeps s0 (State.neighbours s f i b) := by
  unfold State.neighbours
  repeat' first
    | with_reducible assumption
    | intro _
    | with_reducible apply keeps_ite
    | with_reducible apply keeps_ite_pair
    | with_reducible apply State.updNode_keeps
    | with_reducible apply State.modCruise_keeps
    | fail_if_no_progress with_reducible apply keeps_upd
    | with_reducible apply keeps_foldl
    | with_reducible apply keeps_foldl_pair
    | dsimp only
    | split
    | refine keeps_of_eq (by with_reducible assumption) ?_

theorem State.installMap_keeps {s0 : State} (s : State) (f : ℕ) (i : ℕ) (b : List Byte) (h : Keeps s0 s) :
    Keeps s0 (State.installMap s f i b) := by
  unfold State.installMap
  repeat' first
    | with_reducible assumption
    | intro _
    | with_reducible apply keeps_ite
    | with_reducible apply keeps_ite_pair
    | with_reducible apply State.takeSlot_keeps
    | with_reducible apply State.macMgmt_keeps
    | with_reducible apply State.putSlot_keeps
    | fail_if_no_progress with_reducible apply keeps_upd
    | with_reducible apply keeps_foldl
    | with_reducible apply keeps_foldl_pair
    | dsimp only
    | split
    | refine keeps_of_eq (by with_reducible assumption) ?_

theorem State.mgmt_keeps {s0 : State} (s : State) (f : ℕ) (i : ℕ) (b : List Byte) (h : Keeps s0 s) :
    Keeps s0 (State.mgmt s f i b) := by
  unfold State.mgmt
  repeat' first
    | with_reducible assumption
    | intro _
    | with_reducible apply keeps_ite
    | with_reducible apply keeps_ite_pair
    | with_reducible apply State.installMap_keeps
    | with_reducible apply State.neighbours_keeps
    | with_reducible apply State.maskAck_keeps
    | with_reducible apply State.routeAck_keeps
    | with_reducible apply State.updEp_keeps
    | fail_if_no_progress with_reducible apply keeps_upd
    | with_reducible apply keeps_foldl
    | with_reducible apply keeps_foldl_pair
    | dsimp only
    | split
    | refine keeps_of_eq (by with_reducible assumption) ?_

theorem State.takeElement_keeps {s0 : State} (s : State) (f : ℕ) (i : ℕ) (x3 : ℕ × ℕ × List Byte) (h : Keeps s0 s) :
    Keeps s0 (State.takeElement s f i x3) := by
  unfold State.takeElement
  repeat' first
    | with_reducible assumption
    | intro _
    | with_reducible apply keeps_ite
    | with_reducible apply keeps_ite_pair
    | with_reducible apply State.mgmt_keeps
    | with_reducible apply State.modMacNode_keeps
    | with_reducible apply State.elemTelemetry_keeps
    | with_reducible apply State.cmdAck_keeps
    | with_reducible apply State.admitUp_keeps
    | with_reducible apply State.presence_keeps
    | fail_if_no_progress with_reducible apply keeps_upd
    | with_reducible apply keeps_foldl
    | with_reducible apply keeps_foldl_pair
    | dsimp only
    | split
    | refine keeps_of_eq (by with_reducible assumption) ?_

theorem State.sendAck_keeps {s0 : State} (s : State) (f : ℕ) (r : RxFrame) (good : Bool) (h : Keeps s0 s) :
    Keeps s0 (State.sendAck s f r good) := by
  unfold State.sendAck
  repeat' first
    | with_reducible assumption
    | intro _
    | with_reducible apply keeps_ite
    | with_reducible apply keeps_ite_pair
    | with_reducible apply State.takeFcnt_keeps
    | with_reducible apply State.enqueueTx_keeps
    | fail_if_no_progress with_reducible apply keeps_upd
    | with_reducible apply keeps_foldl
    | with_reducible apply keeps_foldl_pair
    | dsimp only
    | split
    | refine keeps_of_eq (by with_reducible assumption) ?_

theorem State.dataFrame_keeps {s0 : State} (s : State) (f : ℕ) (r : RxFrame) (h : Keeps s0 s) :
    Keeps s0 (State.dataFrame s f r) := by
  unfold State.dataFrame
  repeat' first
    | with_reducible assumption
    | intro _
    | with_reducible apply keeps_ite
    | with_reducible apply keeps_ite_pair
    | with_reducible apply State.sendAck_keeps
    | with_reducible apply State.incHi_keeps
    | with_reducible apply State.takeElement_keeps
    | with_reducible apply State.heardFrom_keeps
    | fail_if_no_progress with_reducible apply keeps_upd
    | with_reducible apply keeps_foldl
    | with_reducible apply keeps_foldl_pair
    | dsimp only
    | split
    | refine keeps_of_eq (by with_reducible assumption) ?_

theorem State.joinRefuse_keeps {s0 : State} (s : State) (f : ℕ) (eui : ℕ) (sponsor : ℕ) (reason : ℕ) (h : Keeps s0 s) :
    Keeps s0 (State.joinRefuse s f eui sponsor reason) := by
  unfold State.joinRefuse
  repeat' first
    | with_reducible assumption
    | intro _
    | with_reducible apply keeps_ite
    | with_reducible apply keeps_ite_pair
    | with_reducible apply State.macSend_keeps
    | with_reducible apply State.fmaEvent_keeps
    | with_reducible apply State.incHi_keeps
    | with_reducible apply State.raise_keeps
    | fail_if_no_progress with_reducible apply keeps_upd
    | with_reducible apply keeps_foldl
    | with_reducible apply keeps_foldl_pair
    | dsimp only
    | split
    | refine keeps_of_eq (by with_reducible assumption) ?_

theorem State.makeRoom_keeps {s0 : State} (s : State) (f : ℕ) (nep : ℕ) (keep : Option ℕ) (n : ℕ) (h : Keeps s0 s) :
    Keeps s0 (State.makeRoom s f nep keep n).1 := by
  fun_induction State.makeRoom s f nep keep n
  all_goals first
    | assumption
    | (rename_i ih; exact ih (State.evict_keeps _ _ h))

theorem State.makeEps_keeps {s0 : State} (s : State) (i : ℕ) (ver : ℕ) (types : List ℕ) (h : Keeps s0 s) :
    Keeps s0 (State.makeEps s i ver types) := by
  unfold State.makeEps
  repeat' first
    | with_reducible assumption
    | intro _
    | with_reducible apply keeps_ite
    | with_reducible apply keeps_ite_pair
    | with_reducible apply State.updEp_keeps
    | with_reducible apply State.updNode_keeps
    | fail_if_no_progress with_reducible apply keeps_upd
    | with_reducible apply keeps_foldl
    | with_reducible apply keeps_foldl_pair
    | dsimp only
    | split
    | refine keeps_of_eq (by with_reducible assumption) ?_

theorem State.joinEntry_keeps {s0 : State} (s : State) (f : ℕ) (ver : ℕ) (snr : ℕ) (q : JoinReq) (old : Option ℕ) (h : Keeps s0 s) :
    Keeps s0 (State.joinEntry s f ver snr q old).1 := by
  unfold State.joinEntry
  repeat' first
    | with_reducible assumption
    | intro _
    | with_reducible apply keeps_ite
    | with_reducible apply keeps_ite_pair
    | with_reducible apply State.freeEps_keeps
    | with_reducible apply State.failNode_keeps
    | with_reducible apply State.updNode_keeps
    | with_reducible apply State.setWinField_keeps
    | with_reducible apply State.makeEps_keeps
    | fail_if_no_progress with_reducible apply keeps_upd
    | with_reducible apply keeps_foldl
    | with_reducible apply keeps_foldl_pair
    | dsimp only
    | split
    | refine keeps_of_eq (by with_reducible assumption) ?_

theorem State.joinReq_keeps {s0 : State} (s : State) (f : ℕ) (snr : ℕ) (b : List Byte) (h : Keeps s0 s) :
    Keeps s0 (State.joinReq s f snr b) := by
  unfold State.joinReq
  repeat' first
    | with_reducible assumption
    | intro _
    | with_reducible apply keeps_ite
    | with_reducible apply keeps_ite_pair
    | with_reducible apply State.modMac_keeps
    | with_reducible apply State.joinRefuse_keeps
    | with_reducible apply State.freeNode_keeps
    | with_reducible apply State.makeRoom_keeps
    | with_reducible apply State.joinEntry_keeps
    | with_reducible apply State.draw_keeps
    | with_reducible apply State.macSend_keeps
    | fail_if_no_progress with_reducible apply keeps_upd
    | with_reducible apply keeps_foldl
    | with_reducible apply keeps_foldl_pair
    | dsimp only
    | split
    | refine keeps_of_eq (by with_reducible assumption) ?_

theorem State.endSession_keeps {s0 : State} (s : State) (f : ℕ) (x2 : JoinSession) (h : Keeps s0 s) :
    Keeps s0 (State.endSession s f x2) := by
  unfold State.endSession
  repeat' first
    | with_reducible assumption
    | intro _
    | with_reducible apply keeps_ite
    | with_reducible apply keeps_ite_pair
    | with_reducible apply State.modMac_keeps
    | with_reducible apply State.freeNode_keeps
    | with_reducible apply State.updNode_keeps
    | fail_if_no_progress with_reducible apply keeps_upd
    | with_reducible apply keeps_foldl
    | with_reducible apply keeps_foldl_pair
    | dsimp only
    | split
    | refine keeps_of_eq (by with_reducible assumption) ?_

theorem State.joinAuth_keeps {s0 : State} (s : State) (f : ℕ) (b : List Byte) (h : Keeps s0 s) :
    Keeps s0 (State.joinAuth s f b) := by
  unfold State.joinAuth
  repeat' first
    | with_reducible assumption
    | intro _
    | with_reducible apply keeps_ite
    | with_reducible apply keeps_ite_pair
    | with_reducible apply State.endSession_keeps
    | with_reducible apply State.joinRefuse_keeps
    | with_reducible apply State.modKvt_keeps
    | with_reducible apply State.updNode_keeps
    | with_reducible apply State.modMacNode_keeps
    | with_reducible apply State.draw_keeps
    | with_reducible apply State.modMac_keeps
    | with_reducible apply State.macSend_keeps
    | fail_if_no_progress with_reducible apply keeps_upd
    | with_reducible apply keeps_foldl
    | with_reducible apply keeps_foldl_pair
    | dsimp only
    | split
    | refine keeps_of_eq (by with_reducible assumption) ?_

theorem State.joinConfirm_keeps {s0 : State} (s : State) (f : ℕ) (x2 : JoinSession) (b : List Byte) (h : Keeps s0 s) :
    Keeps s0 (State.joinConfirm s f x2 b) := by
  unfold State.joinConfirm
  repeat' first
    | with_reducible assumption
    | intro _
    | with_reducible apply keeps_ite
    | with_reducible apply keeps_ite_pair
    | with_reducible apply State.updNode_keeps
    | with_reducible apply State.modMac_keeps
    | with_reducible apply State.modMacNode_keeps
    | with_reducible apply State.fmaEvent_keeps
    | with_reducible apply State.incLo_keeps
    | with_reducible apply State.log_keeps
    | with_reducible apply State.markChildren_keeps
    | fail_if_no_progress with_reducible apply keeps_upd
    | with_reducible apply keeps_foldl
    | with_reducible apply keeps_foldl_pair
    | dsimp only
    | split
    | refine keeps_of_eq (by with_reducible assumption) ?_

theorem State.propose_keeps {s0 : State} (s : State) (f : ℕ) (hops : List (ℕ × ℕ)) (i : ℕ) (h : Keeps s0 s) :
    Keeps s0 (State.propose s f hops i) := by
  unfold State.propose
  repeat' first
    | with_reducible assumption
    | intro _
    | with_reducible apply keeps_ite
    | with_reducible apply keeps_ite_pair
    | with_reducible apply State.updNode_keeps
    | fail_if_no_progress with_reducible apply keeps_upd
    | with_reducible apply keeps_foldl
    | with_reducible apply keeps_foldl_pair
    | dsimp only
    | split
    | refine keeps_of_eq (by with_reducible assumption) ?_

theorem State.writeNeighbours_keeps {s0 : State} (s : State) (f : ℕ) (i : ℕ) (h : Keeps s0 s) :
    Keeps s0 (State.writeNeighbours s f i) := by
  unfold State.writeNeighbours
  repeat' first
    | with_reducible assumption
    | intro _
    | with_reducible apply keeps_ite
    | with_reducible apply keeps_ite_pair
    | with_reducible apply State.updNode_keeps
    | fail_if_no_progress with_reducible apply keeps_upd
    | with_reducible apply keeps_foldl
    | with_reducible apply keeps_foldl_pair
    | dsimp only
    | split
    | refine keeps_of_eq (by with_reducible assumption) ?_

theorem State.cruiseFinish_keeps {s0 : State} (s : State) (f : ℕ) (h : Keeps s0 s) :
    Keeps s0 (State.cruiseFinish s f) := by
  unfold State.cruiseFinish
  repeat' first
    | with_reducible assumption
    | intro _
    | with_reducible apply keeps_ite
    | with_reducible apply keeps_ite_pair
    | with_reducible apply State.propose_keeps
    | with_reducible apply State.writeNeighbours_keeps
    | with_reducible apply State.fmaEvent_keeps
    | with_reducible apply State.setCruise_keeps
    | fail_if_no_progress with_reducible apply keeps_upd
    | with_reducible apply keeps_foldl
    | with_reducible apply keeps_foldl_pair
    | dsimp only
    | split
    | refine keeps_of_eq (by with_reducible assumption) ?_

theorem State.applyRoutes_keeps {s0 : State} (s : State) (f : ℕ) (h : Keeps s0 s) :
    Keeps s0 (State.applyRoutes s f) := by
  unfold State.applyRoutes
  repeat' first
    | with_reducible assumption
    | intro _
    | with_reducible apply keeps_ite
    | with_reducible apply keeps_ite_pair
    | with_reducible apply State.macMgmt_keeps
    | with_reducible apply State.modCruise_keeps
    | with_reducible apply State.setCruise_keeps
    | with_reducible apply State.draw_keeps
    | fail_if_no_progress with_reducible apply keeps_upd
    | with_reducible apply keeps_foldl
    | with_reducible apply keeps_foldl_pair
    | dsimp only
    | split
    | refine keeps_of_eq (by with_reducible assumption) ?_

theorem State.takeRoutes_keeps {s0 : State} (s : State) (f : ℕ) (h : Keeps s0 s) :
    Keeps s0 (State.takeRoutes s f) := by
  unfold State.takeRoutes
  repeat' first
    | with_reducible assumption
    | intro _
    | with_reducible apply keeps_ite
    | with_reducible apply keeps_ite_pair
    | with_reducible apply State.updNode_keeps
    | with_reducible apply State.modCruise_keeps
    | with_reducible apply State.setCruise_keeps
    | with_reducible apply State.markChildren_keeps
    | fail_if_no_progress with_reducible apply keeps_upd
    | with_reducible apply keeps_foldl
    | with_reducible apply keeps_foldl_pair
    | dsimp only
    | split
    | refine keeps_of_eq (by with_reducible assumption) ?_

theorem cruiseEff_keeps {s0 : State} (f : ℕ) (v : Word) (s : State) (h : Keeps s0 s) :
    Keeps s0 (cruiseEff f v s).1 := by
  unfold cruiseEff
  repeat' first
    | with_reducible assumption
    | intro _
    | with_reducible apply keeps_ite
    | with_reducible apply keeps_ite_pair
    | with_reducible apply State.store_keeps
    | with_reducible apply State.setFld_keeps
    | with_reducible apply State.modCruise_keeps
    | with_reducible apply State.setCruise_keeps
    | with_reducible apply State.applyRoutes_keeps
    | fail_if_no_progress with_reducible apply keeps_upd
    | with_reducible apply keeps_foldl
    | with_reducible apply keeps_foldl_pair
    | dsimp only
    | split
    | refine keeps_of_eq (by with_reducible assumption) ?_

theorem maskDistEff_keeps {s0 : State} (f : ℕ) (v : Word) (s : State) (h : Keeps s0 s) :
    Keeps s0 (maskDistEff f v s).1 := by
  unfold maskDistEff
  repeat' first
    | with_reducible assumption
    | intro _
    | with_reducible apply keeps_ite
    | with_reducible apply keeps_ite_pair
    | with_reducible apply State.store_keeps
    | with_reducible apply State.macMgmt_keeps
    | with_reducible apply State.modMac_keeps
    | with_reducible apply State.setFld_keeps
    | with_reducible apply State.setRbit_keeps
    | fail_if_no_progress with_reducible apply keeps_upd
    | with_reducible apply keeps_foldl
    | with_reducible apply keeps_foldl_pair
    | dsimp only
    | split
    | refine keeps_of_eq (by with_reducible assumption) ?_

theorem layoutEff_keeps {s0 : State} (f : ℕ) (a : ℕ) (v : Word) (s : State) (h : Keeps s0 s) :
    Keeps s0 (layoutEff f a v s).1 := by
  unfold layoutEff
  repeat' first
    | with_reducible assumption
    | intro _
    | with_reducible apply keeps_ite
    | with_reducible apply keeps_ite_pair
    | with_reducible apply State.setReg_keeps
    | with_reducible apply State.setFld_keeps
    | fail_if_no_progress with_reducible apply keeps_upd
    | with_reducible apply keeps_foldl
    | with_reducible apply keeps_foldl_pair
    | dsimp only
    | split
    | refine keeps_of_eq (by with_reducible assumption) ?_

theorem fmaEff_keeps {s0 : State} (req : ℕ) (a : ℕ) (v : Word) (s : State) (h : Keeps s0 s) :
    Keeps s0 (fmaEff req a v s).1 := by
  unfold fmaEff
  repeat' first
    | with_reducible assumption
    | intro _
    | with_reducible apply keeps_ite
    | with_reducible apply keeps_ite_pair
    | with_reducible apply State.resetPageRegs_keeps
    | with_reducible apply State.setReg_keeps
    | with_reducible apply State.plainWrite_keeps
    | with_reducible apply layoutEff_keeps
    | with_reducible apply cruiseEff_keeps
    | with_reducible apply maskDistEff_keeps
    | with_reducible apply keeps_dropReg
    | with_reducible apply keeps_dropWin
    | with_reducible apply keeps_dropMem
    | with_reducible apply keeps_lostStores
    | fail_if_no_progress with_reducible apply keeps_upd
    | with_reducible apply keeps_foldl
    | with_reducible apply keeps_foldl_pair
    | dsimp only
    | split
    | refine keeps_of_eq (by with_reducible assumption) ?_

end Sys2Proof.Machine
end

