-- ==== Sys2Proof/Laws/KeepYarder.lean ====
section
/-!
SUPPORT. What the operations of Machine/Yarder.lean keep: the queue, and the canonical form of the stores.
-/

namespace Sys2Proof.Machine

theorem State.modYrd_keeps {s0 : State} (s : State) (f : Yrd → Yrd) (h : Keeps s0 s) :
    Keeps s0 (State.modYrd s f) := by
  unfold State.modYrd
  repeat' first
    | with_reducible assumption
    | intro _
    | with_reducible apply keeps_ite
    | with_reducible apply keeps_ite_pair
    | fail_if_no_progress with_reducible apply keeps_upd
    | with_reducible apply keeps_foldl
    | with_reducible apply keeps_foldl_pair
    | dsimp only
    | split
    | refine keeps_of_eq (by with_reducible assumption) ?_

theorem State.modSch_keeps {s0 : State} (s : State) (f : Sch → Sch) (h : Keeps s0 s) :
    Keeps s0 (State.modSch s f) := by
  unfold State.modSch
  repeat' first
    | with_reducible assumption
    | intro _
    | with_reducible apply keeps_ite
    | with_reducible apply keeps_ite_pair
    | fail_if_no_progress with_reducible apply keeps_upd
    | with_reducible apply keeps_foldl
    | with_reducible apply keeps_foldl_pair
    | dsimp only
    | split
    | refine keeps_of_eq (by with_reducible assumption) ?_

theorem State.setLamp_keeps {s0 : State} (s : State) (e : ℕ) (l : Lamp) (h : Keeps s0 s) :
    Keeps s0 (State.setLamp s e l) := by
  unfold State.setLamp
  repeat' first
    | with_reducible assumption
    | intro _
    | with_reducible apply keeps_ite
    | with_reducible apply keeps_ite_pair
    | with_reducible apply State.modYrd_keeps
    | fail_if_no_progress with_reducible apply keeps_upd
    | with_reducible apply keeps_foldl
    | with_reducible apply keeps_foldl_pair
    | dsimp only
    | split
    | refine keeps_of_eq (by with_reducible assumption) ?_

theorem State.freeze_keeps {s0 : State} (s : State) (i : ℕ) (civil : ℤ) (at_ : ℕ) (moved : Bool) (f : ℕ) (h : Keeps s0 s) :
    Keeps s0 (State.freeze s i civil at_ moved f) := by
  unfold State.freeze
  repeat' first
    | with_reducible assumption
    | intro _
    | with_reducible apply keeps_ite
    | with_reducible apply keeps_ite_pair
    | with_reducible apply State.incLo_keeps
    | with_reducible apply State.modSch_keeps
    | with_reducible apply State.log_keeps
    | with_reducible apply State.raise_keeps
    | with_reducible apply State.incHi_keeps
    | fail_if_no_progress with_reducible apply keeps_upd
    | with_reducible apply keeps_foldl
    | with_reducible apply keeps_foldl_pair
    | dsimp only
    | split
    | refine keeps_of_eq (by with_reducible assumption) ?_

theorem State.offerInstant_keeps {s0 : State} (s : State) (c : ℕ) (i : ℕ) (civil : ℤ) (h : Keeps s0 s) :
    Keeps s0 (State.offerInstant s c i civil) := by
  unfold State.offerInstant
  repeat' first
    | with_reducible assumption
    | intro _
    | with_reducible apply keeps_ite
    | with_reducible apply keeps_ite_pair
    | with_reducible apply State.freeze_keeps
    | fail_if_no_progress with_reducible apply keeps_upd
    | with_reducible apply keeps_foldl
    | with_reducible apply keeps_foldl_pair
    | dsimp only
    | split
    | refine keeps_of_eq (by with_reducible assumption) ?_

theorem State.schPass_keeps {s0 : State} (s : State) (c : ℕ) (h : Keeps s0 s) :
    Keeps s0 (State.schPass s c) := by
  unfold State.schPass
  repeat' first
    | with_reducible assumption
    | intro _
    | with_reducible apply keeps_ite
    | with_reducible apply keeps_ite_pair
    | with_reducible apply State.modSch_keeps
    | with_reducible apply State.offerInstant_keeps
    | with_reducible apply State.raise_keeps
    | fail_if_no_progress with_reducible apply keeps_upd
    | with_reducible apply keeps_foldl
    | with_reducible apply keeps_foldl_pair
    | dsimp only
    | split
    | refine keeps_of_eq (by with_reducible assumption) ?_

theorem State.inputLate_keeps {s0 : State} (s : State) (kind : ℕ) (acc : ℤ) (c : ℕ) (h : Keeps s0 s) :
    Keeps s0 (State.inputLate s kind acc c) := by
  unfold State.inputLate
  repeat' first
    | with_reducible assumption
    | intro _
    | with_reducible apply keeps_ite
    | with_reducible apply keeps_ite_pair
    | with_reducible apply State.log_keeps
    | with_reducible apply State.raise_keeps
    | with_reducible apply State.incHi_keeps
    | fail_if_no_progress with_reducible apply keeps_upd
    | with_reducible apply keeps_foldl
    | with_reducible apply keeps_foldl_pair
    | dsimp only
    | split
    | refine keeps_of_eq (by with_reducible assumption) ?_

theorem State.takeEvent_keeps {s0 : State} (s : State) (c : ℕ) (x2 : LampEvent) (h : Keeps s0 s) :
    Keeps s0 (State.takeEvent s c x2) := by
  unfold State.takeEvent
  repeat' first
    | with_reducible assumption
    | intro _
    | with_reducible apply keeps_ite
    | with_reducible apply keeps_ite_pair
    | with_reducible apply State.inputLate_keeps
    | with_reducible apply State.modYrd_keeps
    | with_reducible apply State.log_keeps
    | with_reducible apply State.raise_keeps
    | with_reducible apply State.incLo_keeps
    | fail_if_no_progress with_reducible apply keeps_upd
    | with_reducible apply keeps_foldl
    | with_reducible apply keeps_foldl_pair
    | dsimp only
    | split
    | refine keeps_of_eq (by with_reducible assumption) ?_

theorem State.takeEvents_keeps {s0 : State} (s : State) (c : ℕ) (h : Keeps s0 s) :
    Keeps s0 (State.takeEvents s c) := by
  unfold State.takeEvents
  repeat' first
    | with_reducible assumption
    | intro _
    | with_reducible apply keeps_ite
    | with_reducible apply keeps_ite_pair
    | with_reducible apply State.modYrd_keeps
    | with_reducible apply State.takeEvent_keeps
    | fail_if_no_progress with_reducible apply keeps_upd
    | with_reducible apply keeps_foldl
    | with_reducible apply keeps_foldl_pair
    | dsimp only
    | split
    | refine keeps_of_eq (by with_reducible assumption) ?_

theorem State.trackPass_keeps {s0 : State} (s : State) (c : ℕ) (h : Keeps s0 s) :
    Keeps s0 (State.trackPass s c) := by
  unfold State.trackPass
  repeat' first
    | with_reducible assumption
    | intro _
    | with_reducible apply keeps_ite
    | with_reducible apply keeps_ite_pair
    | with_reducible apply State.modYrd_keeps
    | fail_if_no_progress with_reducible apply keeps_upd
    | with_reducible apply keeps_foldl
    | with_reducible apply keeps_foldl_pair
    | dsimp only
    | split
    | refine keeps_of_eq (by with_reducible assumption) ?_

theorem State.takeArmed_keeps {s0 : State} (s : State) (c : ℕ) (h : Keeps s0 s) :
    Keeps s0 (State.takeArmed s c) := by
  unfold State.takeArmed
  repeat' first
    | with_reducible assumption
    | intro _
    | with_reducible apply keeps_ite
    | with_reducible apply keeps_ite_pair
    | with_reducible apply State.modYrd_keeps
    | with_reducible apply State.inputLate_keeps
    | with_reducible apply State.setRbit_keeps
    | fail_if_no_progress with_reducible apply keeps_upd
    | with_reducible apply keeps_foldl
    | with_reducible apply keeps_foldl_pair
    | dsimp only
    | split
    | refine keeps_of_eq (by with_reducible assumption) ?_

theorem State.dropStale_keeps {s0 : State} (s : State) (c : ℕ) (h : Keeps s0 s) :
    Keeps s0 (State.dropStale s c) := by
  unfold State.dropStale
  repeat' first
    | with_reducible assumption
    | intro _
    | with_reducible apply keeps_ite
    | with_reducible apply keeps_ite_pair
    | with_reducible apply State.modYrd_keeps
    | fail_if_no_progress with_reducible apply keeps_upd
    | with_reducible apply keeps_foldl
    | with_reducible apply keeps_foldl_pair
    | dsimp only
    | split
    | refine keeps_of_eq (by with_reducible assumption) ?_

theorem State.yardTrace_keeps {s0 : State} (s : State) (c : ℕ) (x2 : Decision) (kind : ℕ) (seq : ℕ) (t : Transition) (h : Keeps s0 s) :
    Keeps s0 (State.yardTrace s c x2 kind seq t) := by
  unfold State.yardTrace
  repeat' first
    | with_reducible assumption
    | intro _
    | with_reducible apply keeps_ite
    | with_reducible apply keeps_ite_pair
    | with_reducible apply State.trace_keeps
    | fail_if_no_progress with_reducible apply keeps_upd
    | with_reducible apply keeps_foldl
    | with_reducible apply keeps_foldl_pair
    | dsimp only
    | split
    | refine keeps_of_eq (by with_reducible assumption) ?_

theorem State.release_keeps {s0 : State} (s : State) (c : ℕ) (x2 : Decision) (kind : ℕ) (t : Transition) (h : Keeps s0 s) :
    Keeps s0 (State.release s c x2 kind t) := by
  unfold State.release
  repeat' first
    | with_reducible assumption
    | intro _
    | with_reducible apply keeps_ite
    | with_reducible apply keeps_ite_pair
    | with_reducible apply State.updEp_keeps
    | with_reducible apply State.setLamp_keeps
    | with_reducible apply State.modYrd_keeps
    | with_reducible apply State.incLo_keeps
    | with_reducible apply State.incHi_keeps
    | with_reducible apply State.yardTrace_keeps
    | fail_if_no_progress with_reducible apply keeps_upd
    | with_reducible apply keeps_foldl
    | with_reducible apply keeps_foldl_pair
    | dsimp only
    | split
    | refine keeps_of_eq (by with_reducible assumption) ?_

theorem State.mark_keeps {s0 : State} (s : State) (c : ℕ) (x2 : Decision) (h : Keeps s0 s) :
    Keeps s0 (State.mark s c x2) := by
  unfold State.mark
  repeat' first
    | with_reducible assumption
    | intro _
    | with_reducible apply keeps_ite
    | with_reducible apply keeps_ite_pair
    | with_reducible apply State.raise_keeps
    | with_reducible apply State.incLo_keeps
    | with_reducible apply State.incHi_keeps
    | with_reducible apply State.telemetry_keeps
    | with_reducible apply State.log_keeps
    | fail_if_no_progress with_reducible apply keeps_upd
    | with_reducible apply keeps_foldl
    | with_reducible apply keeps_foldl_pair
    | dsimp only
    | split
    | refine keeps_of_eq (by with_reducible assumption) ?_

theorem State.releaseLamp_keeps {s0 : State} (s : State) (c : ℕ) (x2 : Decision) (trans : List Transition) (refresh : Bool) (h : Keeps s0 s) :
    Keeps s0 (State.releaseLamp s c x2 trans refresh) := by
  unfold State.releaseLamp
  repeat' first
    | with_reducible assumption
    | intro _
    | with_reducible apply keeps_ite
    | with_reducible apply keeps_ite_pair
    | with_reducible apply State.setLamp_keeps
    | with_reducible apply State.updEp_keeps
    | with_reducible apply State.modYrd_keeps
    | with_reducible apply State.yardTrace_keeps
    | with_reducible apply State.incLo_keeps
    | with_reducible apply State.release_keeps
    | with_reducible apply State.mark_keeps
    | fail_if_no_progress with_reducible apply keeps_upd
    | with_reducible apply keeps_foldl
    | with_reducible apply keeps_foldl_pair
    | dsimp only
    | split
    | refine keeps_of_eq (by with_reducible assumption) ?_

theorem State.feederPass_keeps {s0 : State} (s : State) (c : ℕ) (f : ℕ) (ds : List Decision) (h : Keeps s0 s) :
    Keeps s0 (State.feederPass s c f ds).1 := by
  unfold State.feederPass
  repeat' first
    | with_reducible assumption
    | intro _
    | with_reducible apply keeps_ite
    | with_reducible apply keeps_ite_pair
    | with_reducible apply State.releaseLamp_keeps
    | with_reducible apply State.yardTrace_keeps
    | with_reducible apply State.incLo_keeps
    | with_reducible apply State.incHi_keeps
    | fail_if_no_progress with_reducible apply keeps_upd
    | with_reducible apply keeps_foldl
    | with_reducible apply keeps_foldl_pair
    | dsimp only
    | split
    | refine keeps_of_eq (by with_reducible assumption) ?_

theorem State.squash_keeps {s0 : State} (s : State) (c : ℕ) (prev : List Transition) (x3 : Decision) (h : Keeps s0 s) :
    Keeps s0 (State.squash s c prev x3) := by
  unfold State.squash
  repeat' first
    | with_reducible assumption
    | intro _
    | with_reducible apply keeps_ite
    | with_reducible apply keeps_ite_pair
    | with_reducible apply State.yardTrace_keeps
    | with_reducible apply State.incHi_keeps
    | fail_if_no_progress with_reducible apply keeps_upd
    | with_reducible apply keeps_foldl
    | with_reducible apply keeps_foldl_pair
    | dsimp only
    | split
    | refine keeps_of_eq (by with_reducible assumption) ?_

theorem State.compose_keeps {s0 : State} (s : State) (c : ℕ) (h : Keeps s0 s) :
    Keeps s0 (State.compose s c) := by
  unfold State.compose
  repeat' first
    | with_reducible assumption
    | intro _
    | with_reducible apply keeps_ite
    | with_reducible apply keeps_ite_pair
    | with_reducible apply State.feederPass_keeps
    | with_reducible apply State.squash_keeps
    | with_reducible apply State.raise_keeps
    | with_reducible apply State.incHi_keeps
    | fail_if_no_progress with_reducible apply keeps_upd
    | with_reducible apply keeps_foldl
    | with_reducible apply keeps_foldl_pair
    | dsimp only
    | split
    | refine keeps_of_eq (by with_reducible assumption) ?_

theorem State.takeReport_keeps {s0 : State} (s : State) (c : ℕ) (r : MacReport) (h : Keeps s0 s) :
    Keeps s0 (State.takeReport s c r) := by
  unfold State.takeReport
  repeat' first
    | with_reducible assumption
    | intro _
    | with_reducible apply keeps_ite
    | with_reducible apply keeps_ite_pair
    | with_reducible apply State.incLo_keeps
    | with_reducible apply State.incHi_keeps
    | with_reducible apply State.modYrd_keeps
    | with_reducible apply State.log_keeps
    | with_reducible apply State.raise_keeps
    | with_reducible apply State.leaveNode_keeps
    | fail_if_no_progress with_reducible apply keeps_upd
    | with_reducible apply keeps_foldl
    | with_reducible apply keeps_foldl_pair
    | dsimp only
    | split
    | refine keeps_of_eq (by with_reducible assumption) ?_

theorem State.leadWarn_keeps {s0 : State} (s : State) (h : Keeps s0 s) :
    Keeps s0 (State.leadWarn s) := by
  unfold State.leadWarn
  repeat' first
    | with_reducible assumption
    | intro _
    | with_reducible apply keeps_ite
    | with_reducible apply keeps_ite_pair
    | with_reducible apply State.raise_keeps
    | with_reducible apply State.modYrd_keeps
    | fail_if_no_progress with_reducible apply keeps_upd
    | with_reducible apply keeps_foldl
    | with_reducible apply keeps_foldl_pair
    | dsimp only
    | split
    | refine keeps_of_eq (by with_reducible assumption) ?_

theorem State.reportPass_keeps {s0 : State} (s : State) (c : ℕ) (h : Keeps s0 s) :
    Keeps s0 (State.reportPass s c) := by
  unfold State.reportPass
  repeat' first
    | with_reducible assumption
    | intro _
    | with_reducible apply keeps_ite
    | with_reducible apply keeps_ite_pair
    | with_reducible apply State.modYrd_keeps
    | with_reducible apply State.leadWarn_keeps
    | with_reducible apply State.takeReport_keeps
    | fail_if_no_progress with_reducible apply keeps_upd
    | with_reducible apply keeps_foldl
    | with_reducible apply keeps_foldl_pair
    | dsimp only
    | split
    | refine keeps_of_eq (by with_reducible assumption) ?_

theorem State.yrdCommit_keeps {s0 : State} (s : State) (c : ℕ) (h : Keeps s0 s) :
    Keeps s0 (State.yrdCommit s c) := by
  unfold State.yrdCommit
  repeat' first
    | with_reducible assumption
    | intro _
    | with_reducible apply keeps_ite
    | with_reducible apply keeps_ite_pair
    | with_reducible apply State.swapWin_keeps
    | with_reducible apply State.modYrd_keeps
    | with_reducible apply State.raise_keeps
    | with_reducible apply State.incHi_keeps
    | with_reducible apply State.setRbit_keeps
    | with_reducible apply State.log_keeps
    | fail_if_no_progress with_reducible apply keeps_upd
    | with_reducible apply keeps_foldl
    | with_reducible apply keeps_foldl_pair
    | dsimp only
    | split
    | refine keeps_of_eq (by with_reducible assumption) ?_

theorem State.schCommit_keeps {s0 : State} (s : State) (c : ℕ) (h : Keeps s0 s) :
    Keeps s0 (State.schCommit s c) := by
  unfold State.schCommit
  repeat' first
    | with_reducible assumption
    | intro _
    | with_reducible apply keeps_ite
    | with_reducible apply keeps_ite_pair
    | with_reducible apply State.swapWin_keeps
    | with_reducible apply State.modSch_keeps
    | with_reducible apply State.raise_keeps
    | with_reducible apply State.setRbit_keeps
    | with_reducible apply State.log_keeps
    | fail_if_no_progress with_reducible apply keeps_upd
    | with_reducible apply keeps_foldl
    | with_reducible apply keeps_foldl_pair
    | dsimp only
    | split
    | refine keeps_of_eq (by with_reducible assumption) ?_

theorem State.runPass_keeps {s0 : State} (s : State) (c : ℕ) (h : Keeps s0 s) :
    Keeps s0 (State.runPass s c) := by
  unfold State.runPass
  repeat' first
    | with_reducible assumption
    | intro _
    | with_reducible apply keeps_ite
    | with_reducible apply keeps_ite_pair
    | with_reducible apply State.modSch_keeps
    | with_reducible apply State.schCommit_keeps
    | with_reducible apply State.yrdCommit_keeps
    | with_reducible apply State.takeArmed_keeps
    | with_reducible apply State.takeEvents_keeps
    | with_reducible apply State.reportPass_keeps
    | with_reducible apply State.compose_keeps
    | with_reducible apply State.schPass_keeps
    | with_reducible apply State.trackPass_keeps
    | with_reducible apply State.setReg_keeps
    | with_reducible apply State.modYrd_keeps
    | with_reducible apply State.dropStale_keeps
    | fail_if_no_progress with_reducible apply keeps_upd
    | with_reducible apply keeps_foldl
    | with_reducible apply keeps_foldl_pair
    | dsimp only
    | split
    | refine keeps_of_eq (by with_reducible assumption) ?_

theorem State.yarderPass_keeps {s0 : State} (s : State) (c : ℕ) (h : Keeps s0 s) :
    Keeps s0 (State.yarderPass s c) := by
  unfold State.yarderPass
  repeat' first
    | with_reducible assumption
    | intro _
    | with_reducible apply keeps_ite
    | with_reducible apply keeps_ite_pair
    | with_reducible apply State.runPass_keeps
    | with_reducible apply State.modSch_keeps
    | with_reducible apply State.modYrd_keeps
    | fail_if_no_progress with_reducible apply keeps_upd
    | with_reducible apply keeps_foldl
    | with_reducible apply keeps_foldl_pair
    | dsimp only
    | split
    | refine keeps_of_eq (by with_reducible assumption) ?_

theorem State.putFields_keeps {s0 : State} (s : State) (a : ℕ) (v : Word) (l : List Fld) (h : Keeps s0 s) :
    Keeps s0 (State.putFields s a v l).1 := by
  unfold State.putFields
  repeat' first
    | with_reducible assumption
    | intro _
    | with_reducible apply keeps_ite
    | with_reducible apply keeps_ite_pair
    | with_reducible apply State.setWin_keeps
    | fail_if_no_progress with_reducible apply keeps_upd
    | with_reducible apply keeps_foldl
    | with_reducible apply keeps_foldl_pair
    | dsimp only
    | split
    | refine keeps_of_eq (by with_reducible assumption) ?_

theorem w4Eff_keeps {s0 : State} (a : ℕ) (v : Word) (s : State) (h : Keeps s0 s) :
    Keeps s0 (w4Eff a v s).1 := by
  unfold w4Eff
  repeat' first
    | with_reducible assumption
    | intro _
    | with_reducible apply keeps_ite
    | with_reducible apply keeps_ite_pair
    | with_reducible apply State.setWin_keeps
    | with_reducible apply State.putFields_keeps
    | fail_if_no_progress with_reducible apply keeps_upd
    | with_reducible apply keeps_foldl
    | with_reducible apply keeps_foldl_pair
    | dsimp only
    | split
    | refine keeps_of_eq (by with_reducible assumption) ?_

theorem w5Eff_keeps {s0 : State} (a : ℕ) (v : Word) (s : State) (h : Keeps s0 s) :
    Keeps s0 (w5Eff a v s).1 := by
  unfold w5Eff
  repeat' first
    | with_reducible assumption
    | intro _
    | with_reducible apply keeps_ite
    | with_reducible apply keeps_ite_pair
    | with_reducible apply State.putFields_keeps
    | fail_if_no_progress with_reducible apply keeps_upd
    | with_reducible apply keeps_foldl
    | with_reducible apply keeps_foldl_pair
    | dsimp only
    | split
    | refine keeps_of_eq (by with_reducible assumption) ?_

theorem yrdCtrlEff_keeps {s0 : State} (v : Word) (s : State) (h : Keeps s0 s) :
    Keeps s0 (yrdCtrlEff v s).1 := by
  unfold yrdCtrlEff
  repeat' first
    | with_reducible assumption
    | intro _
    | with_reducible apply keeps_ite
    | with_reducible apply keeps_ite_pair
    | with_reducible apply State.resetPageRegs_keeps
    | with_reducible apply State.modYrd_keeps
    | with_reducible apply State.setReg_keeps
    | fail_if_no_progress with_reducible apply keeps_upd
    | with_reducible apply keeps_foldl
    | with_reducible apply keeps_foldl_pair
    | dsimp only
    | split
    | refine keeps_of_eq (by with_reducible assumption) ?_

theorem yrdCfgEff_keeps {s0 : State} (v : Word) (s : State) (h : Keeps s0 s) :
    Keeps s0 (yrdCfgEff v s).1 := by
  unfold yrdCfgEff
  repeat' first
    | with_reducible assumption
    | intro _
    | with_reducible apply keeps_ite
    | with_reducible apply keeps_ite_pair
    | with_reducible apply State.setReg_keeps
    | fail_if_no_progress with_reducible apply keeps_upd
    | with_reducible apply keeps_foldl
    | with_reducible apply keeps_foldl_pair
    | dsimp only
    | split
    | refine keeps_of_eq (by with_reducible assumption) ?_

theorem sceneArmEff_keeps {s0 : State} (req : ℕ) (v : Word) (s : State) (h : Keeps s0 s) :
    Keeps s0 (sceneArmEff req v s).1 := by
  unfold sceneArmEff
  repeat' first
    | with_reducible assumption
    | intro _
    | with_reducible apply keeps_ite
    | with_reducible apply keeps_ite_pair
    | with_reducible apply State.loadPair_keeps
    | with_reducible apply State.modYrd_keeps
    | fail_if_no_progress with_reducible apply keeps_upd
    | with_reducible apply keeps_foldl
    | with_reducible apply keeps_foldl_pair
    | dsimp only
    | split
    | refine keeps_of_eq (by with_reducible assumption) ?_

theorem ovrArmEff_keeps {s0 : State} (v : Word) (s : State) (h : Keeps s0 s) :
    Keeps s0 (ovrArmEff v s).1 := by
  unfold ovrArmEff
  repeat' first
    | with_reducible assumption
    | intro _
    | with_reducible apply keeps_ite
    | with_reducible apply keeps_ite_pair
    | with_reducible apply State.setReg_keeps
    | with_reducible apply State.modYrd_keeps
    | fail_if_no_progress with_reducible apply keeps_upd
    | with_reducible apply keeps_foldl
    | with_reducible apply keeps_foldl_pair
    | dsimp only
    | split
    | refine keeps_of_eq (by with_reducible assumption) ?_

theorem yrdCommitEff_keeps {s0 : State} (v : Word) (s : State) (h : Keeps s0 s) :
    Keeps s0 (yrdCommitEff v s).1 := by
  unfold yrdCommitEff
  repeat' first
    | with_reducible assumption
    | intro _
    | with_reducible apply keeps_ite
    | with_reducible apply keeps_ite_pair
    | with_reducible apply State.copyWin_keeps
    | with_reducible apply State.modYrd_keeps
    | with_reducible apply State.setRbit_keeps
    | fail_if_no_progress with_reducible apply keeps_upd
    | with_reducible apply keeps_foldl
    | with_reducible apply keeps_foldl_pair
    | dsimp only
    | split
    | refine keeps_of_eq (by with_reducible assumption) ?_

theorem schCommitEff_keeps {s0 : State} (v : Word) (s : State) (h : Keeps s0 s) :
    Keeps s0 (schCommitEff v s).1 := by
  unfold schCommitEff
  repeat' first
    | with_reducible assumption
    | intro _
    | with_reducible apply keeps_ite
    | with_reducible apply keeps_ite_pair
    | with_reducible apply State.copyWin_keeps
    | with_reducible apply State.raise_keeps
    | with_reducible apply State.setFld_keeps
    | with_reducible apply State.setRbit_keeps
    | with_reducible apply State.modSch_keeps
    | fail_if_no_progress with_reducible apply keeps_upd
    | with_reducible apply keeps_foldl
    | with_reducible apply keeps_foldl_pair
    | dsimp only
    | split
    | refine keeps_of_eq (by with_reducible assumption) ?_

theorem State.solarUpdate_keeps {s0 : State} (s : State) (h : Keeps s0 s) :
    Keeps s0 (State.solarUpdate s) := by
  unfold State.solarUpdate
  repeat' first
    | with_reducible assumption
    | intro _
    | with_reducible apply keeps_ite
    | with_reducible apply keeps_ite_pair
    | with_reducible apply State.setReg_keeps
    | with_reducible apply State.modSch_keeps
    | fail_if_no_progress with_reducible apply keeps_upd
    | with_reducible apply keeps_foldl
    | with_reducible apply keeps_foldl_pair
    | dsimp only
    | split
    | refine keeps_of_eq (by with_reducible assumption) ?_

theorem yrdEff_keeps {s0 : State} (req : ℕ) (a : ℕ) (v : Word) (s : State) (h : Keeps s0 s) :
    Keeps s0 (yrdEff req a v s).1 := by
  unfold yrdEff
  repeat' first
    | with_reducible assumption
    | intro _
    | with_reducible apply keeps_ite
    | with_reducible apply keeps_ite_pair
    | with_reducible apply yrdCtrlEff_keeps
    | with_reducible apply yrdCfgEff_keeps
    | with_reducible apply sceneArmEff_keeps
    | with_reducible apply ovrArmEff_keeps
    | with_reducible apply yrdCommitEff_keeps
    | with_reducible apply State.plainWrite_keeps
    | fail_if_no_progress with_reducible apply keeps_upd
    | with_reducible apply keeps_foldl
    | with_reducible apply keeps_foldl_pair
    | dsimp only
    | split
    | refine keeps_of_eq (by with_reducible assumption) ?_

theorem State.schReset_keeps {s0 : State} (s : State) (h : Keeps s0 s) :
    Keeps s0 (State.schReset s) := by
  unfold State.schReset
  repeat' first
    | with_reducible assumption
    | intro _
    | with_reducible apply keeps_ite
    | with_reducible apply keeps_ite_pair
    | with_reducible apply State.resetPageRegs_keeps
    | fail_if_no_progress with_reducible apply keeps_upd
    | with_reducible apply keeps_foldl
    | with_reducible apply keeps_foldl_pair
    | dsimp only
    | split
    | refine keeps_of_eq (by with_reducible assumption) ?_

theorem schEff_keeps {s0 : State} (req : ℕ) (a : ℕ) (v : Word) (s : State) (h : Keeps s0 s) :
    Keeps s0 (schEff req a v s).1 := by
  unfold schEff
  repeat' first
    | with_reducible assumption
    | intro _
    | with_reducible apply keeps_ite
    | with_reducible apply keeps_ite_pair
    | with_reducible apply State.schReset_keeps
    | with_reducible apply schCommitEff_keeps
    | with_reducible apply State.store_keeps
    | with_reducible apply State.solarUpdate_keeps
    | with_reducible apply State.plainWrite_keeps
    | fail_if_no_progress with_reducible apply keeps_upd
    | with_reducible apply keeps_foldl
    | with_reducible apply keeps_foldl_pair
    | dsimp only
    | split
    | refine keeps_of_eq (by with_reducible assumption) ?_

theorem State.handOff_keeps {s0 : State} (s : State) (items : List YardItem) (h : Keeps s0 s) :
    Keeps s0 (State.handOff s items) := by
  unfold State.handOff
  repeat' first
    | with_reducible assumption
    | intro _
    | with_reducible apply keeps_ite
    | with_reducible apply keeps_ite_pair
    | with_reducible apply State.macSend_keeps
    | fail_if_no_progress with_reducible apply keeps_upd
    | with_reducible apply keeps_foldl
    | with_reducible apply keeps_foldl_pair
    | dsimp only
    | split
    | refine keeps_of_eq (by with_reducible assumption) ?_

end Sys2Proof.Machine
end

