-- ==== Sys2Proof/Laws/KeepSwitch.lean ====
section
/-!
SUPPORT. What the operations of Machine/Switch.lean keep: the queue, and the canonical form of the stores.
-/

namespace Sys2Proof.Machine

theorem State.modSwx_keeps {s0 : State} (s : State) (g : Swx → Swx) (h : Keeps s0 s) :
    Keeps s0 (State.modSwx s g) := by
  unfold State.modSwx
  repeat' first
    | with_reducible assumption
    | intro _
    | with_reducible apply keeps_ite
    | with_reducible apply keeps_ite_pair
    | fail_if_no_progress with_reducible apply keeps_upd
    | with_reducible apply keeps_foldl
    | with_reducible apply keeps_foldl_pair
    | dsimp only
    | split
    | refine keeps_of_eq (by with_reducible assumption) ?_

theorem State.modFlow_keeps {s0 : State} (s : State) (f : ℕ) (g : SwFlow → SwFlow) (h : Keeps s0 s) :
    Keeps s0 (State.modFlow s f g) := by
  unfold State.modFlow
  repeat' first
    | with_reducible assumption
    | intro _
    | with_reducible apply keeps_ite
    | with_reducible apply keeps_ite_pair
    | with_reducible apply State.modSwx_keeps
    | fail_if_no_progress with_reducible apply keeps_upd
    | with_reducible apply keeps_foldl
    | with_reducible apply keeps_foldl_pair
    | dsimp only
    | split
    | refine keeps_of_eq (by with_reducible assumption) ?_

theorem State.modUplink_keeps {s0 : State} (s : State) (u : ℕ) (g : Uplink → Uplink) (h : Keeps s0 s) :
    Keeps s0 (State.modUplink s u g) := by
  unfold State.modUplink
  repeat' first
    | with_reducible assumption
    | intro _
    | with_reducible apply keeps_ite
    | with_reducible apply keeps_ite_pair
    | fail_if_no_progress with_reducible apply keeps_upd
    | with_reducible apply keeps_foldl
    | with_reducible apply keeps_foldl_pair
    | dsimp only
    | split
    | refine keeps_of_eq (by with_reducible assumption) ?_

theorem State.poolCheck_keeps {s0 : State} (s : State) (t : State) (h : Keeps s0 t) :
    Keeps s0 (State.poolCheck s t) := by
  unfold State.poolCheck
  repeat' first
    | with_reducible assumption
    | intro _
    | with_reducible apply keeps_ite
    | with_reducible apply keeps_ite_pair
    | with_reducible apply State.raise_keeps
    | fail_if_no_progress with_reducible apply keeps_upd
    | with_reducible apply keeps_foldl
    | with_reducible apply keeps_foldl_pair
    | dsimp only
    | split
    | refine keeps_of_eq (by with_reducible assumption) ?_

theorem State.flowTrace_keeps {s0 : State} (s : State) (kind : ℕ) (engine : ℕ) (x3 : SwFrame) (h : Keeps s0 s) :
    Keeps s0 (State.flowTrace s kind engine x3) := by
  unfold State.flowTrace
  repeat' first
    | with_reducible assumption
    | intro _
    | with_reducible apply keeps_ite
    | with_reducible apply keeps_ite_pair
    | with_reducible apply State.trace_keeps
    | fail_if_no_progress with_reducible apply keeps_upd
    | with_reducible apply keeps_foldl
    | with_reducible apply keeps_foldl_pair
    | dsimp only
    | split
    | refine keeps_of_eq (by with_reducible assumption) ?_

theorem State.ofsPeaks_keeps {s0 : State} (s : State) (h : Keeps s0 s) :
    Keeps s0 (State.ofsPeaks s) := by
  unfold State.ofsPeaks
  repeat' first
    | with_reducible assumption
    | intro _
    | with_reducible apply keeps_ite
    | with_reducible apply keeps_ite_pair
    | with_reducible apply State.setFld_keeps
    | fail_if_no_progress with_reducible apply keeps_upd
    | with_reducible apply keeps_foldl
    | with_reducible apply keeps_foldl_pair
    | dsimp only
    | split
    | refine keeps_of_eq (by with_reducible assumption) ?_

theorem State.admitFrame_keeps {s0 : State} (s : State) (x1 : SwFrame) (h : Keeps s0 s) :
    Keeps s0 (State.admitFrame s x1) := by
  unfold State.admitFrame
  repeat' first
    | with_reducible assumption
    | intro _
    | with_reducible apply keeps_ite
    | with_reducible apply keeps_ite_pair
    | with_reducible apply State.flowTrace_keeps
    | with_reducible apply State.modFlow_keeps
    | with_reducible apply State.incLo_keeps
    | with_reducible apply State.incHi_keeps
    | with_reducible apply State.modSwx_keeps
    | with_reducible apply State.ofsPeaks_keeps
    | with_reducible apply State.poolCheck_keeps
    | fail_if_no_progress with_reducible apply keeps_upd
    | with_reducible apply keeps_foldl
    | with_reducible apply keeps_foldl_pair
    | dsimp only
    | split
    | refine keeps_of_eq (by with_reducible assumption) ?_

theorem State.offerFrame_keeps {s0 : State} (s : State) (x1 : SwFrame) (h : Keeps s0 s) :
    Keeps s0 (State.offerFrame s x1) := by
  unfold State.offerFrame
  repeat' first
    | with_reducible assumption
    | intro _
    | with_reducible apply keeps_ite
    | with_reducible apply keeps_ite_pair
    | with_reducible apply State.admitFrame_keeps
    | with_reducible apply State.incHi_keeps
    | with_reducible apply State.modSwx_keeps
    | fail_if_no_progress with_reducible apply keeps_upd
    | with_reducible apply keeps_foldl
    | with_reducible apply keeps_foldl_pair
    | dsimp only
    | split
    | refine keeps_of_eq (by with_reducible assumption) ?_

theorem State.admitTurn_keeps {s0 : State} (s : State) (h : Keeps s0 s) :
    Keeps s0 (State.admitTurn s) := by
  unfold State.admitTurn
  repeat' first
    | with_reducible assumption
    | intro _
    | with_reducible apply keeps_ite
    | with_reducible apply keeps_ite_pair
    | with_reducible apply State.admitFrame_keeps
    | with_reducible apply State.modSwx_keeps
    | fail_if_no_progress with_reducible apply keeps_upd
    | with_reducible apply keeps_foldl
    | with_reducible apply keeps_foldl_pair
    | dsimp only
    | split
    | refine keeps_of_eq (by with_reducible assumption) ?_

theorem State.dropEntry_keeps {s0 : State} (s : State) (h : Keeps s0 s) :
    Keeps s0 (State.dropEntry s) := by
  unfold State.dropEntry
  repeat' first
    | with_reducible assumption
    | intro _
    | with_reducible apply keeps_ite
    | with_reducible apply keeps_ite_pair
    | with_reducible apply State.incLo_keeps
    | fail_if_no_progress with_reducible apply keeps_upd
    | with_reducible apply keeps_foldl
    | with_reducible apply keeps_foldl_pair
    | dsimp only
    | split
    | refine keeps_of_eq (by with_reducible assumption) ?_

theorem State.toEndpoint_keeps {s0 : State} (s : State) (ingress : ℕ) (e : ℕ) (vid : ℕ) (data : List Byte) (h : Keeps s0 s) :
    Keeps s0 (State.toEndpoint s ingress e vid data) := by
  unfold State.toEndpoint
  repeat' first
    | with_reducible assumption
    | intro _
    | with_reducible apply keeps_ite
    | with_reducible apply keeps_ite_pair
    | with_reducible apply State.dropEntry_keeps
    | with_reducible apply State.incHi_keeps
    | with_reducible apply State.offerFrame_keeps
    | fail_if_no_progress with_reducible apply keeps_upd
    | with_reducible apply keeps_foldl
    | with_reducible apply keeps_foldl_pair
    | dsimp only
    | split
    | refine keeps_of_eq (by with_reducible assumption) ?_

theorem State.fromUplink_keeps {s0 : State} (s : State) (u : ℕ) (f : List Byte) (h : Keeps s0 s) :
    Keeps s0 (State.fromUplink s u f) := by
  unfold State.fromUplink
  repeat' first
    | with_reducible assumption
    | intro _
    | with_reducible apply keeps_ite
    | with_reducible apply keeps_ite_pair
    | with_reducible apply State.incLo_keeps
    | with_reducible apply State.incReg_keeps
    | with_reducible apply State.dropEntry_keeps
    | with_reducible apply State.offerFrame_keeps
    | with_reducible apply State.raise_keeps
    | with_reducible apply State.modSwx_keeps
    | with_reducible apply State.toEndpoint_keeps
    | fail_if_no_progress with_reducible apply keeps_upd
    | with_reducible apply keeps_foldl
    | with_reducible apply keeps_foldl_pair
    | dsimp only
    | split
    | refine keeps_of_eq (by with_reducible assumption) ?_

theorem State.fromFeeder_keeps {s0 : State} (s : State) (f : ℕ) (h_ : HeldElem) (h : Keeps s0 s) :
    Keeps s0 (State.fromFeeder s f h_) := by
  unfold State.fromFeeder
  repeat' first
    | with_reducible assumption
    | intro _
    | with_reducible apply keeps_ite
    | with_reducible apply keeps_ite_pair
    | with_reducible apply State.incHi_keeps
    | with_reducible apply State.dropEntry_keeps
    | with_reducible apply State.offerFrame_keeps
    | fail_if_no_progress with_reducible apply keeps_upd
    | with_reducible apply keeps_foldl
    | with_reducible apply keeps_foldl_pair
    | dsimp only
    | split
    | refine keeps_of_eq (by with_reducible assumption) ?_

theorem State.fromTwin_keeps {s0 : State} (s : State) (b : List Byte) (h : Keeps s0 s) :
    Keeps s0 (State.fromTwin s b) := by
  unfold State.fromTwin
  repeat' first
    | with_reducible assumption
    | intro _
    | with_reducible apply keeps_ite
    | with_reducible apply keeps_ite_pair
    | with_reducible apply State.offerFrame_keeps
    | with_reducible apply State.dropEntry_keeps
    | fail_if_no_progress with_reducible apply keeps_upd
    | with_reducible apply keeps_foldl
    | with_reducible apply keeps_foldl_pair
    | dsimp only
    | split
    | refine keeps_of_eq (by with_reducible assumption) ?_

theorem State.goAway_keeps {s0 : State} (s : State) (k : ℕ) (u : ℕ) (h : Keeps s0 s) :
    Keeps s0 (State.goAway s k u) := by
  unfold State.goAway
  repeat' first
    | with_reducible assumption
    | intro _
    | with_reducible apply keeps_ite
    | with_reducible apply keeps_ite_pair
    | with_reducible apply State.modSwx_keeps
    | fail_if_no_progress with_reducible apply keeps_upd
    | with_reducible apply keeps_foldl
    | with_reducible apply keeps_foldl_pair
    | dsimp only
    | split
    | refine keeps_of_eq (by with_reducible assumption) ?_

theorem State.releaseFrame_keeps {s0 : State} (s : State) (x1 : SwFrame) (forward : Bool) (h : Keeps s0 s) :
    Keeps s0 (State.releaseFrame s x1 forward) := by
  unfold State.releaseFrame
  repeat' first
    | with_reducible assumption
    | intro _
    | with_reducible apply keeps_ite
    | with_reducible apply keeps_ite_pair
    | with_reducible apply State.modFlow_keeps
    | with_reducible apply State.modSwx_keeps
    | with_reducible apply State.goAway_keeps
    | with_reducible apply State.flowTrace_keeps
    | fail_if_no_progress with_reducible apply keeps_upd
    | with_reducible apply keeps_foldl
    | with_reducible apply keeps_foldl_pair
    | dsimp only
    | split
    | refine keeps_of_eq (by with_reducible assumption) ?_

theorem State.releaseFlow_keeps {s0 : State} (f : ℕ) (n : ℕ) (s : State) (h : Keeps s0 s) :
    Keeps s0 (State.releaseFlow f n s) := by
  fun_induction State.releaseFlow f n s
  all_goals first
    | assumption
    | (rename_i ih; exact ih (State.releaseFrame_keeps _ _ _ h))

theorem State.freeFrame_keeps {s0 : State} (s : State) (x1 : SwFrame) (h : Keeps s0 s) :
    Keeps s0 (State.freeFrame s x1) := by
  unfold State.freeFrame
  repeat' first
    | with_reducible assumption
    | intro _
    | with_reducible apply keeps_ite
    | with_reducible apply keeps_ite_pair
    | with_reducible apply State.modSwx_keeps
    | fail_if_no_progress with_reducible apply keeps_upd
    | with_reducible apply keeps_foldl
    | with_reducible apply keeps_foldl_pair
    | dsimp only
    | split
    | refine keeps_of_eq (by with_reducible assumption) ?_

theorem State.txStamp_keeps {s0 : State} (s : State) (u : ℕ) (x2 : SwFrame) (h : Keeps s0 s) :
    Keeps s0 (State.txStamp s u x2) := by
  unfold State.txStamp
  repeat' first
    | with_reducible assumption
    | intro _
    | with_reducible apply keeps_ite
    | with_reducible apply keeps_ite_pair
    | with_reducible apply State.raise_keeps
    | with_reducible apply State.incLo_keeps
    | with_reducible apply State.modUplink_keeps
    | fail_if_no_progress with_reducible apply keeps_upd
    | with_reducible apply keeps_foldl
    | with_reducible apply keeps_foldl_pair
    | dsimp only
    | split
    | refine keeps_of_eq (by with_reducible assumption) ?_

theorem State.moveQueue_keeps {s0 : State} (s : State) (k : ℕ) (u : ℕ) (v : ℕ) (h : Keeps s0 s) :
    Keeps s0 (State.moveQueue s k u v) := by
  unfold State.moveQueue
  repeat' first
    | with_reducible assumption
    | intro _
    | with_reducible apply keeps_ite
    | with_reducible apply keeps_ite_pair
    | with_reducible apply State.modSwx_keeps
    | fail_if_no_progress with_reducible apply keeps_upd
    | with_reducible apply keeps_foldl
    | with_reducible apply keeps_foldl_pair
    | dsimp only
    | split
    | refine keeps_of_eq (by with_reducible assumption) ?_

theorem State.failover_keeps {s0 : State} (s : State) (u : ℕ) (h : Keeps s0 s) :
    Keeps s0 (State.failover s u) := by
  unfold State.failover
  repeat' first
    | with_reducible assumption
    | intro _
    | with_reducible apply keeps_ite
    | with_reducible apply keeps_ite_pair
    | with_reducible apply State.raise_keeps
    | with_reducible apply State.moveQueue_keeps
    | with_reducible apply State.modSwx_keeps
    | fail_if_no_progress with_reducible apply keeps_upd
    | with_reducible apply keeps_foldl
    | with_reducible apply keeps_foldl_pair
    | dsimp only
    | split
    | refine keeps_of_eq (by with_reducible assumption) ?_

theorem State.linkDown_keeps {s0 : State} (s : State) (u : ℕ) (h : Keeps s0 s) :
    Keeps s0 (State.linkDown s u) := by
  unfold State.linkDown
  repeat' first
    | with_reducible assumption
    | intro _
    | with_reducible apply keeps_ite
    | with_reducible apply keeps_ite_pair
    | with_reducible apply State.incLo_keeps
    | with_reducible apply State.setRbit_keeps
    | with_reducible apply State.setFld_keeps
    | with_reducible apply State.failover_keeps
    | with_reducible apply State.raise_keeps
    | fail_if_no_progress with_reducible apply keeps_upd
    | with_reducible apply keeps_foldl
    | with_reducible apply keeps_foldl_pair
    | dsimp only
    | split
    | refine keeps_of_eq (by with_reducible assumption) ?_

theorem State.setSfpBytes_keeps {s0 : State} (s : State) (u : ℕ) (l : List Byte) (h : Keeps s0 s) :
    Keeps s0 (State.setSfpBytes s u l) := by
  unfold State.setSfpBytes
  repeat' first
    | with_reducible assumption
    | intro _
    | with_reducible apply keeps_ite
    | with_reducible apply keeps_ite_pair
    | with_reducible apply State.setFld_keeps
    | fail_if_no_progress with_reducible apply keeps_upd
    | with_reducible apply keeps_foldl
    | with_reducible apply keeps_foldl_pair
    | dsimp only
    | split
    | refine keeps_of_eq (by with_reducible assumption) ?_

theorem sfpCmdEff_keeps {s0 : State} (u : ℕ) (v : Word) (s : State) (h : Keeps s0 s) :
    Keeps s0 (sfpCmdEff u v s).1 := by
  unfold sfpCmdEff
  repeat' first
    | with_reducible assumption
    | intro _
    | with_reducible apply keeps_ite
    | with_reducible apply keeps_ite_pair
    | with_reducible apply State.setReg_keeps
    | with_reducible apply State.modUplink_keeps
    | fail_if_no_progress with_reducible apply keeps_upd
    | with_reducible apply keeps_foldl
    | with_reducible apply keeps_foldl_pair
    | dsimp only
    | split
    | refine keeps_of_eq (by with_reducible assumption) ?_

theorem State.tsfPop_keeps {s0 : State} (s : State) (u : ℕ) (h : Keeps s0 s) :
    Keeps s0 (State.tsfPop s u).1 := by
  unfold State.tsfPop
  repeat' first
    | with_reducible assumption
    | intro _
    | with_reducible apply keeps_ite
    | with_reducible apply keeps_ite_pair
    | with_reducible apply State.modUplink_keeps
    | with_reducible apply State.setReg_keeps
    | fail_if_no_progress with_reducible apply keeps_upd
    | with_reducible apply keeps_foldl
    | with_reducible apply keeps_foldl_pair
    | dsimp only
    | split
    | refine keeps_of_eq (by with_reducible assumption) ?_

theorem vidEff_keeps {s0 : State} (a : ℕ) (v : Word) (s : State) (h : Keeps s0 s) :
    Keeps s0 (vidEff a v s).1 := by
  unfold vidEff
  repeat' first
    | with_reducible assumption
    | intro _
    | with_reducible apply keeps_ite
    | with_reducible apply keeps_ite_pair
    | with_reducible apply State.setReg_keeps
    | fail_if_no_progress with_reducible apply keeps_upd
    | with_reducible apply keeps_foldl
    | with_reducible apply keeps_foldl_pair
    | dsimp only
    | split
    | refine keeps_of_eq (by with_reducible assumption) ?_

theorem swxEff_keeps {s0 : State} (req : ℕ) (a : ℕ) (v : Word) (s : State) (h : Keeps s0 s) :
    Keeps s0 (swxEff req a v s).1 := by
  unfold swxEff
  repeat' first
    | with_reducible assumption
    | intro _
    | with_reducible apply keeps_ite
    | with_reducible apply keeps_ite_pair
    | with_reducible apply State.resetPageRegs_keeps
    | with_reducible apply State.setReg_keeps
    | with_reducible apply vidEff_keeps
    | with_reducible apply State.modFlow_keeps
    | with_reducible apply State.store_keeps
    | with_reducible apply State.modSwx_keeps
    | with_reducible apply State.poolCheck_keeps
    | with_reducible apply State.plainWrite_keeps
    | fail_if_no_progress with_reducible apply keeps_upd
    | with_reducible apply keeps_foldl
    | with_reducible apply keeps_foldl_pair
    | dsimp only
    | split
    | refine keeps_of_eq (by with_reducible assumption) ?_

theorem State.ofsReset_keeps {s0 : State} (s : State) (h : Keeps s0 s) :
    Keeps s0 (State.ofsReset s) := by
  unfold State.ofsReset
  repeat' first
    | with_reducible assumption
    | intro _
    | with_reducible apply keeps_ite
    | with_reducible apply keeps_ite_pair
    | with_reducible apply State.resetPageRegs_keeps
    | fail_if_no_progress with_reducible apply keeps_upd
    | with_reducible apply keeps_foldl
    | with_reducible apply keeps_foldl_pair
    | dsimp only
    | split
    | refine keeps_of_eq (by with_reducible assumption) ?_

theorem ofsEff_keeps {s0 : State} (req : ℕ) (a : ℕ) (v : Word) (s : State) (h : Keeps s0 s) :
    Keeps s0 (ofsEff req a v s).1 := by
  unfold ofsEff
  repeat' first
    | with_reducible assumption
    | intro _
    | with_reducible apply keeps_ite
    | with_reducible apply keeps_ite_pair
    | with_reducible apply State.ofsReset_keeps
    | with_reducible apply State.plainWrite_keeps
    | fail_if_no_progress with_reducible apply keeps_upd
    | with_reducible apply keeps_foldl
    | with_reducible apply keeps_foldl_pair
    | dsimp only
    | split
    | refine keeps_of_eq (by with_reducible assumption) ?_

theorem portCtrlEff_keeps {s0 : State} (u : ℕ) (v : Word) (s : State) (h : Keeps s0 s) :
    Keeps s0 (portCtrlEff u v s).1 := by
  unfold portCtrlEff
  repeat' first
    | with_reducible assumption
    | intro _
    | with_reducible apply keeps_ite
    | with_reducible apply keeps_ite_pair
    | with_reducible apply State.setReg_keeps
    | with_reducible apply State.linkDown_keeps
    | with_reducible apply State.setRbit_keeps
    | fail_if_no_progress with_reducible apply keeps_upd
    | with_reducible apply keeps_foldl
    | with_reducible apply keeps_foldl_pair
    | dsimp only
    | split
    | refine keeps_of_eq (by with_reducible assumption) ?_

theorem uplEff_keeps {s0 : State} (req : ℕ) (a : ℕ) (v : Word) (s : State) (h : Keeps s0 s) :
    Keeps s0 (uplEff req a v s).1 := by
  unfold uplEff
  repeat' first
    | with_reducible assumption
    | intro _
    | with_reducible apply keeps_ite
    | with_reducible apply keeps_ite_pair
    | with_reducible apply State.linkDown_keeps
    | with_reducible apply State.setRbit_keeps
    | with_reducible apply State.resetPageRegs_keeps
    | with_reducible apply State.modUplink_keeps
    | with_reducible apply State.setFld_keeps
    | with_reducible apply State.setReg_keeps
    | with_reducible apply portCtrlEff_keeps
    | with_reducible apply sfpCmdEff_keeps
    | with_reducible apply State.plainWrite_keeps
    | fail_if_no_progress with_reducible apply keeps_upd
    | with_reducible apply keeps_foldl
    | with_reducible apply keeps_foldl_pair
    | dsimp only
    | split
    | refine keeps_of_eq (by with_reducible assumption) ?_

end Sys2Proof.Machine
end

