-- ==== Sys2Proof/Laws/KeepTally.lean ====
section
/-!
SUPPORT. What the operations of Machine/Tally.lean keep: the queue, and the canonical form of the stores.
-/

namespace Sys2Proof.Machine

theorem State.modEvr_keeps {s0 : State} (s : State) (f : Evr → Evr) (h : Keeps s0 s) :
    Keeps s0 (State.modEvr s f) := by
  unfold State.modEvr
  repeat' first
    | with_reducible assumption
    | intro _
    | with_reducible apply keeps_ite
    | with_reducible apply keeps_ite_pair
    | fail_if_no_progress with_reducible apply keeps_upd
    | with_reducible apply keeps_foldl
    | with_reducible apply keeps_foldl_pair
    | dsimp only
    | split
    | refine keeps_of_eq (by with_reducible assumption) ?_

theorem State.openSegAt_keeps {s0 : State} (s : State) (g : ℕ) (h : Keeps s0 s) :
    Keeps s0 (State.openSegAt s g) := by
  unfold State.openSegAt
  repeat' first
    | with_reducible assumption
    | intro _
    | with_reducible apply keeps_ite
    | with_reducible apply keeps_ite_pair
    | with_reducible apply State.modEvr_keeps
    | with_reducible apply State.setBytes_keeps
    | fail_if_no_progress with_reducible apply keeps_upd
    | with_reducible apply keeps_foldl
    | with_reducible apply keeps_foldl_pair
    | dsimp only
    | split
    | refine keeps_of_eq (by with_reducible assumption) ?_

theorem State.openSeg_keeps {s0 : State} (s : State) (h : Keeps s0 s) :
    Keeps s0 (State.openSeg s) := by
  unfold State.openSeg
  repeat' first
    | with_reducible assumption
    | intro _
    | with_reducible apply keeps_ite
    | with_reducible apply keeps_ite_pair
    | with_reducible apply State.openSegAt_keeps
    | with_reducible apply State.modEvr_keeps
    | fail_if_no_progress with_reducible apply keeps_upd
    | with_reducible apply keeps_foldl
    | with_reducible apply keeps_foldl_pair
    | dsimp only
    | split
    | refine keeps_of_eq (by with_reducible assumption) ?_

theorem State.ctlWrite_keeps {s0 : State} (s : State) (h : Keeps s0 s) :
    Keeps s0 (State.ctlWrite s) := by
  unfold State.ctlWrite
  repeat' first
    | with_reducible assumption
    | intro _
    | with_reducible apply keeps_ite
    | with_reducible apply keeps_ite_pair
    | with_reducible apply State.setBytes_keeps
    | with_reducible apply State.modEvr_keeps
    | fail_if_no_progress with_reducible apply keeps_upd
    | with_reducible apply keeps_foldl
    | with_reducible apply keeps_foldl_pair
    | dsimp only
    | split
    | refine keeps_of_eq (by with_reducible assumption) ?_

theorem State.commitRecord_keeps {s0 : State} (s : State) (e : LogEntry) (h : Keeps s0 s) :
    Keeps s0 (State.commitRecord s e) := by
  unfold State.commitRecord
  repeat' first
    | with_reducible assumption
    | intro _
    | with_reducible apply keeps_ite
    | with_reducible apply keeps_ite_pair
    | with_reducible apply State.openSeg_keeps
    | with_reducible apply State.setBytes_keeps
    | with_reducible apply State.modEvr_keeps
    | with_reducible apply State.incLo_keeps
    | with_reducible apply State.raise_keeps
    | with_reducible apply State.kspStream_keeps
    | with_reducible apply State.kspAlarm_keeps
    | fail_if_no_progress with_reducible apply keeps_upd
    | with_reducible apply keeps_foldl
    | with_reducible apply keeps_foldl_pair
    | dsimp only
    | split
    | refine keeps_of_eq (by with_reducible assumption) ?_

theorem State.bankFail_keeps {s0 : State} (s : State) (e : LogEntry) (h : Keeps s0 s) :
    Keeps s0 (State.bankFail s e) := by
  unfold State.bankFail
  repeat' first
    | with_reducible assumption
    | intro _
    | with_reducible apply keeps_ite
    | with_reducible apply keeps_ite_pair
    | with_reducible apply State.incLo_keeps
    | with_reducible apply State.raise_keeps
    | with_reducible apply State.modEvr_keeps
    | with_reducible apply State.ctlWrite_keeps
    | with_reducible apply State.openSegAt_keeps
    | with_reducible apply State.openSeg_keeps
    | with_reducible apply State.commitRecord_keeps
    | fail_if_no_progress with_reducible apply keeps_upd
    | with_reducible apply keeps_foldl
    | with_reducible apply keeps_foldl_pair
    | dsimp only
    | split
    | refine keeps_of_eq (by with_reducible assumption) ?_

theorem State.writeNext_keeps {s0 : State} (s : State) (fails : ℕ) (h : Keeps s0 s) :
    Keeps s0 (State.writeNext s fails) := by
  unfold State.writeNext
  repeat' first
    | with_reducible assumption
    | intro _
    | with_reducible apply keeps_ite
    | with_reducible apply keeps_ite_pair
    | with_reducible apply State.modEvr_keeps
    | with_reducible apply State.incLo_keeps
    | with_reducible apply State.commitRecord_keeps
    | with_reducible apply State.bankFail_keeps
    | fail_if_no_progress with_reducible apply keeps_upd
    | with_reducible apply keeps_foldl
    | with_reducible apply keeps_foldl_pair
    | dsimp only
    | split
    | refine keeps_of_eq (by with_reducible assumption) ?_

theorem State.ctlRead_keeps {s0 : State} (s : State) (h : Keeps s0 s) :
    Keeps s0 (State.ctlRead s) := by
  unfold State.ctlRead
  repeat' first
    | with_reducible assumption
    | intro _
    | with_reducible apply keeps_ite
    | with_reducible apply keeps_ite_pair
    | with_reducible apply State.modEvr_keeps
    | fail_if_no_progress with_reducible apply keeps_upd
    | with_reducible apply keeps_foldl
    | with_reducible apply keeps_foldl_pair
    | dsimp only
    | split
    | refine keeps_of_eq (by with_reducible assumption) ?_

theorem State.recoverLog_keeps {s0 : State} (s : State) (warm : Bool) (h : Keeps s0 s) :
    Keeps s0 (State.recoverLog s warm) := by
  unfold State.recoverLog
  repeat' first
    | with_reducible assumption
    | intro _
    | with_reducible apply keeps_ite
    | with_reducible apply keeps_ite_pair
    | with_reducible apply State.modEvr_keeps
    | with_reducible apply State.ctlRead_keeps
    | with_reducible apply State.setBytes_keeps
    | with_reducible apply State.queueLog_keeps
    | fail_if_no_progress with_reducible apply keeps_upd
    | with_reducible apply keeps_foldl
    | with_reducible apply keeps_foldl_pair
    | dsimp only
    | split
    | refine keeps_of_eq (by with_reducible assumption) ?_

theorem State.refillCode_keeps {s0 : State} (s : State) (code : ℕ) (h : Keeps s0 s) :
    Keeps s0 (State.refillCode s code) := by
  unfold State.refillCode
  repeat' first
    | with_reducible assumption
    | intro _
    | with_reducible apply keeps_ite
    | with_reducible apply keeps_ite_pair
    | with_reducible apply State.setBucket_keeps
    | with_reducible apply State.queueLog_keeps
    | fail_if_no_progress with_reducible apply keeps_upd
    | with_reducible apply keeps_foldl
    | with_reducible apply keeps_foldl_pair
    | dsimp only
    | split
    | refine keeps_of_eq (by with_reducible assumption) ?_

theorem State.reportSuppressed_keeps {s0 : State} (s : State) (h : Keeps s0 s) :
    Keeps s0 (State.reportSuppressed s) := by
  unfold State.reportSuppressed
  repeat' first
    | with_reducible assumption
    | intro _
    | with_reducible apply keeps_ite
    | with_reducible apply keeps_ite_pair
    | with_reducible apply State.setBucket_keeps
    | with_reducible apply State.queueLog_keeps
    | fail_if_no_progress with_reducible apply keeps_upd
    | with_reducible apply keeps_foldl
    | with_reducible apply keeps_foldl_pair
    | dsimp only
    | split
    | refine keeps_of_eq (by with_reducible assumption) ?_

theorem codeCfgEff_keeps {s0 : State} (v : Word) (s : State) (h : Keeps s0 s) :
    Keeps s0 (codeCfgEff v s).1 := by
  unfold codeCfgEff
  repeat' first
    | with_reducible assumption
    | intro _
    | with_reducible apply keeps_ite
    | with_reducible apply keeps_ite_pair
    | with_reducible apply State.setBucket_keeps
    | fail_if_no_progress with_reducible apply keeps_upd
    | with_reducible apply keeps_foldl
    | with_reducible apply keeps_foldl_pair
    | dsimp only
    | split
    | refine keeps_of_eq (by with_reducible assumption) ?_

theorem bankClrEff_keeps {s0 : State} (v : Word) (s : State) (h : Keeps s0 s) :
    Keeps s0 (bankClrEff v s).1 := by
  unfold bankClrEff
  repeat' first
    | with_reducible assumption
    | intro _
    | with_reducible apply keeps_ite
    | with_reducible apply keeps_ite_pair
    | with_reducible apply State.modEvr_keeps
    | with_reducible apply State.ctlWrite_keeps
    | fail_if_no_progress with_reducible apply keeps_upd
    | with_reducible apply keeps_foldl
    | with_reducible apply keeps_foldl_pair
    | dsimp only
    | split
    | refine keeps_of_eq (by with_reducible assumption) ?_

theorem wrCtrlEff_keeps {s0 : State} (r : ℕ) (v : Word) (s : State) (h : Keeps s0 s) :
    Keeps s0 (wrCtrlEff r v s).1 := by
  unfold wrCtrlEff
  repeat' first
    | with_reducible assumption
    | intro _
    | with_reducible apply keeps_ite
    | with_reducible apply keeps_ite_pair
    | with_reducible apply State.setReg_keeps
    | with_reducible apply State.log_keeps
    | fail_if_no_progress with_reducible apply keeps_upd
    | with_reducible apply keeps_foldl
    | with_reducible apply keeps_foldl_pair
    | dsimp only
    | split
    | refine keeps_of_eq (by with_reducible assumption) ?_

theorem seekEff_keeps {s0 : State} (v : Word) (s : State) (h : Keeps s0 s) :
    Keeps s0 (seekEff v s).1 := by
  unfold seekEff
  repeat' first
    | with_reducible assumption
    | intro _
    | with_reducible apply keeps_ite
    | with_reducible apply keeps_ite_pair
    | with_reducible apply State.setReg_keeps
    | with_reducible apply State.modEvr_keeps
    | fail_if_no_progress with_reducible apply keeps_upd
    | with_reducible apply keeps_foldl
    | with_reducible apply keeps_foldl_pair
    | dsimp only
    | split
    | refine keeps_of_eq (by with_reducible assumption) ?_

theorem evrCtrlEff_keeps {s0 : State} (v : Word) (s : State) (h : Keeps s0 s) :
    Keeps s0 (evrCtrlEff v s).1 := by
  unfold evrCtrlEff
  repeat' first
    | with_reducible assumption
    | intro _
    | with_reducible apply keeps_ite
    | with_reducible apply keeps_ite_pair
    | with_reducible apply State.setBucket_keeps
    | with_reducible apply State.resetPageRegs_keeps
    | fail_if_no_progress with_reducible apply keeps_upd
    | with_reducible apply keeps_foldl
    | with_reducible apply keeps_foldl_pair
    | dsimp only
    | split
    | refine keeps_of_eq (by with_reducible assumption) ?_

theorem evrEff_keeps {s0 : State} (req : ℕ) (a : ℕ) (v : Word) (s : State) (h : Keeps s0 s) :
    Keeps s0 (evrEff req a v s).1 := by
  unfold evrEff
  repeat' first
    | with_reducible assumption
    | intro _
    | with_reducible apply keeps_ite
    | with_reducible apply keeps_ite_pair
    | with_reducible apply evrCtrlEff_keeps
    | with_reducible apply codeCfgEff_keeps
    | with_reducible apply bankClrEff_keeps
    | with_reducible apply seekEff_keeps
    | with_reducible apply wrCtrlEff_keeps
    | with_reducible apply State.plainWrite_keeps
    | fail_if_no_progress with_reducible apply keeps_upd
    | with_reducible apply keeps_foldl
    | with_reducible apply keeps_foldl_pair
    | dsimp only
    | split
    | refine keeps_of_eq (by with_reducible assumption) ?_

theorem State.countCorrected_keeps {s0 : State} (s : State) (n : ℕ) (h : Keeps s0 s) :
    Keeps s0 (State.countCorrected s n) := by
  unfold State.countCorrected
  repeat' first
    | with_reducible assumption
    | intro _
    | with_reducible apply keeps_ite
    | with_reducible apply keeps_ite_pair
    | with_reducible apply State.incHi_keeps
    | fail_if_no_progress with_reducible apply keeps_upd
    | with_reducible apply keeps_foldl
    | with_reducible apply keeps_foldl_pair
    | dsimp only
    | split
    | refine keeps_of_eq (by with_reducible assumption) ?_

end Sys2Proof.Machine
end

