-- ==== Sys2Proof/Laws/KeepBoot.lean ====
section
/-!
SUPPORT. What the operations of Machine/Boot.lean keep: the queue, and the canonical form of the stores.
-/

namespace Sys2Proof.Machine

theorem State.modUpd_keeps {s0 : State} (s : State) (f : Upd → Upd) (h : Keeps s0 s) :
    Keeps s0 (State.modUpd s f) := by
  unfold State.modUpd
  repeat' first
    | with_reducible assumption
    | intro _
    | with_reducible apply keeps_ite
    | with_reducible apply keeps_ite_pair
    | fail_if_no_progress with_reducible apply keeps_upd
    | with_reducible apply keeps_foldl
    | with_reducible apply keeps_foldl_pair
    | dsimp only
    | split
    | refine keeps_of_eq (by with_reducible assumption) ?_

theorem State.eraseMem_keeps {s0 : State} (s : State) (a : ℕ) (n : ℕ) (h : Keeps s0 s) :
    Keeps s0 (State.eraseMem s a n) := by
  unfold State.eraseMem
  repeat' first
    | with_reducible assumption
    | intro _
    | with_reducible apply keeps_ite
    | with_reducible apply keeps_ite_pair
    | with_reducible apply keeps_dropReg
    | with_reducible apply keeps_dropWin
    | with_reducible apply keeps_dropMem
    | with_reducible apply keeps_lostStores
    | fail_if_no_progress with_reducible apply keeps_upd
    | with_reducible apply keeps_foldl
    | with_reducible apply keeps_foldl_pair
    | dsimp only
    | split
    | refine keeps_of_eq (by with_reducible assumption) ?_

theorem State.writeRec_keeps {s0 : State} (s : State) (r : BootRec) (h : Keeps s0 s) :
    Keeps s0 (State.writeRec s r) := by
  unfold State.writeRec
  repeat' first
    | with_reducible assumption
    | intro _
    | with_reducible apply keeps_ite
    | with_reducible apply keeps_ite_pair
    | with_reducible apply State.setBytes_keeps
    | fail_if_no_progress with_reducible apply keeps_upd
    | with_reducible apply keeps_foldl
    | with_reducible apply keeps_foldl_pair
    | dsimp only
    | split
    | refine keeps_of_eq (by with_reducible assumption) ?_

theorem State.blow_keeps {s0 : State} (s : State) (kind : ℕ) (svn : ℕ) (h : Keeps s0 s) :
    Keeps s0 (State.blow s kind svn) := by
  unfold State.blow
  repeat' first
    | with_reducible assumption
    | intro _
    | with_reducible apply keeps_ite
    | with_reducible apply keeps_ite_pair
    | with_reducible apply State.modUpd_keeps
    | fail_if_no_progress with_reducible apply keeps_upd
    | with_reducible apply keeps_foldl
    | with_reducible apply keeps_foldl_pair
    | dsimp only
    | split
    | refine keeps_of_eq (by with_reducible assumption) ?_

theorem State.logFallback_keeps {s0 : State} (s : State) (cause : ℕ) (r : BootRec) (h : Keeps s0 s) :
    Keeps s0 (State.logFallback s cause r) := by
  unfold State.logFallback
  repeat' first
    | with_reducible assumption
    | intro _
    | with_reducible apply keeps_ite
    | with_reducible apply keeps_ite_pair
    | with_reducible apply State.log_keeps
    | fail_if_no_progress with_reducible apply keeps_upd
    | with_reducible apply keeps_foldl
    | with_reducible apply keeps_foldl_pair
    | dsimp only
    | split
    | refine keeps_of_eq (by with_reducible assumption) ?_

theorem State.enterLoader_keeps {s0 : State} (s : State) (b : ℕ) (h : Keeps s0 s) :
    Keeps s0 (State.enterLoader s b) := by
  unfold State.enterLoader
  repeat' first
    | with_reducible assumption
    | intro _
    | with_reducible apply keeps_ite
    | with_reducible apply keeps_ite_pair
    | with_reducible apply State.setBytes_keeps
    | with_reducible apply State.modUpd_keeps
    | with_reducible apply State.log_keeps
    | fail_if_no_progress with_reducible apply keeps_upd
    | with_reducible apply keeps_foldl
    | with_reducible apply keeps_foldl_pair
    | dsimp only
    | split
    | refine keeps_of_eq (by with_reducible assumption) ?_

theorem State.romBoot_keeps {s0 : State} (s : State) (h : Keeps s0 s) :
    Keeps s0 (State.romBoot s) := by
  unfold State.romBoot
  repeat' first
    | with_reducible assumption
    | intro _
    | with_reducible apply keeps_ite
    | with_reducible apply keeps_ite_pair
    | with_reducible apply State.modUpd_keeps
    | with_reducible apply State.blow_keeps
    | with_reducible apply State.writeRec_keeps
    | with_reducible apply State.logFallback_keeps
    | with_reducible apply State.enterLoader_keeps
    | with_reducible apply State.log_keeps
    | fail_if_no_progress with_reducible apply keeps_upd
    | with_reducible apply keeps_foldl
    | with_reducible apply keeps_foldl_pair
    | dsimp only
    | split
    | refine keeps_of_eq (by with_reducible assumption) ?_

end Sys2Proof.Machine
end

