-- ==== Sys2Proof/Laws/KeepMetering.lean ====
section
/-!
SUPPORT. What the operations of Machine/Metering.lean keep: the queue, and the canonical form of the stores.
-/

namespace Sys2Proof.Machine

theorem State.modMtr_keeps {s0 : State} (s : State) (f : Mtr → Mtr) (h : Keeps s0 s) :
    Keeps s0 (State.modMtr s f) := by
  unfold State.modMtr
  repeat' first
    | with_reducible assumption
    | intro _
    | with_reducible apply keeps_ite
    | with_reducible apply keeps_ite_pair
    | fail_if_no_progress with_reducible apply keeps_upd
    | with_reducible apply keeps_foldl
    | with_reducible apply keeps_foldl_pair
    | dsimp only
    | split
    | refine keeps_of_eq (by with_reducible assumption) ?_

theorem State.modPair_keeps {s0 : State} (s : State) (p : ℕ) (f : MtrPair → MtrPair) (h : Keeps s0 s) :
    Keeps s0 (State.modPair s p f) := by
  unfold State.modPair
  repeat' first
    | with_reducible assumption
    | intro _
    | with_reducible apply keeps_ite
    | with_reducible apply keeps_ite_pair
    | with_reducible apply State.modMtr_keeps
    | fail_if_no_progress with_reducible apply keeps_upd
    | with_reducible apply keeps_foldl
    | with_reducible apply keeps_foldl_pair
    | dsimp only
    | split
    | refine keeps_of_eq (by with_reducible assumption) ?_

theorem State.modSet_keeps {s0 : State} (s : State) (f : MtrSet → MtrSet) (h : Keeps s0 s) :
    Keeps s0 (State.modSet s f) := by
  unfold State.modSet
  repeat' first
    | with_reducible assumption
    | intro _
    | with_reducible apply keeps_ite
    | with_reducible apply keeps_ite_pair
    | with_reducible apply State.modMtr_keeps
    | fail_if_no_progress with_reducible apply keeps_upd
    | with_reducible apply keeps_foldl
    | with_reducible apply keeps_foldl_pair
    | dsimp only
    | split
    | refine keeps_of_eq (by with_reducible assumption) ?_

theorem State.fixCorrection_keeps {s0 : State} (s : State) (h : Keeps s0 s) :
    Keeps s0 (State.fixCorrection s) := by
  unfold State.fixCorrection
  repeat' first
    | with_reducible assumption
    | intro _
    | with_reducible apply keeps_ite
    | with_reducible apply keeps_ite_pair
    | with_reducible apply State.modPair_keeps
    | fail_if_no_progress with_reducible apply keeps_upd
    | with_reducible apply keeps_foldl
    | with_reducible apply keeps_foldl_pair
    | dsimp only
    | split
    | refine keeps_of_eq (by with_reducible assumption) ?_

theorem corCtrlEff_keeps {s0 : State} (v : Word) (s : State) (h : Keeps s0 s) :
    Keeps s0 (corCtrlEff v s).1 := by
  unfold corCtrlEff
  repeat' first
    | with_reducible assumption
    | intro _
    | with_reducible apply keeps_ite
    | with_reducible apply keeps_ite_pair
    | with_reducible apply State.raise_keeps
    | with_reducible apply State.setReg_keeps
    | with_reducible apply State.modMtr_keeps
    | with_reducible apply State.setRbit_keeps
    | fail_if_no_progress with_reducible apply keeps_upd
    | with_reducible apply keeps_foldl
    | with_reducible apply keeps_foldl_pair
    | dsimp only
    | split
    | refine keeps_of_eq (by with_reducible assumption) ?_

theorem w1Eff_keeps {s0 : State} (a : ℕ) (v : Word) (s : State) (h : Keeps s0 s) :
    Keeps s0 (w1Eff a v s).1 := by
  unfold w1Eff
  repeat' first
    | with_reducible assumption
    | intro _
    | with_reducible apply keeps_ite
    | with_reducible apply keeps_ite_pair
    | with_reducible apply State.setWin_keeps
    | fail_if_no_progress with_reducible apply keeps_upd
    | with_reducible apply keeps_foldl
    | with_reducible apply keeps_foldl_pair
    | dsimp only
    | split
    | refine keeps_of_eq (by with_reducible assumption) ?_

theorem State.gapRecord_keeps {s0 : State} (s : State) (pair : ℕ) (g : MtrGap) (h : Keeps s0 s) :
    Keeps s0 (State.gapRecord s pair g) := by
  unfold State.gapRecord
  repeat' first
    | with_reducible assumption
    | intro _
    | with_reducible apply keeps_ite
    | with_reducible apply keeps_ite_pair
    | with_reducible apply State.log_keeps
    | with_reducible apply State.raise_keeps
    | with_reducible apply State.incLo_keeps
    | fail_if_no_progress with_reducible apply keeps_upd
    | with_reducible apply keeps_foldl
    | with_reducible apply keeps_foldl_pair
    | dsimp only
    | split
    | refine keeps_of_eq (by with_reducible assumption) ?_

theorem State.closeGap_keeps {s0 : State} (s : State) (p : ℕ) (h : Keeps s0 s) :
    Keeps s0 (State.closeGap s p) := by
  unfold State.closeGap
  repeat' first
    | with_reducible assumption
    | intro _
    | with_reducible apply keeps_ite
    | with_reducible apply keeps_ite_pair
    | with_reducible apply State.gapRecord_keeps
    | with_reducible apply State.modPair_keeps
    | fail_if_no_progress with_reducible apply keeps_upd
    | with_reducible apply keeps_foldl
    | with_reducible apply keeps_foldl_pair
    | dsimp only
    | split
    | refine keeps_of_eq (by with_reducible assumption) ?_

theorem State.gapTick_keeps {s0 : State} (s : State) (p : ℕ) (m : Stamp) (cause : Option ℕ) (h : Keeps s0 s) :
    Keeps s0 (State.gapTick s p m cause) := by
  unfold State.gapTick
  repeat' first
    | with_reducible assumption
    | intro _
    | with_reducible apply keeps_ite
    | with_reducible apply keeps_ite_pair
    | with_reducible apply State.closeGap_keeps
    | with_reducible apply State.modPair_keeps
    | fail_if_no_progress with_reducible apply keeps_upd
    | with_reducible apply keeps_foldl
    | with_reducible apply keeps_foldl_pair
    | dsimp only
    | split
    | refine keeps_of_eq (by with_reducible assumption) ?_

theorem State.pushSamples_keeps {s0 : State} (s : State) (h : Keeps s0 s) :
    Keeps s0 (State.pushSamples s) := by
  unfold State.pushSamples
  repeat' first
    | with_reducible assumption
    | intro _
    | with_reducible apply keeps_ite
    | with_reducible apply keeps_ite_pair
    | with_reducible apply State.modMtr_keeps
    | fail_if_no_progress with_reducible apply keeps_upd
    | with_reducible apply keeps_foldl
    | with_reducible apply keeps_foldl_pair
    | dsimp only
    | split
    | refine keeps_of_eq (by with_reducible assumption) ?_

theorem State.meterPair_keeps {s0 : State} (s : State) (m : Stamp) (c : ℤ) (sn : ℤ) (p : ℕ) (h : Keeps s0 s) :
    Keeps s0 (State.meterPair s m c sn p).1 := by
  unfold State.meterPair
  repeat' first
    | with_reducible assumption
    | intro _
    | with_reducible apply keeps_ite
    | with_reducible apply keeps_ite_pair
    | with_reducible apply State.modPair_keeps
    | with_reducible apply State.gapTick_keeps
    | fail_if_no_progress with_reducible apply keeps_upd
    | with_reducible apply keeps_foldl
    | with_reducible apply keeps_foldl_pair
    | dsimp only
    | split
    | refine keeps_of_eq (by with_reducible assumption) ?_

theorem State.addTick_keeps {s0 : State} (s : State) (ps : List (ℕ × ℤ)) (h : Keeps s0 s) :
    Keeps s0 (State.addTick s ps) := by
  unfold State.addTick
  repeat' first
    | with_reducible assumption
    | intro _
    | with_reducible apply keeps_ite
    | with_reducible apply keeps_ite_pair
    | with_reducible apply State.modSet_keeps
    | fail_if_no_progress with_reducible apply keeps_upd
    | with_reducible apply keeps_foldl
    | with_reducible apply keeps_foldl_pair
    | dsimp only
    | split
    | refine keeps_of_eq (by with_reducible assumption) ?_

theorem State.resumeGap_keeps {s0 : State} (s : State) (m : Stamp) (h : Keeps s0 s) :
    Keeps s0 (State.resumeGap s m) := by
  unfold State.resumeGap
  repeat' first
    | with_reducible assumption
    | intro _
    | with_reducible apply keeps_ite
    | with_reducible apply keeps_ite_pair
    | with_reducible apply State.gapRecord_keeps
    | with_reducible apply State.modMtr_keeps
    | fail_if_no_progress with_reducible apply keeps_upd
    | with_reducible apply keeps_foldl
    | with_reducible apply keeps_foldl_pair
    | dsimp only
    | split
    | refine keeps_of_eq (by with_reducible assumption) ?_

theorem State.processTick_keeps {s0 : State} (s : State) (m : Stamp) (h : Keeps s0 s) :
    Keeps s0 (State.processTick s m) := by
  unfold State.processTick
  repeat' first
    | with_reducible assumption
    | intro _
    | with_reducible apply keeps_ite
    | with_reducible apply keeps_ite_pair
    | with_reducible apply State.resumeGap_keeps
    | with_reducible apply State.meterPair_keeps
    | with_reducible apply State.addTick_keeps
    | with_reducible apply State.modMtr_keeps
    | fail_if_no_progress with_reducible apply keeps_upd
    | with_reducible apply keeps_foldl
    | with_reducible apply keeps_foldl_pair
    | dsimp only
    | split
    | refine keeps_of_eq (by with_reducible assumption) ?_

theorem State.meteringTick_keeps {s0 : State} (s : State) (h : Keeps s0 s) :
    Keeps s0 (State.meteringTick s) := by
  unfold State.meteringTick
  repeat' first
    | with_reducible assumption
    | intro _
    | with_reducible apply keeps_ite
    | with_reducible apply keeps_ite_pair
    | with_reducible apply State.pushSamples_keeps
    | with_reducible apply State.processTick_keeps
    | with_reducible apply State.modMtr_keeps
    | fail_if_no_progress with_reducible apply keeps_upd
    | with_reducible apply keeps_foldl
    | with_reducible apply keeps_foldl_pair
    | dsimp only
    | split
    | refine keeps_of_eq (by with_reducible assumption) ?_

theorem State.endCycle_keeps {s0 : State} (s : State) (p : ℕ) (h : Keeps s0 s) :
    Keeps s0 (State.endCycle s p) := by
  unfold State.endCycle
  repeat' first
    | with_reducible assumption
    | intro _
    | with_reducible apply keeps_ite
    | with_reducible apply keeps_ite_pair
    | with_reducible apply State.modPair_keeps
    | fail_if_no_progress with_reducible apply keeps_upd
    | with_reducible apply keeps_foldl
    | with_reducible apply keeps_foldl_pair
    | dsimp only
    | split
    | refine keeps_of_eq (by with_reducible assumption) ?_

theorem State.publishPhase_keeps {s0 : State} (s : State) (k : ℕ) (h : Keeps s0 s) :
    Keeps s0 (State.publishPhase s k) := by
  unfold State.publishPhase
  repeat' first
    | with_reducible assumption
    | intro _
    | with_reducible apply keeps_ite
    | with_reducible apply keeps_ite_pair
    | with_reducible apply State.setReg_keeps
    | fail_if_no_progress with_reducible apply keeps_upd
    | with_reducible apply keeps_foldl
    | with_reducible apply keeps_foldl_pair
    | dsimp only
    | split
    | refine keeps_of_eq (by with_reducible assumption) ?_

theorem State.publishChannel_keeps {s0 : State} (s : State) (k : ℕ) (h : Keeps s0 s) :
    Keeps s0 (State.publishChannel s k) := by
  unfold State.publishChannel
  repeat' first
    | with_reducible assumption
    | intro _
    | with_reducible apply keeps_ite
    | with_reducible apply keeps_ite_pair
    | with_reducible apply State.setReg_keeps
    | fail_if_no_progress with_reducible apply keeps_upd
    | with_reducible apply keeps_foldl
    | with_reducible apply keeps_foldl_pair
    | dsimp only
    | split
    | refine keeps_of_eq (by with_reducible assumption) ?_

theorem State.endEvent_keeps {s0 : State} (s : State) (k : ℕ) (e : MtrEvent) (end_ : Stamp) (flags : ℕ) (h : Keeps s0 s) :
    Keeps s0 (State.endEvent s k e end_ flags) := by
  unfold State.endEvent
  repeat' first
    | with_reducible assumption
    | intro _
    | with_reducible apply keeps_ite
    | with_reducible apply keeps_ite_pair
    | with_reducible apply State.raise_keeps
    | with_reducible apply State.modMtr_keeps
    | with_reducible apply State.log_keeps
    | with_reducible apply State.telemetry_keeps
    | fail_if_no_progress with_reducible apply keeps_upd
    | with_reducible apply keeps_foldl
    | with_reducible apply keeps_foldl_pair
    | dsimp only
    | split
    | refine keeps_of_eq (by with_reducible assumption) ?_

theorem State.phaseEvent_keeps {s0 : State} (s : State) (k : ℕ) (c0 : Stamp) (h : Keeps s0 s) :
    Keeps s0 (State.phaseEvent s k c0) := by
  unfold State.phaseEvent
  repeat' first
    | with_reducible assumption
    | intro _
    | with_reducible apply keeps_ite
    | with_reducible apply keeps_ite_pair
    | with_reducible apply State.setFld_keeps
    | with_reducible apply State.modMtr_keeps
    | with_reducible apply State.endEvent_keeps
    | with_reducible apply State.log_keeps
    | with_reducible apply State.raise_keeps
    | fail_if_no_progress with_reducible apply keeps_upd
    | with_reducible apply keeps_foldl
    | with_reducible apply keeps_foldl_pair
    | dsimp only
    | split
    | refine keeps_of_eq (by with_reducible assumption) ?_

theorem State.publish_keeps {s0 : State} (s : State) (c0 : Stamp) (h : Keeps s0 s) :
    Keeps s0 (State.publish s c0) := by
  unfold State.publish
  repeat' first
    | with_reducible assumption
    | intro _
    | with_reducible apply keeps_ite
    | with_reducible apply keeps_ite_pair
    | with_reducible apply State.phaseEvent_keeps
    | with_reducible apply State.publishPhase_keeps
    | with_reducible apply State.setReg_keeps
    | with_reducible apply State.publishChannel_keeps
    | with_reducible apply State.setReg64_keeps
    | with_reducible apply State.endCycle_keeps
    | with_reducible apply State.modMtr_keeps
    | with_reducible apply State.raise_keeps
    | with_reducible apply State.fixCorrection_keeps
    | fail_if_no_progress with_reducible apply keeps_upd
    | with_reducible apply keeps_foldl
    | with_reducible apply keeps_foldl_pair
    | dsimp only
    | split
    | refine keeps_of_eq (by with_reducible assumption) ?_

theorem State.writeSlot_keeps {s0 : State} (s : State) (n : ℕ) (body : List Byte) (h : Keeps s0 s) :
    Keeps s0 (State.writeSlot s n body) := by
  unfold State.writeSlot
  repeat' first
    | with_reducible assumption
    | intro _
    | with_reducible apply keeps_ite
    | with_reducible apply keeps_ite_pair
    | with_reducible apply State.setBytes_keeps
    | fail_if_no_progress with_reducible apply keeps_upd
    | with_reducible apply keeps_foldl
    | with_reducible apply keeps_foldl_pair
    | dsimp only
    | split
    | refine keeps_of_eq (by with_reducible assumption) ?_

theorem State.startCommit_keeps {s0 : State} (s : State) (c : MtrCommit) (h : Keeps s0 s) :
    Keeps s0 (State.startCommit s c) := by
  unfold State.startCommit
  repeat' first
    | with_reducible assumption
    | intro _
    | with_reducible apply keeps_ite
    | with_reducible apply keeps_ite_pair
    | with_reducible apply State.modMtr_keeps
    | with_reducible apply State.setBytes_keeps
    | fail_if_no_progress with_reducible apply keeps_upd
    | with_reducible apply keeps_foldl
    | with_reducible apply keeps_foldl_pair
    | dsimp only
    | split
    | refine keeps_of_eq (by with_reducible assumption) ?_

theorem State.finishCommit_keeps {s0 : State} (s : State) (ok : Bool) (h : Keeps s0 s) :
    Keeps s0 (State.finishCommit s ok) := by
  unfold State.finishCommit
  repeat' first
    | with_reducible assumption
    | intro _
    | with_reducible apply keeps_ite
    | with_reducible apply keeps_ite_pair
    | with_reducible apply State.modMtr_keeps
    | with_reducible apply State.setReg_keeps
    | with_reducible apply State.writeSlot_keeps
    | with_reducible apply State.sendTwin_keeps
    | with_reducible apply State.log_keeps
    | with_reducible apply State.raise_keeps
    | with_reducible apply State.startCommit_keeps
    | fail_if_no_progress with_reducible apply keeps_upd
    | with_reducible apply keeps_foldl
    | with_reducible apply keeps_foldl_pair
    | dsimp only
    | split
    | refine keeps_of_eq (by with_reducible assumption) ?_

theorem State.finalCommit_keeps {s0 : State} (s : State) (h : Keeps s0 s) :
    Keeps s0 (State.finalCommit s) := by
  unfold State.finalCommit
  repeat' first
    | with_reducible assumption
    | intro _
    | with_reducible apply keeps_ite
    | with_reducible apply keeps_ite_pair
    | with_reducible apply State.openPulses_keeps
    | with_reducible apply State.endEvent_keeps
    | with_reducible apply State.modMtr_keeps
    | with_reducible apply State.startCommit_keeps
    | fail_if_no_progress with_reducible apply keeps_upd
    | with_reducible apply keeps_foldl
    | with_reducible apply keeps_foldl_pair
    | dsimp only
    | split
    | refine keeps_of_eq (by with_reducible assumption) ?_

theorem State.restoreMetering_keeps {s0 : State} (s : State) (bad : List ℕ) (h : Keeps s0 s) :
    Keeps s0 (State.restoreMetering s bad) := by
  unfold State.restoreMetering
  repeat' first
    | with_reducible assumption
    | intro _
    | with_reducible apply keeps_ite
    | with_reducible apply keeps_ite_pair
    | with_reducible apply State.modMtr_keeps
    | with_reducible apply State.setRbit_keeps
    | with_reducible apply State.setReg_keeps
    | with_reducible apply State.log_keeps
    | with_reducible apply State.raise_keeps
    | fail_if_no_progress with_reducible apply keeps_upd
    | with_reducible apply keeps_foldl
    | with_reducible apply keeps_foldl_pair
    | dsimp only
    | split
    | refine keeps_of_eq (by with_reducible assumption) ?_

theorem sealEff_keeps {s0 : State} (v : Word) (s : State) (h : Keeps s0 s) :
    Keeps s0 (sealEff v s).1 := by
  unfold sealEff
  repeat' first
    | with_reducible assumption
    | intro _
    | with_reducible apply keeps_ite
    | with_reducible apply keeps_ite_pair
    | with_reducible apply State.setReg_keeps
    | with_reducible apply State.setRbit_keeps
    | with_reducible apply State.raise_keeps
    | fail_if_no_progress with_reducible apply keeps_upd
    | with_reducible apply keeps_foldl
    | with_reducible apply keeps_foldl_pair
    | dsimp only
    | split
    | refine keeps_of_eq (by with_reducible assumption) ?_

theorem accClearEff_keeps {s0 : State} (v : Word) (s : State) (h : Keeps s0 s) :
    Keeps s0 (accClearEff v s).1 := by
  unfold accClearEff
  repeat' first
    | with_reducible assumption
    | intro _
    | with_reducible apply keeps_ite
    | with_reducible apply keeps_ite_pair
    | with_reducible apply State.modMtr_keeps
    | fail_if_no_progress with_reducible apply keeps_upd
    | with_reducible apply keeps_foldl
    | with_reducible apply keeps_foldl_pair
    | dsimp only
    | split
    | refine keeps_of_eq (by with_reducible assumption) ?_

theorem State.meterStart_keeps {s0 : State} (s : State) (h : Keeps s0 s) :
    Keeps s0 (State.meterStart s) := by
  unfold State.meterStart
  repeat' first
    | with_reducible assumption
    | intro _
    | with_reducible apply keeps_ite
    | with_reducible apply keeps_ite_pair
    | with_reducible apply State.fixCorrection_keeps
    | with_reducible apply State.modMtr_keeps
    | fail_if_no_progress with_reducible apply keeps_upd
    | with_reducible apply keeps_foldl
    | with_reducible apply keeps_foldl_pair
    | dsimp only
    | split
    | refine keeps_of_eq (by with_reducible assumption) ?_

theorem State.meterStop_keeps {s0 : State} (s : State) (h : Keeps s0 s) :
    Keeps s0 (State.meterStop s) := by
  unfold State.meterStop
  repeat' first
    | with_reducible assumption
    | intro _
    | with_reducible apply keeps_ite
    | with_reducible apply keeps_ite_pair
    | with_reducible apply State.closeGap_keeps
    | with_reducible apply State.openPulses_keeps
    | fail_if_no_progress with_reducible apply keeps_upd
    | with_reducible apply keeps_foldl
    | with_reducible apply keeps_foldl_pair
    | dsimp only
    | split
    | refine keeps_of_eq (by with_reducible assumption) ?_

theorem mtrCtrlEff_keeps {s0 : State} (v : Word) (s : State) (h : Keeps s0 s) :
    Keeps s0 (mtrCtrlEff v s).1 := by
  unfold mtrCtrlEff
  repeat' first
    | with_reducible assumption
    | intro _
    | with_reducible apply keeps_ite
    | with_reducible apply keeps_ite_pair
    | with_reducible apply State.meterStop_keeps
    | with_reducible apply State.resetPageRegs_keeps
    | with_reducible apply State.setRbit_keeps
    | with_reducible apply State.setReg_keeps
    | with_reducible apply State.modMtr_keeps
    | with_reducible apply State.meterStart_keeps
    | fail_if_no_progress with_reducible apply keeps_upd
    | with_reducible apply keeps_foldl
    | with_reducible apply keeps_foldl_pair
    | dsimp only
    | split
    | refine keeps_of_eq (by with_reducible assumption) ?_

theorem chEnEff_keeps {s0 : State} (req : ℕ) (a : ℕ) (v : Word) (s : State) (h : Keeps s0 s) :
    Keeps s0 (chEnEff req a v s).1 := by
  unfold chEnEff
  repeat' first
    | with_reducible assumption
    | intro _
    | with_reducible apply keeps_ite
    | with_reducible apply keeps_ite_pair
    | with_reducible apply State.plainWrite_keeps
    | with_reducible apply State.modPair_keeps
    | with_reducible apply State.closeGap_keeps
    | fail_if_no_progress with_reducible apply keeps_upd
    | with_reducible apply keeps_foldl
    | with_reducible apply keeps_foldl_pair
    | dsimp only
    | split
    | refine keeps_of_eq (by with_reducible assumption) ?_

theorem mtrEff_keeps {s0 : State} (req : ℕ) (a : ℕ) (v : Word) (s : State) (h : Keeps s0 s) :
    Keeps s0 (mtrEff req a v s).1 := by
  unfold mtrEff
  repeat' first
    | with_reducible assumption
    | intro _
    | with_reducible apply keeps_ite
    | with_reducible apply keeps_ite_pair
    | with_reducible apply mtrCtrlEff_keeps
    | with_reducible apply corCtrlEff_keeps
    | with_reducible apply sealEff_keeps
    | with_reducible apply accClearEff_keeps
    | with_reducible apply chEnEff_keeps
    | with_reducible apply State.plainWrite_keeps
    | fail_if_no_progress with_reducible apply keeps_upd
    | with_reducible apply keeps_foldl
    | with_reducible apply keeps_foldl_pair
    | dsimp only
    | split
    | refine keeps_of_eq (by with_reducible assumption) ?_

end Sys2Proof.Machine
end

