-- ==== Sys2Proof/Laws/KeepResets.lean ====
section
/-!
SUPPORT. What the operations of Machine/Resets.lean keep: the queue, and the canonical form of the stores.
-/

namespace Sys2Proof.Machine

theorem State.modPwr_keeps {s0 : State} (s : State) (f : Pwr → Pwr) (h : Keeps s0 s) :
    Keeps s0 (State.modPwr s f) := by
  unfold State.modPwr
  repeat' first
    | with_reducible assumption
    | intro _
    | with_reducible apply keeps_ite
    | with_reducible apply keeps_ite_pair
    | fail_if_no_progress with_reducible apply keeps_upd
    | with_reducible apply keeps_foldl
    | with_reducible apply keeps_foldl_pair
    | dsimp only
    | split
    | refine keeps_of_eq (by with_reducible assumption) ?_

theorem State.blockReset_keeps {s0 : State} (s : State) (d : ℕ) (h : Keeps s0 s) :
    Keeps s0 (State.blockReset s d) := by
  unfold State.blockReset
  repeat' first
    | with_reducible assumption
    | intro _
    | with_reducible apply keeps_ite
    | with_reducible apply keeps_ite_pair
    | with_reducible apply State.setPort_keeps
    | with_reducible apply keeps_dropReg
    | with_reducible apply keeps_dropWin
    | with_reducible apply keeps_dropMem
    | with_reducible apply keeps_lostStores
    | fail_if_no_progress with_reducible apply keeps_upd
    | with_reducible apply keeps_foldl
    | with_reducible apply keeps_foldl_pair
    | dsimp only
    | split
    | refine keeps_of_eq (by with_reducible assumption) ?_

theorem State.domainOff_keeps {s0 : State} (s : State) (d : ℕ) (h : Keeps s0 s) :
    Keeps s0 (State.domainOff s d) := by
  unfold State.domainOff
  repeat' first
    | with_reducible assumption
    | intro _
    | with_reducible apply keeps_ite
    | with_reducible apply keeps_ite_pair
    | with_reducible apply State.dropLinks_keeps
    | with_reducible apply State.blockReset_keeps
    | with_reducible apply State.keepRegs_keeps
    | with_reducible apply State.modPwr_keeps
    | with_reducible apply State.setRbit_keeps
    | fail_if_no_progress with_reducible apply keeps_upd
    | with_reducible apply keeps_foldl
    | with_reducible apply keeps_foldl_pair
    | dsimp only
    | split
    | refine keeps_of_eq (by with_reducible assumption) ?_

theorem State.countRelays_keeps {s0 : State} (s : State) (old : ℕ) (new : ℕ) (h : Keeps s0 s) :
    Keeps s0 (State.countRelays s old new) := by
  unfold State.countRelays
  repeat' first
    | with_reducible assumption
    | intro _
    | with_reducible apply keeps_ite
    | with_reducible apply keeps_ite_pair
    | with_reducible apply State.modPwr_keeps
    | fail_if_no_progress with_reducible apply keeps_upd
    | with_reducible apply keeps_foldl
    | with_reducible apply keeps_foldl_pair
    | dsimp only
    | split
    | refine keeps_of_eq (by with_reducible assumption) ?_

theorem State.domainOn_keeps {s0 : State} (s : State) (d : ℕ) (h : Keeps s0 s) :
    Keeps s0 (State.domainOn s d) := by
  unfold State.domainOn
  repeat' first
    | with_reducible assumption
    | intro _
    | with_reducible apply keeps_ite
    | with_reducible apply keeps_ite_pair
    | with_reducible apply State.modPwr_keeps
    | with_reducible apply State.stlRefresh_keeps
    | with_reducible apply State.refreshLane_keeps
    | with_reducible apply State.countRelays_keeps
    | fail_if_no_progress with_reducible apply keeps_upd
    | with_reducible apply keeps_foldl
    | with_reducible apply keeps_foldl_pair
    | dsimp only
    | split
    | refine keeps_of_eq (by with_reducible assumption) ?_

theorem State.shedDomains_keeps {s0 : State} (s : State) (h : Keeps s0 s) :
    Keeps s0 (State.shedDomains s) := by
  unfold State.shedDomains
  repeat' first
    | with_reducible assumption
    | intro _
    | with_reducible apply keeps_ite
    | with_reducible apply keeps_ite_pair
    | with_reducible apply State.domainOff_keeps
    | fail_if_no_progress with_reducible apply keeps_upd
    | with_reducible apply keeps_foldl
    | with_reducible apply keeps_foldl_pair
    | dsimp only
    | split
    | refine keeps_of_eq (by with_reducible assumption) ?_

theorem State.resetCodes_keeps {s0 : State} (s : State) (h : Keeps s0 s) :
    Keeps s0 (State.resetCodes s) := by
  unfold State.resetCodes
  repeat' first
    | with_reducible assumption
    | intro _
    | with_reducible apply keeps_ite
    | with_reducible apply keeps_ite_pair
    | with_reducible apply State.setBucket_keeps
    | fail_if_no_progress with_reducible apply keeps_upd
    | with_reducible apply keeps_foldl
    | with_reducible apply keeps_foldl_pair
    | dsimp only
    | split
    | refine keeps_of_eq (by with_reducible assumption) ?_

theorem State.unsealMeter_keeps {s0 : State} (s : State) (h : Keeps s0 s) :
    Keeps s0 (State.unsealMeter s) := by
  unfold State.unsealMeter
  repeat' first
    | with_reducible assumption
    | intro _
    | with_reducible apply keeps_ite
    | with_reducible apply keeps_ite_pair
    | with_reducible apply State.setRbit_keeps
    | with_reducible apply State.modMtr_keeps
    | with_reducible apply keeps_dropReg
    | with_reducible apply keeps_dropWin
    | with_reducible apply keeps_dropMem
    | with_reducible apply keeps_lostStores
    | fail_if_no_progress with_reducible apply keeps_upd
    | with_reducible apply keeps_foldl
    | with_reducible apply keeps_foldl_pair
    | dsimp only
    | split
    | refine keeps_of_eq (by with_reducible assumption) ?_

theorem State.fabricReset_keeps {s0 : State} (s : State) (h : Keeps s0 s) :
    Keeps s0 (State.fabricReset s) := by
  unfold State.fabricReset
  repeat' first
    | with_reducible assumption
    | intro _
    | with_reducible apply keeps_ite
    | with_reducible apply keeps_ite_pair
    | fail_if_no_progress with_reducible apply keeps_upd
    | with_reducible apply keeps_foldl
    | with_reducible apply keeps_foldl_pair
    | dsimp only
    | split
    | refine keeps_of_eq (by with_reducible assumption) ?_

theorem State.pd3Loss_keeps {s0 : State} (s : State) (h : Keeps s0 s) :
    Keeps s0 (State.pd3Loss s) := by
  unfold State.pd3Loss
  repeat' first
    | with_reducible assumption
    | intro _
    | with_reducible apply keeps_ite
    | with_reducible apply keeps_ite_pair
    | with_reducible apply State.fabricReset_keeps
    | with_reducible apply State.kvtFlush_keeps
    | with_reducible apply State.keepRegs_keeps
    | with_reducible apply State.modKsp_keeps
    | with_reducible apply State.modMtr_keeps
    | with_reducible apply State.modPwr_keeps
    | with_reducible apply State.resetCodes_keeps
    | with_reducible apply State.unsealMeter_keeps
    | with_reducible apply keeps_dropReg
    | with_reducible apply keeps_dropWin
    | with_reducible apply keeps_dropMem
    | with_reducible apply keeps_lostStores
    | fail_if_no_progress with_reducible apply keeps_upd
    | with_reducible apply keeps_foldl
    | with_reducible apply keeps_foldl_pair
    | dsimp only
    | split
    | refine keeps_of_eq (by with_reducible assumption) ?_

theorem State.removeLoad_keeps {s0 : State} (s : State) (h : Keeps s0 s) :
    Keeps s0 (State.removeLoad s) := by
  unfold State.removeLoad
  repeat' first
    | with_reducible assumption
    | intro _
    | with_reducible apply keeps_ite
    | with_reducible apply keeps_ite_pair
    | with_reducible apply State.pd3Loss_keeps
    | with_reducible apply State.shedDomains_keeps
    | with_reducible apply State.openPulses_keeps
    | fail_if_no_progress with_reducible apply keeps_upd
    | with_reducible apply keeps_foldl
    | with_reducible apply keeps_foldl_pair
    | dsimp only
    | split
    | refine keeps_of_eq (by with_reducible assumption) ?_

theorem State.vaultReload_keeps {s0 : State} (s : State) (h : Keeps s0 s) :
    Keeps s0 (State.vaultReload s) := by
  unfold State.vaultReload
  repeat' first
    | with_reducible assumption
    | intro _
    | with_reducible apply keeps_ite
    | with_reducible apply keeps_ite_pair
    | with_reducible apply State.resealStop_keeps
    | with_reducible apply State.clearVolatile_keeps
    | with_reducible apply State.kvtPowerUp_keeps
    | fail_if_no_progress with_reducible apply keeps_upd
    | with_reducible apply keeps_foldl
    | with_reducible apply keeps_foldl_pair
    | dsimp only
    | split
    | refine keeps_of_eq (by with_reducible assumption) ?_

theorem State.resetCause_keeps {s0 : State} (s : State) (b : ℕ) (h : Keeps s0 s) :
    Keeps s0 (State.resetCause s b) := by
  unfold State.resetCause
  repeat' first
    | with_reducible assumption
    | intro _
    | with_reducible apply keeps_ite
    | with_reducible apply keeps_ite_pair
    | with_reducible apply State.setRbit_keeps
    | fail_if_no_progress with_reducible apply keeps_upd
    | with_reducible apply keeps_foldl
    | with_reducible apply keeps_foldl_pair
    | dsimp only
    | split
    | refine keeps_of_eq (by with_reducible assumption) ?_

theorem State.systemReset_keeps {s0 : State} (s : State) (cause : ℕ) (h : Keeps s0 s) :
    Keeps s0 (State.systemReset s cause) := by
  unfold State.systemReset
  repeat' first
    | with_reducible assumption
    | intro _
    | with_reducible apply keeps_ite
    | with_reducible apply keeps_ite_pair
    | with_reducible apply State.fabricReset_keeps
    | with_reducible apply State.shedDomains_keeps
    | with_reducible apply State.kvtFlush_keeps
    | with_reducible apply State.openPulses_keeps
    | with_reducible apply State.keepRegs_keeps
    | with_reducible apply State.resetCodes_keeps
    | with_reducible apply State.unsealMeter_keeps
    | with_reducible apply State.modPwr_keeps
    | with_reducible apply State.vaultReload_keeps
    | with_reducible apply State.resetCause_keeps
    | with_reducible apply keeps_dropReg
    | with_reducible apply keeps_dropWin
    | with_reducible apply keeps_dropMem
    | with_reducible apply keeps_lostStores
    | fail_if_no_progress with_reducible apply keeps_upd
    | with_reducible apply keeps_foldl
    | with_reducible apply keeps_foldl_pair
    | dsimp only
    | split
    | refine keeps_of_eq (by with_reducible assumption) ?_

theorem State.wdogRestart_keeps {s0 : State} (s : State) (h : Keeps s0 s) :
    Keeps s0 (State.wdogRestart s) := by
  unfold State.wdogRestart
  repeat' first
    | with_reducible assumption
    | intro _
    | with_reducible apply keeps_ite
    | with_reducible apply keeps_ite_pair
    | fail_if_no_progress with_reducible apply keeps_upd
    | with_reducible apply keeps_foldl
    | with_reducible apply keeps_foldl_pair
    | dsimp only
    | split
    | refine keeps_of_eq (by with_reducible assumption) ?_

theorem State.coreReset_keeps {s0 : State} (s : State) (cause : ℕ) (h : Keeps s0 s) :
    Keeps s0 (State.coreReset s cause) := by
  unfold State.coreReset
  repeat' first
    | with_reducible assumption
    | intro _
    | with_reducible apply keeps_ite
    | with_reducible apply keeps_ite_pair
    | with_reducible apply State.thsReset_keeps
    | with_reducible apply State.setPort_keeps
    | with_reducible apply State.modKsp_keeps
    | with_reducible apply State.wdogRestart_keeps
    | with_reducible apply State.romBoot_keeps
    | with_reducible apply State.resetCause_keeps
    | fail_if_no_progress with_reducible apply keeps_upd
    | with_reducible apply keeps_foldl
    | with_reducible apply keeps_foldl_pair
    | dsimp only
    | split
    | refine keeps_of_eq (by with_reducible assumption) ?_

theorem State.warmStart_keeps {s0 : State} (s : State) (cause : ℕ) (h : Keeps s0 s) :
    Keeps s0 (State.warmStart s cause) := by
  unfold State.warmStart
  repeat' first
    | with_reducible assumption
    | intro _
    | with_reducible apply keeps_ite
    | with_reducible apply keeps_ite_pair
    | with_reducible apply State.modPwr_keeps
    | with_reducible apply State.resetCause_keeps
    | with_reducible apply State.queueLog_keeps
    | with_reducible apply State.vaultReload_keeps
    | fail_if_no_progress with_reducible apply keeps_upd
    | with_reducible apply keeps_foldl
    | with_reducible apply keeps_foldl_pair
    | dsimp only
    | split
    | refine keeps_of_eq (by with_reducible assumption) ?_

theorem State.powerLost_keeps {s0 : State} (s : State) (h : Keeps s0 s) :
    Keeps s0 (State.powerLost s) := by
  unfold State.powerLost
  repeat' first
    | with_reducible assumption
    | intro _
    | with_reducible apply keeps_ite
    | with_reducible apply keeps_ite_pair
    | with_reducible apply State.clearVolatile_keeps
    | with_reducible apply State.removeLoad_keeps
    | with_reducible apply State.modKvt_keeps
    | with_reducible apply State.keepRegs_keeps
    | with_reducible apply State.modPwr_keeps
    | fail_if_no_progress with_reducible apply keeps_upd
    | with_reducible apply keeps_foldl
    | with_reducible apply keeps_foldl_pair
    | dsimp only
    | split
    | refine keeps_of_eq (by with_reducible assumption) ?_

end Sys2Proof.Machine
end

