-- ==== Sys2Proof/Laws/KeepTwin.lean ====
section
/-!
SUPPORT. What the operations of Machine/Twin.lean keep: the queue, and the canonical form of the stores.
-/

namespace Sys2Proof.Machine

theorem State.modTwn_keeps {s0 : State} (s : State) (f : Twn → Twn) (h : Keeps s0 s) :
    Keeps s0 (State.modTwn s f) := by
  unfold State.modTwn
  repeat' first
    | with_reducible assumption
    | intro _
    | with_reducible apply keeps_ite
    | with_reducible apply keeps_ite_pair
    | fail_if_no_progress with_reducible apply keeps_upd
    | with_reducible apply keeps_foldl
    | with_reducible apply keeps_foldl_pair
    | dsimp only
    | split
    | refine keeps_of_eq (by with_reducible assumption) ?_

theorem State.sendTwinOut_keeps {s0 : State} (s : State) (lane : ℕ) (f : ℕ → Output) (h : Keeps s0 s) :
    Keeps s0 (State.sendTwinOut s lane f) := by
  unfold State.sendTwinOut
  repeat' first
    | with_reducible assumption
    | intro _
    | with_reducible apply keeps_ite
    | with_reducible apply keeps_ite_pair
    | with_reducible apply State.bumpTwin_keeps
    | with_reducible apply State.emit_keeps
    | fail_if_no_progress with_reducible apply keeps_upd
    | with_reducible apply keeps_foldl
    | with_reducible apply keeps_foldl_pair
    | dsimp only
    | split
    | refine keeps_of_eq (by with_reducible assumption) ?_

theorem State.sendControl_keeps {s0 : State} (s : State) (c : ControlFrame) (h : Keeps s0 s) :
    Keeps s0 (State.sendControl s c) := by
  unfold State.sendControl
  repeat' first
    | with_reducible assumption
    | intro _
    | with_reducible apply keeps_ite
    | with_reducible apply keeps_ite_pair
    | with_reducible apply State.sendTwinOut_keeps
    | fail_if_no_progress with_reducible apply keeps_upd
    | with_reducible apply keeps_foldl
    | with_reducible apply keeps_foldl_pair
    | dsimp only
    | split
    | refine keeps_of_eq (by with_reducible assumption) ?_

theorem State.setRole_keeps {s0 : State} (s : State) (r : Role) (h : Keeps s0 s) :
    Keeps s0 (State.setRole s r) := by
  unfold State.setRole
  repeat' first
    | with_reducible assumption
    | intro _
    | with_reducible apply keeps_ite
    | with_reducible apply keeps_ite_pair
    | with_reducible apply State.modTwn_keeps
    | with_reducible apply State.openPulses_keeps
    | with_reducible apply State.countRelays_keeps
    | with_reducible apply State.stlRefresh_keeps
    | with_reducible apply State.axeRefresh_keeps
    | fail_if_no_progress with_reducible apply keeps_upd
    | with_reducible apply keeps_foldl
    | with_reducible apply keeps_foldl_pair
    | dsimp only
    | split
    | refine keeps_of_eq (by with_reducible assumption) ?_

theorem State.raiseClaim_keeps {s0 : State} (s : State) (h : Keeps s0 s) :
    ∀ t, State.raiseClaim s = some t → Keeps s0 t := by
  unfold State.raiseClaim
  intro t e
  split at e
  · simp at e
  · obtain rfl := Option.some.inj e; exact State.storeClaim_keeps _ _ h

theorem State.becomeActive_keeps {s0 : State} (s : State) (h : Keeps s0 s) :
    Keeps s0 (State.becomeActive s) := by
  unfold State.becomeActive
  repeat' first
    | with_reducible assumption
    | intro _
    | with_reducible apply keeps_ite
    | with_reducible apply keeps_ite_pair
    | with_reducible apply State.setRole_keeps
    | with_reducible apply State.raise_keeps
    | fail_if_no_progress with_reducible apply keeps_upd
    | with_reducible apply keeps_foldl
    | with_reducible apply keeps_foldl_pair
    | (refine keeps_opt (by with_reducible assumption) ?_; with_reducible apply State.raiseClaim_keeps)
    | dsimp only
    | split
    | refine keeps_of_eq (by with_reducible assumption) ?_

theorem State.enterHunt_keeps {s0 : State} (s : State) (h : Keeps s0 s) :
    Keeps s0 (State.enterHunt s) := by
  unfold State.enterHunt
  repeat' first
    | with_reducible assumption
    | intro _
    | with_reducible apply keeps_ite
    | with_reducible apply keeps_ite_pair
    | with_reducible apply State.setRole_keeps
    | with_reducible apply State.modTwn_keeps
    | fail_if_no_progress with_reducible apply keeps_upd
    | with_reducible apply keeps_foldl
    | with_reducible apply keeps_foldl_pair
    | dsimp only
    | split
    | refine keeps_of_eq (by with_reducible assumption) ?_

theorem State.sendPairBody_keeps {s0 : State} (s : State) (h : Keeps s0 s) :
    Keeps s0 (State.sendPairBody s) := by
  unfold State.sendPairBody
  repeat' first
    | with_reducible assumption
    | intro _
    | with_reducible apply keeps_ite
    | with_reducible apply keeps_ite_pair
    | with_reducible apply State.fillKey_keeps
    | with_reducible apply State.modTwn_keeps
    | with_reducible apply State.draw_keeps
    | with_reducible apply State.sendTwinOut_keeps
    | fail_if_no_progress with_reducible apply keeps_upd
    | with_reducible apply keeps_foldl
    | with_reducible apply keeps_foldl_pair
    | dsimp only
    | split
    | refine keeps_of_eq (by with_reducible assumption) ?_

theorem State.enterPairing_keeps {s0 : State} (s : State) (h : Keeps s0 s) :
    Keeps s0 (State.enterPairing s) := by
  unfold State.enterPairing
  repeat' first
    | with_reducible assumption
    | intro _
    | with_reducible apply keeps_ite
    | with_reducible apply keeps_ite_pair
    | with_reducible apply State.setRole_keeps
    | with_reducible apply State.modTwn_keeps
    | with_reducible apply State.resetPageRegs_keeps
    | with_reducible apply State.setFld_keeps
    | with_reducible apply State.setReg_keeps
    | with_reducible apply State.sendPairBody_keeps
    | fail_if_no_progress with_reducible apply keeps_upd
    | with_reducible apply keeps_foldl
    | with_reducible apply keeps_foldl_pair
    | dsimp only
    | split
    | refine keeps_of_eq (by with_reducible assumption) ?_

theorem State.twinRole_keeps {s0 : State} (s : State) (h : Keeps s0 s) :
    Keeps s0 (State.twinRole s) := by
  unfold State.twinRole
  repeat' first
    | with_reducible assumption
    | intro _
    | with_reducible apply keeps_ite
    | with_reducible apply keeps_ite_pair
    | with_reducible apply State.enterHunt_keeps
    | with_reducible apply State.setRole_keeps
    | with_reducible apply State.modTwn_keeps
    | fail_if_no_progress with_reducible apply keeps_upd
    | with_reducible apply keeps_foldl
    | with_reducible apply keeps_foldl_pair
    | dsimp only
    | split
    | refine keeps_of_eq (by with_reducible assumption) ?_

theorem State.twinTake_keeps {s0 : State} (s : State) (lane : ℕ) (h_ : TwinHead) (epoch : Bool) (h : Keeps s0 s) :
    Keeps s0 (State.twinTake s lane h_ epoch).1 := by
  unfold State.twinTake
  repeat' first
    | with_reducible assumption
    | intro _
    | with_reducible apply keeps_ite
    | with_reducible apply keeps_ite_pair
    | with_reducible apply State.modTwn_keeps
    | fail_if_no_progress with_reducible apply keeps_upd
    | with_reducible apply keeps_foldl
    | with_reducible apply keeps_foldl_pair
    | dsimp only
    | split
    | refine keeps_of_eq (by with_reducible assumption) ?_

theorem State.mismatch_keeps {s0 : State} (s : State) (n : Stamp) (h : Keeps s0 s) :
    Keeps s0 (State.mismatch s n) := by
  unfold State.mismatch
  repeat' first
    | with_reducible assumption
    | intro _
    | with_reducible apply keeps_ite
    | with_reducible apply keeps_ite_pair
    | with_reducible apply State.incHi_keeps
    | with_reducible apply State.modTwn_keeps
    | with_reducible apply State.log_keeps
    | with_reducible apply State.raise_keeps
    | with_reducible apply State.setRole_keeps
    | fail_if_no_progress with_reducible apply keeps_upd
    | with_reducible apply keeps_foldl
    | with_reducible apply keeps_foldl_pair
    | dsimp only
    | split
    | refine keeps_of_eq (by with_reducible assumption) ?_

theorem State.compareDigest_keeps {s0 : State} (s : State) (n : Stamp) (d : ℕ) (h : Keeps s0 s) :
    Keeps s0 (State.compareDigest s n d) := by
  unfold State.compareDigest
  repeat' first
    | with_reducible assumption
    | intro _
    | with_reducible apply keeps_ite
    | with_reducible apply keeps_ite_pair
    | with_reducible apply State.mismatch_keeps
    | fail_if_no_progress with_reducible apply keeps_upd
    | with_reducible apply keeps_foldl
    | with_reducible apply keeps_foldl_pair
    | dsimp only
    | split
    | refine keeps_of_eq (by with_reducible assumption) ?_

theorem State.loadRecords_keeps {s0 : State} (s : State) (e : LoopEpoch) (recs : List ℕ) (h : Keeps s0 s) :
    Keeps s0 (State.loadRecords s e recs) := by
  unfold State.loadRecords
  repeat' first
    | with_reducible assumption
    | intro _
    | with_reducible apply keeps_ite
    | with_reducible apply keeps_ite_pair
    | with_reducible apply State.modLoop_keeps
    | fail_if_no_progress with_reducible apply keeps_upd
    | with_reducible apply keeps_foldl
    | with_reducible apply keeps_foldl_pair
    | dsimp only
    | split
    | refine keeps_of_eq (by with_reducible assumption) ?_

theorem State.loadEpoch_keeps {s0 : State} (s : State) (e : LoopEpoch) (h : Keeps s0 s) :
    Keeps s0 (State.loadEpoch s e) := by
  unfold State.loadEpoch
  repeat' first
    | with_reducible assumption
    | intro _
    | with_reducible apply keeps_ite
    | with_reducible apply keeps_ite_pair
    | with_reducible apply State.loadRecords_keeps
    | with_reducible apply State.setReg_keeps
    | fail_if_no_progress with_reducible apply keeps_upd
    | with_reducible apply keeps_foldl
    | with_reducible apply keeps_foldl_pair
    | dsimp only
    | split
    | refine keeps_of_eq (by with_reducible assumption) ?_

theorem State.showLinks_keeps {s0 : State} (s : State) (e : LoopEpoch) (h : Keeps s0 s) :
    Keeps s0 (State.showLinks s e) := by
  unfold State.showLinks
  repeat' first
    | with_reducible assumption
    | intro _
    | with_reducible apply keeps_ite
    | with_reducible apply keeps_ite_pair
    | with_reducible apply State.setFld_keeps
    | fail_if_no_progress with_reducible apply keeps_upd
    | with_reducible apply keeps_foldl
    | with_reducible apply keeps_foldl_pair
    | dsimp only
    | split
    | refine keeps_of_eq (by with_reducible assumption) ?_

theorem State.pairDone_keeps {s0 : State} (s : State) (h : Keeps s0 s) :
    Keeps s0 (State.pairDone s) := by
  unfold State.pairDone
  repeat' first
    | with_reducible assumption
    | intro _
    | with_reducible apply keeps_ite
    | with_reducible apply keeps_ite_pair
    | with_reducible apply State.raise_keeps
    | with_reducible apply State.setRole_keeps
    | with_reducible apply State.log_keeps
    | fail_if_no_progress with_reducible apply keeps_upd
    | with_reducible apply keeps_foldl
    | with_reducible apply keeps_foldl_pair
    | dsimp only
    | split
    | refine keeps_of_eq (by with_reducible assumption) ?_

theorem State.epochTorn_keeps {s0 : State} (s : State) (ttype : ℕ) (b : Stamp) (h : Keeps s0 s) :
    Keeps s0 (State.epochTorn s ttype b) := by
  unfold State.epochTorn
  repeat' first
    | with_reducible assumption
    | intro _
    | with_reducible apply keeps_ite
    | with_reducible apply keeps_ite_pair
    | with_reducible apply State.log_keeps
    | with_reducible apply State.incLo_keeps
    | with_reducible apply State.raise_keeps
    | fail_if_no_progress with_reducible apply keeps_upd
    | with_reducible apply keeps_foldl
    | with_reducible apply keeps_foldl_pair
    | dsimp only
    | split
    | refine keeps_of_eq (by with_reducible assumption) ?_

theorem State.takeEpoch_keeps {s0 : State} (s : State) (e : LoopEpoch) (h : Keeps s0 s) :
    Keeps s0 (State.takeEpoch s e) := by
  unfold State.takeEpoch
  repeat' first
    | with_reducible assumption
    | intro _
    | with_reducible apply keeps_ite
    | with_reducible apply keeps_ite_pair
    | with_reducible apply State.modTwn_keeps
    | with_reducible apply State.setReg_keeps
    | with_reducible apply State.pairDone_keeps
    | with_reducible apply State.showLinks_keeps
    | fail_if_no_progress with_reducible apply keeps_upd
    | with_reducible apply keeps_foldl
    | with_reducible apply keeps_foldl_pair
    | dsimp only
    | split
    | refine keeps_of_eq (by with_reducible assumption) ?_

theorem State.pairKeys_keeps {s0 : State} (s : State) (z : List Byte) (own : PairFrame) (peer : PairFrame) (h : Keeps s0 s) :
    Keeps s0 (State.pairKeys s z own peer) := by
  unfold State.pairKeys
  repeat' first
    | with_reducible assumption
    | intro _
    | with_reducible apply keeps_ite
    | with_reducible apply keeps_ite_pair
    | with_reducible apply State.fillKey_keeps
    | with_reducible apply State.modTwn_keeps
    | with_reducible apply State.draw_keeps
    | with_reducible apply State.emptyKey_keeps
    | fail_if_no_progress with_reducible apply keeps_upd
    | with_reducible apply keeps_foldl
    | with_reducible apply keeps_foldl_pair
    | dsimp only
    | split
    | refine keeps_of_eq (by with_reducible assumption) ?_

theorem State.sendCopy_keeps {s0 : State} (s : State) (h : Keeps s0 s) :
    Keeps s0 (State.sendCopy s) := by
  unfold State.sendCopy
  repeat' first
    | with_reducible assumption
    | intro _
    | with_reducible apply keeps_ite
    | with_reducible apply keeps_ite_pair
    | with_reducible apply State.sendJournal_keeps
    | fail_if_no_progress with_reducible apply keeps_upd
    | with_reducible apply keeps_foldl
    | with_reducible apply keeps_foldl_pair
    | dsimp only
    | split
    | refine keeps_of_eq (by with_reducible assumption) ?_

theorem State.pairSigned_keeps {s0 : State} (s : State) (own : PairFrame) (peer : PairFrame) (sig : List Byte) (h : Keeps s0 s) :
    Keeps s0 (State.pairSigned s own peer sig) := by
  unfold State.pairSigned
  repeat' first
    | with_reducible assumption
    | intro _
    | with_reducible apply keeps_ite
    | with_reducible apply keeps_ite_pair
    | with_reducible apply State.pairKeys_keeps
    | with_reducible apply State.sendCopy_keeps
    | fail_if_no_progress with_reducible apply keeps_upd
    | with_reducible apply keeps_foldl
    | with_reducible apply keeps_foldl_pair
    | dsimp only
    | split
    | refine keeps_of_eq (by with_reducible assumption) ?_

theorem State.pairReceive_keeps {s0 : State} (s : State) (p : PairFrame) (h : Keeps s0 s) :
    Keeps s0 (State.pairReceive s p) := by
  unfold State.pairReceive
  repeat' first
    | with_reducible assumption
    | intro _
    | with_reducible apply keeps_ite
    | with_reducible apply keeps_ite_pair
    | with_reducible apply State.raise_keeps
    | with_reducible apply State.enterHunt_keeps
    | with_reducible apply State.sendPairBody_keeps
    | with_reducible apply State.modTwn_keeps
    | with_reducible apply State.sendTwinOut_keeps
    | with_reducible apply State.draw_keeps
    | with_reducible apply State.pairSigned_keeps
    | fail_if_no_progress with_reducible apply keeps_upd
    | with_reducible apply keeps_foldl
    | with_reducible apply keeps_foldl_pair
    | dsimp only
    | split
    | refine keeps_of_eq (by with_reducible assumption) ?_

theorem State.decideTakeover_keeps {s0 : State} (s : State) (c : ℕ) (b : Stamp) (h : Keeps s0 s) :
    Keeps s0 (State.decideTakeover s c b) := by
  unfold State.decideTakeover
  repeat' first
    | with_reducible assumption
    | intro _
    | with_reducible apply keeps_ite
    | with_reducible apply keeps_ite_pair
    | with_reducible apply State.raise_keeps
    | with_reducible apply State.incLo_keeps
    | with_reducible apply State.modTwn_keeps
    | with_reducible apply State.log_keeps
    | fail_if_no_progress with_reducible apply keeps_upd
    | with_reducible apply keeps_foldl
    | with_reducible apply keeps_foldl_pair
    | (refine keeps_opt (by with_reducible assumption) ?_; with_reducible apply State.raiseClaim_keeps)
    | dsimp only
    | split
    | refine keeps_of_eq (by with_reducible assumption) ?_

theorem State.takeBilling_keeps {s0 : State} (s : State) (h : Keeps s0 s) :
    Keeps s0 (State.takeBilling s) := by
  unfold State.takeBilling
  repeat' first
    | with_reducible assumption
    | intro _
    | with_reducible apply keeps_ite
    | with_reducible apply keeps_ite_pair
    | fail_if_no_progress with_reducible apply keeps_upd
    | with_reducible apply keeps_foldl
    | with_reducible apply keeps_foldl_pair
    | dsimp only
    | split
    | refine keeps_of_eq (by with_reducible assumption) ?_

theorem State.coldStart_keeps {s0 : State} (s : State) (b : Stamp) (h : Keeps s0 s) :
    Keeps s0 (State.coldStart s b) := by
  unfold State.coldStart
  repeat' first
    | with_reducible assumption
    | intro _
    | with_reducible apply keeps_ite
    | with_reducible apply keeps_ite_pair
    | with_reducible apply State.modChan_keeps
    | with_reducible apply State.setCh_keeps
    | with_reducible apply State.gapRecord_keeps
    | fail_if_no_progress with_reducible apply keeps_upd
    | with_reducible apply keeps_foldl
    | with_reducible apply keeps_foldl_pair
    | dsimp only
    | split
    | refine keeps_of_eq (by with_reducible assumption) ?_

theorem State.takeOver_keeps {s0 : State} (s : State) (c : ℕ) (b : Stamp) (h : Keeps s0 s) :
    Keeps s0 (State.takeOver s c b) := by
  unfold State.takeOver
  repeat' first
    | with_reducible assumption
    | intro _
    | with_reducible apply keeps_ite
    | with_reducible apply keeps_ite_pair
    | with_reducible apply State.loadRecords_keeps
    | with_reducible apply State.takeBilling_keeps
    | with_reducible apply State.setRole_keeps
    | with_reducible apply State.modBoard_keeps
    | with_reducible apply State.setFld_keeps
    | with_reducible apply State.coldStart_keeps
    | with_reducible apply State.modTwn_keeps
    | with_reducible apply State.setReg64_keeps
    | fail_if_no_progress with_reducible apply keeps_upd
    | with_reducible apply keeps_foldl
    | with_reducible apply keeps_foldl_pair
    | dsimp only
    | split
    | refine keeps_of_eq (by with_reducible assumption) ?_

theorem State.handOver_keeps {s0 : State} (s : State) (b : Stamp) (h : Keeps s0 s) :
    Keeps s0 (State.handOver s b) := by
  unfold State.handOver
  repeat' first
    | with_reducible assumption
    | intro _
    | with_reducible apply keeps_ite
    | with_reducible apply keeps_ite_pair
    | with_reducible apply State.modTwn_keeps
    | with_reducible apply State.setRole_keeps
    | with_reducible apply State.raise_keeps
    | fail_if_no_progress with_reducible apply keeps_upd
    | with_reducible apply keeps_foldl
    | with_reducible apply keeps_foldl_pair
    | dsimp only
    | split
    | refine keeps_of_eq (by with_reducible assumption) ?_

theorem handoverEff_keeps {s0 : State} (v : Word) (s : State) (h : Keeps s0 s) :
    Keeps s0 (handoverEff v s).1 := by
  unfold handoverEff
  repeat' first
    | with_reducible assumption
    | intro _
    | with_reducible apply keeps_ite
    | with_reducible apply keeps_ite_pair
    | with_reducible apply State.sendControl_keeps
    | with_reducible apply State.modTwn_keeps
    | fail_if_no_progress with_reducible apply keeps_upd
    | with_reducible apply keeps_foldl
    | with_reducible apply keeps_foldl_pair
    | dsimp only
    | split
    | refine keeps_of_eq (by with_reducible assumption) ?_

theorem drillEff_keeps {s0 : State} (req : ℕ) (v : Word) (s : State) (h : Keeps s0 s) :
    Keeps s0 (drillEff req v s).1 := by
  unfold drillEff
  repeat' first
    | with_reducible assumption
    | intro _
    | with_reducible apply keeps_ite
    | with_reducible apply keeps_ite_pair
    | with_reducible apply State.loadPair_keeps
    | with_reducible apply State.modTwn_keeps
    | with_reducible apply State.log_keeps
    | fail_if_no_progress with_reducible apply keeps_upd
    | with_reducible apply keeps_foldl
    | with_reducible apply keeps_foldl_pair
    | dsimp only
    | split
    | refine keeps_of_eq (by with_reducible assumption) ?_

theorem drillCtrlEff_keeps {s0 : State} (v : Word) (s : State) (h : Keeps s0 s) :
    Keeps s0 (drillCtrlEff v s).1 := by
  unfold drillCtrlEff
  repeat' first
    | with_reducible assumption
    | intro _
    | with_reducible apply keeps_ite
    | with_reducible apply keeps_ite_pair
    | with_reducible apply State.store_keeps
    | with_reducible apply State.modTwn_keeps
    | fail_if_no_progress with_reducible apply keeps_upd
    | with_reducible apply keeps_foldl
    | with_reducible apply keeps_foldl_pair
    | dsimp only
    | split
    | refine keeps_of_eq (by with_reducible assumption) ?_

theorem rearmEff_keeps {s0 : State} (v : Word) (s : State) (h : Keeps s0 s) :
    Keeps s0 (rearmEff v s).1 := by
  unfold rearmEff
  repeat' first
    | with_reducible assumption
    | intro _
    | with_reducible apply keeps_ite
    | with_reducible apply keeps_ite_pair
    | with_reducible apply State.enterPairing_keeps
    | fail_if_no_progress with_reducible apply keeps_upd
    | with_reducible apply keeps_foldl
    | with_reducible apply keeps_foldl_pair
    | dsimp only
    | split
    | refine keeps_of_eq (by with_reducible assumption) ?_

theorem twnCtrlEff_keeps {s0 : State} (v : Word) (s : State) (h : Keeps s0 s) :
    Keeps s0 (twnCtrlEff v s).1 := by
  unfold twnCtrlEff
  repeat' first
    | with_reducible assumption
    | intro _
    | with_reducible apply keeps_ite
    | with_reducible apply keeps_ite_pair
    | with_reducible apply State.stlRefresh_keeps
    | with_reducible apply State.modTwn_keeps
    | with_reducible apply State.resetPageRegs_keeps
    | with_reducible apply State.twinRole_keeps
    | with_reducible apply State.setReg_keeps
    | fail_if_no_progress with_reducible apply keeps_upd
    | with_reducible apply keeps_foldl
    | with_reducible apply keeps_foldl_pair
    | dsimp only
    | split
    | refine keeps_of_eq (by with_reducible assumption) ?_

theorem twnEff_keeps {s0 : State} (req : ℕ) (a : ℕ) (v : Word) (s : State) (h : Keeps s0 s) :
    Keeps s0 (twnEff req a v s).1 := by
  unfold twnEff
  repeat' first
    | with_reducible assumption
    | intro _
    | with_reducible apply keeps_ite
    | with_reducible apply keeps_ite_pair
    | with_reducible apply twnCtrlEff_keeps
    | with_reducible apply State.plainWrite_keeps
    | with_reducible apply drillEff_keeps
    | with_reducible apply drillCtrlEff_keeps
    | with_reducible apply handoverEff_keeps
    | with_reducible apply rearmEff_keeps
    | fail_if_no_progress with_reducible apply keeps_upd
    | with_reducible apply keeps_foldl
    | with_reducible apply keeps_foldl_pair
    | dsimp only
    | split
    | refine keeps_of_eq (by with_reducible assumption) ?_

end Sys2Proof.Machine
end

