-- ==== Sys2Proof/Laws/KeepUpdate.lean ====
section
/-!
SUPPORT. What the operations of Machine/Update.lean keep: the queue, and the canonical form of the stores.
-/

namespace Sys2Proof.Machine

theorem State.updResult_keeps {s0 : State} (s : State) (code : ℕ) (h : Keeps s0 s) :
    Keeps s0 (State.updResult s code) := by
  unfold State.updResult
  repeat' first
    | with_reducible assumption
    | intro _
    | with_reducible apply keeps_ite
    | with_reducible apply keeps_ite_pair
    | with_reducible apply State.setReg_keeps
    | fail_if_no_progress with_reducible apply keeps_upd
    | with_reducible apply keeps_foldl
    | with_reducible apply keeps_foldl_pair
    | dsimp only
    | split
    | refine keeps_of_eq (by with_reducible assumption) ?_

theorem State.updRefuse_keeps {s0 : State} (s : State) (cmd : ℕ) (code : ℕ) (req : ℕ) (h : Keeps s0 s) :
    Keeps s0 (State.updRefuse s cmd code req).1 := by
  unfold State.updRefuse
  repeat' first
    | with_reducible assumption
    | intro _
    | with_reducible apply keeps_ite
    | with_reducible apply keeps_ite_pair
    | with_reducible apply State.raise_keeps
    | with_reducible apply State.updResult_keeps
    | with_reducible apply State.log_keeps
    | with_reducible apply State.draw_keeps
    | fail_if_no_progress with_reducible apply keeps_upd
    | with_reducible apply keeps_foldl
    | with_reducible apply keeps_foldl_pair
    | dsimp only
    | split
    | refine keeps_of_eq (by with_reducible assumption) ?_

theorem State.updTouch_keeps {s0 : State} (s : State) (req : ℕ) (h : Keeps s0 s) :
    Keeps s0 (State.updTouch s req) := by
  unfold State.updTouch
  repeat' first
    | with_reducible assumption
    | intro _
    | with_reducible apply keeps_ite
    | with_reducible apply keeps_ite_pair
    | with_reducible apply State.modUpd_keeps
    | fail_if_no_progress with_reducible apply keeps_upd
    | with_reducible apply keeps_foldl
    | with_reducible apply keeps_foldl_pair
    | dsimp only
    | split
    | refine keeps_of_eq (by with_reducible assumption) ?_

theorem State.updEnd_keeps {s0 : State} (s : State) (cause : ℕ) (code : ℕ) (h : Keeps s0 s) :
    Keeps s0 (State.updEnd s cause code) := by
  unfold State.updEnd
  repeat' first
    | with_reducible assumption
    | intro _
    | with_reducible apply keeps_ite
    | with_reducible apply keeps_ite_pair
    | with_reducible apply State.log_keeps
    | with_reducible apply State.modUpd_keeps
    | fail_if_no_progress with_reducible apply keeps_upd
    | with_reducible apply keeps_foldl
    | with_reducible apply keeps_foldl_pair
    | dsimp only
    | split
    | refine keeps_of_eq (by with_reducible assumption) ?_

theorem State.updOpen_keeps {s0 : State} (s : State) (req : ℕ) (src : ℕ) (h : Keeps s0 s) :
    Keeps s0 (State.updOpen s req src).1 := by
  unfold State.updOpen
  repeat' first
    | with_reducible assumption
    | intro _
    | with_reducible apply keeps_ite
    | with_reducible apply keeps_ite_pair
    | with_reducible apply State.updRefuse_keeps
    | with_reducible apply State.eraseMem_keeps
    | with_reducible apply State.writeRec_keeps
    | with_reducible apply State.modUpd_keeps
    | with_reducible apply State.log_keeps
    | with_reducible apply State.updResult_keeps
    | fail_if_no_progress with_reducible apply keeps_upd
    | with_reducible apply keeps_foldl
    | with_reducible apply keeps_foldl_pair
    | dsimp only
    | split
    | refine keeps_of_eq (by with_reducible assumption) ?_

theorem State.updClose_keeps {s0 : State} (s : State) (req : ℕ) (abort : Bool) (h : Keeps s0 s) :
    Keeps s0 (State.updClose s req abort).1 := by
  unfold State.updClose
  repeat' first
    | with_reducible assumption
    | intro _
    | with_reducible apply keeps_ite
    | with_reducible apply keeps_ite_pair
    | with_reducible apply State.updRefuse_keeps
    | with_reducible apply State.updResult_keeps
    | with_reducible apply State.updEnd_keeps
    | fail_if_no_progress with_reducible apply keeps_upd
    | with_reducible apply keeps_foldl
    | with_reducible apply keeps_foldl_pair
    | dsimp only
    | split
    | refine keeps_of_eq (by with_reducible assumption) ?_

theorem sessionEff_keeps {s0 : State} (req : ℕ) (v : Word) (s : State) (h : Keeps s0 s) :
    Keeps s0 (sessionEff req v s).1 := by
  unfold sessionEff
  repeat' first
    | with_reducible assumption
    | intro _
    | with_reducible apply keeps_ite
    | with_reducible apply keeps_ite_pair
    | with_reducible apply State.updTouch_keeps
    | with_reducible apply State.updOpen_keeps
    | with_reducible apply State.updClose_keeps
    | fail_if_no_progress with_reducible apply keeps_upd
    | with_reducible apply keeps_foldl
    | with_reducible apply keeps_foldl_pair
    | dsimp only
    | split
    | refine keeps_of_eq (by with_reducible assumption) ?_

theorem xferEff_keeps {s0 : State} (req : ℕ) (v : Word) (s : State) (h : Keeps s0 s) :
    Keeps s0 (xferEff req v s).1 := by
  unfold xferEff
  repeat' first
    | with_reducible assumption
    | intro _
    | with_reducible apply keeps_ite
    | with_reducible apply keeps_ite_pair
    | with_reducible apply State.updTouch_keeps
    | with_reducible apply State.setReg_keeps
    | with_reducible apply State.updRefuse_keeps
    | with_reducible apply State.modUpd_keeps
    | fail_if_no_progress with_reducible apply keeps_upd
    | with_reducible apply keeps_foldl
    | with_reducible apply keeps_foldl_pair
    | dsimp only
    | split
    | refine keeps_of_eq (by with_reducible assumption) ?_

theorem State.updVerify_keeps {s0 : State} (s : State) (req : ℕ) (h : Keeps s0 s) :
    Keeps s0 (State.updVerify s req).1 := by
  unfold State.updVerify
  repeat' first
    | with_reducible assumption
    | intro _
    | with_reducible apply keeps_ite
    | with_reducible apply keeps_ite_pair
    | with_reducible apply State.updRefuse_keeps
    | with_reducible apply State.setReg_keeps
    | with_reducible apply State.modUpd_keeps
    | fail_if_no_progress with_reducible apply keeps_upd
    | with_reducible apply keeps_foldl
    | with_reducible apply keeps_foldl_pair
    | dsimp only
    | split
    | refine keeps_of_eq (by with_reducible assumption) ?_

theorem State.actErase_keeps {s0 : State} (s : State) (idle : Bool) (h : Keeps s0 s) :
    Keeps s0 (State.actErase s idle) := by
  unfold State.actErase
  repeat' first
    | with_reducible assumption
    | intro _
    | with_reducible apply keeps_ite
    | with_reducible apply keeps_ite_pair
    | with_reducible apply State.eraseMem_keeps
    | fail_if_no_progress with_reducible apply keeps_upd
    | with_reducible apply keeps_foldl
    | with_reducible apply keeps_foldl_pair
    | dsimp only
    | split
    | refine keeps_of_eq (by with_reducible assumption) ?_

theorem State.updActivate_keeps {s0 : State} (s : State) (req : ℕ) (h : Keeps s0 s) :
    Keeps s0 (State.updActivate s req).1 := by
  unfold State.updActivate
  repeat' first
    | with_reducible assumption
    | intro _
    | with_reducible apply keeps_ite
    | with_reducible apply keeps_ite_pair
    | with_reducible apply State.updRefuse_keeps
    | with_reducible apply State.setReg_keeps
    | with_reducible apply State.modUpd_keeps
    | with_reducible apply State.actErase_keeps
    | fail_if_no_progress with_reducible apply keeps_upd
    | with_reducible apply keeps_foldl
    | with_reducible apply keeps_foldl_pair
    | dsimp only
    | split
    | refine keeps_of_eq (by with_reducible assumption) ?_

theorem State.updConfirm_keeps {s0 : State} (s : State) (req : ℕ) (key : ℕ) (h : Keeps s0 s) :
    Keeps s0 (State.updConfirm s req key).1 := by
  unfold State.updConfirm
  repeat' first
    | with_reducible assumption
    | intro _
    | with_reducible apply keeps_ite
    | with_reducible apply keeps_ite_pair
    | with_reducible apply State.updRefuse_keeps
    | with_reducible apply State.blow_keeps
    | with_reducible apply State.writeRec_keeps
    | with_reducible apply State.updResult_keeps
    | with_reducible apply State.raise_keeps
    | with_reducible apply State.modUpd_keeps
    | with_reducible apply State.log_keeps
    | fail_if_no_progress with_reducible apply keeps_upd
    | with_reducible apply keeps_foldl
    | with_reducible apply keeps_foldl_pair
    | dsimp only
    | split
    | refine keeps_of_eq (by with_reducible assumption) ?_

theorem State.fallBack_keeps {s0 : State} (s : State) (cause : ℕ) (h : Keeps s0 s) :
    Keeps s0 (State.fallBack s cause) := by
  unfold State.fallBack
  repeat' first
    | with_reducible assumption
    | intro _
    | with_reducible apply keeps_ite
    | with_reducible apply keeps_ite_pair
    | with_reducible apply State.writeRec_keeps
    | with_reducible apply State.logFallback_keeps
    | with_reducible apply State.systemReset_keeps
    | fail_if_no_progress with_reducible apply keeps_upd
    | with_reducible apply keeps_foldl
    | with_reducible apply keeps_foldl_pair
    | dsimp only
    | split
    | refine keeps_of_eq (by with_reducible assumption) ?_

theorem State.updFallback_keeps {s0 : State} (s : State) (req : ℕ) (key : ℕ) (h : Keeps s0 s) :
    Keeps s0 (State.updFallback s req key).1 := by
  unfold State.updFallback
  repeat' first
    | with_reducible assumption
    | intro _
    | with_reducible apply keeps_ite
    | with_reducible apply keeps_ite_pair
    | with_reducible apply State.updRefuse_keeps
    | with_reducible apply State.fallBack_keeps
    | fail_if_no_progress with_reducible apply keeps_upd
    | with_reducible apply keeps_foldl
    | with_reducible apply keeps_foldl_pair
    | dsimp only
    | split
    | refine keeps_of_eq (by with_reducible assumption) ?_

theorem State.updMigDone_keeps {s0 : State} (s : State) (req : ℕ) (h : Keeps s0 s) :
    Keeps s0 (State.updMigDone s req).1 := by
  unfold State.updMigDone
  repeat' first
    | with_reducible assumption
    | intro _
    | with_reducible apply keeps_ite
    | with_reducible apply keeps_ite_pair
    | with_reducible apply State.updResult_keeps
    | with_reducible apply State.modUpd_keeps
    | with_reducible apply State.updRefuse_keeps
    | fail_if_no_progress with_reducible apply keeps_upd
    | with_reducible apply keeps_foldl
    | with_reducible apply keeps_foldl_pair
    | dsimp only
    | split
    | refine keeps_of_eq (by with_reducible assumption) ?_

theorem updCmdEff_keeps {s0 : State} (req : ℕ) (v : Word) (s : State) (h : Keeps s0 s) :
    Keeps s0 (updCmdEff req v s).1 := by
  unfold updCmdEff
  repeat' first
    | with_reducible assumption
    | intro _
    | with_reducible apply keeps_ite
    | with_reducible apply keeps_ite_pair
    | with_reducible apply State.updTouch_keeps
    | with_reducible apply State.updVerify_keeps
    | with_reducible apply State.updActivate_keeps
    | with_reducible apply State.updConfirm_keeps
    | with_reducible apply State.updFallback_keeps
    | with_reducible apply State.updMigDone_keeps
    | with_reducible apply State.updRefuse_keeps
    | fail_if_no_progress with_reducible apply keeps_upd
    | with_reducible apply keeps_foldl
    | with_reducible apply keeps_foldl_pair
    | dsimp only
    | split
    | refine keeps_of_eq (by with_reducible assumption) ?_

theorem State.xferPut_keeps {s0 : State} (s : State) (off : ℕ) (l : List Byte) (h : Keeps s0 s) :
    Keeps s0 (State.xferPut s off l) := by
  unfold State.xferPut
  repeat' first
    | with_reducible assumption
    | intro _
    | with_reducible apply keeps_ite
    | with_reducible apply keeps_ite_pair
    | with_reducible apply State.setReg_keeps
    | with_reducible apply State.modUpd_keeps
    | with_reducible apply State.setBytes_keeps
    | with_reducible apply State.raise_keeps
    | with_reducible apply State.updResult_keeps
    | with_reducible apply State.updEnd_keeps
    | fail_if_no_progress with_reducible apply keeps_upd
    | with_reducible apply keeps_foldl
    | with_reducible apply keeps_foldl_pair
    | dsimp only
    | split
    | refine keeps_of_eq (by with_reducible assumption) ?_

theorem State.xferDone_keeps {s0 : State} (s : State) (off : ℕ) (n : ℕ) (buf : Bool) (src : ℕ) (h : Keeps s0 s) :
    Keeps s0 (State.xferDone s off n buf src) := by
  unfold State.xferDone
  repeat' first
    | with_reducible assumption
    | intro _
    | with_reducible apply keeps_ite
    | with_reducible apply keeps_ite_pair
    | with_reducible apply State.xferPut_keeps
    | fail_if_no_progress with_reducible apply keeps_upd
    | with_reducible apply keeps_foldl
    | with_reducible apply keeps_foldl_pair
    | dsimp only
    | split
    | refine keeps_of_eq (by with_reducible assumption) ?_

theorem State.verifyDone_keeps {s0 : State} (s : State) (h : Keeps s0 s) :
    Keeps s0 (State.verifyDone s) := by
  unfold State.verifyDone
  repeat' first
    | with_reducible assumption
    | intro _
    | with_reducible apply keeps_ite
    | with_reducible apply keeps_ite_pair
    | with_reducible apply State.setReg_keeps
    | with_reducible apply State.modUpd_keeps
    | with_reducible apply State.writeRec_keeps
    | with_reducible apply State.log_keeps
    | with_reducible apply State.updEnd_keeps
    | with_reducible apply State.raise_keeps
    | with_reducible apply State.updResult_keeps
    | fail_if_no_progress with_reducible apply keeps_upd
    | with_reducible apply keeps_foldl
    | with_reducible apply keeps_foldl_pair
    | dsimp only
    | split
    | refine keeps_of_eq (by with_reducible assumption) ?_

theorem State.activateDone_keeps {s0 : State} (s : State) (idle : Bool) (flashOk : Bool) (h : Keeps s0 s) :
    Keeps s0 (State.activateDone s idle flashOk) := by
  unfold State.activateDone
  repeat' first
    | with_reducible assumption
    | intro _
    | with_reducible apply keeps_ite
    | with_reducible apply keeps_ite_pair
    | with_reducible apply State.setBytes_keeps
    | with_reducible apply State.eraseMem_keeps
    | with_reducible apply State.setReg_keeps
    | with_reducible apply State.modUpd_keeps
    | with_reducible apply State.log_keeps
    | with_reducible apply State.writeRec_keeps
    | with_reducible apply State.updEnd_keeps
    | with_reducible apply State.raise_keeps
    | with_reducible apply State.updResult_keeps
    | fail_if_no_progress with_reducible apply keeps_upd
    | with_reducible apply keeps_foldl
    | with_reducible apply keeps_foldl_pair
    | dsimp only
    | split
    | refine keeps_of_eq (by with_reducible assumption) ?_

theorem updCtrlEff_keeps {s0 : State} (v : Word) (s : State) (h : Keeps s0 s) :
    Keeps s0 (updCtrlEff v s).1 := by
  unfold updCtrlEff
  repeat' first
    | with_reducible assumption
    | intro _
    | with_reducible apply keeps_ite
    | with_reducible apply keeps_ite_pair
    | with_reducible apply State.modUpd_keeps
    | with_reducible apply State.resetPageRegs_keeps
    | fail_if_no_progress with_reducible apply keeps_upd
    | with_reducible apply keeps_foldl
    | with_reducible apply keeps_foldl_pair
    | dsimp only
    | split
    | refine keeps_of_eq (by with_reducible assumption) ?_

theorem updEff_keeps {s0 : State} (req : ℕ) (a : ℕ) (v : Word) (s : State) (h : Keeps s0 s) :
    Keeps s0 (updEff req a v s).1 := by
  unfold updEff
  repeat' first
    | with_reducible assumption
    | intro _
    | with_reducible apply keeps_ite
    | with_reducible apply keeps_ite_pair
    | with_reducible apply updCtrlEff_keeps
    | with_reducible apply sessionEff_keeps
    | with_reducible apply xferEff_keeps
    | with_reducible apply updCmdEff_keeps
    | with_reducible apply State.plainWrite_keeps
    | fail_if_no_progress with_reducible apply keeps_upd
    | with_reducible apply keeps_foldl
    | with_reducible apply keeps_foldl_pair
    | dsimp only
    | split
    | refine keeps_of_eq (by with_reducible assumption) ?_

end Sys2Proof.Machine
end

