-- ==== Sys2Proof/Laws/KeepFabric.lean ====
section
/-!
SUPPORT. What the operations of Machine/Fabric.lean keep: the queue, and the canonical form of the stores.
-/

namespace Sys2Proof.Machine

theorem State.accessFault_keeps {s0 : State} (s : State) (req : ℕ) (a : ℕ) (write : Bool) (kind : ℕ) (h : Keeps s0 s) :
    Keeps s0 (State.accessFault s req a write kind) := by
  unfold State.accessFault
  repeat' first
    | with_reducible assumption
    | intro _
    | with_reducible apply keeps_ite
    | with_reducible apply keeps_ite_pair
    | with_reducible apply State.setReg_keeps
    | with_reducible apply State.emit_keeps
    | with_reducible apply State.raise_keeps
    | fail_if_no_progress with_reducible apply keeps_upd
    | with_reducible apply keeps_foldl
    | with_reducible apply keeps_foldl_pair
    | dsimp only
    | split
    | refine keeps_of_eq (by with_reducible assumption) ?_

theorem sysCtrlEff_keeps {s0 : State} (v : Word) (s : State) (h : Keeps s0 s) :
    Keeps s0 (sysCtrlEff v s).1 := by
  unfold sysCtrlEff
  repeat' first
    | with_reducible assumption
    | intro _
    | with_reducible apply keeps_ite
    | with_reducible apply keeps_ite_pair
    | with_reducible apply State.setReg_keeps
    | fail_if_no_progress with_reducible apply keeps_upd
    | with_reducible apply keeps_foldl
    | with_reducible apply keeps_foldl_pair
    | dsimp only
    | split
    | refine keeps_of_eq (by with_reducible assumption) ?_

theorem rstCtrlEff_keeps {s0 : State} (req : ℕ) (v : Word) (s : State) (h : Keeps s0 s) :
    Keeps s0 (rstCtrlEff req v s).1 := by
  unfold rstCtrlEff
  repeat' first
    | with_reducible assumption
    | intro _
    | with_reducible apply keeps_ite
    | with_reducible apply keeps_ite_pair
    | with_reducible apply State.systemReset_keeps
    | with_reducible apply State.coreReset_keeps
    | fail_if_no_progress with_reducible apply keeps_upd
    | with_reducible apply keeps_foldl
    | with_reducible apply keeps_foldl_pair
    | dsimp only
    | split
    | refine keeps_of_eq (by with_reducible assumption) ?_

theorem wdogCfgEff_keeps {s0 : State} (v : Word) (s : State) (h : Keeps s0 s) :
    Keeps s0 (wdogCfgEff v s).1 := by
  unfold wdogCfgEff
  repeat' first
    | with_reducible assumption
    | intro _
    | with_reducible apply keeps_ite
    | with_reducible apply keeps_ite_pair
    | with_reducible apply State.store_keeps
    | with_reducible apply State.wdogRestart_keeps
    | fail_if_no_progress with_reducible apply keeps_upd
    | with_reducible apply keeps_foldl
    | with_reducible apply keeps_foldl_pair
    | dsimp only
    | split
    | refine keeps_of_eq (by with_reducible assumption) ?_

theorem wdogKickEff_keeps {s0 : State} (v : Word) (s : State) (h : Keeps s0 s) :
    Keeps s0 (wdogKickEff v s).1 := by
  unfold wdogKickEff
  repeat' first
    | with_reducible assumption
    | intro _
    | with_reducible apply keeps_ite
    | with_reducible apply keeps_ite_pair
    | with_reducible apply State.wdogRestart_keeps
    | fail_if_no_progress with_reducible apply keeps_upd
    | with_reducible apply keeps_foldl
    | with_reducible apply keeps_foldl_pair
    | dsimp only
    | split
    | refine keeps_of_eq (by with_reducible assumption) ?_

theorem sysEff_keeps {s0 : State} (req : ℕ) (a : ℕ) (v : Word) (s : State) (h : Keeps s0 s) :
    Keeps s0 (sysEff req a v s).1 := by
  unfold sysEff
  repeat' first
    | with_reducible assumption
    | intro _
    | with_reducible apply keeps_ite
    | with_reducible apply keeps_ite_pair
    | with_reducible apply sysCtrlEff_keeps
    | with_reducible apply rstCtrlEff_keeps
    | with_reducible apply wdogCfgEff_keeps
    | with_reducible apply wdogKickEff_keeps
    | with_reducible apply State.plainWrite_keeps
    | fail_if_no_progress with_reducible apply keeps_upd
    | with_reducible apply keeps_foldl
    | with_reducible apply keeps_foldl_pair
    | dsimp only
    | split
    | refine keeps_of_eq (by with_reducible assumption) ?_

theorem trcEff_keeps {s0 : State} (req : ℕ) (a : ℕ) (v : Word) (s : State) (h : Keeps s0 s) :
    Keeps s0 (trcEff req a v s).1 := by
  unfold trcEff
  repeat' first
    | with_reducible assumption
    | intro _
    | with_reducible apply keeps_ite
    | with_reducible apply keeps_ite_pair
    | with_reducible apply State.eraseMem_keeps
    | with_reducible apply State.resetPageRegs_keeps
    | with_reducible apply State.setReg_keeps
    | with_reducible apply State.plainWrite_keeps
    | fail_if_no_progress with_reducible apply keeps_upd
    | with_reducible apply keeps_foldl
    | with_reducible apply keeps_foldl_pair
    | dsimp only
    | split
    | refine keeps_of_eq (by with_reducible assumption) ?_

theorem rctEff_keeps {s0 : State} (req : ℕ) (a : ℕ) (v : Word) (s : State) (h : Keeps s0 s) :
    Keeps s0 (rctEff req a v s).1 := by
  unfold rctEff
  repeat' first
    | with_reducible assumption
    | intro _
    | with_reducible apply keeps_ite
    | with_reducible apply keeps_ite_pair
    | with_reducible apply rctCtrlEff_keeps
    | with_reducible apply ringSetEff_keeps
    | with_reducible apply rctCfgEff_keeps
    | with_reducible apply rctForceEff_keeps
    | with_reducible apply convCtrlEff_keeps
    | with_reducible apply State.plainWrite_keeps
    | with_reducible apply State.setRbit_keeps
    | fail_if_no_progress with_reducible apply keeps_upd
    | with_reducible apply keeps_foldl
    | with_reducible apply keeps_foldl_pair
    | dsimp only
    | split
    | refine keeps_of_eq (by with_reducible assumption) ?_

theorem snsEff_keeps {s0 : State} (req : ℕ) (a : ℕ) (v : Word) (s : State) (h : Keeps s0 s) :
    Keeps s0 (snsEff req a v s).1 := by
  unfold snsEff
  repeat' first
    | with_reducible assumption
    | intro _
    | with_reducible apply keeps_ite
    | with_reducible apply keeps_ite_pair
    | with_reducible apply snsCtrlEff_keeps
    | with_reducible apply laneCfgEff_keeps
    | with_reducible apply inputCfgEff_keeps
    | with_reducible apply pbCtrlEff_keeps
    | with_reducible apply pbRegEff_keeps
    | with_reducible apply State.plainWrite_keeps
    | fail_if_no_progress with_reducible apply keeps_upd
    | with_reducible apply keeps_foldl
    | with_reducible apply keeps_foldl_pair
    | dsimp only
    | split
    | refine keeps_of_eq (by with_reducible assumption) ?_

theorem axeCtrlEff_keeps {s0 : State} (v : Word) (s : State) (h : Keeps s0 s) :
    Keeps s0 (axeCtrlEff v s).1 := by
  unfold axeCtrlEff
  repeat' first
    | with_reducible assumption
    | intro _
    | with_reducible apply keeps_ite
    | with_reducible apply keeps_ite_pair
    | with_reducible apply State.resetPageRegs_keeps
    | with_reducible apply State.setReg64_keeps
    | with_reducible apply State.setReg_keeps
    | with_reducible apply State.axeRefresh_keeps
    | fail_if_no_progress with_reducible apply keeps_upd
    | with_reducible apply keeps_foldl
    | with_reducible apply keeps_foldl_pair
    | dsimp only
    | split
    | refine keeps_of_eq (by with_reducible assumption) ?_

theorem axeEff_keeps {s0 : State} (req : ℕ) (a : ℕ) (v : Word) (s : State) (h : Keeps s0 s) :
    Keeps s0 (axeEff req a v s).1 := by
  unfold axeEff
  repeat' first
    | with_reducible assumption
    | intro _
    | with_reducible apply keeps_ite
    | with_reducible apply keeps_ite_pair
    | with_reducible apply axeCtrlEff_keeps
    | with_reducible apply axeClearEff_keeps
    | with_reducible apply axeForceEff_keeps
    | with_reducible apply axeRunEnEff_keeps
    | with_reducible apply axeCfgEff_keeps
    | with_reducible apply State.plainWrite_keeps
    | fail_if_no_progress with_reducible apply keeps_upd
    | with_reducible apply keeps_foldl
    | with_reducible apply keeps_foldl_pair
    | dsimp only
    | split
    | refine keeps_of_eq (by with_reducible assumption) ?_

theorem commonEff_keeps {s0 : State} (req : ℕ) (a : ℕ) (v : Word) (s : State) (h : Keeps s0 s) :
    ∀ p, commonEff req a v s = some p → Keeps s0 p.1 := by
  unfold commonEff
  intro p e
  dsimp only at e
  split at e
  · obtain rfl := Option.some.inj e
    exact State.noteEdge_keeps _ _ _ (State.plainWrite_keeps _ _ _ _ h)
  · split at e
    · obtain rfl := Option.some.inj e
      exact State.noteEdge_keeps _ _ _ (State.modReg_keeps _ _ _ h)
    · split at e
      · obtain rfl := Option.some.inj e; dsimp only; exact State.modReg_keeps _ _ _ h
      · split at e
        · obtain rfl := Option.some.inj e; exact h
        · simp at e

theorem bareEff_keeps {s0 : State} (req : ℕ) (a : ℕ) (v : Word) (s : State) (h : Keeps s0 s) :
    Keeps s0 (bareEff req a v s).1 := by
  unfold bareEff
  repeat' first
    | with_reducible assumption
    | intro _
    | with_reducible apply keeps_ite
    | with_reducible apply keeps_ite_pair
    | with_reducible apply State.resetPageRegs_keeps
    | with_reducible apply State.setReg_keeps
    | with_reducible apply State.plainWrite_keeps
    | fail_if_no_progress with_reducible apply keeps_upd
    | with_reducible apply keeps_foldl
    | with_reducible apply keeps_foldl_pair
    | dsimp only
    | split
    | refine keeps_of_eq (by with_reducible assumption) ?_

theorem pageEff_keeps {s0 : State} (req : ℕ) (a : ℕ) (v : Word) (s : State) (h : Keeps s0 s) :
    Keeps s0 (pageEff req a v s).1 := by
  unfold pageEff
  repeat' first
    | with_reducible assumption
    | intro _
    | with_reducible apply keeps_ite
    | with_reducible apply keeps_ite_pair
    | with_reducible apply sysEff_keeps
    | with_reducible apply pwrEff_keeps
    | with_reducible apply rctEff_keeps
    | with_reducible apply timEff_keeps
    | with_reducible apply rtcEff_keeps
    | with_reducible apply snsEff_keeps
    | with_reducible apply cenEff_keeps
    | with_reducible apply mfeEff_keeps
    | with_reducible apply chnEff_keeps
    | with_reducible apply axeEff_keeps
    | with_reducible apply stlEff_keeps
    | with_reducible apply mtrEff_keeps
    | with_reducible apply lgtEff_keeps
    | with_reducible apply diaEff_keeps
    | with_reducible apply fphEff_keeps
    | with_reducible apply fmaEff_keeps
    | with_reducible apply ntbEff_keeps
    | with_reducible apply yrdEff_keeps
    | with_reducible apply schEff_keeps
    | with_reducible apply swxEff_keeps
    | with_reducible apply ofsEff_keeps
    | with_reducible apply uplEff_keeps
    | with_reducible apply thsEff_keeps
    | with_reducible apply tquEff_keeps
    | with_reducible apply evrEff_keeps
    | with_reducible apply kvtEff_keeps
    | with_reducible apply updEff_keeps
    | with_reducible apply twnEff_keeps
    | with_reducible apply kspEff_keeps
    | with_reducible apply hkpEff_keeps
    | with_reducible apply trcEff_keeps
    | with_reducible apply bareEff_keeps
    | fail_if_no_progress with_reducible apply keeps_upd
    | with_reducible apply keeps_foldl
    | with_reducible apply keeps_foldl_pair
    | (refine keeps_opt_pair (by with_reducible assumption) ?_; with_reducible apply commonEff_keeps)
    | dsimp only
    | split
    | refine keeps_of_eq (by with_reducible assumption) ?_

theorem winEff_keeps {s0 : State} (a : ℕ) (v : Word) (s : State) (h : Keeps s0 s) :
    Keeps s0 (winEff a v s).1 := by
  unfold winEff
  repeat' first
    | with_reducible assumption
    | intro _
    | with_reducible apply keeps_ite
    | with_reducible apply keeps_ite_pair
    | with_reducible apply w0Eff_keeps
    | with_reducible apply w1Eff_keeps
    | with_reducible apply w2Eff_keeps
    | with_reducible apply w3Eff_keeps
    | with_reducible apply w4Eff_keeps
    | with_reducible apply w5Eff_keeps
    | with_reducible apply w6Eff_keeps
    | with_reducible apply w7Eff_keeps
    | fail_if_no_progress with_reducible apply keeps_upd
    | with_reducible apply keeps_foldl
    | with_reducible apply keeps_foldl_pair
    | dsimp only
    | split
    | refine keeps_of_eq (by with_reducible assumption) ?_

theorem writeEff_keeps {s0 : State} (req : ℕ) (a : ℕ) (v : Word) (s : State) (h : Keeps s0 s) :
    Keeps s0 (writeEff req a v s).1 := by
  unfold writeEff
  repeat' first
    | with_reducible assumption
    | intro _
    | with_reducible apply keeps_ite
    | with_reducible apply keeps_ite_pair
    | with_reducible apply pageEff_keeps
    | with_reducible apply winEff_keeps
    | fail_if_no_progress with_reducible apply keeps_upd
    | with_reducible apply keeps_foldl
    | with_reducible apply keeps_foldl_pair
    | dsimp only
    | split
    | refine keeps_of_eq (by with_reducible assumption) ?_

theorem State.fabricWriteR_keeps {s0 : State} (s : State) (req : ℕ) (a : ℕ) (v : Word) (h : Keeps s0 s) :
    Keeps s0 (State.fabricWriteR s req a v).1 := by
  unfold State.fabricWriteR
  repeat' first
    | with_reducible assumption
    | intro _
    | with_reducible apply keeps_ite
    | with_reducible apply keeps_ite_pair
    | with_reducible apply State.busWriteR_keeps
    | with_reducible apply writeEff_keeps
    | fail_if_no_progress with_reducible apply keeps_upd
    | with_reducible apply keeps_foldl
    | with_reducible apply keeps_foldl_pair
    | dsimp only
    | split
    | refine keeps_of_eq (by with_reducible assumption) ?_

theorem State.fabricWrite_keeps {s0 : State} (s : State) (req : ℕ) (a : ℕ) (v : Word) (h : Keeps s0 s) :
    Keeps s0 (State.fabricWrite s req a v) := by
  unfold State.fabricWrite
  repeat' first
    | with_reducible assumption
    | intro _
    | with_reducible apply keeps_ite
    | with_reducible apply keeps_ite_pair
    | with_reducible apply State.fabricWriteR_keeps
    | fail_if_no_progress with_reducible apply keeps_upd
    | with_reducible apply keeps_foldl
    | with_reducible apply keeps_foldl_pair
    | dsimp only
    | split
    | refine keeps_of_eq (by with_reducible assumption) ?_

theorem State.configWrite_keeps {s0 : State} (s : State) (req : ℕ) (a : ℕ) (v : Word) (h : Keeps s0 s) :
    Keeps s0 (State.configWrite s req a v) := by
  unfold State.configWrite
  repeat' first
    | with_reducible assumption
    | intro _
    | with_reducible apply keeps_ite
    | with_reducible apply keeps_ite_pair
    | with_reducible apply State.countClamp_keeps
    | with_reducible apply State.setBytes_keeps
    | fail_if_no_progress with_reducible apply keeps_upd
    | with_reducible apply keeps_foldl
    | with_reducible apply keeps_foldl_pair
    | dsimp only
    | split
    | refine keeps_of_eq (by with_reducible assumption) ?_

theorem State.clintWrite_keeps {s0 : State} (s : State) (a : ℕ) (v : Word) (h : Keeps s0 s) :
    Keeps s0 (State.clintWrite s a v) := by
  unfold State.clintWrite
  repeat' first
    | with_reducible assumption
    | intro _
    | with_reducible apply keeps_ite
    | with_reducible apply keeps_ite_pair
    | with_reducible apply State.modTim_keeps
    | fail_if_no_progress with_reducible apply keeps_upd
    | with_reducible apply keeps_foldl
    | with_reducible apply keeps_foldl_pair
    | dsimp only
    | split
    | refine keeps_of_eq (by with_reducible assumption) ?_

theorem State.wordWrite_keeps {s0 : State} (s : State) (req : ℕ) (a : ℕ) (v : Word) (h : Keeps s0 s) :
    Keeps s0 (State.wordWrite s req a v) := by
  unfold State.wordWrite
  repeat' first
    | with_reducible assumption
    | intro _
    | with_reducible apply keeps_ite
    | with_reducible apply keeps_ite_pair
    | with_reducible apply State.accessFault_keeps
    | with_reducible apply State.fabricWrite_keeps
    | with_reducible apply State.clintWrite_keeps
    | with_reducible apply State.configWrite_keeps
    | with_reducible apply State.setBytes_keeps
    | fail_if_no_progress with_reducible apply keeps_upd
    | with_reducible apply keeps_foldl
    | with_reducible apply keeps_foldl_pair
    | dsimp only
    | split
    | refine keeps_of_eq (by with_reducible assumption) ?_

theorem State.pageRead_keeps {s0 : State} (s : State) (req : ℕ) (a : ℕ) (h : Keeps s0 s) :
    Keeps s0 (State.pageRead s req a).1 := by
  unfold State.pageRead
  repeat' first
    | with_reducible assumption
    | intro _
    | with_reducible apply keeps_ite
    | with_reducible apply keeps_ite_pair
    | with_reducible apply State.setPort_keeps
    | with_reducible apply State.tsfPop_keeps
    | fail_if_no_progress with_reducible apply keeps_upd
    | with_reducible apply keeps_foldl
    | with_reducible apply keeps_foldl_pair
    | dsimp only
    | split
    | refine keeps_of_eq (by with_reducible assumption) ?_

theorem State.wordRead_keeps {s0 : State} (s : State) (req : ℕ) (a : ℕ) (h : Keeps s0 s) :
    Keeps s0 (State.wordRead s req a) := by
  unfold State.wordRead
  repeat' first
    | with_reducible assumption
    | intro _
    | with_reducible apply keeps_ite
    | with_reducible apply keeps_ite_pair
    | with_reducible apply State.accessFault_keeps
    | with_reducible apply State.pageRead_keeps
    | with_reducible apply State.setPort_keeps
    | fail_if_no_progress with_reducible apply keeps_upd
    | with_reducible apply keeps_foldl
    | with_reducible apply keeps_foldl_pair
    | dsimp only
    | split
    | refine keeps_of_eq (by with_reducible assumption) ?_

theorem State.parityError_keeps {s0 : State} (s : State) (p : ℕ) (h : Keeps s0 s) :
    Keeps s0 (State.parityError s p) := by
  unfold State.parityError
  repeat' first
    | with_reducible assumption
    | intro _
    | with_reducible apply keeps_ite
    | with_reducible apply keeps_ite_pair
    | with_reducible apply State.raise_keeps
    | with_reducible apply State.incLo_keeps
    | fail_if_no_progress with_reducible apply keeps_upd
    | with_reducible apply keeps_foldl
    | with_reducible apply keeps_foldl_pair
    | dsimp only
    | split
    | refine keeps_of_eq (by with_reducible assumption) ?_

theorem State.spoil_keeps {s0 : State} (s : State) (n : BadWord) (h : Keeps s0 s) :
    Keeps s0 (State.spoil s n) := by
  unfold State.spoil
  repeat' first
    | with_reducible assumption
    | intro _
    | with_reducible apply keeps_ite
    | with_reducible apply keeps_ite_pair
    | with_reducible apply State.setIn_keeps
    | fail_if_no_progress with_reducible apply keeps_upd
    | with_reducible apply keeps_foldl
    | with_reducible apply keeps_foldl_pair
    | dsimp only
    | split
    | refine keeps_of_eq (by with_reducible assumption) ?_

end Sys2Proof.Machine
end

