-- ==== Sys2Proof/Laws/KeepTwinLink.lean ====
section
/-!
SUPPORT. What the operations of Machine/TwinLink.lean keep: the queue, and the canonical form of the stores.
-/

namespace Sys2Proof.Machine

theorem State.keepDigest_keeps {s0 : State} (s : State) (n : Stamp) (h : Keeps s0 s) :
    Keeps s0 (State.keepDigest s n) := by
  unfold State.keepDigest
  repeat' first
    | with_reducible assumption
    | intro _
    | with_reducible apply keeps_ite
    | with_reducible apply keeps_ite_pair
    | with_reducible apply State.modTwn_keeps
    | fail_if_no_progress with_reducible apply keeps_upd
    | with_reducible apply keeps_foldl
    | with_reducible apply keeps_foldl_pair
    | dsimp only
    | split
    | refine keeps_of_eq (by with_reducible assumption) ?_

theorem State.nameDrill_keeps {s0 : State} (s : State) (h : Keeps s0 s) :
    Keeps s0 (State.nameDrill s) := by
  unfold State.nameDrill
  repeat' first
    | with_reducible assumption
    | intro _
    | with_reducible apply keeps_ite
    | with_reducible apply keeps_ite_pair
    | with_reducible apply State.sendControl_keeps
    | with_reducible apply State.modTwn_keeps
    | fail_if_no_progress with_reducible apply keeps_upd
    | with_reducible apply keeps_foldl
    | with_reducible apply keeps_foldl_pair
    | dsimp only
    | split
    | refine keeps_of_eq (by with_reducible assumption) ?_

theorem State.loadDiffering_keeps {s0 : State} (s : State) (h : Keeps s0 s) :
    Keeps s0 (State.loadDiffering s) := by
  unfold State.loadDiffering
  repeat' first
    | with_reducible assumption
    | intro _
    | with_reducible apply keeps_ite
    | with_reducible apply keeps_ite_pair
    | with_reducible apply State.modTwn_keeps
    | with_reducible apply State.loadRecords_keeps
    | fail_if_no_progress with_reducible apply keeps_upd
    | with_reducible apply keeps_foldl
    | with_reducible apply keeps_foldl_pair
    | dsimp only
    | split
    | refine keeps_of_eq (by with_reducible assumption) ?_

theorem State.applyWords_keeps {s0 : State} (s : State) (req : ℕ) (n : ℕ) (ws : List Word) (h : Keeps s0 s) :
    Keeps s0 (State.applyWords s req n ws).1 := by
  induction ws generalizing s n with
  | nil => exact h
  | cons w ws ih => exact ih _ _ (writeEff_keeps _ _ _ _ h)

theorem State.storeWords_keeps {s0 : State} (s : State) (n : ℕ) (ws : List Word) (h : Keeps s0 s) :
    Keeps s0 (State.storeWords s n ws) := by
  induction ws generalizing s n with
  | nil => exact h
  | cons w ws ih => exact ih _ _ (State.setWin_keeps _ _ _ h)

theorem State.takeKey_keeps {s0 : State} (s : State) (i : ℕ) (ws : List Word) (h : Keeps s0 s) :
    Keeps s0 (State.takeKey s i ws) := by
  unfold State.takeKey
  repeat' first
    | with_reducible assumption
    | intro _
    | with_reducible apply keeps_ite
    | with_reducible apply keeps_ite_pair
    | with_reducible apply State.draw_keeps
    | with_reducible apply State.fillKey_keeps
    | fail_if_no_progress with_reducible apply keeps_upd
    | with_reducible apply keeps_foldl
    | with_reducible apply keeps_foldl_pair
    | dsimp only
    | split
    | refine keeps_of_eq (by with_reducible assumption) ?_

theorem State.applyEntry_keeps {s0 : State} (s : State) (e : JournalEntry) (h : Keeps s0 s) :
    Keeps s0 (State.applyEntry s e).1 := by
  unfold State.applyEntry
  repeat' first
    | with_reducible assumption
    | intro _
    | with_reducible apply keeps_ite
    | with_reducible apply keeps_ite_pair
    | with_reducible apply State.applyWords_keeps
    | with_reducible apply State.storeWords_keeps
    | with_reducible apply State.takeKey_keeps
    | with_reducible apply State.modTwn_keeps
    | fail_if_no_progress with_reducible apply keeps_upd
    | with_reducible apply keeps_foldl
    | with_reducible apply keeps_foldl_pair
    | dsimp only
    | split
    | refine keeps_of_eq (by with_reducible assumption) ?_

theorem State.applyHeld_keeps {s0 : State} (s : State) (h : Keeps s0 s) :
    Keeps s0 (State.applyHeld s) := by
  unfold State.applyHeld
  repeat' first
    | with_reducible assumption
    | intro _
    | with_reducible apply keeps_ite
    | with_reducible apply keeps_ite_pair
    | with_reducible apply State.applyEntry_keeps
    | with_reducible apply State.modTwn_keeps
    | fail_if_no_progress with_reducible apply keeps_upd
    | with_reducible apply keeps_foldl
    | with_reducible apply keeps_foldl_pair
    | dsimp only
    | split
    | refine keeps_of_eq (by with_reducible assumption) ?_

theorem State.journalEntry_keeps {s0 : State} (s : State) (e : JournalEntry) (h : Keeps s0 s) :
    Keeps s0 (State.journalEntry s e) := by
  unfold State.journalEntry
  repeat' first
    | with_reducible assumption
    | intro _
    | with_reducible apply keeps_ite
    | with_reducible apply keeps_ite_pair
    | with_reducible apply State.setReg_keeps
    | with_reducible apply State.modTwn_keeps
    | with_reducible apply State.applyEntry_keeps
    | fail_if_no_progress with_reducible apply keeps_upd
    | with_reducible apply keeps_foldl
    | with_reducible apply keeps_foldl_pair
    | dsimp only
    | split
    | refine keeps_of_eq (by with_reducible assumption) ?_

end Sys2Proof.Machine
end

