-- ==== Sys2Proof/Laws/KeepSegment.lean ====
section
/-!
SUPPORT. What the operations of Machine/Segment.lean keep: the queue, and the canonical form of the stores.
-/

namespace Sys2Proof.Machine

theorem State.kspRefused_keeps {s0 : State} (s : State) (reason : ℕ) (ident : ℕ) (h : Keeps s0 s) :
    Keeps s0 (State.kspRefused s reason ident) := by
  unfold State.kspRefused
  repeat' first
    | with_reducible assumption
    | intro _
    | with_reducible apply keeps_ite
    | with_reducible apply keeps_ite_pair
    | with_reducible apply State.log_keeps
    | with_reducible apply State.raise_keeps
    | fail_if_no_progress with_reducible apply keeps_upd
    | with_reducible apply keeps_foldl
    | with_reducible apply keeps_foldl_pair
    | dsimp only
    | split
    | refine keeps_of_eq (by with_reducible assumption) ?_

theorem State.kspSessionLog_keeps {s0 : State} (s : State) (i : ℕ) (x2 : KspSession) (event : ℕ) (h : Keeps s0 s) :
    Keeps s0 (State.kspSessionLog s i x2 event) := by
  unfold State.kspSessionLog
  repeat' first
    | with_reducible assumption
    | intro _
    | with_reducible apply keeps_ite
    | with_reducible apply keeps_ite_pair
    | with_reducible apply State.log_keeps
    | with_reducible apply State.raise_keeps
    | fail_if_no_progress with_reducible apply keeps_upd
    | with_reducible apply keeps_foldl
    | with_reducible apply keeps_foldl_pair
    | dsimp only
    | split
    | refine keeps_of_eq (by with_reducible assumption) ?_

theorem State.kspClose_keeps {s0 : State} (s : State) (i : ℕ) (h : Keeps s0 s) :
    Keeps s0 (State.kspClose s i) := by
  unfold State.kspClose
  repeat' first
    | with_reducible assumption
    | intro _
    | with_reducible apply keeps_ite
    | with_reducible apply keeps_ite_pair
    | with_reducible apply State.setReg_keeps
    | with_reducible apply State.setSession_keeps
    | fail_if_no_progress with_reducible apply keeps_upd
    | with_reducible apply keeps_foldl
    | with_reducible apply keeps_foldl_pair
    | dsimp only
    | split
    | refine keeps_of_eq (by with_reducible assumption) ?_

theorem State.kspConnect_keeps {s0 : State} (s : State) (c : KspClient) (h : Keeps s0 s) :
    Keeps s0 (State.kspConnect s c) := by
  unfold State.kspConnect
  repeat' first
    | with_reducible assumption
    | intro _
    | with_reducible apply keeps_ite
    | with_reducible apply keeps_ite_pair
    | with_reducible apply State.kspRefused_keeps
    | with_reducible apply State.incLo_keeps
    | with_reducible apply State.setSession_keeps
    | with_reducible apply State.setReg64_keeps
    | with_reducible apply State.setReg_keeps
    | fail_if_no_progress with_reducible apply keeps_upd
    | with_reducible apply keeps_foldl
    | with_reducible apply keeps_foldl_pair
    | dsimp only
    | split
    | refine keeps_of_eq (by with_reducible assumption) ?_

theorem State.kspHello_keeps {s0 : State} (s : State) (i : ℕ) (vmin : ℕ) (vmax : ℕ) (h : Keeps s0 s) :
    Keeps s0 (State.kspHello s i vmin vmax) := by
  unfold State.kspHello
  repeat' first
    | with_reducible assumption
    | intro _
    | with_reducible apply keeps_ite
    | with_reducible apply keeps_ite_pair
    | with_reducible apply State.incReg_keeps
    | with_reducible apply State.kspRefused_keeps
    | with_reducible apply State.kspClose_keeps
    | with_reducible apply State.kspSend_keeps
    | with_reducible apply State.setReg_keeps
    | with_reducible apply State.setSession_keeps
    | with_reducible apply State.kspSessionLog_keeps
    | fail_if_no_progress with_reducible apply keeps_upd
    | with_reducible apply keeps_foldl
    | with_reducible apply keeps_foldl_pair
    | dsimp only
    | split
    | refine keeps_of_eq (by with_reducible assumption) ?_

theorem State.kspReply_keeps {s0 : State} (s : State) (h_ : KspHead) (msg : ℕ) (a : KspAnswer) (replayed : Bool) (h : Keeps s0 s) :
    Keeps s0 (State.kspReply s h_ msg a replayed) := by
  unfold State.kspReply
  repeat' first
    | with_reducible assumption
    | intro _
    | with_reducible apply keeps_ite
    | with_reducible apply keeps_ite_pair
    | with_reducible apply State.kspSend_keeps
    | fail_if_no_progress with_reducible apply keeps_upd
    | with_reducible apply keeps_foldl
    | with_reducible apply keeps_foldl_pair
    | dsimp only
    | split
    | refine keeps_of_eq (by with_reducible assumption) ?_

theorem State.kspTake_keeps {s0 : State} (s : State) (i : ℕ) (x2 : KspSession) (h : Keeps s0 s) :
    Keeps s0 (State.kspTake s i x2) := by
  unfold State.kspTake
  repeat' first
    | with_reducible assumption
    | intro _
    | with_reducible apply keeps_ite
    | with_reducible apply keeps_ite_pair
    | with_reducible apply State.setSession_keeps
    | with_reducible apply State.incReg_keeps
    | fail_if_no_progress with_reducible apply keeps_upd
    | with_reducible apply keeps_foldl
    | with_reducible apply keeps_foldl_pair
    | dsimp only
    | split
    | refine keeps_of_eq (by with_reducible assumption) ?_

theorem State.kspDenied_keeps {s0 : State} (s : State) (msg : ℕ) (x2 : KspSession) (h : Keeps s0 s) :
    Keeps s0 (State.kspDenied s msg x2) := by
  unfold State.kspDenied
  repeat' first
    | with_reducible assumption
    | intro _
    | with_reducible apply keeps_ite
    | with_reducible apply keeps_ite_pair
    | with_reducible apply State.log_keeps
    | with_reducible apply State.modKsp_keeps
    | fail_if_no_progress with_reducible apply keeps_upd
    | with_reducible apply keeps_foldl
    | with_reducible apply keeps_foldl_pair
    | dsimp only
    | split
    | refine keeps_of_eq (by with_reducible assumption) ?_

theorem State.kspRead_keeps {s0 : State} (s : State) (h_ : KspHead) (msg : ℕ) (ver : ℕ) (role : Option ℕ) (f : KspSession → State → State × KspAnswer) (h : Keeps s0 s) (hf : ∀ x0 s, Keeps s0 s → Keeps s0 (f x0 s).1) :
    Keeps s0 (State.kspRead s h_ msg ver role f) := by
  unfold State.kspRead
  repeat' first
    | with_reducible assumption
    | intro _
    | with_reducible apply keeps_ite
    | with_reducible apply keeps_ite_pair
    | with_reducible apply State.kspTake_keeps
    | with_reducible apply State.kspReply_keeps
    | with_reducible apply State.kspDenied_keeps
    | fail_if_no_progress with_reducible apply keeps_upd
    | with_reducible apply keeps_foldl
    | with_reducible apply keeps_foldl_pair
    | with_reducible apply hf
    | dsimp only
    | split
    | refine keeps_of_eq (by with_reducible assumption) ?_

theorem State.kspJournal_keeps {s0 : State} (s : State) (body : List Byte) (h : Keeps s0 s) :
    Keeps s0 (State.kspJournal s body) := by
  unfold State.kspJournal
  repeat' first
    | with_reducible assumption
    | intro _
    | with_reducible apply keeps_ite
    | with_reducible apply keeps_ite_pair
    | with_reducible apply State.txjDone_keeps
    | with_reducible apply State.setReg_keeps
    | with_reducible apply State.raise_keeps
    | with_reducible apply State.txjAppend_keeps
    | fail_if_no_progress with_reducible apply keeps_upd
    | with_reducible apply keeps_foldl
    | with_reducible apply keeps_foldl_pair
    | dsimp only
    | split
    | refine keeps_of_eq (by with_reducible assumption) ?_

theorem State.kspRun_keeps {s0 : State} (s : State) (h_ : KspHead) (msg : ℕ) (x3 : KspSession) (f : KspSession → State → State × KspAnswer) (h : Keeps s0 s) (hf : ∀ x0 s, Keeps s0 s → Keeps s0 (f x0 s).1) :
    Keeps s0 (State.kspRun s h_ msg x3 f) := by
  unfold State.kspRun
  repeat' first
    | with_reducible assumption
    | intro _
    | with_reducible apply keeps_ite
    | with_reducible apply keeps_ite_pair
    | with_reducible apply State.kspReply_keeps
    | with_reducible apply State.kspJournal_keeps
    | fail_if_no_progress with_reducible apply keeps_upd
    | with_reducible apply keeps_foldl
    | with_reducible apply keeps_foldl_pair
    | with_reducible apply hf
    | dsimp only
    | split
    | refine keeps_of_eq (by with_reducible assumption) ?_

theorem State.kspWrite_keeps {s0 : State} (s : State) (h_ : KspHead) (msg : ℕ) (ver : ℕ) (role : Option ℕ) (f : KspSession → State → State × KspAnswer) (h : Keeps s0 s) (hf : ∀ x0 s, Keeps s0 s → Keeps s0 (f x0 s).1) :
    Keeps s0 (State.kspWrite s h_ msg ver role f) := by
  unfold State.kspWrite
  repeat' first
    | with_reducible assumption
    | intro _
    | with_reducible apply keeps_ite
    | with_reducible apply keeps_ite_pair
    | with_reducible apply State.kspTake_keeps
    | with_reducible apply State.kspReply_keeps
    | with_reducible apply State.kspDenied_keeps
    | with_reducible apply State.kspRun_keeps
    | fail_if_no_progress with_reducible apply keeps_upd
    | with_reducible apply keeps_foldl
    | with_reducible apply keeps_foldl_pair
    | with_reducible apply hf
    | dsimp only
    | split
    | refine keeps_of_eq (by with_reducible assumption) ?_

theorem State.fwWrite_keeps {s0 : State} (s : State) (a : ℕ) (v : Word) (h : Keeps s0 s) :
    Keeps s0 (State.fwWrite s a v).1 := by
  unfold State.fwWrite
  repeat' first
    | with_reducible assumption
    | intro _
    | with_reducible apply keeps_ite
    | with_reducible apply keeps_ite_pair
    | with_reducible apply State.fabricWriteR_keeps
    | fail_if_no_progress with_reducible apply keeps_upd
    | with_reducible apply keeps_foldl
    | with_reducible apply keeps_foldl_pair
    | dsimp only
    | split
    | refine keeps_of_eq (by with_reducible assumption) ?_

theorem State.fwWrites_keeps {s0 : State} (s : State) (l : List (ℕ × Word)) (h : Keeps s0 s) :
    Keeps s0 (State.fwWrites s l).1 := by
  unfold State.fwWrites
  repeat' first
    | with_reducible assumption
    | intro _
    | with_reducible apply keeps_ite
    | with_reducible apply keeps_ite_pair
    | with_reducible apply State.fwWrite_keeps
    | fail_if_no_progress with_reducible apply keeps_upd
    | with_reducible apply keeps_foldl
    | with_reducible apply keeps_foldl_pair
    | dsimp only
    | split
    | refine keeps_of_eq (by with_reducible assumption) ?_

theorem State.applyMember_keeps {s0 : State} (s : State) (m : KspMember) (at_ : Stamp) (h : Keeps s0 s) :
    Keeps s0 (State.applyMember s m at_).1 := by
  unfold State.applyMember
  repeat' first
    | with_reducible assumption
    | intro _
    | with_reducible apply keeps_ite
    | with_reducible apply keeps_ite_pair
    | with_reducible apply State.fwWrites_keeps
    | fail_if_no_progress with_reducible apply keeps_upd
    | with_reducible apply keeps_foldl
    | with_reducible apply keeps_foldl_pair
    | dsimp only
    | split
    | refine keeps_of_eq (by with_reducible assumption) ?_

theorem State.armBundle_keeps {s0 : State} (s : State) (b : KspBundle) (h : Keeps s0 s) :
    Keeps s0 (State.armBundle s b).1 := by
  unfold State.armBundle
  repeat' first
    | with_reducible assumption
    | intro _
    | with_reducible apply keeps_ite
    | with_reducible apply keeps_ite_pair
    | with_reducible apply State.applyMember_keeps
    | fail_if_no_progress with_reducible apply keeps_upd
    | with_reducible apply keeps_foldl
    | with_reducible apply keeps_foldl_pair
    | dsimp only
    | split
    | refine keeps_of_eq (by with_reducible assumption) ?_

theorem State.takeBundle_keeps {s0 : State} (s : State) (h_ : KspHead) (x2 : KspSession) (msg : ℕ) (ms : List KspMember) (p : CommitPoint) (h : Keeps s0 s) :
    Keeps s0 (State.takeBundle s h_ x2 msg ms p).1 := by
  unfold State.takeBundle
  repeat' first
    | with_reducible assumption
    | intro _
    | with_reducible apply keeps_ite
    | with_reducible apply keeps_ite_pair
    | with_reducible apply State.kspDenied_keeps
    | with_reducible apply State.armBundle_keeps
    | with_reducible apply State.modKsp_keeps
    | fail_if_no_progress with_reducible apply keeps_upd
    | with_reducible apply keeps_foldl
    | with_reducible apply keeps_foldl_pair
    | dsimp only
    | split
    | refine keeps_of_eq (by with_reducible assumption) ?_

theorem State.kspMember_keeps {s0 : State} (s : State) (h_ : KspHead) (m : KspMember) (p : CommitPoint) (h : Keeps s0 s) :
    Keeps s0 (State.kspMember s h_ m p) := by
  unfold State.kspMember
  repeat' first
    | with_reducible assumption
    | intro _
    | with_reducible apply keeps_ite
    | with_reducible apply keeps_ite_pair
    | with_reducible apply State.kspWrite_keeps
    | with_reducible apply State.applyMember_keeps
    | with_reducible apply State.takeBundle_keeps
    | fail_if_no_progress with_reducible apply keeps_upd
    | with_reducible apply keeps_foldl
    | with_reducible apply keeps_foldl_pair
    | dsimp only
    | split
    | refine keeps_of_eq (by with_reducible assumption) ?_

theorem State.bundleDone_keeps {s0 : State} (s : State) (b : KspBundle) (h : Keeps s0 s) :
    Keeps s0 (State.bundleDone s b) := by
  unfold State.bundleDone
  repeat' first
    | with_reducible assumption
    | intro _
    | with_reducible apply keeps_ite
    | with_reducible apply keeps_ite_pair
    | with_reducible apply State.txjMark_keeps
    | with_reducible apply State.kspSend_keeps
    | fail_if_no_progress with_reducible apply keeps_upd
    | with_reducible apply keeps_foldl
    | with_reducible apply keeps_foldl_pair
    | dsimp only
    | split
    | refine keeps_of_eq (by with_reducible assumption) ?_

theorem State.configPut_keeps {s0 : State} (s : State) (rs : List ConfigRecord) (h : Keeps s0 s) :
    Keeps s0 (State.configPut s rs).1 := by
  unfold State.configPut
  repeat' first
    | with_reducible assumption
    | intro _
    | with_reducible apply keeps_ite
    | with_reducible apply keeps_ite_pair
    | with_reducible apply State.setBytes_keeps
    | fail_if_no_progress with_reducible apply keeps_upd
    | with_reducible apply keeps_foldl
    | with_reducible apply keeps_foldl_pair
    | dsimp only
    | split
    | refine keeps_of_eq (by with_reducible assumption) ?_

theorem State.readRegs_keeps {s0 : State} (s : State) (a : ℕ) (n : ℕ) (h : Keeps s0 s) :
    Keeps s0 (State.readRegs s a n).1 := by
  unfold State.readRegs
  repeat' first
    | with_reducible assumption
    | intro _
    | with_reducible apply keeps_ite
    | with_reducible apply keeps_ite_pair
    | with_reducible apply State.pageRead_keeps
    | fail_if_no_progress with_reducible apply keeps_upd
    | with_reducible apply keeps_foldl
    | with_reducible apply keeps_foldl_pair
    | dsimp only
    | split
    | refine keeps_of_eq (by with_reducible assumption) ?_

theorem State.streamOne_keeps {s0 : State} (s : State) (i : ℕ) (mask : ℕ) (q : Word) (h : Keeps s0 s) :
    Keeps s0 (State.streamOne s i mask q) := by
  unfold State.streamOne
  repeat' first
    | with_reducible assumption
    | intro _
    | with_reducible apply keeps_ite
    | with_reducible apply keeps_ite_pair
    | with_reducible apply State.kspSend_keeps
    | fail_if_no_progress with_reducible apply keeps_upd
    | with_reducible apply keeps_foldl
    | with_reducible apply keeps_foldl_pair
    | dsimp only
    | split
    | refine keeps_of_eq (by with_reducible assumption) ?_

theorem State.streamFrom_keeps {s0 : State} (s : State) (i : ℕ) (mask : ℕ) (n : ℕ) (a : Word) (h : Keeps s0 s) :
    Keeps s0 (State.streamFrom s i mask n a) := by
  induction n generalizing s a with
  | zero => exact h
  | succ n ih => exact ih _ _ (State.streamOne_keeps _ _ _ _ h)

theorem State.subscribe_keeps {s0 : State} (s : State) (h_ : KspHead) (x2 : KspSession) (from_ : Word) (mask : ℕ) (h : Keeps s0 s) :
    Keeps s0 (State.subscribe s h_ x2 from_ mask) := by
  unfold State.subscribe
  repeat' first
    | with_reducible assumption
    | intro _
    | with_reducible apply keeps_ite
    | with_reducible apply keeps_ite_pair
    | with_reducible apply State.kspSend_keeps
    | with_reducible apply State.streamFrom_keeps
    | with_reducible apply State.setSession_keeps
    | fail_if_no_progress with_reducible apply keeps_upd
    | with_reducible apply keeps_foldl
    | with_reducible apply keeps_foldl_pair
    | dsimp only
    | split
    | refine keeps_of_eq (by with_reducible assumption) ?_

theorem State.fwAnswer_keeps {s0 : State} (s : State) (l : List (ℕ × Word)) (h : Keeps s0 s) :
    Keeps s0 (State.fwAnswer s l).1 := by
  unfold State.fwAnswer
  repeat' first
    | with_reducible assumption
    | intro _
    | with_reducible apply keeps_ite
    | with_reducible apply keeps_ite_pair
    | with_reducible apply State.fwWrites_keeps
    | fail_if_no_progress with_reducible apply keeps_upd
    | with_reducible apply keeps_foldl
    | with_reducible apply keeps_foldl_pair
    | dsimp only
    | split
    | refine keeps_of_eq (by with_reducible assumption) ?_

theorem State.timeOrder_keeps {s0 : State} (s : State) (kind : ℕ) (x2 : KspSession) (h : Keeps s0 s) :
    Keeps s0 (State.timeOrder s kind x2) := by
  unfold State.timeOrder
  repeat' first
    | with_reducible assumption
    | intro _
    | with_reducible apply keeps_ite
    | with_reducible apply keeps_ite_pair
    | with_reducible apply State.log_keeps
    | fail_if_no_progress with_reducible apply keeps_upd
    | with_reducible apply keeps_foldl
    | with_reducible apply keeps_foldl_pair
    | dsimp only
    | split
    | refine keeps_of_eq (by with_reducible assumption) ?_

end Sys2Proof.Machine
end

