-- ==== Sys2Proof/Laws/State.lean ====
section
/-!
SUPPORT. What each update of the state leaves as it was, field by field, and what reads give after it.
-/

namespace Sys2Proof.Machine

/-- What `setReg` leaves as it was. -/
@[simp] theorem State.setReg_frame (s : State) (a : ℕ) (w : Word) :
    (s.setReg a w).win = s.win ∧ (s.setReg a w).mem = s.mem ∧ (s.setReg a w).now = s.now ∧ (s.setReg a w).sys = s.sys ∧
    (s.setReg a w).pwr = s.pwr ∧ (s.setReg a w).rct = s.rct ∧ (s.setReg a w).tim = s.tim ∧ (s.setReg a w).rtc = s.rtc ∧
    (s.setReg a w).sns = s.sns ∧ (s.setReg a w).cen = s.cen ∧ (s.setReg a w).mfe = s.mfe ∧ (s.setReg a w).chs = s.chs ∧
    (s.setReg a w).lgt = s.lgt ∧ (s.setReg a w).mtr = s.mtr ∧ (s.setReg a w).stl = s.stl ∧ (s.setReg a w).axe = s.axe ∧
    (s.setReg a w).modems = s.modems ∧ (s.setReg a w).macs = s.macs ∧ (s.setReg a w).ntb = s.ntb ∧
    (s.setReg a w).yrd = s.yrd ∧ (s.setReg a w).sch = s.sch ∧ (s.setReg a w).ths = s.ths ∧ (s.setReg a w).tqu = s.tqu ∧
    (s.setReg a w).swx = s.swx ∧ (s.setReg a w).uplinks = s.uplinks ∧ (s.setReg a w).evr = s.evr ∧
    (s.setReg a w).kvt = s.kvt ∧ (s.setReg a w).upd = s.upd ∧ (s.setReg a w).trc = s.trc ∧ (s.setReg a w).twn = s.twn ∧
    (s.setReg a w).ksp = s.ksp ∧ (s.setReg a w).sent = s.sent ∧ (s.setReg a w).free = s.free ∧
    (s.setReg a w).pending = s.pending := by
  refine ⟨?_, ?_, ?_, ?_, ?_, ?_, ?_, ?_, ?_, ?_, ?_, ?_, ?_, ?_, ?_, ?_, ?_, ?_, ?_, ?_, ?_, ?_, ?_, ?_, ?_, ?_, ?_, ?_, ?_, ?_, ?_, ?_, ?_, ?_⟩ <;> rfl

@[simp] theorem State.setReg_winWord (s : State) (a : ℕ) (w : Word) (k_ : Nat) :
    (s.setReg a w).winWord k_ = s.winWord k_ := rfl

@[simp] theorem State.setReg_byte (s : State) (a : ℕ) (w : Word) (k_ : Nat) :
    (s.setReg a w).byte k_ = s.byte k_ := rfl

/-- What `modReg` leaves as it was. -/
@[simp] theorem State.modReg_frame (s : State) (a : ℕ) (f : Word → Word) :
    (s.modReg a f).win = s.win ∧ (s.modReg a f).mem = s.mem ∧ (s.modReg a f).now = s.now ∧ (s.modReg a f).sys = s.sys ∧
    (s.modReg a f).pwr = s.pwr ∧ (s.modReg a f).rct = s.rct ∧ (s.modReg a f).tim = s.tim ∧ (s.modReg a f).rtc = s.rtc ∧
    (s.modReg a f).sns = s.sns ∧ (s.modReg a f).cen = s.cen ∧ (s.modReg a f).mfe = s.mfe ∧ (s.modReg a f).chs = s.chs ∧
    (s.modReg a f).lgt = s.lgt ∧ (s.modReg a f).mtr = s.mtr ∧ (s.modReg a f).stl = s.stl ∧ (s.modReg a f).axe = s.axe ∧
    (s.modReg a f).modems = s.modems ∧ (s.modReg a f).macs = s.macs ∧ (s.modReg a f).ntb = s.ntb ∧
    (s.modReg a f).yrd = s.yrd ∧ (s.modReg a f).sch = s.sch ∧ (s.modReg a f).ths = s.ths ∧ (s.modReg a f).tqu = s.tqu ∧
    (s.modReg a f).swx = s.swx ∧ (s.modReg a f).uplinks = s.uplinks ∧ (s.modReg a f).evr = s.evr ∧
    (s.modReg a f).kvt = s.kvt ∧ (s.modReg a f).upd = s.upd ∧ (s.modReg a f).trc = s.trc ∧ (s.modReg a f).twn = s.twn ∧
    (s.modReg a f).ksp = s.ksp ∧ (s.modReg a f).sent = s.sent ∧ (s.modReg a f).free = s.free ∧
    (s.modReg a f).pending = s.pending := by
  refine ⟨?_, ?_, ?_, ?_, ?_, ?_, ?_, ?_, ?_, ?_, ?_, ?_, ?_, ?_, ?_, ?_, ?_, ?_, ?_, ?_, ?_, ?_, ?_, ?_, ?_, ?_, ?_, ?_, ?_, ?_, ?_, ?_, ?_, ?_⟩ <;> rfl

@[simp] theorem State.modReg_winWord (s : State) (a : ℕ) (f : Word → Word) (k_ : Nat) :
    (s.modReg a f).winWord k_ = s.winWord k_ := rfl

@[simp] theorem State.modReg_byte (s : State) (a : ℕ) (f : Word → Word) (k_ : Nat) :
    (s.modReg a f).byte k_ = s.byte k_ := rfl

/-- What `setFld` leaves as it was. -/
@[simp] theorem State.setFld_frame (s : State) (a : ℕ) (hi : ℕ) (lo : ℕ) (v : ℕ) :
    (s.setFld a hi lo v).win = s.win ∧ (s.setFld a hi lo v).mem = s.mem ∧ (s.setFld a hi lo v).now = s.now ∧
    (s.setFld a hi lo v).sys = s.sys ∧ (s.setFld a hi lo v).pwr = s.pwr ∧ (s.setFld a hi lo v).rct = s.rct ∧
    (s.setFld a hi lo v).tim = s.tim ∧ (s.setFld a hi lo v).rtc = s.rtc ∧ (s.setFld a hi lo v).sns = s.sns ∧
    (s.setFld a hi lo v).cen = s.cen ∧ (s.setFld a hi lo v).mfe = s.mfe ∧ (s.setFld a hi lo v).chs = s.chs ∧
    (s.setFld a hi lo v).lgt = s.lgt ∧ (s.setFld a hi lo v).mtr = s.mtr ∧ (s.setFld a hi lo v).stl = s.stl ∧
    (s.setFld a hi lo v).axe = s.axe ∧ (s.setFld a hi lo v).modems = s.modems ∧ (s.setFld a hi lo v).macs = s.macs ∧
    (s.setFld a hi lo v).ntb = s.ntb ∧ (s.setFld a hi lo v).yrd = s.yrd ∧ (s.setFld a hi lo v).sch = s.sch ∧
    (s.setFld a hi lo v).ths = s.ths ∧ (s.setFld a hi lo v).tqu = s.tqu ∧ (s.setFld a hi lo v).swx = s.swx ∧
    (s.setFld a hi lo v).uplinks = s.uplinks ∧ (s.setFld a hi lo v).evr = s.evr ∧ (s.setFld a hi lo v).kvt = s.kvt ∧
    (s.setFld a hi lo v).upd = s.upd ∧ (s.setFld a hi lo v).trc = s.trc ∧ (s.setFld a hi lo v).twn = s.twn ∧
    (s.setFld a hi lo v).ksp = s.ksp ∧ (s.setFld a hi lo v).sent = s.sent ∧ (s.setFld a hi lo v).free = s.free ∧
    (s.setFld a hi lo v).pending = s.pending := by
  refine ⟨?_, ?_, ?_, ?_, ?_, ?_, ?_, ?_, ?_, ?_, ?_, ?_, ?_, ?_, ?_, ?_, ?_, ?_, ?_, ?_, ?_, ?_, ?_, ?_, ?_, ?_, ?_, ?_, ?_, ?_, ?_, ?_, ?_, ?_⟩ <;> rfl

@[simp] theorem State.setFld_winWord (s : State) (a : ℕ) (hi : ℕ) (lo : ℕ) (v : ℕ) (k_ : Nat) :
    (s.setFld a hi lo v).winWord k_ = s.winWord k_ := rfl

@[simp] theorem State.setFld_byte (s : State) (a : ℕ) (hi : ℕ) (lo : ℕ) (v : ℕ) (k_ : Nat) :
    (s.setFld a hi lo v).byte k_ = s.byte k_ := rfl

/-- What `setRbit` leaves as it was. -/
@[simp] theorem State.setRbit_frame (s : State) (a : ℕ) (i : ℕ) (b : Bool) :
    (s.setRbit a i b).win = s.win ∧ (s.setRbit a i b).mem = s.mem ∧ (s.setRbit a i b).now = s.now ∧
    (s.setRbit a i b).sys = s.sys ∧ (s.setRbit a i b).pwr = s.pwr ∧ (s.setRbit a i b).rct = s.rct ∧
    (s.setRbit a i b).tim = s.tim ∧ (s.setRbit a i b).rtc = s.rtc ∧ (s.setRbit a i b).sns = s.sns ∧
    (s.setRbit a i b).cen = s.cen ∧ (s.setRbit a i b).mfe = s.mfe ∧ (s.setRbit a i b).chs = s.chs ∧
    (s.setRbit a i b).lgt = s.lgt ∧ (s.setRbit a i b).mtr = s.mtr ∧ (s.setRbit a i b).stl = s.stl ∧
    (s.setRbit a i b).axe = s.axe ∧ (s.setRbit a i b).modems = s.modems ∧ (s.setRbit a i b).macs = s.macs ∧
    (s.setRbit a i b).ntb = s.ntb ∧ (s.setRbit a i b).yrd = s.yrd ∧ (s.setRbit a i b).sch = s.sch ∧
    (s.setRbit a i b).ths = s.ths ∧ (s.setRbit a i b).tqu = s.tqu ∧ (s.setRbit a i b).swx = s.swx ∧
    (s.setRbit a i b).uplinks = s.uplinks ∧ (s.setRbit a i b).evr = s.evr ∧ (s.setRbit a i b).kvt = s.kvt ∧
    (s.setRbit a i b).upd = s.upd ∧ (s.setRbit a i b).trc = s.trc ∧ (s.setRbit a i b).twn = s.twn ∧
    (s.setRbit a i b).ksp = s.ksp ∧ (s.setRbit a i b).sent = s.sent ∧ (s.setRbit a i b).free = s.free ∧
    (s.setRbit a i b).pending = s.pending := by
  refine ⟨?_, ?_, ?_, ?_, ?_, ?_, ?_, ?_, ?_, ?_, ?_, ?_, ?_, ?_, ?_, ?_, ?_, ?_, ?_, ?_, ?_, ?_, ?_, ?_, ?_, ?_, ?_, ?_, ?_, ?_, ?_, ?_, ?_, ?_⟩ <;> rfl

@[simp] theorem State.setRbit_winWord (s : State) (a : ℕ) (i : ℕ) (b : Bool) (k_ : Nat) :
    (s.setRbit a i b).winWord k_ = s.winWord k_ := rfl

@[simp] theorem State.setRbit_byte (s : State) (a : ℕ) (i : ℕ) (b : Bool) (k_ : Nat) :
    (s.setRbit a i b).byte k_ = s.byte k_ := rfl

/-- What `setReg64` leaves as it was. -/
@[simp] theorem State.setReg64_frame (s : State) (lo : ℕ) (hi : ℕ) (v : Stamp) :
    (s.setReg64 lo hi v).win = s.win ∧ (s.setReg64 lo hi v).mem = s.mem ∧ (s.setReg64 lo hi v).now = s.now ∧
    (s.setReg64 lo hi v).sys = s.sys ∧ (s.setReg64 lo hi v).pwr = s.pwr ∧ (s.setReg64 lo hi v).rct = s.rct ∧
    (s.setReg64 lo hi v).tim = s.tim ∧ (s.setReg64 lo hi v).rtc = s.rtc ∧ (s.setReg64 lo hi v).sns = s.sns ∧
    (s.setReg64 lo hi v).cen = s.cen ∧ (s.setReg64 lo hi v).mfe = s.mfe ∧ (s.setReg64 lo hi v).chs = s.chs ∧
    (s.setReg64 lo hi v).lgt = s.lgt ∧ (s.setReg64 lo hi v).mtr = s.mtr ∧ (s.setReg64 lo hi v).stl = s.stl ∧
    (s.setReg64 lo hi v).axe = s.axe ∧ (s.setReg64 lo hi v).modems = s.modems ∧ (s.setReg64 lo hi v).macs = s.macs ∧
    (s.setReg64 lo hi v).ntb = s.ntb ∧ (s.setReg64 lo hi v).yrd = s.yrd ∧ (s.setReg64 lo hi v).sch = s.sch ∧
    (s.setReg64 lo hi v).ths = s.ths ∧ (s.setReg64 lo hi v).tqu = s.tqu ∧ (s.setReg64 lo hi v).swx = s.swx ∧
    (s.setReg64 lo hi v).uplinks = s.uplinks ∧ (s.setReg64 lo hi v).evr = s.evr ∧ (s.setReg64 lo hi v).kvt = s.kvt ∧
    (s.setReg64 lo hi v).upd = s.upd ∧ (s.setReg64 lo hi v).trc = s.trc ∧ (s.setReg64 lo hi v).twn = s.twn ∧
    (s.setReg64 lo hi v).ksp = s.ksp ∧ (s.setReg64 lo hi v).sent = s.sent ∧ (s.setReg64 lo hi v).free = s.free ∧
    (s.setReg64 lo hi v).pending = s.pending := by
  refine ⟨?_, ?_, ?_, ?_, ?_, ?_, ?_, ?_, ?_, ?_, ?_, ?_, ?_, ?_, ?_, ?_, ?_, ?_, ?_, ?_, ?_, ?_, ?_, ?_, ?_, ?_, ?_, ?_, ?_, ?_, ?_, ?_, ?_, ?_⟩ <;> rfl

@[simp] theorem State.setReg64_winWord (s : State) (lo : ℕ) (hi : ℕ) (v : Stamp) (k_ : Nat) :
    (s.setReg64 lo hi v).winWord k_ = s.winWord k_ := rfl

@[simp] theorem State.setReg64_byte (s : State) (lo : ℕ) (hi : ℕ) (v : Stamp) (k_ : Nat) :
    (s.setReg64 lo hi v).byte k_ = s.byte k_ := rfl

/-- What `incLo` leaves as it was. -/
@[simp] theorem State.incLo_frame (s : State) (a : ℕ) :
    (s.incLo a).win = s.win ∧ (s.incLo a).mem = s.mem ∧ (s.incLo a).now = s.now ∧ (s.incLo a).sys = s.sys ∧
    (s.incLo a).pwr = s.pwr ∧ (s.incLo a).rct = s.rct ∧ (s.incLo a).tim = s.tim ∧ (s.incLo a).rtc = s.rtc ∧
    (s.incLo a).sns = s.sns ∧ (s.incLo a).cen = s.cen ∧ (s.incLo a).mfe = s.mfe ∧ (s.incLo a).chs = s.chs ∧
    (s.incLo a).lgt = s.lgt ∧ (s.incLo a).mtr = s.mtr ∧ (s.incLo a).stl = s.stl ∧ (s.incLo a).axe = s.axe ∧
    (s.incLo a).modems = s.modems ∧ (s.incLo a).macs = s.macs ∧ (s.incLo a).ntb = s.ntb ∧ (s.incLo a).yrd = s.yrd ∧
    (s.incLo a).sch = s.sch ∧ (s.incLo a).ths = s.ths ∧ (s.incLo a).tqu = s.tqu ∧ (s.incLo a).swx = s.swx ∧
    (s.incLo a).uplinks = s.uplinks ∧ (s.incLo a).evr = s.evr ∧ (s.incLo a).kvt = s.kvt ∧ (s.incLo a).upd = s.upd ∧
    (s.incLo a).trc = s.trc ∧ (s.incLo a).twn = s.twn ∧ (s.incLo a).ksp = s.ksp ∧ (s.incLo a).sent = s.sent ∧
    (s.incLo a).free = s.free ∧ (s.incLo a).pending = s.pending := by
  refine ⟨?_, ?_, ?_, ?_, ?_, ?_, ?_, ?_, ?_, ?_, ?_, ?_, ?_, ?_, ?_, ?_, ?_, ?_, ?_, ?_, ?_, ?_, ?_, ?_, ?_, ?_, ?_, ?_, ?_, ?_, ?_, ?_, ?_, ?_⟩ <;> rfl

@[simp] theorem State.incLo_winWord (s : State) (a : ℕ) (k_ : Nat) : (s.incLo a).winWord k_ = s.winWord k_ := rfl

@[simp] theorem State.incLo_byte (s : State) (a : ℕ) (k_ : Nat) : (s.incLo a).byte k_ = s.byte k_ := rfl

/-- What `incHi` leaves as it was. -/
@[simp] theorem State.incHi_frame (s : State) (a : ℕ) :
    (s.incHi a).win = s.win ∧ (s.incHi a).mem = s.mem ∧ (s.incHi a).now = s.now ∧ (s.incHi a).sys = s.sys ∧
    (s.incHi a).pwr = s.pwr ∧ (s.incHi a).rct = s.rct ∧ (s.incHi a).tim = s.tim ∧ (s.incHi a).rtc = s.rtc ∧
    (s.incHi a).sns = s.sns ∧ (s.incHi a).cen = s.cen ∧ (s.incHi a).mfe = s.mfe ∧ (s.incHi a).chs = s.chs ∧
    (s.incHi a).lgt = s.lgt ∧ (s.incHi a).mtr = s.mtr ∧ (s.incHi a).stl = s.stl ∧ (s.incHi a).axe = s.axe ∧
    (s.incHi a).modems = s.modems ∧ (s.incHi a).macs = s.macs ∧ (s.incHi a).ntb = s.ntb ∧ (s.incHi a).yrd = s.yrd ∧
    (s.incHi a).sch = s.sch ∧ (s.incHi a).ths = s.ths ∧ (s.incHi a).tqu = s.tqu ∧ (s.incHi a).swx = s.swx ∧
    (s.incHi a).uplinks = s.uplinks ∧ (s.incHi a).evr = s.evr ∧ (s.incHi a).kvt = s.kvt ∧ (s.incHi a).upd = s.upd ∧
    (s.incHi a).trc = s.trc ∧ (s.incHi a).twn = s.twn ∧ (s.incHi a).ksp = s.ksp ∧ (s.incHi a).sent = s.sent ∧
    (s.incHi a).free = s.free ∧ (s.incHi a).pending = s.pending := by
  refine ⟨?_, ?_, ?_, ?_, ?_, ?_, ?_, ?_, ?_, ?_, ?_, ?_, ?_, ?_, ?_, ?_, ?_, ?_, ?_, ?_, ?_, ?_, ?_, ?_, ?_, ?_, ?_, ?_, ?_, ?_, ?_, ?_, ?_, ?_⟩ <;> rfl

@[simp] theorem State.incHi_winWord (s : State) (a : ℕ) (k_ : Nat) : (s.incHi a).winWord k_ = s.winWord k_ := rfl

@[simp] theorem State.incHi_byte (s : State) (a : ℕ) (k_ : Nat) : (s.incHi a).byte k_ = s.byte k_ := rfl

/-- What `incReg` leaves as it was. -/
@[simp] theorem State.incReg_frame (s : State) (a : ℕ) :
    (s.incReg a).win = s.win ∧ (s.incReg a).mem = s.mem ∧ (s.incReg a).now = s.now ∧ (s.incReg a).sys = s.sys ∧
    (s.incReg a).pwr = s.pwr ∧ (s.incReg a).rct = s.rct ∧ (s.incReg a).tim = s.tim ∧ (s.incReg a).rtc = s.rtc ∧
    (s.incReg a).sns = s.sns ∧ (s.incReg a).cen = s.cen ∧ (s.incReg a).mfe = s.mfe ∧ (s.incReg a).chs = s.chs ∧
    (s.incReg a).lgt = s.lgt ∧ (s.incReg a).mtr = s.mtr ∧ (s.incReg a).stl = s.stl ∧ (s.incReg a).axe = s.axe ∧
    (s.incReg a).modems = s.modems ∧ (s.incReg a).macs = s.macs ∧ (s.incReg a).ntb = s.ntb ∧ (s.incReg a).yrd = s.yrd ∧
    (s.incReg a).sch = s.sch ∧ (s.incReg a).ths = s.ths ∧ (s.incReg a).tqu = s.tqu ∧ (s.incReg a).swx = s.swx ∧
    (s.incReg a).uplinks = s.uplinks ∧ (s.incReg a).evr = s.evr ∧ (s.incReg a).kvt = s.kvt ∧ (s.incReg a).upd = s.upd ∧
    (s.incReg a).trc = s.trc ∧ (s.incReg a).twn = s.twn ∧ (s.incReg a).ksp = s.ksp ∧ (s.incReg a).sent = s.sent ∧
    (s.incReg a).free = s.free ∧ (s.incReg a).pending = s.pending := by
  refine ⟨?_, ?_, ?_, ?_, ?_, ?_, ?_, ?_, ?_, ?_, ?_, ?_, ?_, ?_, ?_, ?_, ?_, ?_, ?_, ?_, ?_, ?_, ?_, ?_, ?_, ?_, ?_, ?_, ?_, ?_, ?_, ?_, ?_, ?_⟩ <;> rfl

@[simp] theorem State.incReg_winWord (s : State) (a : ℕ) (k_ : Nat) : (s.incReg a).winWord k_ = s.winWord k_ := rfl

@[simp] theorem State.incReg_byte (s : State) (a : ℕ) (k_ : Nat) : (s.incReg a).byte k_ = s.byte k_ := rfl

/-- What `setWin` leaves as it was. -/
@[simp] theorem State.setWin_frame (s : State) (a : ℕ) (w : Word) :
    (s.setWin a w).regs = s.regs ∧ (s.setWin a w).mem = s.mem ∧ (s.setWin a w).now = s.now ∧ (s.setWin a w).sys = s.sys ∧
    (s.setWin a w).pwr = s.pwr ∧ (s.setWin a w).rct = s.rct ∧ (s.setWin a w).tim = s.tim ∧ (s.setWin a w).rtc = s.rtc ∧
    (s.setWin a w).sns = s.sns ∧ (s.setWin a w).cen = s.cen ∧ (s.setWin a w).mfe = s.mfe ∧ (s.setWin a w).chs = s.chs ∧
    (s.setWin a w).lgt = s.lgt ∧ (s.setWin a w).mtr = s.mtr ∧ (s.setWin a w).stl = s.stl ∧ (s.setWin a w).axe = s.axe ∧
    (s.setWin a w).modems = s.modems ∧ (s.setWin a w).macs = s.macs ∧ (s.setWin a w).ntb = s.ntb ∧
    (s.setWin a w).yrd = s.yrd ∧ (s.setWin a w).sch = s.sch ∧ (s.setWin a w).ths = s.ths ∧ (s.setWin a w).tqu = s.tqu ∧
    (s.setWin a w).swx = s.swx ∧ (s.setWin a w).uplinks = s.uplinks ∧ (s.setWin a w).evr = s.evr ∧
    (s.setWin a w).kvt = s.kvt ∧ (s.setWin a w).upd = s.upd ∧ (s.setWin a w).trc = s.trc ∧ (s.setWin a w).twn = s.twn ∧
    (s.setWin a w).ksp = s.ksp ∧ (s.setWin a w).sent = s.sent ∧ (s.setWin a w).free = s.free ∧
    (s.setWin a w).pending = s.pending := by
  refine ⟨?_, ?_, ?_, ?_, ?_, ?_, ?_, ?_, ?_, ?_, ?_, ?_, ?_, ?_, ?_, ?_, ?_, ?_, ?_, ?_, ?_, ?_, ?_, ?_, ?_, ?_, ?_, ?_, ?_, ?_, ?_, ?_, ?_, ?_⟩ <;> rfl

@[simp] theorem State.setWin_reg (s : State) (a : ℕ) (w : Word) (k_ : Nat) :
    (s.setWin a w).reg k_ = s.reg k_ := rfl

@[simp] theorem State.setWin_byte (s : State) (a : ℕ) (w : Word) (k_ : Nat) :
    (s.setWin a w).byte k_ = s.byte k_ := rfl

/-- What `swapWin` leaves as it was. -/
@[simp] theorem State.swapWin_frame (s : State) (a : ℕ) (b : ℕ) (n : ℕ) :
    (s.swapWin a b n).regs = s.regs ∧ (s.swapWin a b n).mem = s.mem ∧ (s.swapWin a b n).now = s.now ∧
    (s.swapWin a b n).sys = s.sys ∧ (s.swapWin a b n).pwr = s.pwr ∧ (s.swapWin a b n).rct = s.rct ∧
    (s.swapWin a b n).tim = s.tim ∧ (s.swapWin a b n).rtc = s.rtc ∧ (s.swapWin a b n).sns = s.sns ∧
    (s.swapWin a b n).cen = s.cen ∧ (s.swapWin a b n).mfe = s.mfe ∧ (s.swapWin a b n).chs = s.chs ∧
    (s.swapWin a b n).lgt = s.lgt ∧ (s.swapWin a b n).mtr = s.mtr ∧ (s.swapWin a b n).stl = s.stl ∧
    (s.swapWin a b n).axe = s.axe ∧ (s.swapWin a b n).modems = s.modems ∧ (s.swapWin a b n).macs = s.macs ∧
    (s.swapWin a b n).ntb = s.ntb ∧ (s.swapWin a b n).yrd = s.yrd ∧ (s.swapWin a b n).sch = s.sch ∧
    (s.swapWin a b n).ths = s.ths ∧ (s.swapWin a b n).tqu = s.tqu ∧ (s.swapWin a b n).swx = s.swx ∧
    (s.swapWin a b n).uplinks = s.uplinks ∧ (s.swapWin a b n).evr = s.evr ∧ (s.swapWin a b n).kvt = s.kvt ∧
    (s.swapWin a b n).upd = s.upd ∧ (s.swapWin a b n).trc = s.trc ∧ (s.swapWin a b n).twn = s.twn ∧
    (s.swapWin a b n).ksp = s.ksp ∧ (s.swapWin a b n).sent = s.sent ∧ (s.swapWin a b n).free = s.free ∧
    (s.swapWin a b n).pending = s.pending := by
  refine ⟨?_, ?_, ?_, ?_, ?_, ?_, ?_, ?_, ?_, ?_, ?_, ?_, ?_, ?_, ?_, ?_, ?_, ?_, ?_, ?_, ?_, ?_, ?_, ?_, ?_, ?_, ?_, ?_, ?_, ?_, ?_, ?_, ?_, ?_⟩ <;> rfl

@[simp] theorem State.swapWin_reg (s : State) (a : ℕ) (b : ℕ) (n : ℕ) (k_ : Nat) :
    (s.swapWin a b n).reg k_ = s.reg k_ := rfl

@[simp] theorem State.swapWin_byte (s : State) (a : ℕ) (b : ℕ) (n : ℕ) (k_ : Nat) :
    (s.swapWin a b n).byte k_ = s.byte k_ := rfl

/-- What `copyWin` leaves as it was. -/
@[simp] theorem State.copyWin_frame (s : State) (a : ℕ) (b : ℕ) (n : ℕ) :
    (s.copyWin a b n).regs = s.regs ∧ (s.copyWin a b n).mem = s.mem ∧ (s.copyWin a b n).now = s.now ∧
    (s.copyWin a b n).sys = s.sys ∧ (s.copyWin a b n).pwr = s.pwr ∧ (s.copyWin a b n).rct = s.rct ∧
    (s.copyWin a b n).tim = s.tim ∧ (s.copyWin a b n).rtc = s.rtc ∧ (s.copyWin a b n).sns = s.sns ∧
    (s.copyWin a b n).cen = s.cen ∧ (s.copyWin a b n).mfe = s.mfe ∧ (s.copyWin a b n).chs = s.chs ∧
    (s.copyWin a b n).lgt = s.lgt ∧ (s.copyWin a b n).mtr = s.mtr ∧ (s.copyWin a b n).stl = s.stl ∧
    (s.copyWin a b n).axe = s.axe ∧ (s.copyWin a b n).modems = s.modems ∧ (s.copyWin a b n).macs = s.macs ∧
    (s.copyWin a b n).ntb = s.ntb ∧ (s.copyWin a b n).yrd = s.yrd ∧ (s.copyWin a b n).sch = s.sch ∧
    (s.copyWin a b n).ths = s.ths ∧ (s.copyWin a b n).tqu = s.tqu ∧ (s.copyWin a b n).swx = s.swx ∧
    (s.copyWin a b n).uplinks = s.uplinks ∧ (s.copyWin a b n).evr = s.evr ∧ (s.copyWin a b n).kvt = s.kvt ∧
    (s.copyWin a b n).upd = s.upd ∧ (s.copyWin a b n).trc = s.trc ∧ (s.copyWin a b n).twn = s.twn ∧
    (s.copyWin a b n).ksp = s.ksp ∧ (s.copyWin a b n).sent = s.sent ∧ (s.copyWin a b n).free = s.free ∧
    (s.copyWin a b n).pending = s.pending := by
  refine ⟨?_, ?_, ?_, ?_, ?_, ?_, ?_, ?_, ?_, ?_, ?_, ?_, ?_, ?_, ?_, ?_, ?_, ?_, ?_, ?_, ?_, ?_, ?_, ?_, ?_, ?_, ?_, ?_, ?_, ?_, ?_, ?_, ?_, ?_⟩ <;> rfl

@[simp] theorem State.copyWin_reg (s : State) (a : ℕ) (b : ℕ) (n : ℕ) (k_ : Nat) :
    (s.copyWin a b n).reg k_ = s.reg k_ := rfl

@[simp] theorem State.copyWin_byte (s : State) (a : ℕ) (b : ℕ) (n : ℕ) (k_ : Nat) :
    (s.copyWin a b n).byte k_ = s.byte k_ := rfl

/-- What `setByte` leaves as it was. -/
@[simp] theorem State.setByte_frame (s : State) (a : ℕ) (b : Byte) :
    (s.setByte a b).regs = s.regs ∧ (s.setByte a b).win = s.win ∧ (s.setByte a b).now = s.now ∧
    (s.setByte a b).sys = s.sys ∧ (s.setByte a b).pwr = s.pwr ∧ (s.setByte a b).rct = s.rct ∧
    (s.setByte a b).tim = s.tim ∧ (s.setByte a b).rtc = s.rtc ∧ (s.setByte a b).sns = s.sns ∧
    (s.setByte a b).cen = s.cen ∧ (s.setByte a b).mfe = s.mfe ∧ (s.setByte a b).chs = s.chs ∧
    (s.setByte a b).lgt = s.lgt ∧ (s.setByte a b).mtr = s.mtr ∧ (s.setByte a b).stl = s.stl ∧
    (s.setByte a b).axe = s.axe ∧ (s.setByte a b).modems = s.modems ∧ (s.setByte a b).macs = s.macs ∧
    (s.setByte a b).ntb = s.ntb ∧ (s.setByte a b).yrd = s.yrd ∧ (s.setByte a b).sch = s.sch ∧
    (s.setByte a b).ths = s.ths ∧ (s.setByte a b).tqu = s.tqu ∧ (s.setByte a b).swx = s.swx ∧
    (s.setByte a b).uplinks = s.uplinks ∧ (s.setByte a b).evr = s.evr ∧ (s.setByte a b).kvt = s.kvt ∧
    (s.setByte a b).upd = s.upd ∧ (s.setByte a b).trc = s.trc ∧ (s.setByte a b).twn = s.twn ∧
    (s.setByte a b).ksp = s.ksp ∧ (s.setByte a b).sent = s.sent ∧ (s.setByte a b).free = s.free ∧
    (s.setByte a b).pending = s.pending := by
  refine ⟨?_, ?_, ?_, ?_, ?_, ?_, ?_, ?_, ?_, ?_, ?_, ?_, ?_, ?_, ?_, ?_, ?_, ?_, ?_, ?_, ?_, ?_, ?_, ?_, ?_, ?_, ?_, ?_, ?_, ?_, ?_, ?_, ?_, ?_⟩ <;> rfl

@[simp] theorem State.setByte_reg (s : State) (a : ℕ) (b : Byte) (k_ : Nat) :
    (s.setByte a b).reg k_ = s.reg k_ := rfl

@[simp] theorem State.setByte_winWord (s : State) (a : ℕ) (b : Byte) (k_ : Nat) :
    (s.setByte a b).winWord k_ = s.winWord k_ := rfl

/-- What `setBytes` leaves as it was. -/
@[simp] theorem State.setBytes_frame (s : State) (a : ℕ) (l : List Byte) :
    (s.setBytes a l).regs = s.regs ∧ (s.setBytes a l).win = s.win ∧ (s.setBytes a l).now = s.now ∧
    (s.setBytes a l).sys = s.sys ∧ (s.setBytes a l).pwr = s.pwr ∧ (s.setBytes a l).rct = s.rct ∧
    (s.setBytes a l).tim = s.tim ∧ (s.setBytes a l).rtc = s.rtc ∧ (s.setBytes a l).sns = s.sns ∧
    (s.setBytes a l).cen = s.cen ∧ (s.setBytes a l).mfe = s.mfe ∧ (s.setBytes a l).chs = s.chs ∧
    (s.setBytes a l).lgt = s.lgt ∧ (s.setBytes a l).mtr = s.mtr ∧ (s.setBytes a l).stl = s.stl ∧
    (s.setBytes a l).axe = s.axe ∧ (s.setBytes a l).modems = s.modems ∧ (s.setBytes a l).macs = s.macs ∧
    (s.setBytes a l).ntb = s.ntb ∧ (s.setBytes a l).yrd = s.yrd ∧ (s.setBytes a l).sch = s.sch ∧
    (s.setBytes a l).ths = s.ths ∧ (s.setBytes a l).tqu = s.tqu ∧ (s.setBytes a l).swx = s.swx ∧
    (s.setBytes a l).uplinks = s.uplinks ∧ (s.setBytes a l).evr = s.evr ∧ (s.setBytes a l).kvt = s.kvt ∧
    (s.setBytes a l).upd = s.upd ∧ (s.setBytes a l).trc = s.trc ∧ (s.setBytes a l).twn = s.twn ∧
    (s.setBytes a l).ksp = s.ksp ∧ (s.setBytes a l).sent = s.sent ∧ (s.setBytes a l).free = s.free ∧
    (s.setBytes a l).pending = s.pending := by
  refine ⟨?_, ?_, ?_, ?_, ?_, ?_, ?_, ?_, ?_, ?_, ?_, ?_, ?_, ?_, ?_, ?_, ?_, ?_, ?_, ?_, ?_, ?_, ?_, ?_, ?_, ?_, ?_, ?_, ?_, ?_, ?_, ?_, ?_, ?_⟩ <;> rfl

@[simp] theorem State.setBytes_reg (s : State) (a : ℕ) (l : List Byte) (k_ : Nat) :
    (s.setBytes a l).reg k_ = s.reg k_ := rfl

@[simp] theorem State.setBytes_winWord (s : State) (a : ℕ) (l : List Byte) (k_ : Nat) :
    (s.setBytes a l).winWord k_ = s.winWord k_ := rfl

/-- What `draw` leaves as it was. -/
@[simp] theorem State.draw_frame (s : State) :
    (s.draw).regs = s.regs ∧ (s.draw).win = s.win ∧ (s.draw).mem = s.mem ∧ (s.draw).now = s.now ∧ (s.draw).sys = s.sys ∧
    (s.draw).pwr = s.pwr ∧ (s.draw).rct = s.rct ∧ (s.draw).tim = s.tim ∧ (s.draw).rtc = s.rtc ∧ (s.draw).sns = s.sns ∧
    (s.draw).cen = s.cen ∧ (s.draw).mfe = s.mfe ∧ (s.draw).chs = s.chs ∧ (s.draw).lgt = s.lgt ∧ (s.draw).mtr = s.mtr ∧
    (s.draw).stl = s.stl ∧ (s.draw).axe = s.axe ∧ (s.draw).modems = s.modems ∧ (s.draw).macs = s.macs ∧
    (s.draw).ntb = s.ntb ∧ (s.draw).yrd = s.yrd ∧ (s.draw).sch = s.sch ∧ (s.draw).ths = s.ths ∧ (s.draw).tqu = s.tqu ∧
    (s.draw).swx = s.swx ∧ (s.draw).uplinks = s.uplinks ∧ (s.draw).evr = s.evr ∧ (s.draw).kvt = s.kvt ∧
    (s.draw).upd = s.upd ∧ (s.draw).trc = s.trc ∧ (s.draw).twn = s.twn ∧ (s.draw).ksp = s.ksp ∧ (s.draw).sent = s.sent ∧
    (s.draw).pending = s.pending := by
  refine ⟨?_, ?_, ?_, ?_, ?_, ?_, ?_, ?_, ?_, ?_, ?_, ?_, ?_, ?_, ?_, ?_, ?_, ?_, ?_, ?_, ?_, ?_, ?_, ?_, ?_, ?_, ?_, ?_, ?_, ?_, ?_, ?_, ?_, ?_⟩ <;> rfl

@[simp] theorem State.draw_reg (s : State) (k_ : Nat) : (s.draw).reg k_ = s.reg k_ := rfl

@[simp] theorem State.draw_winWord (s : State) (k_ : Nat) : (s.draw).winWord k_ = s.winWord k_ := rfl

@[simp] theorem State.draw_byte (s : State) (k_ : Nat) : (s.draw).byte k_ = s.byte k_ := rfl

/-- What `emit` leaves as it was. -/
@[simp] theorem State.emit_frame (s : State) (o : Output) :
    (s.emit o).regs = s.regs ∧ (s.emit o).win = s.win ∧ (s.emit o).mem = s.mem ∧ (s.emit o).now = s.now ∧
    (s.emit o).sys = s.sys ∧ (s.emit o).pwr = s.pwr ∧ (s.emit o).rct = s.rct ∧ (s.emit o).tim = s.tim ∧
    (s.emit o).rtc = s.rtc ∧ (s.emit o).sns = s.sns ∧ (s.emit o).cen = s.cen ∧ (s.emit o).mfe = s.mfe ∧
    (s.emit o).chs = s.chs ∧ (s.emit o).lgt = s.lgt ∧ (s.emit o).mtr = s.mtr ∧ (s.emit o).stl = s.stl ∧
    (s.emit o).axe = s.axe ∧ (s.emit o).modems = s.modems ∧ (s.emit o).macs = s.macs ∧ (s.emit o).ntb = s.ntb ∧
    (s.emit o).yrd = s.yrd ∧ (s.emit o).sch = s.sch ∧ (s.emit o).ths = s.ths ∧ (s.emit o).tqu = s.tqu ∧
    (s.emit o).swx = s.swx ∧ (s.emit o).uplinks = s.uplinks ∧ (s.emit o).evr = s.evr ∧ (s.emit o).kvt = s.kvt ∧
    (s.emit o).upd = s.upd ∧ (s.emit o).trc = s.trc ∧ (s.emit o).twn = s.twn ∧ (s.emit o).ksp = s.ksp ∧
    (s.emit o).free = s.free ∧ (s.emit o).pending = s.pending := by
  refine ⟨?_, ?_, ?_, ?_, ?_, ?_, ?_, ?_, ?_, ?_, ?_, ?_, ?_, ?_, ?_, ?_, ?_, ?_, ?_, ?_, ?_, ?_, ?_, ?_, ?_, ?_, ?_, ?_, ?_, ?_, ?_, ?_, ?_, ?_⟩ <;> rfl

@[simp] theorem State.emit_reg (s : State) (o : Output) (k_ : Nat) : (s.emit o).reg k_ = s.reg k_ := rfl

@[simp] theorem State.emit_winWord (s : State) (o : Output) (k_ : Nat) :
    (s.emit o).winWord k_ = s.winWord k_ := rfl

@[simp] theorem State.emit_byte (s : State) (o : Output) (k_ : Nat) : (s.emit o).byte k_ = s.byte k_ := rfl

/-- What `noteEdge` leaves as it was. -/
@[simp] theorem State.noteEdge_frame (s : State) (t : State) (page : ℕ) :
    (s.noteEdge t page).regs = t.regs ∧ (s.noteEdge t page).win = t.win ∧ (s.noteEdge t page).mem = t.mem ∧
    (s.noteEdge t page).now = t.now ∧ (s.noteEdge t page).sys = t.sys ∧ (s.noteEdge t page).pwr = t.pwr ∧
    (s.noteEdge t page).rct = t.rct ∧ (s.noteEdge t page).tim = t.tim ∧ (s.noteEdge t page).rtc = t.rtc ∧
    (s.noteEdge t page).sns = t.sns ∧ (s.noteEdge t page).cen = t.cen ∧ (s.noteEdge t page).mfe = t.mfe ∧
    (s.noteEdge t page).chs = t.chs ∧ (s.noteEdge t page).lgt = t.lgt ∧ (s.noteEdge t page).mtr = t.mtr ∧
    (s.noteEdge t page).stl = t.stl ∧ (s.noteEdge t page).axe = t.axe ∧ (s.noteEdge t page).modems = t.modems ∧
    (s.noteEdge t page).macs = t.macs ∧ (s.noteEdge t page).ntb = t.ntb ∧ (s.noteEdge t page).yrd = t.yrd ∧
    (s.noteEdge t page).sch = t.sch ∧ (s.noteEdge t page).tqu = t.tqu ∧ (s.noteEdge t page).swx = t.swx ∧
    (s.noteEdge t page).uplinks = t.uplinks ∧ (s.noteEdge t page).evr = t.evr ∧ (s.noteEdge t page).kvt = t.kvt ∧
    (s.noteEdge t page).upd = t.upd ∧ (s.noteEdge t page).trc = t.trc ∧ (s.noteEdge t page).twn = t.twn ∧
    (s.noteEdge t page).ksp = t.ksp ∧ (s.noteEdge t page).sent = t.sent ∧ (s.noteEdge t page).free = t.free ∧
    (s.noteEdge t page).pending = t.pending := by
  unfold State.noteEdge
  (repeat' split) <;> simp

@[simp] theorem State.noteEdge_reg (s : State) (t : State) (page : ℕ) (k_ : Nat) :
    (s.noteEdge t page).reg k_ = t.reg k_ := by unfold State.noteEdge; (repeat' split) <;> first | rfl | simp

@[simp] theorem State.noteEdge_winWord (s : State) (t : State) (page : ℕ) (k_ : Nat) :
    (s.noteEdge t page).winWord k_ = t.winWord k_ := by unfold State.noteEdge; (repeat' split) <;> first | rfl | simp

@[simp] theorem State.noteEdge_byte (s : State) (t : State) (page : ℕ) (k_ : Nat) :
    (s.noteEdge t page).byte k_ = t.byte k_ := by unfold State.noteEdge; (repeat' split) <;> first | rfl | simp

/-- What `raise` leaves as it was. -/
@[simp] theorem State.raise_frame (s : State) (page : ℕ) (b : ℕ) :
    (s.raise page b).win = s.win ∧ (s.raise page b).mem = s.mem ∧ (s.raise page b).now = s.now ∧
    (s.raise page b).sys = s.sys ∧ (s.raise page b).pwr = s.pwr ∧ (s.raise page b).rct = s.rct ∧
    (s.raise page b).tim = s.tim ∧ (s.raise page b).rtc = s.rtc ∧ (s.raise page b).sns = s.sns ∧
    (s.raise page b).cen = s.cen ∧ (s.raise page b).mfe = s.mfe ∧ (s.raise page b).chs = s.chs ∧
    (s.raise page b).lgt = s.lgt ∧ (s.raise page b).mtr = s.mtr ∧ (s.raise page b).stl = s.stl ∧
    (s.raise page b).axe = s.axe ∧ (s.raise page b).modems = s.modems ∧ (s.raise page b).macs = s.macs ∧
    (s.raise page b).ntb = s.ntb ∧ (s.raise page b).yrd = s.yrd ∧ (s.raise page b).sch = s.sch ∧
    (s.raise page b).tqu = s.tqu ∧ (s.raise page b).swx = s.swx ∧ (s.raise page b).uplinks = s.uplinks ∧
    (s.raise page b).evr = s.evr ∧ (s.raise page b).kvt = s.kvt ∧ (s.raise page b).upd = s.upd ∧
    (s.raise page b).trc = s.trc ∧ (s.raise page b).twn = s.twn ∧ (s.raise page b).ksp = s.ksp ∧
    (s.raise page b).sent = s.sent ∧ (s.raise page b).free = s.free ∧ (s.raise page b).pending = s.pending := by
  unfold State.raise
  (repeat' split) <;> simp

@[simp] theorem State.raise_winWord (s : State) (page : ℕ) (b : ℕ) (k_ : Nat) :
    (s.raise page b).winWord k_ = s.winWord k_ := by unfold State.raise; (repeat' split) <;> first | rfl | simp

@[simp] theorem State.raise_byte (s : State) (page : ℕ) (b : ℕ) (k_ : Nat) :
    (s.raise page b).byte k_ = s.byte k_ := by unfold State.raise; (repeat' split) <;> first | rfl | simp

/-- What `telemetry` leaves as it was. -/
@[simp] theorem State.telemetry_frame (s : State) (src : ℕ) (typ : ℕ) (words : List (BitVec 64)) :
    (s.telemetry src typ words).regs = s.regs ∧ (s.telemetry src typ words).win = s.win ∧
    (s.telemetry src typ words).mem = s.mem ∧ (s.telemetry src typ words).now = s.now ∧
    (s.telemetry src typ words).sys = s.sys ∧ (s.telemetry src typ words).pwr = s.pwr ∧
    (s.telemetry src typ words).rct = s.rct ∧ (s.telemetry src typ words).tim = s.tim ∧
    (s.telemetry src typ words).rtc = s.rtc ∧ (s.telemetry src typ words).sns = s.sns ∧
    (s.telemetry src typ words).cen = s.cen ∧ (s.telemetry src typ words).mfe = s.mfe ∧
    (s.telemetry src typ words).chs = s.chs ∧ (s.telemetry src typ words).lgt = s.lgt ∧
    (s.telemetry src typ words).mtr = s.mtr ∧ (s.telemetry src typ words).stl = s.stl ∧
    (s.telemetry src typ words).axe = s.axe ∧ (s.telemetry src typ words).modems = s.modems ∧
    (s.telemetry src typ words).macs = s.macs ∧ (s.telemetry src typ words).ntb = s.ntb ∧
    (s.telemetry src typ words).yrd = s.yrd ∧ (s.telemetry src typ words).sch = s.sch ∧
    (s.telemetry src typ words).ths = s.ths ∧ (s.telemetry src typ words).swx = s.swx ∧
    (s.telemetry src typ words).uplinks = s.uplinks ∧ (s.telemetry src typ words).evr = s.evr ∧
    (s.telemetry src typ words).kvt = s.kvt ∧ (s.telemetry src typ words).upd = s.upd ∧
    (s.telemetry src typ words).trc = s.trc ∧ (s.telemetry src typ words).twn = s.twn ∧
    (s.telemetry src typ words).ksp = s.ksp ∧ (s.telemetry src typ words).sent = s.sent ∧
    (s.telemetry src typ words).free = s.free ∧ (s.telemetry src typ words).pending = s.pending := by
  refine ⟨?_, ?_, ?_, ?_, ?_, ?_, ?_, ?_, ?_, ?_, ?_, ?_, ?_, ?_, ?_, ?_, ?_, ?_, ?_, ?_, ?_, ?_, ?_, ?_, ?_, ?_, ?_, ?_, ?_, ?_, ?_, ?_, ?_, ?_⟩ <;> rfl

@[simp] theorem State.telemetry_reg (s : State) (src : ℕ) (typ : ℕ) (words : List (BitVec 64)) (k_ : Nat) :
    (s.telemetry src typ words).reg k_ = s.reg k_ := rfl

@[simp] theorem State.telemetry_winWord (s : State) (src : ℕ) (typ : ℕ) (words : List (BitVec 64)) (k_ : Nat) :
    (s.telemetry src typ words).winWord k_ = s.winWord k_ := rfl

@[simp] theorem State.telemetry_byte (s : State) (src : ℕ) (typ : ℕ) (words : List (BitVec 64)) (k_ : Nat) :
    (s.telemetry src typ words).byte k_ = s.byte k_ := rfl

/-- What `defer` leaves as it was. -/
@[simp] theorem State.defer_frame (s : State) (d : Deferred) :
    (s.defer d).regs = s.regs ∧ (s.defer d).win = s.win ∧ (s.defer d).mem = s.mem ∧ (s.defer d).now = s.now ∧
    (s.defer d).sys = s.sys ∧ (s.defer d).rct = s.rct ∧ (s.defer d).tim = s.tim ∧ (s.defer d).rtc = s.rtc ∧
    (s.defer d).sns = s.sns ∧ (s.defer d).cen = s.cen ∧ (s.defer d).mfe = s.mfe ∧ (s.defer d).chs = s.chs ∧
    (s.defer d).lgt = s.lgt ∧ (s.defer d).mtr = s.mtr ∧ (s.defer d).stl = s.stl ∧ (s.defer d).axe = s.axe ∧
    (s.defer d).modems = s.modems ∧ (s.defer d).macs = s.macs ∧ (s.defer d).ntb = s.ntb ∧ (s.defer d).yrd = s.yrd ∧
    (s.defer d).sch = s.sch ∧ (s.defer d).ths = s.ths ∧ (s.defer d).tqu = s.tqu ∧ (s.defer d).swx = s.swx ∧
    (s.defer d).uplinks = s.uplinks ∧ (s.defer d).evr = s.evr ∧ (s.defer d).kvt = s.kvt ∧ (s.defer d).upd = s.upd ∧
    (s.defer d).trc = s.trc ∧ (s.defer d).twn = s.twn ∧ (s.defer d).ksp = s.ksp ∧ (s.defer d).sent = s.sent ∧
    (s.defer d).free = s.free ∧ (s.defer d).pending = s.pending := by
  refine ⟨?_, ?_, ?_, ?_, ?_, ?_, ?_, ?_, ?_, ?_, ?_, ?_, ?_, ?_, ?_, ?_, ?_, ?_, ?_, ?_, ?_, ?_, ?_, ?_, ?_, ?_, ?_, ?_, ?_, ?_, ?_, ?_, ?_, ?_⟩ <;> rfl

@[simp] theorem State.defer_reg (s : State) (d : Deferred) (k_ : Nat) : (s.defer d).reg k_ = s.reg k_ := rfl

@[simp] theorem State.defer_winWord (s : State) (d : Deferred) (k_ : Nat) :
    (s.defer d).winWord k_ = s.winWord k_ := rfl

@[simp] theorem State.defer_byte (s : State) (d : Deferred) (k_ : Nat) : (s.defer d).byte k_ = s.byte k_ := rfl

/-- What `traceLost` leaves as it was. -/
@[simp] theorem State.traceLost_frame (s : State) :
    (s.traceLost).win = s.win ∧ (s.traceLost).mem = s.mem ∧ (s.traceLost).now = s.now ∧ (s.traceLost).sys = s.sys ∧
    (s.traceLost).pwr = s.pwr ∧ (s.traceLost).rct = s.rct ∧ (s.traceLost).tim = s.tim ∧ (s.traceLost).rtc = s.rtc ∧
    (s.traceLost).sns = s.sns ∧ (s.traceLost).cen = s.cen ∧ (s.traceLost).mfe = s.mfe ∧ (s.traceLost).chs = s.chs ∧
    (s.traceLost).lgt = s.lgt ∧ (s.traceLost).mtr = s.mtr ∧ (s.traceLost).stl = s.stl ∧ (s.traceLost).axe = s.axe ∧
    (s.traceLost).modems = s.modems ∧ (s.traceLost).macs = s.macs ∧ (s.traceLost).ntb = s.ntb ∧
    (s.traceLost).yrd = s.yrd ∧ (s.traceLost).sch = s.sch ∧ (s.traceLost).tqu = s.tqu ∧ (s.traceLost).swx = s.swx ∧
    (s.traceLost).uplinks = s.uplinks ∧ (s.traceLost).evr = s.evr ∧ (s.traceLost).kvt = s.kvt ∧
    (s.traceLost).upd = s.upd ∧ (s.traceLost).trc = s.trc ∧ (s.traceLost).twn = s.twn ∧ (s.traceLost).ksp = s.ksp ∧
    (s.traceLost).sent = s.sent ∧ (s.traceLost).free = s.free ∧ (s.traceLost).pending = s.pending := by
  unfold State.traceLost
  (repeat' split) <;> simp

@[simp] theorem State.traceLost_winWord (s : State) (k_ : Nat) :
    (s.traceLost).winWord k_ = s.winWord k_ := by unfold State.traceLost; (repeat' split) <;> first | rfl | simp

@[simp] theorem State.traceLost_byte (s : State) (k_ : Nat) :
    (s.traceLost).byte k_ = s.byte k_ := by unfold State.traceLost; (repeat' split) <;> first | rfl | simp

/-- What `tracePut` leaves as it was. -/
@[simp] theorem State.tracePut_frame (s : State) (off : ℕ) (r : List Byte) :
    (s.tracePut off r).win = s.win ∧ (s.tracePut off r).now = s.now ∧ (s.tracePut off r).sys = s.sys ∧
    (s.tracePut off r).pwr = s.pwr ∧ (s.tracePut off r).rct = s.rct ∧ (s.tracePut off r).tim = s.tim ∧
    (s.tracePut off r).rtc = s.rtc ∧ (s.tracePut off r).sns = s.sns ∧ (s.tracePut off r).cen = s.cen ∧
    (s.tracePut off r).mfe = s.mfe ∧ (s.tracePut off r).chs = s.chs ∧ (s.tracePut off r).lgt = s.lgt ∧
    (s.tracePut off r).mtr = s.mtr ∧ (s.tracePut off r).stl = s.stl ∧ (s.tracePut off r).axe = s.axe ∧
    (s.tracePut off r).modems = s.modems ∧ (s.tracePut off r).macs = s.macs ∧ (s.tracePut off r).ntb = s.ntb ∧
    (s.tracePut off r).yrd = s.yrd ∧ (s.tracePut off r).sch = s.sch ∧ (s.tracePut off r).ths = s.ths ∧
    (s.tracePut off r).tqu = s.tqu ∧ (s.tracePut off r).swx = s.swx ∧ (s.tracePut off r).uplinks = s.uplinks ∧
    (s.tracePut off r).evr = s.evr ∧ (s.tracePut off r).kvt = s.kvt ∧ (s.tracePut off r).upd = s.upd ∧
    (s.tracePut off r).twn = s.twn ∧ (s.tracePut off r).ksp = s.ksp ∧ (s.tracePut off r).sent = s.sent ∧
    (s.tracePut off r).free = s.free ∧ (s.tracePut off r).pending = s.pending := by
  unfold State.tracePut
  (repeat' split) <;> simp

@[simp] theorem State.tracePut_winWord (s : State) (off : ℕ) (r : List Byte) (k_ : Nat) :
    (s.tracePut off r).winWord k_ = s.winWord k_ := by unfold State.tracePut; (repeat' split) <;> first | rfl | simp

/-- What `trace` leaves as it was. -/
@[simp] theorem State.trace_frame (s : State) (src : ℕ) (payload : List Byte) :
    (s.trace src payload).win = s.win ∧ (s.trace src payload).now = s.now ∧ (s.trace src payload).sys = s.sys ∧
    (s.trace src payload).pwr = s.pwr ∧ (s.trace src payload).rct = s.rct ∧ (s.trace src payload).tim = s.tim ∧
    (s.trace src payload).rtc = s.rtc ∧ (s.trace src payload).sns = s.sns ∧ (s.trace src payload).cen = s.cen ∧
    (s.trace src payload).mfe = s.mfe ∧ (s.trace src payload).chs = s.chs ∧ (s.trace src payload).lgt = s.lgt ∧
    (s.trace src payload).mtr = s.mtr ∧ (s.trace src payload).stl = s.stl ∧ (s.trace src payload).axe = s.axe ∧
    (s.trace src payload).modems = s.modems ∧ (s.trace src payload).macs = s.macs ∧ (s.trace src payload).ntb = s.ntb ∧
    (s.trace src payload).yrd = s.yrd ∧ (s.trace src payload).sch = s.sch ∧ (s.trace src payload).tqu = s.tqu ∧
    (s.trace src payload).swx = s.swx ∧ (s.trace src payload).uplinks = s.uplinks ∧ (s.trace src payload).evr = s.evr ∧
    (s.trace src payload).kvt = s.kvt ∧ (s.trace src payload).upd = s.upd ∧ (s.trace src payload).twn = s.twn ∧
    (s.trace src payload).ksp = s.ksp ∧ (s.trace src payload).sent = s.sent ∧ (s.trace src payload).free = s.free ∧
    (s.trace src payload).pending = s.pending := by
  unfold State.trace
  dsimp only
  split_ifs <;> simp

@[simp] theorem State.trace_winWord (s : State) (src : ℕ) (payload : List Byte) (k_ : Nat) :
    (s.trace src payload).winWord k_ = s.winWord k_ := by
  unfold State.trace
  dsimp only
  split_ifs <;> first | rfl | (simp; done) | (simp; rfl)


/-- What `countClamp` leaves as it was. -/
@[simp] theorem State.countClamp_frame (s : State) (req : ℕ) (a : ℕ) :
    (s.countClamp req a).win = s.win ∧ (s.countClamp req a).mem = s.mem ∧ (s.countClamp req a).now = s.now ∧
    (s.countClamp req a).sys = s.sys ∧ (s.countClamp req a).pwr = s.pwr ∧ (s.countClamp req a).rct = s.rct ∧
    (s.countClamp req a).tim = s.tim ∧ (s.countClamp req a).rtc = s.rtc ∧ (s.countClamp req a).sns = s.sns ∧
    (s.countClamp req a).cen = s.cen ∧ (s.countClamp req a).mfe = s.mfe ∧ (s.countClamp req a).chs = s.chs ∧
    (s.countClamp req a).lgt = s.lgt ∧ (s.countClamp req a).mtr = s.mtr ∧ (s.countClamp req a).stl = s.stl ∧
    (s.countClamp req a).axe = s.axe ∧ (s.countClamp req a).modems = s.modems ∧ (s.countClamp req a).macs = s.macs ∧
    (s.countClamp req a).ntb = s.ntb ∧ (s.countClamp req a).yrd = s.yrd ∧ (s.countClamp req a).sch = s.sch ∧
    (s.countClamp req a).tqu = s.tqu ∧ (s.countClamp req a).swx = s.swx ∧ (s.countClamp req a).uplinks = s.uplinks ∧
    (s.countClamp req a).evr = s.evr ∧ (s.countClamp req a).kvt = s.kvt ∧ (s.countClamp req a).upd = s.upd ∧
    (s.countClamp req a).trc = s.trc ∧ (s.countClamp req a).twn = s.twn ∧ (s.countClamp req a).ksp = s.ksp ∧
    (s.countClamp req a).sent = s.sent ∧ (s.countClamp req a).free = s.free ∧ (s.countClamp req a).pending = s.pending := by
  unfold State.countClamp
  (repeat' split) <;> simp

@[simp] theorem State.countClamp_winWord (s : State) (req : ℕ) (a : ℕ) (k_ : Nat) :
    (s.countClamp req a).winWord k_ = s.winWord k_ := by unfold State.countClamp; (repeat' split) <;> first | rfl | simp

@[simp] theorem State.countClamp_byte (s : State) (req : ℕ) (a : ℕ) (k_ : Nat) :
    (s.countClamp req a).byte k_ = s.byte k_ := by unfold State.countClamp; (repeat' split) <;> first | rfl | simp

/-- What `bumpTwin` leaves as it was. -/
@[simp] theorem State.bumpTwin_frame (s : State) (lane : ℕ) :
    (s.bumpTwin lane).regs = s.regs ∧ (s.bumpTwin lane).win = s.win ∧ (s.bumpTwin lane).mem = s.mem ∧
    (s.bumpTwin lane).now = s.now ∧ (s.bumpTwin lane).sys = s.sys ∧ (s.bumpTwin lane).pwr = s.pwr ∧
    (s.bumpTwin lane).rct = s.rct ∧ (s.bumpTwin lane).tim = s.tim ∧ (s.bumpTwin lane).rtc = s.rtc ∧
    (s.bumpTwin lane).sns = s.sns ∧ (s.bumpTwin lane).cen = s.cen ∧ (s.bumpTwin lane).mfe = s.mfe ∧
    (s.bumpTwin lane).chs = s.chs ∧ (s.bumpTwin lane).lgt = s.lgt ∧ (s.bumpTwin lane).mtr = s.mtr ∧
    (s.bumpTwin lane).stl = s.stl ∧ (s.bumpTwin lane).axe = s.axe ∧ (s.bumpTwin lane).modems = s.modems ∧
    (s.bumpTwin lane).macs = s.macs ∧ (s.bumpTwin lane).ntb = s.ntb ∧ (s.bumpTwin lane).yrd = s.yrd ∧
    (s.bumpTwin lane).sch = s.sch ∧ (s.bumpTwin lane).ths = s.ths ∧ (s.bumpTwin lane).tqu = s.tqu ∧
    (s.bumpTwin lane).swx = s.swx ∧ (s.bumpTwin lane).uplinks = s.uplinks ∧ (s.bumpTwin lane).evr = s.evr ∧
    (s.bumpTwin lane).kvt = s.kvt ∧ (s.bumpTwin lane).upd = s.upd ∧ (s.bumpTwin lane).trc = s.trc ∧
    (s.bumpTwin lane).ksp = s.ksp ∧ (s.bumpTwin lane).sent = s.sent ∧ (s.bumpTwin lane).free = s.free ∧
    (s.bumpTwin lane).pending = s.pending := by
  refine ⟨?_, ?_, ?_, ?_, ?_, ?_, ?_, ?_, ?_, ?_, ?_, ?_, ?_, ?_, ?_, ?_, ?_, ?_, ?_, ?_, ?_, ?_, ?_, ?_, ?_, ?_, ?_, ?_, ?_, ?_, ?_, ?_, ?_, ?_⟩ <;> rfl

@[simp] theorem State.bumpTwin_reg (s : State) (lane : ℕ) (k_ : Nat) :
    (s.bumpTwin lane).reg k_ = s.reg k_ := rfl

@[simp] theorem State.bumpTwin_winWord (s : State) (lane : ℕ) (k_ : Nat) :
    (s.bumpTwin lane).winWord k_ = s.winWord k_ := rfl

@[simp] theorem State.bumpTwin_byte (s : State) (lane : ℕ) (k_ : Nat) :
    (s.bumpTwin lane).byte k_ = s.byte k_ := rfl

/-- What `sendTwin` leaves as it was. -/
@[simp] theorem State.sendTwin_frame (s : State) (lane : ℕ) (ttype : ℕ) (at_ : Stamp) (body : List Byte) :
    (s.sendTwin lane ttype at_ body).regs = s.regs ∧ (s.sendTwin lane ttype at_ body).win = s.win ∧
    (s.sendTwin lane ttype at_ body).mem = s.mem ∧ (s.sendTwin lane ttype at_ body).now = s.now ∧
    (s.sendTwin lane ttype at_ body).sys = s.sys ∧ (s.sendTwin lane ttype at_ body).pwr = s.pwr ∧
    (s.sendTwin lane ttype at_ body).rct = s.rct ∧ (s.sendTwin lane ttype at_ body).tim = s.tim ∧
    (s.sendTwin lane ttype at_ body).rtc = s.rtc ∧ (s.sendTwin lane ttype at_ body).sns = s.sns ∧
    (s.sendTwin lane ttype at_ body).cen = s.cen ∧ (s.sendTwin lane ttype at_ body).mfe = s.mfe ∧
    (s.sendTwin lane ttype at_ body).chs = s.chs ∧ (s.sendTwin lane ttype at_ body).lgt = s.lgt ∧
    (s.sendTwin lane ttype at_ body).mtr = s.mtr ∧ (s.sendTwin lane ttype at_ body).stl = s.stl ∧
    (s.sendTwin lane ttype at_ body).axe = s.axe ∧ (s.sendTwin lane ttype at_ body).modems = s.modems ∧
    (s.sendTwin lane ttype at_ body).macs = s.macs ∧ (s.sendTwin lane ttype at_ body).ntb = s.ntb ∧
    (s.sendTwin lane ttype at_ body).yrd = s.yrd ∧ (s.sendTwin lane ttype at_ body).sch = s.sch ∧
    (s.sendTwin lane ttype at_ body).ths = s.ths ∧ (s.sendTwin lane ttype at_ body).tqu = s.tqu ∧
    (s.sendTwin lane ttype at_ body).swx = s.swx ∧ (s.sendTwin lane ttype at_ body).uplinks = s.uplinks ∧
    (s.sendTwin lane ttype at_ body).evr = s.evr ∧ (s.sendTwin lane ttype at_ body).kvt = s.kvt ∧
    (s.sendTwin lane ttype at_ body).upd = s.upd ∧ (s.sendTwin lane ttype at_ body).trc = s.trc ∧
    (s.sendTwin lane ttype at_ body).ksp = s.ksp ∧ (s.sendTwin lane ttype at_ body).free = s.free ∧
    (s.sendTwin lane ttype at_ body).pending = s.pending := by
  unfold State.sendTwin
  (repeat' split) <;> simp

@[simp] theorem State.sendTwin_reg (s : State) (lane : ℕ) (ttype : ℕ) (at_ : Stamp) (body : List Byte) (k_ : Nat) :
    (s.sendTwin lane ttype at_ body).reg k_ = s.reg k_ := by unfold State.sendTwin; (repeat' split) <;> first | rfl | simp

@[simp] theorem State.sendTwin_winWord (s : State) (lane : ℕ) (ttype : ℕ) (at_ : Stamp) (body : List Byte) (k_ : Nat) :
    (s.sendTwin lane ttype at_ body).winWord k_ = s.winWord k_ := by unfold State.sendTwin; (repeat' split) <;> first | rfl | simp

@[simp] theorem State.sendTwin_byte (s : State) (lane : ℕ) (ttype : ℕ) (at_ : Stamp) (body : List Byte) (k_ : Nat) :
    (s.sendTwin lane ttype at_ body).byte k_ = s.byte k_ := by unfold State.sendTwin; (repeat' split) <;> first | rfl | simp

/-- What `storeClaim` leaves as it was. -/
@[simp] theorem State.storeClaim_frame (s : State) (n : ℕ) :
    (s.storeClaim n).regs = s.regs ∧ (s.storeClaim n).win = s.win ∧ (s.storeClaim n).now = s.now ∧
    (s.storeClaim n).sys = s.sys ∧ (s.storeClaim n).pwr = s.pwr ∧ (s.storeClaim n).rct = s.rct ∧
    (s.storeClaim n).tim = s.tim ∧ (s.storeClaim n).rtc = s.rtc ∧ (s.storeClaim n).sns = s.sns ∧
    (s.storeClaim n).cen = s.cen ∧ (s.storeClaim n).mfe = s.mfe ∧ (s.storeClaim n).chs = s.chs ∧
    (s.storeClaim n).lgt = s.lgt ∧ (s.storeClaim n).mtr = s.mtr ∧ (s.storeClaim n).stl = s.stl ∧
    (s.storeClaim n).axe = s.axe ∧ (s.storeClaim n).modems = s.modems ∧ (s.storeClaim n).macs = s.macs ∧
    (s.storeClaim n).ntb = s.ntb ∧ (s.storeClaim n).yrd = s.yrd ∧ (s.storeClaim n).sch = s.sch ∧
    (s.storeClaim n).ths = s.ths ∧ (s.storeClaim n).tqu = s.tqu ∧ (s.storeClaim n).swx = s.swx ∧
    (s.storeClaim n).uplinks = s.uplinks ∧ (s.storeClaim n).evr = s.evr ∧ (s.storeClaim n).kvt = s.kvt ∧
    (s.storeClaim n).upd = s.upd ∧ (s.storeClaim n).trc = s.trc ∧ (s.storeClaim n).twn = s.twn ∧
    (s.storeClaim n).ksp = s.ksp ∧ (s.storeClaim n).sent = s.sent ∧ (s.storeClaim n).free = s.free ∧
    (s.storeClaim n).pending = s.pending := by
  unfold State.storeClaim
  (repeat' split) <;> simp

@[simp] theorem State.storeClaim_reg (s : State) (n : ℕ) (k_ : Nat) :
    (s.storeClaim n).reg k_ = s.reg k_ := by unfold State.storeClaim; (repeat' split) <;> first | rfl | simp

@[simp] theorem State.storeClaim_winWord (s : State) (n : ℕ) (k_ : Nat) :
    (s.storeClaim n).winWord k_ = s.winWord k_ := by unfold State.storeClaim; (repeat' split) <;> first | rfl | simp

/-- What `sendJournal` leaves as it was. -/
@[simp] theorem State.sendJournal_frame (s : State) (kind : ℕ) (req : ℕ) (a : ℕ) (ws : List Word) :
    (s.sendJournal kind req a ws).win = s.win ∧ (s.sendJournal kind req a ws).mem = s.mem ∧
    (s.sendJournal kind req a ws).now = s.now ∧ (s.sendJournal kind req a ws).sys = s.sys ∧
    (s.sendJournal kind req a ws).pwr = s.pwr ∧ (s.sendJournal kind req a ws).rct = s.rct ∧
    (s.sendJournal kind req a ws).tim = s.tim ∧ (s.sendJournal kind req a ws).rtc = s.rtc ∧
    (s.sendJournal kind req a ws).sns = s.sns ∧ (s.sendJournal kind req a ws).cen = s.cen ∧
    (s.sendJournal kind req a ws).mfe = s.mfe ∧ (s.sendJournal kind req a ws).chs = s.chs ∧
    (s.sendJournal kind req a ws).lgt = s.lgt ∧ (s.sendJournal kind req a ws).mtr = s.mtr ∧
    (s.sendJournal kind req a ws).stl = s.stl ∧ (s.sendJournal kind req a ws).axe = s.axe ∧
    (s.sendJournal kind req a ws).modems = s.modems ∧ (s.sendJournal kind req a ws).macs = s.macs ∧
    (s.sendJournal kind req a ws).ntb = s.ntb ∧ (s.sendJournal kind req a ws).yrd = s.yrd ∧
    (s.sendJournal kind req a ws).sch = s.sch ∧ (s.sendJournal kind req a ws).ths = s.ths ∧
    (s.sendJournal kind req a ws).tqu = s.tqu ∧ (s.sendJournal kind req a ws).swx = s.swx ∧
    (s.sendJournal kind req a ws).uplinks = s.uplinks ∧ (s.sendJournal kind req a ws).evr = s.evr ∧
    (s.sendJournal kind req a ws).kvt = s.kvt ∧ (s.sendJournal kind req a ws).upd = s.upd ∧
    (s.sendJournal kind req a ws).trc = s.trc ∧ (s.sendJournal kind req a ws).ksp = s.ksp ∧
    (s.sendJournal kind req a ws).free = s.free ∧ (s.sendJournal kind req a ws).pending = s.pending := by
  unfold State.sendJournal
  (repeat' split) <;> simp

@[simp] theorem State.sendJournal_winWord (s : State) (kind : ℕ) (req : ℕ) (a : ℕ) (ws : List Word) (k_ : Nat) :
    (s.sendJournal kind req a ws).winWord k_ = s.winWord k_ := by unfold State.sendJournal; (repeat' split) <;> first | rfl | simp

@[simp] theorem State.sendJournal_byte (s : State) (kind : ℕ) (req : ℕ) (a : ℕ) (ws : List Word) (k_ : Nat) :
    (s.sendJournal kind req a ws).byte k_ = s.byte k_ := by unfold State.sendJournal; (repeat' split) <;> first | rfl | simp

/-- What `journalWrite` leaves as it was. -/
@[simp] theorem State.journalWrite_frame (s : State) (req : ℕ) (a : ℕ) (w : Word) :
    (s.journalWrite req a w).win = s.win ∧ (s.journalWrite req a w).mem = s.mem ∧ (s.journalWrite req a w).now = s.now ∧
    (s.journalWrite req a w).sys = s.sys ∧ (s.journalWrite req a w).pwr = s.pwr ∧ (s.journalWrite req a w).rct = s.rct ∧
    (s.journalWrite req a w).tim = s.tim ∧ (s.journalWrite req a w).rtc = s.rtc ∧ (s.journalWrite req a w).sns = s.sns ∧
    (s.journalWrite req a w).cen = s.cen ∧ (s.journalWrite req a w).mfe = s.mfe ∧ (s.journalWrite req a w).chs = s.chs ∧
    (s.journalWrite req a w).lgt = s.lgt ∧ (s.journalWrite req a w).mtr = s.mtr ∧ (s.journalWrite req a w).stl = s.stl ∧
    (s.journalWrite req a w).axe = s.axe ∧ (s.journalWrite req a w).modems = s.modems ∧
    (s.journalWrite req a w).macs = s.macs ∧ (s.journalWrite req a w).ntb = s.ntb ∧
    (s.journalWrite req a w).yrd = s.yrd ∧ (s.journalWrite req a w).sch = s.sch ∧ (s.journalWrite req a w).ths = s.ths ∧
    (s.journalWrite req a w).tqu = s.tqu ∧ (s.journalWrite req a w).swx = s.swx ∧
    (s.journalWrite req a w).uplinks = s.uplinks ∧ (s.journalWrite req a w).evr = s.evr ∧
    (s.journalWrite req a w).kvt = s.kvt ∧ (s.journalWrite req a w).upd = s.upd ∧ (s.journalWrite req a w).trc = s.trc ∧
    (s.journalWrite req a w).ksp = s.ksp ∧ (s.journalWrite req a w).free = s.free ∧
    (s.journalWrite req a w).pending = s.pending := by
  unfold State.journalWrite
  (repeat' split) <;> simp

@[simp] theorem State.journalWrite_winWord (s : State) (req : ℕ) (a : ℕ) (w : Word) (k_ : Nat) :
    (s.journalWrite req a w).winWord k_ = s.winWord k_ := by unfold State.journalWrite; (repeat' split) <;> first | rfl | simp

@[simp] theorem State.journalWrite_byte (s : State) (req : ℕ) (a : ℕ) (w : Word) (k_ : Nat) :
    (s.journalWrite req a w).byte k_ = s.byte k_ := by unfold State.journalWrite; (repeat' split) <;> first | rfl | simp

/-- What `journalUpdate` leaves as it was. -/
@[simp] theorem State.journalUpdate_frame (s : State) (a : ℕ) (ws : List Word) :
    (s.journalUpdate a ws).win = s.win ∧ (s.journalUpdate a ws).mem = s.mem ∧ (s.journalUpdate a ws).now = s.now ∧
    (s.journalUpdate a ws).sys = s.sys ∧ (s.journalUpdate a ws).pwr = s.pwr ∧ (s.journalUpdate a ws).rct = s.rct ∧
    (s.journalUpdate a ws).tim = s.tim ∧ (s.journalUpdate a ws).rtc = s.rtc ∧ (s.journalUpdate a ws).sns = s.sns ∧
    (s.journalUpdate a ws).cen = s.cen ∧ (s.journalUpdate a ws).mfe = s.mfe ∧ (s.journalUpdate a ws).chs = s.chs ∧
    (s.journalUpdate a ws).lgt = s.lgt ∧ (s.journalUpdate a ws).mtr = s.mtr ∧ (s.journalUpdate a ws).stl = s.stl ∧
    (s.journalUpdate a ws).axe = s.axe ∧ (s.journalUpdate a ws).modems = s.modems ∧
    (s.journalUpdate a ws).macs = s.macs ∧ (s.journalUpdate a ws).ntb = s.ntb ∧ (s.journalUpdate a ws).yrd = s.yrd ∧
    (s.journalUpdate a ws).sch = s.sch ∧ (s.journalUpdate a ws).ths = s.ths ∧ (s.journalUpdate a ws).tqu = s.tqu ∧
    (s.journalUpdate a ws).swx = s.swx ∧ (s.journalUpdate a ws).uplinks = s.uplinks ∧
    (s.journalUpdate a ws).evr = s.evr ∧ (s.journalUpdate a ws).kvt = s.kvt ∧ (s.journalUpdate a ws).upd = s.upd ∧
    (s.journalUpdate a ws).trc = s.trc ∧ (s.journalUpdate a ws).ksp = s.ksp ∧ (s.journalUpdate a ws).free = s.free ∧
    (s.journalUpdate a ws).pending = s.pending := by
  unfold State.journalUpdate
  (repeat' split) <;> simp

@[simp] theorem State.journalUpdate_winWord (s : State) (a : ℕ) (ws : List Word) (k_ : Nat) :
    (s.journalUpdate a ws).winWord k_ = s.winWord k_ := by unfold State.journalUpdate; (repeat' split) <;> first | rfl | simp

@[simp] theorem State.journalUpdate_byte (s : State) (a : ℕ) (ws : List Word) (k_ : Nat) :
    (s.journalUpdate a ws).byte k_ = s.byte k_ := by unfold State.journalUpdate; (repeat' split) <;> first | rfl | simp

/-- What `traceWrite` leaves as it was. -/
@[simp] theorem State.traceWrite_frame (s : State) (req : ℕ) (a : ℕ) (v : Word) (flags : ℕ) :
    (s.traceWrite req a v flags).win = s.win ∧ (s.traceWrite req a v flags).now = s.now ∧
    (s.traceWrite req a v flags).sys = s.sys ∧ (s.traceWrite req a v flags).pwr = s.pwr ∧
    (s.traceWrite req a v flags).rct = s.rct ∧ (s.traceWrite req a v flags).tim = s.tim ∧
    (s.traceWrite req a v flags).rtc = s.rtc ∧ (s.traceWrite req a v flags).sns = s.sns ∧
    (s.traceWrite req a v flags).cen = s.cen ∧ (s.traceWrite req a v flags).mfe = s.mfe ∧
    (s.traceWrite req a v flags).chs = s.chs ∧ (s.traceWrite req a v flags).lgt = s.lgt ∧
    (s.traceWrite req a v flags).mtr = s.mtr ∧ (s.traceWrite req a v flags).stl = s.stl ∧
    (s.traceWrite req a v flags).axe = s.axe ∧ (s.traceWrite req a v flags).modems = s.modems ∧
    (s.traceWrite req a v flags).macs = s.macs ∧ (s.traceWrite req a v flags).ntb = s.ntb ∧
    (s.traceWrite req a v flags).yrd = s.yrd ∧ (s.traceWrite req a v flags).sch = s.sch ∧
    (s.traceWrite req a v flags).tqu = s.tqu ∧ (s.traceWrite req a v flags).swx = s.swx ∧
    (s.traceWrite req a v flags).uplinks = s.uplinks ∧ (s.traceWrite req a v flags).evr = s.evr ∧
    (s.traceWrite req a v flags).kvt = s.kvt ∧ (s.traceWrite req a v flags).upd = s.upd ∧
    (s.traceWrite req a v flags).twn = s.twn ∧ (s.traceWrite req a v flags).ksp = s.ksp ∧
    (s.traceWrite req a v flags).sent = s.sent ∧ (s.traceWrite req a v flags).free = s.free ∧
    (s.traceWrite req a v flags).pending = s.pending := by
  unfold State.traceWrite
  (repeat' split) <;> simp

@[simp] theorem State.traceWrite_winWord (s : State) (req : ℕ) (a : ℕ) (v : Word) (flags : ℕ) (k_ : Nat) :
    (s.traceWrite req a v flags).winWord k_ = s.winWord k_ := by unfold State.traceWrite; (repeat' split) <;> first | rfl | simp

/-- What `finishWrite` leaves as it was. -/
@[simp] theorem State.finishWrite_frame (s : State) (req : ℕ) (a : ℕ) (v : Word) (stored : Word) (r : WriteResult) :
    (s.finishWrite req a v stored r).win = s.win ∧ (s.finishWrite req a v stored r).now = s.now ∧
    (s.finishWrite req a v stored r).sys = s.sys ∧ (s.finishWrite req a v stored r).pwr = s.pwr ∧
    (s.finishWrite req a v stored r).rct = s.rct ∧ (s.finishWrite req a v stored r).tim = s.tim ∧
    (s.finishWrite req a v stored r).rtc = s.rtc ∧ (s.finishWrite req a v stored r).sns = s.sns ∧
    (s.finishWrite req a v stored r).cen = s.cen ∧ (s.finishWrite req a v stored r).mfe = s.mfe ∧
    (s.finishWrite req a v stored r).chs = s.chs ∧ (s.finishWrite req a v stored r).lgt = s.lgt ∧
    (s.finishWrite req a v stored r).mtr = s.mtr ∧ (s.finishWrite req a v stored r).stl = s.stl ∧
    (s.finishWrite req a v stored r).axe = s.axe ∧ (s.finishWrite req a v stored r).modems = s.modems ∧
    (s.finishWrite req a v stored r).macs = s.macs ∧ (s.finishWrite req a v stored r).ntb = s.ntb ∧
    (s.finishWrite req a v stored r).yrd = s.yrd ∧ (s.finishWrite req a v stored r).sch = s.sch ∧
    (s.finishWrite req a v stored r).tqu = s.tqu ∧ (s.finishWrite req a v stored r).swx = s.swx ∧
    (s.finishWrite req a v stored r).uplinks = s.uplinks ∧ (s.finishWrite req a v stored r).evr = s.evr ∧
    (s.finishWrite req a v stored r).kvt = s.kvt ∧ (s.finishWrite req a v stored r).upd = s.upd ∧
    (s.finishWrite req a v stored r).ksp = s.ksp ∧ (s.finishWrite req a v stored r).free = s.free ∧
    (s.finishWrite req a v stored r).pending = s.pending := by
  unfold State.finishWrite
  (repeat' split) <;> simp

@[simp] theorem State.finishWrite_winWord (s : State) (req : ℕ) (a : ℕ) (v : Word) (stored : Word) (r : WriteResult) (k_ : Nat) :
    (s.finishWrite req a v stored r).winWord k_ = s.winWord k_ := by unfold State.finishWrite; (repeat' split) <;> first | rfl | simp

/-- What `store` leaves as it was. -/
@[simp] theorem State.store_frame (s : State) (a : ℕ) (v : Word) :
    (s.store a v).1.win = s.win ∧ (s.store a v).1.mem = s.mem ∧ (s.store a v).1.now = s.now ∧
    (s.store a v).1.sys = s.sys ∧ (s.store a v).1.pwr = s.pwr ∧ (s.store a v).1.rct = s.rct ∧
    (s.store a v).1.tim = s.tim ∧ (s.store a v).1.rtc = s.rtc ∧ (s.store a v).1.sns = s.sns ∧
    (s.store a v).1.cen = s.cen ∧ (s.store a v).1.mfe = s.mfe ∧ (s.store a v).1.chs = s.chs ∧
    (s.store a v).1.lgt = s.lgt ∧ (s.store a v).1.mtr = s.mtr ∧ (s.store a v).1.stl = s.stl ∧
    (s.store a v).1.axe = s.axe ∧ (s.store a v).1.modems = s.modems ∧ (s.store a v).1.macs = s.macs ∧
    (s.store a v).1.ntb = s.ntb ∧ (s.store a v).1.yrd = s.yrd ∧ (s.store a v).1.sch = s.sch ∧
    (s.store a v).1.ths = s.ths ∧ (s.store a v).1.tqu = s.tqu ∧ (s.store a v).1.swx = s.swx ∧
    (s.store a v).1.uplinks = s.uplinks ∧ (s.store a v).1.evr = s.evr ∧ (s.store a v).1.kvt = s.kvt ∧
    (s.store a v).1.upd = s.upd ∧ (s.store a v).1.trc = s.trc ∧ (s.store a v).1.twn = s.twn ∧
    (s.store a v).1.ksp = s.ksp ∧ (s.store a v).1.sent = s.sent ∧ (s.store a v).1.free = s.free ∧
    (s.store a v).1.pending = s.pending := by
  unfold State.store
  (repeat' split) <;> simp

@[simp] theorem State.store_winWord (s : State) (a : ℕ) (v : Word) (k_ : Nat) :
    (s.store a v).1.winWord k_ = s.winWord k_ := by unfold State.store; (repeat' split) <;> first | rfl | simp

@[simp] theorem State.store_byte (s : State) (a : ℕ) (v : Word) (k_ : Nat) :
    (s.store a v).1.byte k_ = s.byte k_ := by unfold State.store; (repeat' split) <;> first | rfl | simp

/-- What `setPort` leaves as it was. -/
@[simp] theorem State.setPort_frame (s : State) (r : ℕ) (p : ReqPort) :
    (s.setPort r p).regs = s.regs ∧ (s.setPort r p).win = s.win ∧ (s.setPort r p).mem = s.mem ∧
    (s.setPort r p).now = s.now ∧ (s.setPort r p).pwr = s.pwr ∧ (s.setPort r p).rct = s.rct ∧
    (s.setPort r p).tim = s.tim ∧ (s.setPort r p).rtc = s.rtc ∧ (s.setPort r p).sns = s.sns ∧
    (s.setPort r p).cen = s.cen ∧ (s.setPort r p).mfe = s.mfe ∧ (s.setPort r p).chs = s.chs ∧
    (s.setPort r p).lgt = s.lgt ∧ (s.setPort r p).mtr = s.mtr ∧ (s.setPort r p).stl = s.stl ∧
    (s.setPort r p).axe = s.axe ∧ (s.setPort r p).modems = s.modems ∧ (s.setPort r p).macs = s.macs ∧
    (s.setPort r p).ntb = s.ntb ∧ (s.setPort r p).yrd = s.yrd ∧ (s.setPort r p).sch = s.sch ∧
    (s.setPort r p).ths = s.ths ∧ (s.setPort r p).tqu = s.tqu ∧ (s.setPort r p).swx = s.swx ∧
    (s.setPort r p).uplinks = s.uplinks ∧ (s.setPort r p).evr = s.evr ∧ (s.setPort r p).kvt = s.kvt ∧
    (s.setPort r p).upd = s.upd ∧ (s.setPort r p).trc = s.trc ∧ (s.setPort r p).twn = s.twn ∧
    (s.setPort r p).ksp = s.ksp ∧ (s.setPort r p).sent = s.sent ∧ (s.setPort r p).free = s.free ∧
    (s.setPort r p).pending = s.pending := by
  refine ⟨?_, ?_, ?_, ?_, ?_, ?_, ?_, ?_, ?_, ?_, ?_, ?_, ?_, ?_, ?_, ?_, ?_, ?_, ?_, ?_, ?_, ?_, ?_, ?_, ?_, ?_, ?_, ?_, ?_, ?_, ?_, ?_, ?_, ?_⟩ <;> rfl

@[simp] theorem State.setPort_reg (s : State) (r : ℕ) (p : ReqPort) (k_ : Nat) :
    (s.setPort r p).reg k_ = s.reg k_ := rfl

@[simp] theorem State.setPort_winWord (s : State) (r : ℕ) (p : ReqPort) (k_ : Nat) :
    (s.setPort r p).winWord k_ = s.winWord k_ := rfl

@[simp] theorem State.setPort_byte (s : State) (r : ℕ) (p : ReqPort) (k_ : Nat) :
    (s.setPort r p).byte k_ = s.byte k_ := rfl

/-- What `stageLow` leaves as it was. -/
@[simp] theorem State.stageLow_frame (s : State) (req : ℕ) (a : ℕ) (v : Word) :
    (s.stageLow req a v).regs = s.regs ∧ (s.stageLow req a v).win = s.win ∧ (s.stageLow req a v).mem = s.mem ∧
    (s.stageLow req a v).now = s.now ∧ (s.stageLow req a v).pwr = s.pwr ∧ (s.stageLow req a v).rct = s.rct ∧
    (s.stageLow req a v).tim = s.tim ∧ (s.stageLow req a v).rtc = s.rtc ∧ (s.stageLow req a v).sns = s.sns ∧
    (s.stageLow req a v).cen = s.cen ∧ (s.stageLow req a v).mfe = s.mfe ∧ (s.stageLow req a v).chs = s.chs ∧
    (s.stageLow req a v).lgt = s.lgt ∧ (s.stageLow req a v).mtr = s.mtr ∧ (s.stageLow req a v).stl = s.stl ∧
    (s.stageLow req a v).axe = s.axe ∧ (s.stageLow req a v).modems = s.modems ∧ (s.stageLow req a v).macs = s.macs ∧
    (s.stageLow req a v).ntb = s.ntb ∧ (s.stageLow req a v).yrd = s.yrd ∧ (s.stageLow req a v).sch = s.sch ∧
    (s.stageLow req a v).ths = s.ths ∧ (s.stageLow req a v).tqu = s.tqu ∧ (s.stageLow req a v).swx = s.swx ∧
    (s.stageLow req a v).uplinks = s.uplinks ∧ (s.stageLow req a v).evr = s.evr ∧ (s.stageLow req a v).kvt = s.kvt ∧
    (s.stageLow req a v).upd = s.upd ∧ (s.stageLow req a v).trc = s.trc ∧ (s.stageLow req a v).twn = s.twn ∧
    (s.stageLow req a v).ksp = s.ksp ∧ (s.stageLow req a v).sent = s.sent ∧ (s.stageLow req a v).free = s.free ∧
    (s.stageLow req a v).pending = s.pending := by
  unfold State.stageLow
  (repeat' split) <;> simp

@[simp] theorem State.stageLow_reg (s : State) (req : ℕ) (a : ℕ) (v : Word) (k_ : Nat) :
    (s.stageLow req a v).reg k_ = s.reg k_ := by unfold State.stageLow; (repeat' split) <;> first | rfl | simp

@[simp] theorem State.stageLow_winWord (s : State) (req : ℕ) (a : ℕ) (v : Word) (k_ : Nat) :
    (s.stageLow req a v).winWord k_ = s.winWord k_ := by unfold State.stageLow; (repeat' split) <;> first | rfl | simp

@[simp] theorem State.stageLow_byte (s : State) (req : ℕ) (a : ℕ) (v : Word) (k_ : Nat) :
    (s.stageLow req a v).byte k_ = s.byte k_ := by unfold State.stageLow; (repeat' split) <;> first | rfl | simp

/-- What `loadPair` leaves as it was. -/
@[simp] theorem State.loadPair_frame (s : State) (req : ℕ) (a : ℕ) (v : Word) :
    (s.loadPair req a v).1.win = s.win ∧ (s.loadPair req a v).1.mem = s.mem ∧ (s.loadPair req a v).1.now = s.now ∧
    (s.loadPair req a v).1.pwr = s.pwr ∧ (s.loadPair req a v).1.rct = s.rct ∧ (s.loadPair req a v).1.tim = s.tim ∧
    (s.loadPair req a v).1.rtc = s.rtc ∧ (s.loadPair req a v).1.sns = s.sns ∧ (s.loadPair req a v).1.cen = s.cen ∧
    (s.loadPair req a v).1.mfe = s.mfe ∧ (s.loadPair req a v).1.chs = s.chs ∧ (s.loadPair req a v).1.lgt = s.lgt ∧
    (s.loadPair req a v).1.mtr = s.mtr ∧ (s.loadPair req a v).1.stl = s.stl ∧ (s.loadPair req a v).1.axe = s.axe ∧
    (s.loadPair req a v).1.modems = s.modems ∧ (s.loadPair req a v).1.macs = s.macs ∧
    (s.loadPair req a v).1.ntb = s.ntb ∧ (s.loadPair req a v).1.yrd = s.yrd ∧ (s.loadPair req a v).1.sch = s.sch ∧
    (s.loadPair req a v).1.ths = s.ths ∧ (s.loadPair req a v).1.tqu = s.tqu ∧ (s.loadPair req a v).1.swx = s.swx ∧
    (s.loadPair req a v).1.uplinks = s.uplinks ∧ (s.loadPair req a v).1.evr = s.evr ∧
    (s.loadPair req a v).1.kvt = s.kvt ∧ (s.loadPair req a v).1.upd = s.upd ∧ (s.loadPair req a v).1.trc = s.trc ∧
    (s.loadPair req a v).1.twn = s.twn ∧ (s.loadPair req a v).1.ksp = s.ksp ∧ (s.loadPair req a v).1.sent = s.sent ∧
    (s.loadPair req a v).1.free = s.free ∧ (s.loadPair req a v).1.pending = s.pending := by
  unfold State.loadPair
  (repeat' split) <;> simp

@[simp] theorem State.loadPair_winWord (s : State) (req : ℕ) (a : ℕ) (v : Word) (k_ : Nat) :
    (s.loadPair req a v).1.winWord k_ = s.winWord k_ := by unfold State.loadPair; (repeat' split) <;> first | rfl | simp

@[simp] theorem State.loadPair_byte (s : State) (req : ℕ) (a : ℕ) (v : Word) (k_ : Nat) :
    (s.loadPair req a v).1.byte k_ = s.byte k_ := by unfold State.loadPair; (repeat' split) <;> first | rfl | simp

/-- What `setBucket` leaves as it was. -/
@[simp] theorem State.setBucket_frame (s : State) (code : ℕ) (b : Bucket) :
    (s.setBucket code b).regs = s.regs ∧ (s.setBucket code b).win = s.win ∧ (s.setBucket code b).mem = s.mem ∧
    (s.setBucket code b).now = s.now ∧ (s.setBucket code b).sys = s.sys ∧ (s.setBucket code b).pwr = s.pwr ∧
    (s.setBucket code b).rct = s.rct ∧ (s.setBucket code b).tim = s.tim ∧ (s.setBucket code b).rtc = s.rtc ∧
    (s.setBucket code b).sns = s.sns ∧ (s.setBucket code b).cen = s.cen ∧ (s.setBucket code b).mfe = s.mfe ∧
    (s.setBucket code b).chs = s.chs ∧ (s.setBucket code b).lgt = s.lgt ∧ (s.setBucket code b).mtr = s.mtr ∧
    (s.setBucket code b).stl = s.stl ∧ (s.setBucket code b).axe = s.axe ∧ (s.setBucket code b).modems = s.modems ∧
    (s.setBucket code b).macs = s.macs ∧ (s.setBucket code b).ntb = s.ntb ∧ (s.setBucket code b).yrd = s.yrd ∧
    (s.setBucket code b).sch = s.sch ∧ (s.setBucket code b).ths = s.ths ∧ (s.setBucket code b).tqu = s.tqu ∧
    (s.setBucket code b).swx = s.swx ∧ (s.setBucket code b).uplinks = s.uplinks ∧ (s.setBucket code b).kvt = s.kvt ∧
    (s.setBucket code b).upd = s.upd ∧ (s.setBucket code b).trc = s.trc ∧ (s.setBucket code b).twn = s.twn ∧
    (s.setBucket code b).ksp = s.ksp ∧ (s.setBucket code b).sent = s.sent ∧ (s.setBucket code b).free = s.free ∧
    (s.setBucket code b).pending = s.pending := by
  refine ⟨?_, ?_, ?_, ?_, ?_, ?_, ?_, ?_, ?_, ?_, ?_, ?_, ?_, ?_, ?_, ?_, ?_, ?_, ?_, ?_, ?_, ?_, ?_, ?_, ?_, ?_, ?_, ?_, ?_, ?_, ?_, ?_, ?_, ?_⟩ <;> rfl

@[simp] theorem State.setBucket_reg (s : State) (code : ℕ) (b : Bucket) (k_ : Nat) :
    (s.setBucket code b).reg k_ = s.reg k_ := rfl

@[simp] theorem State.setBucket_winWord (s : State) (code : ℕ) (b : Bucket) (k_ : Nat) :
    (s.setBucket code b).winWord k_ = s.winWord k_ := rfl

@[simp] theorem State.setBucket_byte (s : State) (code : ℕ) (b : Bucket) (k_ : Nat) :
    (s.setBucket code b).byte k_ = s.byte k_ := rfl

/-- What `queueLog` leaves as it was. -/
@[simp] theorem State.queueLog_frame (s : State) (e : LogEntry) :
    (s.queueLog e).regs = s.regs ∧ (s.queueLog e).win = s.win ∧ (s.queueLog e).mem = s.mem ∧ (s.queueLog e).now = s.now ∧
    (s.queueLog e).sys = s.sys ∧ (s.queueLog e).pwr = s.pwr ∧ (s.queueLog e).rct = s.rct ∧ (s.queueLog e).tim = s.tim ∧
    (s.queueLog e).rtc = s.rtc ∧ (s.queueLog e).sns = s.sns ∧ (s.queueLog e).cen = s.cen ∧ (s.queueLog e).mfe = s.mfe ∧
    (s.queueLog e).chs = s.chs ∧ (s.queueLog e).lgt = s.lgt ∧ (s.queueLog e).mtr = s.mtr ∧ (s.queueLog e).stl = s.stl ∧
    (s.queueLog e).axe = s.axe ∧ (s.queueLog e).modems = s.modems ∧ (s.queueLog e).macs = s.macs ∧
    (s.queueLog e).ntb = s.ntb ∧ (s.queueLog e).yrd = s.yrd ∧ (s.queueLog e).sch = s.sch ∧ (s.queueLog e).ths = s.ths ∧
    (s.queueLog e).tqu = s.tqu ∧ (s.queueLog e).swx = s.swx ∧ (s.queueLog e).uplinks = s.uplinks ∧
    (s.queueLog e).kvt = s.kvt ∧ (s.queueLog e).upd = s.upd ∧ (s.queueLog e).trc = s.trc ∧ (s.queueLog e).twn = s.twn ∧
    (s.queueLog e).ksp = s.ksp ∧ (s.queueLog e).sent = s.sent ∧ (s.queueLog e).free = s.free ∧
    (s.queueLog e).pending = s.pending := by
  refine ⟨?_, ?_, ?_, ?_, ?_, ?_, ?_, ?_, ?_, ?_, ?_, ?_, ?_, ?_, ?_, ?_, ?_, ?_, ?_, ?_, ?_, ?_, ?_, ?_, ?_, ?_, ?_, ?_, ?_, ?_, ?_, ?_, ?_, ?_⟩ <;> rfl

@[simp] theorem State.queueLog_reg (s : State) (e : LogEntry) (k_ : Nat) :
    (s.queueLog e).reg k_ = s.reg k_ := rfl

@[simp] theorem State.queueLog_winWord (s : State) (e : LogEntry) (k_ : Nat) :
    (s.queueLog e).winWord k_ = s.winWord k_ := rfl

@[simp] theorem State.queueLog_byte (s : State) (e : LogEntry) (k_ : Nat) :
    (s.queueLog e).byte k_ = s.byte k_ := rfl

/-- What `suppressLog` leaves as it was. -/
@[simp] theorem State.suppressLog_frame (s : State) (code : ℕ) (at_ : Stamp) :
    (s.suppressLog code at_).win = s.win ∧ (s.suppressLog code at_).mem = s.mem ∧ (s.suppressLog code at_).now = s.now ∧
    (s.suppressLog code at_).sys = s.sys ∧ (s.suppressLog code at_).pwr = s.pwr ∧ (s.suppressLog code at_).rct = s.rct ∧
    (s.suppressLog code at_).tim = s.tim ∧ (s.suppressLog code at_).rtc = s.rtc ∧ (s.suppressLog code at_).sns = s.sns ∧
    (s.suppressLog code at_).cen = s.cen ∧ (s.suppressLog code at_).mfe = s.mfe ∧ (s.suppressLog code at_).chs = s.chs ∧
    (s.suppressLog code at_).lgt = s.lgt ∧ (s.suppressLog code at_).mtr = s.mtr ∧ (s.suppressLog code at_).stl = s.stl ∧
    (s.suppressLog code at_).axe = s.axe ∧ (s.suppressLog code at_).modems = s.modems ∧
    (s.suppressLog code at_).macs = s.macs ∧ (s.suppressLog code at_).ntb = s.ntb ∧
    (s.suppressLog code at_).yrd = s.yrd ∧ (s.suppressLog code at_).sch = s.sch ∧ (s.suppressLog code at_).ths = s.ths ∧
    (s.suppressLog code at_).tqu = s.tqu ∧ (s.suppressLog code at_).swx = s.swx ∧
    (s.suppressLog code at_).uplinks = s.uplinks ∧ (s.suppressLog code at_).kvt = s.kvt ∧
    (s.suppressLog code at_).upd = s.upd ∧ (s.suppressLog code at_).trc = s.trc ∧ (s.suppressLog code at_).twn = s.twn ∧
    (s.suppressLog code at_).ksp = s.ksp ∧ (s.suppressLog code at_).sent = s.sent ∧
    (s.suppressLog code at_).free = s.free ∧ (s.suppressLog code at_).pending = s.pending := by
  unfold State.suppressLog
  (repeat' split) <;> simp

@[simp] theorem State.suppressLog_winWord (s : State) (code : ℕ) (at_ : Stamp) (k_ : Nat) :
    (s.suppressLog code at_).winWord k_ = s.winWord k_ := by unfold State.suppressLog; (repeat' split) <;> first | rfl | simp

@[simp] theorem State.suppressLog_byte (s : State) (code : ℕ) (at_ : Stamp) (k_ : Nat) :
    (s.suppressLog code at_).byte k_ = s.byte k_ := by unfold State.suppressLog; (repeat' split) <;> first | rfl | simp

/-- What `logAt` leaves as it was. -/
@[simp] theorem State.logAt_frame (s : State) (code : ℕ) (at_ : Stamp) (payload : List Byte) :
    (s.logAt code at_ payload).win = s.win ∧ (s.logAt code at_ payload).mem = s.mem ∧
    (s.logAt code at_ payload).now = s.now ∧ (s.logAt code at_ payload).sys = s.sys ∧
    (s.logAt code at_ payload).pwr = s.pwr ∧ (s.logAt code at_ payload).rct = s.rct ∧
    (s.logAt code at_ payload).tim = s.tim ∧ (s.logAt code at_ payload).rtc = s.rtc ∧
    (s.logAt code at_ payload).sns = s.sns ∧ (s.logAt code at_ payload).cen = s.cen ∧
    (s.logAt code at_ payload).mfe = s.mfe ∧ (s.logAt code at_ payload).chs = s.chs ∧
    (s.logAt code at_ payload).lgt = s.lgt ∧ (s.logAt code at_ payload).mtr = s.mtr ∧
    (s.logAt code at_ payload).stl = s.stl ∧ (s.logAt code at_ payload).axe = s.axe ∧
    (s.logAt code at_ payload).modems = s.modems ∧ (s.logAt code at_ payload).macs = s.macs ∧
    (s.logAt code at_ payload).ntb = s.ntb ∧ (s.logAt code at_ payload).yrd = s.yrd ∧
    (s.logAt code at_ payload).sch = s.sch ∧ (s.logAt code at_ payload).ths = s.ths ∧
    (s.logAt code at_ payload).tqu = s.tqu ∧ (s.logAt code at_ payload).swx = s.swx ∧
    (s.logAt code at_ payload).uplinks = s.uplinks ∧ (s.logAt code at_ payload).kvt = s.kvt ∧
    (s.logAt code at_ payload).upd = s.upd ∧ (s.logAt code at_ payload).trc = s.trc ∧
    (s.logAt code at_ payload).twn = s.twn ∧ (s.logAt code at_ payload).ksp = s.ksp ∧
    (s.logAt code at_ payload).sent = s.sent ∧ (s.logAt code at_ payload).free = s.free ∧
    (s.logAt code at_ payload).pending = s.pending := by
  unfold State.logAt
  dsimp only
  split_ifs <;> simp

@[simp] theorem State.logAt_winWord (s : State) (code : ℕ) (at_ : Stamp) (payload : List Byte) (k_ : Nat) :
    (s.logAt code at_ payload).winWord k_ = s.winWord k_ := by
  unfold State.logAt
  dsimp only
  split_ifs <;> first | rfl | (simp; done) | (simp; rfl)


@[simp] theorem State.logAt_byte (s : State) (code : ℕ) (at_ : Stamp) (payload : List Byte) (k_ : Nat) :
    (s.logAt code at_ payload).byte k_ = s.byte k_ := by
  unfold State.logAt
  dsimp only
  split_ifs <;> first | rfl | (simp; done) | (simp; rfl)


/-- What `log` leaves as it was. -/
@[simp] theorem State.log_frame (s : State) (code : ℕ) (payload : List Byte) :
    (s.log code payload).win = s.win ∧ (s.log code payload).mem = s.mem ∧ (s.log code payload).now = s.now ∧
    (s.log code payload).sys = s.sys ∧ (s.log code payload).pwr = s.pwr ∧ (s.log code payload).rct = s.rct ∧
    (s.log code payload).tim = s.tim ∧ (s.log code payload).rtc = s.rtc ∧ (s.log code payload).sns = s.sns ∧
    (s.log code payload).cen = s.cen ∧ (s.log code payload).mfe = s.mfe ∧ (s.log code payload).chs = s.chs ∧
    (s.log code payload).lgt = s.lgt ∧ (s.log code payload).mtr = s.mtr ∧ (s.log code payload).stl = s.stl ∧
    (s.log code payload).axe = s.axe ∧ (s.log code payload).modems = s.modems ∧ (s.log code payload).macs = s.macs ∧
    (s.log code payload).ntb = s.ntb ∧ (s.log code payload).yrd = s.yrd ∧ (s.log code payload).sch = s.sch ∧
    (s.log code payload).ths = s.ths ∧ (s.log code payload).tqu = s.tqu ∧ (s.log code payload).swx = s.swx ∧
    (s.log code payload).uplinks = s.uplinks ∧ (s.log code payload).kvt = s.kvt ∧ (s.log code payload).upd = s.upd ∧
    (s.log code payload).trc = s.trc ∧ (s.log code payload).twn = s.twn ∧ (s.log code payload).ksp = s.ksp ∧
    (s.log code payload).sent = s.sent ∧ (s.log code payload).free = s.free ∧ (s.log code payload).pending = s.pending := by
  unfold State.log
  (repeat' split) <;> simp

@[simp] theorem State.log_winWord (s : State) (code : ℕ) (payload : List Byte) (k_ : Nat) :
    (s.log code payload).winWord k_ = s.winWord k_ := by unfold State.log; (repeat' split) <;> first | rfl | simp

@[simp] theorem State.log_byte (s : State) (code : ℕ) (payload : List Byte) (k_ : Nat) :
    (s.log code payload).byte k_ = s.byte k_ := by unfold State.log; (repeat' split) <;> first | rfl | simp

/-- What `modKsp` leaves as it was. -/
@[simp] theorem State.modKsp_frame (s : State) (f : Ksp → Ksp) :
    (s.modKsp f).regs = s.regs ∧ (s.modKsp f).win = s.win ∧ (s.modKsp f).mem = s.mem ∧ (s.modKsp f).now = s.now ∧
    (s.modKsp f).sys = s.sys ∧ (s.modKsp f).pwr = s.pwr ∧ (s.modKsp f).rct = s.rct ∧ (s.modKsp f).tim = s.tim ∧
    (s.modKsp f).rtc = s.rtc ∧ (s.modKsp f).sns = s.sns ∧ (s.modKsp f).cen = s.cen ∧ (s.modKsp f).mfe = s.mfe ∧
    (s.modKsp f).chs = s.chs ∧ (s.modKsp f).lgt = s.lgt ∧ (s.modKsp f).mtr = s.mtr ∧ (s.modKsp f).stl = s.stl ∧
    (s.modKsp f).axe = s.axe ∧ (s.modKsp f).modems = s.modems ∧ (s.modKsp f).macs = s.macs ∧ (s.modKsp f).ntb = s.ntb ∧
    (s.modKsp f).yrd = s.yrd ∧ (s.modKsp f).sch = s.sch ∧ (s.modKsp f).ths = s.ths ∧ (s.modKsp f).tqu = s.tqu ∧
    (s.modKsp f).swx = s.swx ∧ (s.modKsp f).uplinks = s.uplinks ∧ (s.modKsp f).evr = s.evr ∧ (s.modKsp f).kvt = s.kvt ∧
    (s.modKsp f).upd = s.upd ∧ (s.modKsp f).trc = s.trc ∧ (s.modKsp f).twn = s.twn ∧ (s.modKsp f).sent = s.sent ∧
    (s.modKsp f).free = s.free ∧ (s.modKsp f).pending = s.pending := by
  refine ⟨?_, ?_, ?_, ?_, ?_, ?_, ?_, ?_, ?_, ?_, ?_, ?_, ?_, ?_, ?_, ?_, ?_, ?_, ?_, ?_, ?_, ?_, ?_, ?_, ?_, ?_, ?_, ?_, ?_, ?_, ?_, ?_, ?_, ?_⟩ <;> rfl

@[simp] theorem State.modKsp_ksp (s : State) (f : Ksp → Ksp) : (s.modKsp f).ksp = f s.ksp := rfl

@[simp] theorem State.modKsp_reg (s : State) (f : Ksp → Ksp) (k_ : Nat) : (s.modKsp f).reg k_ = s.reg k_ := rfl

@[simp] theorem State.modKsp_winWord (s : State) (f : Ksp → Ksp) (k_ : Nat) :
    (s.modKsp f).winWord k_ = s.winWord k_ := rfl

@[simp] theorem State.modKsp_byte (s : State) (f : Ksp → Ksp) (k_ : Nat) :
    (s.modKsp f).byte k_ = s.byte k_ := rfl

/-- What `setSession` leaves as it was. -/
@[simp] theorem State.setSession_frame (s : State) (i : ℕ) (x : Option KspSession) :
    (s.setSession i x).regs = s.regs ∧ (s.setSession i x).win = s.win ∧ (s.setSession i x).mem = s.mem ∧
    (s.setSession i x).now = s.now ∧ (s.setSession i x).sys = s.sys ∧ (s.setSession i x).pwr = s.pwr ∧
    (s.setSession i x).rct = s.rct ∧ (s.setSession i x).tim = s.tim ∧ (s.setSession i x).rtc = s.rtc ∧
    (s.setSession i x).sns = s.sns ∧ (s.setSession i x).cen = s.cen ∧ (s.setSession i x).mfe = s.mfe ∧
    (s.setSession i x).chs = s.chs ∧ (s.setSession i x).lgt = s.lgt ∧ (s.setSession i x).mtr = s.mtr ∧
    (s.setSession i x).stl = s.stl ∧ (s.setSession i x).axe = s.axe ∧ (s.setSession i x).modems = s.modems ∧
    (s.setSession i x).macs = s.macs ∧ (s.setSession i x).ntb = s.ntb ∧ (s.setSession i x).yrd = s.yrd ∧
    (s.setSession i x).sch = s.sch ∧ (s.setSession i x).ths = s.ths ∧ (s.setSession i x).tqu = s.tqu ∧
    (s.setSession i x).swx = s.swx ∧ (s.setSession i x).uplinks = s.uplinks ∧ (s.setSession i x).evr = s.evr ∧
    (s.setSession i x).kvt = s.kvt ∧ (s.setSession i x).upd = s.upd ∧ (s.setSession i x).trc = s.trc ∧
    (s.setSession i x).twn = s.twn ∧ (s.setSession i x).sent = s.sent ∧ (s.setSession i x).free = s.free ∧
    (s.setSession i x).pending = s.pending := by
  unfold State.setSession
  (repeat' split) <;> simp

@[simp] theorem State.setSession_reg (s : State) (i : ℕ) (x : Option KspSession) (k_ : Nat) :
    (s.setSession i x).reg k_ = s.reg k_ := by unfold State.setSession; (repeat' split) <;> first | rfl | simp

@[simp] theorem State.setSession_winWord (s : State) (i : ℕ) (x : Option KspSession) (k_ : Nat) :
    (s.setSession i x).winWord k_ = s.winWord k_ := by unfold State.setSession; (repeat' split) <;> first | rfl | simp

@[simp] theorem State.setSession_byte (s : State) (i : ℕ) (x : Option KspSession) (k_ : Nat) :
    (s.setSession i x).byte k_ = s.byte k_ := by unfold State.setSession; (repeat' split) <;> first | rfl | simp

/-- What `modAxe` leaves as it was. -/
@[simp] theorem State.modAxe_frame (s : State) (k : ℕ) (f : AxeSrc → AxeSrc) :
    (s.modAxe k f).regs = s.regs ∧ (s.modAxe k f).win = s.win ∧ (s.modAxe k f).mem = s.mem ∧ (s.modAxe k f).now = s.now ∧
    (s.modAxe k f).sys = s.sys ∧ (s.modAxe k f).pwr = s.pwr ∧ (s.modAxe k f).rct = s.rct ∧ (s.modAxe k f).tim = s.tim ∧
    (s.modAxe k f).rtc = s.rtc ∧ (s.modAxe k f).sns = s.sns ∧ (s.modAxe k f).cen = s.cen ∧ (s.modAxe k f).mfe = s.mfe ∧
    (s.modAxe k f).chs = s.chs ∧ (s.modAxe k f).lgt = s.lgt ∧ (s.modAxe k f).mtr = s.mtr ∧ (s.modAxe k f).stl = s.stl ∧
    (s.modAxe k f).modems = s.modems ∧ (s.modAxe k f).macs = s.macs ∧ (s.modAxe k f).ntb = s.ntb ∧
    (s.modAxe k f).yrd = s.yrd ∧ (s.modAxe k f).sch = s.sch ∧ (s.modAxe k f).ths = s.ths ∧ (s.modAxe k f).tqu = s.tqu ∧
    (s.modAxe k f).swx = s.swx ∧ (s.modAxe k f).uplinks = s.uplinks ∧ (s.modAxe k f).evr = s.evr ∧
    (s.modAxe k f).kvt = s.kvt ∧ (s.modAxe k f).upd = s.upd ∧ (s.modAxe k f).trc = s.trc ∧ (s.modAxe k f).twn = s.twn ∧
    (s.modAxe k f).ksp = s.ksp ∧ (s.modAxe k f).sent = s.sent ∧ (s.modAxe k f).free = s.free ∧
    (s.modAxe k f).pending = s.pending := by
  refine ⟨?_, ?_, ?_, ?_, ?_, ?_, ?_, ?_, ?_, ?_, ?_, ?_, ?_, ?_, ?_, ?_, ?_, ?_, ?_, ?_, ?_, ?_, ?_, ?_, ?_, ?_, ?_, ?_, ?_, ?_, ?_, ?_, ?_, ?_⟩ <;> rfl

@[simp] theorem State.modAxe_reg (s : State) (k : ℕ) (f : AxeSrc → AxeSrc) (k_ : Nat) :
    (s.modAxe k f).reg k_ = s.reg k_ := rfl

@[simp] theorem State.modAxe_winWord (s : State) (k : ℕ) (f : AxeSrc → AxeSrc) (k_ : Nat) :
    (s.modAxe k f).winWord k_ = s.winWord k_ := rfl

@[simp] theorem State.modAxe_byte (s : State) (k : ℕ) (f : AxeSrc → AxeSrc) (k_ : Nat) :
    (s.modAxe k f).byte k_ = s.byte k_ := rfl

/-- What `setFreq` leaves as it was. -/
@[simp] theorem State.setFreq_frame (s : State) (f : ℕ) :
    (s.setFreq f).win = s.win ∧ (s.setFreq f).mem = s.mem ∧ (s.setFreq f).now = s.now ∧ (s.setFreq f).sys = s.sys ∧
    (s.setFreq f).pwr = s.pwr ∧ (s.setFreq f).rct = s.rct ∧ (s.setFreq f).tim = s.tim ∧ (s.setFreq f).rtc = s.rtc ∧
    (s.setFreq f).sns = s.sns ∧ (s.setFreq f).cen = s.cen ∧ (s.setFreq f).mfe = s.mfe ∧ (s.setFreq f).chs = s.chs ∧
    (s.setFreq f).lgt = s.lgt ∧ (s.setFreq f).mtr = s.mtr ∧ (s.setFreq f).stl = s.stl ∧ (s.setFreq f).axe = s.axe ∧
    (s.setFreq f).modems = s.modems ∧ (s.setFreq f).macs = s.macs ∧ (s.setFreq f).ntb = s.ntb ∧
    (s.setFreq f).yrd = s.yrd ∧ (s.setFreq f).sch = s.sch ∧ (s.setFreq f).ths = s.ths ∧ (s.setFreq f).tqu = s.tqu ∧
    (s.setFreq f).swx = s.swx ∧ (s.setFreq f).uplinks = s.uplinks ∧ (s.setFreq f).evr = s.evr ∧
    (s.setFreq f).kvt = s.kvt ∧ (s.setFreq f).upd = s.upd ∧ (s.setFreq f).trc = s.trc ∧ (s.setFreq f).twn = s.twn ∧
    (s.setFreq f).ksp = s.ksp ∧ (s.setFreq f).sent = s.sent ∧ (s.setFreq f).free = s.free ∧
    (s.setFreq f).pending = s.pending := by
  unfold State.setFreq
  (repeat' split) <;> simp

@[simp] theorem State.setFreq_winWord (s : State) (f : ℕ) (k_ : Nat) :
    (s.setFreq f).winWord k_ = s.winWord k_ := by unfold State.setFreq; (repeat' split) <;> first | rfl | simp

@[simp] theorem State.setFreq_byte (s : State) (f : ℕ) (k_ : Nat) :
    (s.setFreq f).byte k_ = s.byte k_ := by unfold State.setFreq; (repeat' split) <;> first | rfl | simp

/-- What `modRct` leaves as it was. -/
@[simp] theorem State.modRct_frame (s : State) (f : Rct → Rct) :
    (s.modRct f).regs = s.regs ∧ (s.modRct f).win = s.win ∧ (s.modRct f).mem = s.mem ∧ (s.modRct f).now = s.now ∧
    (s.modRct f).sys = s.sys ∧ (s.modRct f).pwr = s.pwr ∧ (s.modRct f).tim = s.tim ∧ (s.modRct f).rtc = s.rtc ∧
    (s.modRct f).sns = s.sns ∧ (s.modRct f).cen = s.cen ∧ (s.modRct f).mfe = s.mfe ∧ (s.modRct f).chs = s.chs ∧
    (s.modRct f).lgt = s.lgt ∧ (s.modRct f).mtr = s.mtr ∧ (s.modRct f).stl = s.stl ∧ (s.modRct f).axe = s.axe ∧
    (s.modRct f).modems = s.modems ∧ (s.modRct f).macs = s.macs ∧ (s.modRct f).ntb = s.ntb ∧ (s.modRct f).yrd = s.yrd ∧
    (s.modRct f).sch = s.sch ∧ (s.modRct f).ths = s.ths ∧ (s.modRct f).tqu = s.tqu ∧ (s.modRct f).swx = s.swx ∧
    (s.modRct f).uplinks = s.uplinks ∧ (s.modRct f).evr = s.evr ∧ (s.modRct f).kvt = s.kvt ∧ (s.modRct f).upd = s.upd ∧
    (s.modRct f).trc = s.trc ∧ (s.modRct f).twn = s.twn ∧ (s.modRct f).ksp = s.ksp ∧ (s.modRct f).sent = s.sent ∧
    (s.modRct f).free = s.free ∧ (s.modRct f).pending = s.pending := by
  refine ⟨?_, ?_, ?_, ?_, ?_, ?_, ?_, ?_, ?_, ?_, ?_, ?_, ?_, ?_, ?_, ?_, ?_, ?_, ?_, ?_, ?_, ?_, ?_, ?_, ?_, ?_, ?_, ?_, ?_, ?_, ?_, ?_, ?_, ?_⟩ <;> rfl

@[simp] theorem State.modRct_rct (s : State) (f : Rct → Rct) : (s.modRct f).rct = f s.rct := rfl

@[simp] theorem State.modRct_reg (s : State) (f : Rct → Rct) (k_ : Nat) : (s.modRct f).reg k_ = s.reg k_ := rfl

@[simp] theorem State.modRct_winWord (s : State) (f : Rct → Rct) (k_ : Nat) :
    (s.modRct f).winWord k_ = s.winWord k_ := rfl

@[simp] theorem State.modRct_byte (s : State) (f : Rct → Rct) (k_ : Nat) :
    (s.modRct f).byte k_ = s.byte k_ := rfl

/-- What `modPhase` leaves as it was. -/
@[simp] theorem State.modPhase_frame (s : State) (k : ℕ) (f : Phase → Phase) :
    (s.modPhase k f).regs = s.regs ∧ (s.modPhase k f).win = s.win ∧ (s.modPhase k f).mem = s.mem ∧
    (s.modPhase k f).now = s.now ∧ (s.modPhase k f).sys = s.sys ∧ (s.modPhase k f).pwr = s.pwr ∧
    (s.modPhase k f).tim = s.tim ∧ (s.modPhase k f).rtc = s.rtc ∧ (s.modPhase k f).sns = s.sns ∧
    (s.modPhase k f).cen = s.cen ∧ (s.modPhase k f).mfe = s.mfe ∧ (s.modPhase k f).chs = s.chs ∧
    (s.modPhase k f).lgt = s.lgt ∧ (s.modPhase k f).mtr = s.mtr ∧ (s.modPhase k f).stl = s.stl ∧
    (s.modPhase k f).axe = s.axe ∧ (s.modPhase k f).modems = s.modems ∧ (s.modPhase k f).macs = s.macs ∧
    (s.modPhase k f).ntb = s.ntb ∧ (s.modPhase k f).yrd = s.yrd ∧ (s.modPhase k f).sch = s.sch ∧
    (s.modPhase k f).ths = s.ths ∧ (s.modPhase k f).tqu = s.tqu ∧ (s.modPhase k f).swx = s.swx ∧
    (s.modPhase k f).uplinks = s.uplinks ∧ (s.modPhase k f).evr = s.evr ∧ (s.modPhase k f).kvt = s.kvt ∧
    (s.modPhase k f).upd = s.upd ∧ (s.modPhase k f).trc = s.trc ∧ (s.modPhase k f).twn = s.twn ∧
    (s.modPhase k f).ksp = s.ksp ∧ (s.modPhase k f).sent = s.sent ∧ (s.modPhase k f).free = s.free ∧
    (s.modPhase k f).pending = s.pending := by
  unfold State.modPhase
  (repeat' split) <;> simp

@[simp] theorem State.modPhase_reg (s : State) (k : ℕ) (f : Phase → Phase) (k_ : Nat) :
    (s.modPhase k f).reg k_ = s.reg k_ := by unfold State.modPhase; (repeat' split) <;> first | rfl | simp

@[simp] theorem State.modPhase_winWord (s : State) (k : ℕ) (f : Phase → Phase) (k_ : Nat) :
    (s.modPhase k f).winWord k_ = s.winWord k_ := by unfold State.modPhase; (repeat' split) <;> first | rfl | simp

@[simp] theorem State.modPhase_byte (s : State) (k : ℕ) (f : Phase → Phase) (k_ : Nat) :
    (s.modPhase k f).byte k_ = s.byte k_ := by unfold State.modPhase; (repeat' split) <;> first | rfl | simp

/-- What `modTim` leaves as it was. -/
@[simp] theorem State.modTim_frame (s : State) (f : Tim → Tim) :
    (s.modTim f).regs = s.regs ∧ (s.modTim f).win = s.win ∧ (s.modTim f).mem = s.mem ∧ (s.modTim f).now = s.now ∧
    (s.modTim f).sys = s.sys ∧ (s.modTim f).pwr = s.pwr ∧ (s.modTim f).rct = s.rct ∧ (s.modTim f).rtc = s.rtc ∧
    (s.modTim f).sns = s.sns ∧ (s.modTim f).cen = s.cen ∧ (s.modTim f).mfe = s.mfe ∧ (s.modTim f).chs = s.chs ∧
    (s.modTim f).lgt = s.lgt ∧ (s.modTim f).mtr = s.mtr ∧ (s.modTim f).stl = s.stl ∧ (s.modTim f).axe = s.axe ∧
    (s.modTim f).modems = s.modems ∧ (s.modTim f).macs = s.macs ∧ (s.modTim f).ntb = s.ntb ∧ (s.modTim f).yrd = s.yrd ∧
    (s.modTim f).sch = s.sch ∧ (s.modTim f).ths = s.ths ∧ (s.modTim f).tqu = s.tqu ∧ (s.modTim f).swx = s.swx ∧
    (s.modTim f).uplinks = s.uplinks ∧ (s.modTim f).evr = s.evr ∧ (s.modTim f).kvt = s.kvt ∧ (s.modTim f).upd = s.upd ∧
    (s.modTim f).trc = s.trc ∧ (s.modTim f).twn = s.twn ∧ (s.modTim f).ksp = s.ksp ∧ (s.modTim f).sent = s.sent ∧
    (s.modTim f).free = s.free ∧ (s.modTim f).pending = s.pending := by
  refine ⟨?_, ?_, ?_, ?_, ?_, ?_, ?_, ?_, ?_, ?_, ?_, ?_, ?_, ?_, ?_, ?_, ?_, ?_, ?_, ?_, ?_, ?_, ?_, ?_, ?_, ?_, ?_, ?_, ?_, ?_, ?_, ?_, ?_, ?_⟩ <;> rfl

@[simp] theorem State.modTim_tim (s : State) (f : Tim → Tim) : (s.modTim f).tim = f s.tim := rfl

@[simp] theorem State.modTim_reg (s : State) (f : Tim → Tim) (k_ : Nat) : (s.modTim f).reg k_ = s.reg k_ := rfl

@[simp] theorem State.modTim_winWord (s : State) (f : Tim → Tim) (k_ : Nat) :
    (s.modTim f).winWord k_ = s.winWord k_ := rfl

@[simp] theorem State.modTim_byte (s : State) (f : Tim → Tim) (k_ : Nat) :
    (s.modTim f).byte k_ = s.byte k_ := rfl

/-- What `setTbase` leaves as it was. -/
@[simp] theorem State.setTbase_frame (s : State) (k : ℕ) (b : TimeBase) :
    (s.setTbase k b).regs = s.regs ∧ (s.setTbase k b).win = s.win ∧ (s.setTbase k b).mem = s.mem ∧
    (s.setTbase k b).now = s.now ∧ (s.setTbase k b).sys = s.sys ∧ (s.setTbase k b).pwr = s.pwr ∧
    (s.setTbase k b).rct = s.rct ∧ (s.setTbase k b).rtc = s.rtc ∧ (s.setTbase k b).sns = s.sns ∧
    (s.setTbase k b).cen = s.cen ∧ (s.setTbase k b).mfe = s.mfe ∧ (s.setTbase k b).chs = s.chs ∧
    (s.setTbase k b).lgt = s.lgt ∧ (s.setTbase k b).mtr = s.mtr ∧ (s.setTbase k b).stl = s.stl ∧
    (s.setTbase k b).axe = s.axe ∧ (s.setTbase k b).modems = s.modems ∧ (s.setTbase k b).macs = s.macs ∧
    (s.setTbase k b).ntb = s.ntb ∧ (s.setTbase k b).yrd = s.yrd ∧ (s.setTbase k b).sch = s.sch ∧
    (s.setTbase k b).ths = s.ths ∧ (s.setTbase k b).tqu = s.tqu ∧ (s.setTbase k b).swx = s.swx ∧
    (s.setTbase k b).uplinks = s.uplinks ∧ (s.setTbase k b).evr = s.evr ∧ (s.setTbase k b).kvt = s.kvt ∧
    (s.setTbase k b).upd = s.upd ∧ (s.setTbase k b).trc = s.trc ∧ (s.setTbase k b).twn = s.twn ∧
    (s.setTbase k b).ksp = s.ksp ∧ (s.setTbase k b).sent = s.sent ∧ (s.setTbase k b).free = s.free ∧
    (s.setTbase k b).pending = s.pending := by
  unfold State.setTbase
  (repeat' split) <;> simp

@[simp] theorem State.setTbase_reg (s : State) (k : ℕ) (b : TimeBase) (k_ : Nat) :
    (s.setTbase k b).reg k_ = s.reg k_ := by unfold State.setTbase; (repeat' split) <;> first | rfl | simp

@[simp] theorem State.setTbase_winWord (s : State) (k : ℕ) (b : TimeBase) (k_ : Nat) :
    (s.setTbase k b).winWord k_ = s.winWord k_ := by unfold State.setTbase; (repeat' split) <;> first | rfl | simp

@[simp] theorem State.setTbase_byte (s : State) (k : ℕ) (b : TimeBase) (k_ : Nat) :
    (s.setTbase k b).byte k_ = s.byte k_ := by unfold State.setTbase; (repeat' split) <;> first | rfl | simp

/-- What `modDom` leaves as it was. -/
@[simp] theorem State.modDom_frame (s : State) (k : ℕ) (f : PtpDomain → PtpDomain) :
    (s.modDom k f).regs = s.regs ∧ (s.modDom k f).win = s.win ∧ (s.modDom k f).mem = s.mem ∧ (s.modDom k f).now = s.now ∧
    (s.modDom k f).sys = s.sys ∧ (s.modDom k f).pwr = s.pwr ∧ (s.modDom k f).rct = s.rct ∧ (s.modDom k f).rtc = s.rtc ∧
    (s.modDom k f).sns = s.sns ∧ (s.modDom k f).cen = s.cen ∧ (s.modDom k f).mfe = s.mfe ∧ (s.modDom k f).chs = s.chs ∧
    (s.modDom k f).lgt = s.lgt ∧ (s.modDom k f).mtr = s.mtr ∧ (s.modDom k f).stl = s.stl ∧ (s.modDom k f).axe = s.axe ∧
    (s.modDom k f).modems = s.modems ∧ (s.modDom k f).macs = s.macs ∧ (s.modDom k f).ntb = s.ntb ∧
    (s.modDom k f).yrd = s.yrd ∧ (s.modDom k f).sch = s.sch ∧ (s.modDom k f).ths = s.ths ∧ (s.modDom k f).tqu = s.tqu ∧
    (s.modDom k f).swx = s.swx ∧ (s.modDom k f).uplinks = s.uplinks ∧ (s.modDom k f).evr = s.evr ∧
    (s.modDom k f).kvt = s.kvt ∧ (s.modDom k f).upd = s.upd ∧ (s.modDom k f).trc = s.trc ∧ (s.modDom k f).twn = s.twn ∧
    (s.modDom k f).ksp = s.ksp ∧ (s.modDom k f).sent = s.sent ∧ (s.modDom k f).free = s.free ∧
    (s.modDom k f).pending = s.pending := by
  unfold State.modDom
  (repeat' split) <;> simp

@[simp] theorem State.modDom_reg (s : State) (k : ℕ) (f : PtpDomain → PtpDomain) (k_ : Nat) :
    (s.modDom k f).reg k_ = s.reg k_ := by unfold State.modDom; (repeat' split) <;> first | rfl | simp

@[simp] theorem State.modDom_winWord (s : State) (k : ℕ) (f : PtpDomain → PtpDomain) (k_ : Nat) :
    (s.modDom k f).winWord k_ = s.winWord k_ := by unfold State.modDom; (repeat' split) <;> first | rfl | simp

@[simp] theorem State.modDom_byte (s : State) (k : ℕ) (f : PtpDomain → PtpDomain) (k_ : Nat) :
    (s.modDom k f).byte k_ = s.byte k_ := by unfold State.modDom; (repeat' split) <;> first | rfl | simp

/-- What `setDom` leaves as it was. -/
@[simp] theorem State.setDom_frame (s : State) (k : ℕ) (st : ℕ) (n : ℕ) (out : ℕ) :
    (s.setDom k st n out).win = s.win ∧ (s.setDom k st n out).mem = s.mem ∧ (s.setDom k st n out).now = s.now ∧
    (s.setDom k st n out).sys = s.sys ∧ (s.setDom k st n out).pwr = s.pwr ∧ (s.setDom k st n out).rct = s.rct ∧
    (s.setDom k st n out).tim = s.tim ∧ (s.setDom k st n out).rtc = s.rtc ∧ (s.setDom k st n out).sns = s.sns ∧
    (s.setDom k st n out).cen = s.cen ∧ (s.setDom k st n out).mfe = s.mfe ∧ (s.setDom k st n out).chs = s.chs ∧
    (s.setDom k st n out).lgt = s.lgt ∧ (s.setDom k st n out).mtr = s.mtr ∧ (s.setDom k st n out).stl = s.stl ∧
    (s.setDom k st n out).axe = s.axe ∧ (s.setDom k st n out).modems = s.modems ∧ (s.setDom k st n out).macs = s.macs ∧
    (s.setDom k st n out).ntb = s.ntb ∧ (s.setDom k st n out).yrd = s.yrd ∧ (s.setDom k st n out).sch = s.sch ∧
    (s.setDom k st n out).ths = s.ths ∧ (s.setDom k st n out).tqu = s.tqu ∧ (s.setDom k st n out).swx = s.swx ∧
    (s.setDom k st n out).uplinks = s.uplinks ∧ (s.setDom k st n out).evr = s.evr ∧ (s.setDom k st n out).kvt = s.kvt ∧
    (s.setDom k st n out).upd = s.upd ∧ (s.setDom k st n out).trc = s.trc ∧ (s.setDom k st n out).twn = s.twn ∧
    (s.setDom k st n out).ksp = s.ksp ∧ (s.setDom k st n out).sent = s.sent ∧ (s.setDom k st n out).free = s.free ∧
    (s.setDom k st n out).pending = s.pending := by
  unfold State.setDom
  (repeat' split) <;> simp

@[simp] theorem State.setDom_winWord (s : State) (k : ℕ) (st : ℕ) (n : ℕ) (out : ℕ) (k_ : Nat) :
    (s.setDom k st n out).winWord k_ = s.winWord k_ := by unfold State.setDom; (repeat' split) <;> first | rfl | simp

@[simp] theorem State.setDom_byte (s : State) (k : ℕ) (st : ℕ) (n : ℕ) (out : ℕ) (k_ : Nat) :
    (s.setDom k st n out).byte k_ = s.byte k_ := by unfold State.setDom; (repeat' split) <;> first | rfl | simp

/-- What `setCiv` leaves as it was. -/
@[simp] theorem State.setCiv_frame (s : State) (st : ℕ) :
    (s.setCiv st).win = s.win ∧ (s.setCiv st).mem = s.mem ∧ (s.setCiv st).now = s.now ∧ (s.setCiv st).sys = s.sys ∧
    (s.setCiv st).pwr = s.pwr ∧ (s.setCiv st).rct = s.rct ∧ (s.setCiv st).tim = s.tim ∧ (s.setCiv st).rtc = s.rtc ∧
    (s.setCiv st).sns = s.sns ∧ (s.setCiv st).cen = s.cen ∧ (s.setCiv st).mfe = s.mfe ∧ (s.setCiv st).chs = s.chs ∧
    (s.setCiv st).lgt = s.lgt ∧ (s.setCiv st).mtr = s.mtr ∧ (s.setCiv st).stl = s.stl ∧ (s.setCiv st).axe = s.axe ∧
    (s.setCiv st).modems = s.modems ∧ (s.setCiv st).macs = s.macs ∧ (s.setCiv st).ntb = s.ntb ∧
    (s.setCiv st).yrd = s.yrd ∧ (s.setCiv st).sch = s.sch ∧ (s.setCiv st).ths = s.ths ∧ (s.setCiv st).tqu = s.tqu ∧
    (s.setCiv st).swx = s.swx ∧ (s.setCiv st).uplinks = s.uplinks ∧ (s.setCiv st).evr = s.evr ∧
    (s.setCiv st).kvt = s.kvt ∧ (s.setCiv st).upd = s.upd ∧ (s.setCiv st).trc = s.trc ∧ (s.setCiv st).twn = s.twn ∧
    (s.setCiv st).ksp = s.ksp ∧ (s.setCiv st).sent = s.sent ∧ (s.setCiv st).free = s.free ∧
    (s.setCiv st).pending = s.pending := by
  unfold State.setCiv
  (repeat' split) <;> simp

@[simp] theorem State.setCiv_winWord (s : State) (st : ℕ) (k_ : Nat) :
    (s.setCiv st).winWord k_ = s.winWord k_ := by unfold State.setCiv; (repeat' split) <;> first | rfl | simp

@[simp] theorem State.setCiv_byte (s : State) (st : ℕ) (k_ : Nat) :
    (s.setCiv st).byte k_ = s.byte k_ := by unfold State.setCiv; (repeat' split) <;> first | rfl | simp

/-- What `modRtc` leaves as it was. -/
@[simp] theorem State.modRtc_frame (s : State) (f : Rtc → Rtc) :
    (s.modRtc f).regs = s.regs ∧ (s.modRtc f).win = s.win ∧ (s.modRtc f).mem = s.mem ∧ (s.modRtc f).now = s.now ∧
    (s.modRtc f).sys = s.sys ∧ (s.modRtc f).pwr = s.pwr ∧ (s.modRtc f).rct = s.rct ∧ (s.modRtc f).tim = s.tim ∧
    (s.modRtc f).sns = s.sns ∧ (s.modRtc f).cen = s.cen ∧ (s.modRtc f).mfe = s.mfe ∧ (s.modRtc f).chs = s.chs ∧
    (s.modRtc f).lgt = s.lgt ∧ (s.modRtc f).mtr = s.mtr ∧ (s.modRtc f).stl = s.stl ∧ (s.modRtc f).axe = s.axe ∧
    (s.modRtc f).modems = s.modems ∧ (s.modRtc f).macs = s.macs ∧ (s.modRtc f).ntb = s.ntb ∧ (s.modRtc f).yrd = s.yrd ∧
    (s.modRtc f).sch = s.sch ∧ (s.modRtc f).ths = s.ths ∧ (s.modRtc f).tqu = s.tqu ∧ (s.modRtc f).swx = s.swx ∧
    (s.modRtc f).uplinks = s.uplinks ∧ (s.modRtc f).evr = s.evr ∧ (s.modRtc f).kvt = s.kvt ∧ (s.modRtc f).upd = s.upd ∧
    (s.modRtc f).trc = s.trc ∧ (s.modRtc f).twn = s.twn ∧ (s.modRtc f).ksp = s.ksp ∧ (s.modRtc f).sent = s.sent ∧
    (s.modRtc f).free = s.free ∧ (s.modRtc f).pending = s.pending := by
  refine ⟨?_, ?_, ?_, ?_, ?_, ?_, ?_, ?_, ?_, ?_, ?_, ?_, ?_, ?_, ?_, ?_, ?_, ?_, ?_, ?_, ?_, ?_, ?_, ?_, ?_, ?_, ?_, ?_, ?_, ?_, ?_, ?_, ?_, ?_⟩ <;> rfl

@[simp] theorem State.modRtc_rtc (s : State) (f : Rtc → Rtc) : (s.modRtc f).rtc = f s.rtc := rfl

@[simp] theorem State.modRtc_reg (s : State) (f : Rtc → Rtc) (k_ : Nat) : (s.modRtc f).reg k_ = s.reg k_ := rfl

@[simp] theorem State.modRtc_winWord (s : State) (f : Rtc → Rtc) (k_ : Nat) :
    (s.modRtc f).winWord k_ = s.winWord k_ := rfl

@[simp] theorem State.modRtc_byte (s : State) (f : Rtc → Rtc) (k_ : Nat) :
    (s.modRtc f).byte k_ = s.byte k_ := rfl

/-- What `modSns` leaves as it was. -/
@[simp] theorem State.modSns_frame (s : State) (f : Sns → Sns) :
    (s.modSns f).regs = s.regs ∧ (s.modSns f).win = s.win ∧ (s.modSns f).mem = s.mem ∧ (s.modSns f).now = s.now ∧
    (s.modSns f).sys = s.sys ∧ (s.modSns f).pwr = s.pwr ∧ (s.modSns f).rct = s.rct ∧ (s.modSns f).tim = s.tim ∧
    (s.modSns f).rtc = s.rtc ∧ (s.modSns f).cen = s.cen ∧ (s.modSns f).mfe = s.mfe ∧ (s.modSns f).chs = s.chs ∧
    (s.modSns f).lgt = s.lgt ∧ (s.modSns f).mtr = s.mtr ∧ (s.modSns f).stl = s.stl ∧ (s.modSns f).axe = s.axe ∧
    (s.modSns f).modems = s.modems ∧ (s.modSns f).macs = s.macs ∧ (s.modSns f).ntb = s.ntb ∧ (s.modSns f).yrd = s.yrd ∧
    (s.modSns f).sch = s.sch ∧ (s.modSns f).ths = s.ths ∧ (s.modSns f).tqu = s.tqu ∧ (s.modSns f).swx = s.swx ∧
    (s.modSns f).uplinks = s.uplinks ∧ (s.modSns f).evr = s.evr ∧ (s.modSns f).kvt = s.kvt ∧ (s.modSns f).upd = s.upd ∧
    (s.modSns f).trc = s.trc ∧ (s.modSns f).twn = s.twn ∧ (s.modSns f).ksp = s.ksp ∧ (s.modSns f).sent = s.sent ∧
    (s.modSns f).free = s.free ∧ (s.modSns f).pending = s.pending := by
  refine ⟨?_, ?_, ?_, ?_, ?_, ?_, ?_, ?_, ?_, ?_, ?_, ?_, ?_, ?_, ?_, ?_, ?_, ?_, ?_, ?_, ?_, ?_, ?_, ?_, ?_, ?_, ?_, ?_, ?_, ?_, ?_, ?_, ?_, ?_⟩ <;> rfl

@[simp] theorem State.modSns_sns (s : State) (f : Sns → Sns) : (s.modSns f).sns = f s.sns := rfl

@[simp] theorem State.modSns_reg (s : State) (f : Sns → Sns) (k_ : Nat) : (s.modSns f).reg k_ = s.reg k_ := rfl

@[simp] theorem State.modSns_winWord (s : State) (f : Sns → Sns) (k_ : Nat) :
    (s.modSns f).winWord k_ = s.winWord k_ := rfl

@[simp] theorem State.modSns_byte (s : State) (f : Sns → Sns) (k_ : Nat) :
    (s.modSns f).byte k_ = s.byte k_ := rfl

/-- What `setIn` leaves as it was. -/
@[simp] theorem State.setIn_frame (s : State) (i : ℕ) (x : SnsIn) :
    (s.setIn i x).regs = s.regs ∧ (s.setIn i x).win = s.win ∧ (s.setIn i x).mem = s.mem ∧ (s.setIn i x).now = s.now ∧
    (s.setIn i x).sys = s.sys ∧ (s.setIn i x).pwr = s.pwr ∧ (s.setIn i x).rct = s.rct ∧ (s.setIn i x).tim = s.tim ∧
    (s.setIn i x).rtc = s.rtc ∧ (s.setIn i x).cen = s.cen ∧ (s.setIn i x).mfe = s.mfe ∧ (s.setIn i x).chs = s.chs ∧
    (s.setIn i x).lgt = s.lgt ∧ (s.setIn i x).mtr = s.mtr ∧ (s.setIn i x).stl = s.stl ∧ (s.setIn i x).axe = s.axe ∧
    (s.setIn i x).modems = s.modems ∧ (s.setIn i x).macs = s.macs ∧ (s.setIn i x).ntb = s.ntb ∧
    (s.setIn i x).yrd = s.yrd ∧ (s.setIn i x).sch = s.sch ∧ (s.setIn i x).ths = s.ths ∧ (s.setIn i x).tqu = s.tqu ∧
    (s.setIn i x).swx = s.swx ∧ (s.setIn i x).uplinks = s.uplinks ∧ (s.setIn i x).evr = s.evr ∧
    (s.setIn i x).kvt = s.kvt ∧ (s.setIn i x).upd = s.upd ∧ (s.setIn i x).trc = s.trc ∧ (s.setIn i x).twn = s.twn ∧
    (s.setIn i x).ksp = s.ksp ∧ (s.setIn i x).sent = s.sent ∧ (s.setIn i x).free = s.free ∧
    (s.setIn i x).pending = s.pending := by
  unfold State.setIn
  (repeat' split) <;> simp

@[simp] theorem State.setIn_reg (s : State) (i : ℕ) (x : SnsIn) (k_ : Nat) :
    (s.setIn i x).reg k_ = s.reg k_ := by unfold State.setIn; (repeat' split) <;> first | rfl | simp

@[simp] theorem State.setIn_winWord (s : State) (i : ℕ) (x : SnsIn) (k_ : Nat) :
    (s.setIn i x).winWord k_ = s.winWord k_ := by unfold State.setIn; (repeat' split) <;> first | rfl | simp

@[simp] theorem State.setIn_byte (s : State) (i : ℕ) (x : SnsIn) (k_ : Nat) :
    (s.setIn i x).byte k_ = s.byte k_ := by unfold State.setIn; (repeat' split) <;> first | rfl | simp

/-- What `setLaneTicks` leaves as it was. -/
@[simp] theorem State.setLaneTicks_frame (s : State) (b : ℕ) (n : ℕ) :
    (s.setLaneTicks b n).regs = s.regs ∧ (s.setLaneTicks b n).win = s.win ∧ (s.setLaneTicks b n).mem = s.mem ∧
    (s.setLaneTicks b n).now = s.now ∧ (s.setLaneTicks b n).sys = s.sys ∧ (s.setLaneTicks b n).pwr = s.pwr ∧
    (s.setLaneTicks b n).rct = s.rct ∧ (s.setLaneTicks b n).tim = s.tim ∧ (s.setLaneTicks b n).rtc = s.rtc ∧
    (s.setLaneTicks b n).cen = s.cen ∧ (s.setLaneTicks b n).mfe = s.mfe ∧ (s.setLaneTicks b n).chs = s.chs ∧
    (s.setLaneTicks b n).lgt = s.lgt ∧ (s.setLaneTicks b n).mtr = s.mtr ∧ (s.setLaneTicks b n).stl = s.stl ∧
    (s.setLaneTicks b n).axe = s.axe ∧ (s.setLaneTicks b n).modems = s.modems ∧ (s.setLaneTicks b n).macs = s.macs ∧
    (s.setLaneTicks b n).ntb = s.ntb ∧ (s.setLaneTicks b n).yrd = s.yrd ∧ (s.setLaneTicks b n).sch = s.sch ∧
    (s.setLaneTicks b n).ths = s.ths ∧ (s.setLaneTicks b n).tqu = s.tqu ∧ (s.setLaneTicks b n).swx = s.swx ∧
    (s.setLaneTicks b n).uplinks = s.uplinks ∧ (s.setLaneTicks b n).evr = s.evr ∧ (s.setLaneTicks b n).kvt = s.kvt ∧
    (s.setLaneTicks b n).upd = s.upd ∧ (s.setLaneTicks b n).trc = s.trc ∧ (s.setLaneTicks b n).twn = s.twn ∧
    (s.setLaneTicks b n).ksp = s.ksp ∧ (s.setLaneTicks b n).sent = s.sent ∧ (s.setLaneTicks b n).free = s.free ∧
    (s.setLaneTicks b n).pending = s.pending := by
  unfold State.setLaneTicks
  (repeat' split) <;> simp

@[simp] theorem State.setLaneTicks_reg (s : State) (b : ℕ) (n : ℕ) (k_ : Nat) :
    (s.setLaneTicks b n).reg k_ = s.reg k_ := by unfold State.setLaneTicks; (repeat' split) <;> first | rfl | simp

@[simp] theorem State.setLaneTicks_winWord (s : State) (b : ℕ) (n : ℕ) (k_ : Nat) :
    (s.setLaneTicks b n).winWord k_ = s.winWord k_ := by unfold State.setLaneTicks; (repeat' split) <;> first | rfl | simp

@[simp] theorem State.setLaneTicks_byte (s : State) (b : ℕ) (n : ℕ) (k_ : Nat) :
    (s.setLaneTicks b n).byte k_ = s.byte k_ := by unfold State.setLaneTicks; (repeat' split) <;> first | rfl | simp

/-- What `setLane` leaves as it was. -/
@[simp] theorem State.setLane_frame (s : State) (b : ℕ) (st : ℕ) :
    (s.setLane b st).win = s.win ∧ (s.setLane b st).mem = s.mem ∧ (s.setLane b st).now = s.now ∧
    (s.setLane b st).sys = s.sys ∧ (s.setLane b st).pwr = s.pwr ∧ (s.setLane b st).rct = s.rct ∧
    (s.setLane b st).tim = s.tim ∧ (s.setLane b st).rtc = s.rtc ∧ (s.setLane b st).sns = s.sns ∧
    (s.setLane b st).cen = s.cen ∧ (s.setLane b st).mfe = s.mfe ∧ (s.setLane b st).chs = s.chs ∧
    (s.setLane b st).lgt = s.lgt ∧ (s.setLane b st).mtr = s.mtr ∧ (s.setLane b st).stl = s.stl ∧
    (s.setLane b st).axe = s.axe ∧ (s.setLane b st).modems = s.modems ∧ (s.setLane b st).macs = s.macs ∧
    (s.setLane b st).ntb = s.ntb ∧ (s.setLane b st).yrd = s.yrd ∧ (s.setLane b st).sch = s.sch ∧
    (s.setLane b st).ths = s.ths ∧ (s.setLane b st).tqu = s.tqu ∧ (s.setLane b st).swx = s.swx ∧
    (s.setLane b st).uplinks = s.uplinks ∧ (s.setLane b st).evr = s.evr ∧ (s.setLane b st).kvt = s.kvt ∧
    (s.setLane b st).upd = s.upd ∧ (s.setLane b st).trc = s.trc ∧ (s.setLane b st).twn = s.twn ∧
    (s.setLane b st).ksp = s.ksp ∧ (s.setLane b st).sent = s.sent ∧ (s.setLane b st).free = s.free ∧
    (s.setLane b st).pending = s.pending := by
  unfold State.setLane
  (repeat' split) <;> simp

@[simp] theorem State.setLane_winWord (s : State) (b : ℕ) (st : ℕ) (k_ : Nat) :
    (s.setLane b st).winWord k_ = s.winWord k_ := by unfold State.setLane; (repeat' split) <;> first | rfl | simp

@[simp] theorem State.setLane_byte (s : State) (b : ℕ) (st : ℕ) (k_ : Nat) :
    (s.setLane b st).byte k_ = s.byte k_ := by unfold State.setLane; (repeat' split) <;> first | rfl | simp

/-- What `setPb` leaves as it was. -/
@[simp] theorem State.setPb_frame (s : State) (st : ℕ) :
    (s.setPb st).win = s.win ∧ (s.setPb st).mem = s.mem ∧ (s.setPb st).now = s.now ∧ (s.setPb st).sys = s.sys ∧
    (s.setPb st).pwr = s.pwr ∧ (s.setPb st).rct = s.rct ∧ (s.setPb st).tim = s.tim ∧ (s.setPb st).rtc = s.rtc ∧
    (s.setPb st).sns = s.sns ∧ (s.setPb st).cen = s.cen ∧ (s.setPb st).mfe = s.mfe ∧ (s.setPb st).chs = s.chs ∧
    (s.setPb st).lgt = s.lgt ∧ (s.setPb st).mtr = s.mtr ∧ (s.setPb st).stl = s.stl ∧ (s.setPb st).axe = s.axe ∧
    (s.setPb st).modems = s.modems ∧ (s.setPb st).macs = s.macs ∧ (s.setPb st).ntb = s.ntb ∧ (s.setPb st).yrd = s.yrd ∧
    (s.setPb st).sch = s.sch ∧ (s.setPb st).ths = s.ths ∧ (s.setPb st).tqu = s.tqu ∧ (s.setPb st).swx = s.swx ∧
    (s.setPb st).uplinks = s.uplinks ∧ (s.setPb st).evr = s.evr ∧ (s.setPb st).kvt = s.kvt ∧ (s.setPb st).upd = s.upd ∧
    (s.setPb st).trc = s.trc ∧ (s.setPb st).twn = s.twn ∧ (s.setPb st).ksp = s.ksp ∧ (s.setPb st).sent = s.sent ∧
    (s.setPb st).free = s.free ∧ (s.setPb st).pending = s.pending := by
  unfold State.setPb
  (repeat' split) <;> simp

@[simp] theorem State.setPb_winWord (s : State) (st : ℕ) (k_ : Nat) :
    (s.setPb st).winWord k_ = s.winWord k_ := by unfold State.setPb; (repeat' split) <;> first | rfl | simp

@[simp] theorem State.setPb_byte (s : State) (st : ℕ) (k_ : Nat) :
    (s.setPb st).byte k_ = s.byte k_ := by unfold State.setPb; (repeat' split) <;> first | rfl | simp

/-- What `modCen` leaves as it was. -/
@[simp] theorem State.modCen_frame (s : State) (f : Cen → Cen) :
    (s.modCen f).regs = s.regs ∧ (s.modCen f).win = s.win ∧ (s.modCen f).mem = s.mem ∧ (s.modCen f).now = s.now ∧
    (s.modCen f).sys = s.sys ∧ (s.modCen f).pwr = s.pwr ∧ (s.modCen f).rct = s.rct ∧ (s.modCen f).tim = s.tim ∧
    (s.modCen f).rtc = s.rtc ∧ (s.modCen f).sns = s.sns ∧ (s.modCen f).mfe = s.mfe ∧ (s.modCen f).chs = s.chs ∧
    (s.modCen f).lgt = s.lgt ∧ (s.modCen f).mtr = s.mtr ∧ (s.modCen f).stl = s.stl ∧ (s.modCen f).axe = s.axe ∧
    (s.modCen f).modems = s.modems ∧ (s.modCen f).macs = s.macs ∧ (s.modCen f).ntb = s.ntb ∧ (s.modCen f).yrd = s.yrd ∧
    (s.modCen f).sch = s.sch ∧ (s.modCen f).ths = s.ths ∧ (s.modCen f).tqu = s.tqu ∧ (s.modCen f).swx = s.swx ∧
    (s.modCen f).uplinks = s.uplinks ∧ (s.modCen f).evr = s.evr ∧ (s.modCen f).kvt = s.kvt ∧ (s.modCen f).upd = s.upd ∧
    (s.modCen f).trc = s.trc ∧ (s.modCen f).twn = s.twn ∧ (s.modCen f).ksp = s.ksp ∧ (s.modCen f).sent = s.sent ∧
    (s.modCen f).free = s.free ∧ (s.modCen f).pending = s.pending := by
  refine ⟨?_, ?_, ?_, ?_, ?_, ?_, ?_, ?_, ?_, ?_, ?_, ?_, ?_, ?_, ?_, ?_, ?_, ?_, ?_, ?_, ?_, ?_, ?_, ?_, ?_, ?_, ?_, ?_, ?_, ?_, ?_, ?_, ?_, ?_⟩ <;> rfl

@[simp] theorem State.modCen_cen (s : State) (f : Cen → Cen) : (s.modCen f).cen = f s.cen := rfl

@[simp] theorem State.modCen_reg (s : State) (f : Cen → Cen) (k_ : Nat) : (s.modCen f).reg k_ = s.reg k_ := rfl

@[simp] theorem State.modCen_winWord (s : State) (f : Cen → Cen) (k_ : Nat) :
    (s.modCen f).winWord k_ = s.winWord k_ := rfl

@[simp] theorem State.modCen_byte (s : State) (f : Cen → Cen) (k_ : Nat) :
    (s.modCen f).byte k_ = s.byte k_ := rfl

/-- What `modLoop` leaves as it was. -/
@[simp] theorem State.modLoop_frame (s : State) (r : ℕ) (f : Loop → Loop) :
    (s.modLoop r f).regs = s.regs ∧ (s.modLoop r f).win = s.win ∧ (s.modLoop r f).mem = s.mem ∧
    (s.modLoop r f).now = s.now ∧ (s.modLoop r f).sys = s.sys ∧ (s.modLoop r f).pwr = s.pwr ∧
    (s.modLoop r f).rct = s.rct ∧ (s.modLoop r f).tim = s.tim ∧ (s.modLoop r f).rtc = s.rtc ∧
    (s.modLoop r f).sns = s.sns ∧ (s.modLoop r f).mfe = s.mfe ∧ (s.modLoop r f).chs = s.chs ∧
    (s.modLoop r f).lgt = s.lgt ∧ (s.modLoop r f).mtr = s.mtr ∧ (s.modLoop r f).stl = s.stl ∧
    (s.modLoop r f).axe = s.axe ∧ (s.modLoop r f).modems = s.modems ∧ (s.modLoop r f).macs = s.macs ∧
    (s.modLoop r f).ntb = s.ntb ∧ (s.modLoop r f).yrd = s.yrd ∧ (s.modLoop r f).sch = s.sch ∧
    (s.modLoop r f).ths = s.ths ∧ (s.modLoop r f).tqu = s.tqu ∧ (s.modLoop r f).swx = s.swx ∧
    (s.modLoop r f).uplinks = s.uplinks ∧ (s.modLoop r f).evr = s.evr ∧ (s.modLoop r f).kvt = s.kvt ∧
    (s.modLoop r f).upd = s.upd ∧ (s.modLoop r f).trc = s.trc ∧ (s.modLoop r f).twn = s.twn ∧
    (s.modLoop r f).ksp = s.ksp ∧ (s.modLoop r f).sent = s.sent ∧ (s.modLoop r f).free = s.free ∧
    (s.modLoop r f).pending = s.pending := by
  unfold State.modLoop
  (repeat' split) <;> simp

@[simp] theorem State.modLoop_reg (s : State) (r : ℕ) (f : Loop → Loop) (k_ : Nat) :
    (s.modLoop r f).reg k_ = s.reg k_ := by unfold State.modLoop; (repeat' split) <;> first | rfl | simp

@[simp] theorem State.modLoop_winWord (s : State) (r : ℕ) (f : Loop → Loop) (k_ : Nat) :
    (s.modLoop r f).winWord k_ = s.winWord k_ := by unfold State.modLoop; (repeat' split) <;> first | rfl | simp

@[simp] theorem State.modLoop_byte (s : State) (r : ℕ) (f : Loop → Loop) (k_ : Nat) :
    (s.modLoop r f).byte k_ = s.byte k_ := by unfold State.modLoop; (repeat' split) <;> first | rfl | simp

/-- What `modChan` leaves as it was. -/
@[simp] theorem State.modChan_frame (s : State) (k : ℕ) (f : Channel → Channel) :
    (s.modChan k f).regs = s.regs ∧ (s.modChan k f).win = s.win ∧ (s.modChan k f).mem = s.mem ∧
    (s.modChan k f).now = s.now ∧ (s.modChan k f).sys = s.sys ∧ (s.modChan k f).pwr = s.pwr ∧
    (s.modChan k f).rct = s.rct ∧ (s.modChan k f).tim = s.tim ∧ (s.modChan k f).rtc = s.rtc ∧
    (s.modChan k f).sns = s.sns ∧ (s.modChan k f).cen = s.cen ∧ (s.modChan k f).mfe = s.mfe ∧
    (s.modChan k f).lgt = s.lgt ∧ (s.modChan k f).mtr = s.mtr ∧ (s.modChan k f).stl = s.stl ∧
    (s.modChan k f).axe = s.axe ∧ (s.modChan k f).modems = s.modems ∧ (s.modChan k f).macs = s.macs ∧
    (s.modChan k f).ntb = s.ntb ∧ (s.modChan k f).yrd = s.yrd ∧ (s.modChan k f).sch = s.sch ∧
    (s.modChan k f).ths = s.ths ∧ (s.modChan k f).tqu = s.tqu ∧ (s.modChan k f).swx = s.swx ∧
    (s.modChan k f).uplinks = s.uplinks ∧ (s.modChan k f).evr = s.evr ∧ (s.modChan k f).kvt = s.kvt ∧
    (s.modChan k f).upd = s.upd ∧ (s.modChan k f).trc = s.trc ∧ (s.modChan k f).twn = s.twn ∧
    (s.modChan k f).ksp = s.ksp ∧ (s.modChan k f).sent = s.sent ∧ (s.modChan k f).free = s.free ∧
    (s.modChan k f).pending = s.pending := by
  refine ⟨?_, ?_, ?_, ?_, ?_, ?_, ?_, ?_, ?_, ?_, ?_, ?_, ?_, ?_, ?_, ?_, ?_, ?_, ?_, ?_, ?_, ?_, ?_, ?_, ?_, ?_, ?_, ?_, ?_, ?_, ?_, ?_, ?_, ?_⟩ <;> rfl

@[simp] theorem State.modChan_reg (s : State) (k : ℕ) (f : Channel → Channel) (k_ : Nat) :
    (s.modChan k f).reg k_ = s.reg k_ := rfl

@[simp] theorem State.modChan_winWord (s : State) (k : ℕ) (f : Channel → Channel) (k_ : Nat) :
    (s.modChan k f).winWord k_ = s.winWord k_ := rfl

@[simp] theorem State.modChan_byte (s : State) (k : ℕ) (f : Channel → Channel) (k_ : Nat) :
    (s.modChan k f).byte k_ = s.byte k_ := rfl

/-- What `modLgtCh` leaves as it was. -/
@[simp] theorem State.modLgtCh_frame (s : State) (k : ℕ) (f : LgtCh → LgtCh) :
    (s.modLgtCh k f).regs = s.regs ∧ (s.modLgtCh k f).win = s.win ∧ (s.modLgtCh k f).mem = s.mem ∧
    (s.modLgtCh k f).now = s.now ∧ (s.modLgtCh k f).sys = s.sys ∧ (s.modLgtCh k f).pwr = s.pwr ∧
    (s.modLgtCh k f).rct = s.rct ∧ (s.modLgtCh k f).tim = s.tim ∧ (s.modLgtCh k f).rtc = s.rtc ∧
    (s.modLgtCh k f).sns = s.sns ∧ (s.modLgtCh k f).cen = s.cen ∧ (s.modLgtCh k f).mfe = s.mfe ∧
    (s.modLgtCh k f).chs = s.chs ∧ (s.modLgtCh k f).mtr = s.mtr ∧ (s.modLgtCh k f).stl = s.stl ∧
    (s.modLgtCh k f).axe = s.axe ∧ (s.modLgtCh k f).modems = s.modems ∧ (s.modLgtCh k f).macs = s.macs ∧
    (s.modLgtCh k f).ntb = s.ntb ∧ (s.modLgtCh k f).yrd = s.yrd ∧ (s.modLgtCh k f).sch = s.sch ∧
    (s.modLgtCh k f).ths = s.ths ∧ (s.modLgtCh k f).tqu = s.tqu ∧ (s.modLgtCh k f).swx = s.swx ∧
    (s.modLgtCh k f).uplinks = s.uplinks ∧ (s.modLgtCh k f).evr = s.evr ∧ (s.modLgtCh k f).kvt = s.kvt ∧
    (s.modLgtCh k f).upd = s.upd ∧ (s.modLgtCh k f).trc = s.trc ∧ (s.modLgtCh k f).twn = s.twn ∧
    (s.modLgtCh k f).ksp = s.ksp ∧ (s.modLgtCh k f).sent = s.sent ∧ (s.modLgtCh k f).free = s.free ∧
    (s.modLgtCh k f).pending = s.pending := by
  refine ⟨?_, ?_, ?_, ?_, ?_, ?_, ?_, ?_, ?_, ?_, ?_, ?_, ?_, ?_, ?_, ?_, ?_, ?_, ?_, ?_, ?_, ?_, ?_, ?_, ?_, ?_, ?_, ?_, ?_, ?_, ?_, ?_, ?_, ?_⟩ <;> rfl

@[simp] theorem State.modLgtCh_reg (s : State) (k : ℕ) (f : LgtCh → LgtCh) (k_ : Nat) :
    (s.modLgtCh k f).reg k_ = s.reg k_ := rfl

@[simp] theorem State.modLgtCh_winWord (s : State) (k : ℕ) (f : LgtCh → LgtCh) (k_ : Nat) :
    (s.modLgtCh k f).winWord k_ = s.winWord k_ := rfl

@[simp] theorem State.modLgtCh_byte (s : State) (k : ℕ) (f : LgtCh → LgtCh) (k_ : Nat) :
    (s.modLgtCh k f).byte k_ = s.byte k_ := rfl

/-- What `modMfe` leaves as it was. -/
@[simp] theorem State.modMfe_frame (s : State) (f : Mfe → Mfe) :
    (s.modMfe f).regs = s.regs ∧ (s.modMfe f).win = s.win ∧ (s.modMfe f).mem = s.mem ∧ (s.modMfe f).now = s.now ∧
    (s.modMfe f).sys = s.sys ∧ (s.modMfe f).pwr = s.pwr ∧ (s.modMfe f).rct = s.rct ∧ (s.modMfe f).tim = s.tim ∧
    (s.modMfe f).rtc = s.rtc ∧ (s.modMfe f).sns = s.sns ∧ (s.modMfe f).cen = s.cen ∧ (s.modMfe f).chs = s.chs ∧
    (s.modMfe f).lgt = s.lgt ∧ (s.modMfe f).mtr = s.mtr ∧ (s.modMfe f).stl = s.stl ∧ (s.modMfe f).axe = s.axe ∧
    (s.modMfe f).modems = s.modems ∧ (s.modMfe f).macs = s.macs ∧ (s.modMfe f).ntb = s.ntb ∧ (s.modMfe f).yrd = s.yrd ∧
    (s.modMfe f).sch = s.sch ∧ (s.modMfe f).ths = s.ths ∧ (s.modMfe f).tqu = s.tqu ∧ (s.modMfe f).swx = s.swx ∧
    (s.modMfe f).uplinks = s.uplinks ∧ (s.modMfe f).evr = s.evr ∧ (s.modMfe f).kvt = s.kvt ∧ (s.modMfe f).upd = s.upd ∧
    (s.modMfe f).trc = s.trc ∧ (s.modMfe f).twn = s.twn ∧ (s.modMfe f).ksp = s.ksp ∧ (s.modMfe f).sent = s.sent ∧
    (s.modMfe f).free = s.free ∧ (s.modMfe f).pending = s.pending := by
  refine ⟨?_, ?_, ?_, ?_, ?_, ?_, ?_, ?_, ?_, ?_, ?_, ?_, ?_, ?_, ?_, ?_, ?_, ?_, ?_, ?_, ?_, ?_, ?_, ?_, ?_, ?_, ?_, ?_, ?_, ?_, ?_, ?_, ?_, ?_⟩ <;> rfl

@[simp] theorem State.modMfe_mfe (s : State) (f : Mfe → Mfe) : (s.modMfe f).mfe = f s.mfe := rfl

@[simp] theorem State.modMfe_reg (s : State) (f : Mfe → Mfe) (k_ : Nat) : (s.modMfe f).reg k_ = s.reg k_ := rfl

@[simp] theorem State.modMfe_winWord (s : State) (f : Mfe → Mfe) (k_ : Nat) :
    (s.modMfe f).winWord k_ = s.winWord k_ := rfl

@[simp] theorem State.modMfe_byte (s : State) (f : Mfe → Mfe) (k_ : Nat) :
    (s.modMfe f).byte k_ = s.byte k_ := rfl

/-- What `setCh` leaves as it was. -/
@[simp] theorem State.setCh_frame (s : State) (k : ℕ) (st : ℕ) :
    (s.setCh k st).win = s.win ∧ (s.setCh k st).mem = s.mem ∧ (s.setCh k st).now = s.now ∧ (s.setCh k st).sys = s.sys ∧
    (s.setCh k st).pwr = s.pwr ∧ (s.setCh k st).rct = s.rct ∧ (s.setCh k st).tim = s.tim ∧ (s.setCh k st).rtc = s.rtc ∧
    (s.setCh k st).sns = s.sns ∧ (s.setCh k st).cen = s.cen ∧ (s.setCh k st).mfe = s.mfe ∧ (s.setCh k st).lgt = s.lgt ∧
    (s.setCh k st).mtr = s.mtr ∧ (s.setCh k st).stl = s.stl ∧ (s.setCh k st).axe = s.axe ∧
    (s.setCh k st).modems = s.modems ∧ (s.setCh k st).macs = s.macs ∧ (s.setCh k st).ntb = s.ntb ∧
    (s.setCh k st).yrd = s.yrd ∧ (s.setCh k st).sch = s.sch ∧ (s.setCh k st).ths = s.ths ∧ (s.setCh k st).tqu = s.tqu ∧
    (s.setCh k st).swx = s.swx ∧ (s.setCh k st).uplinks = s.uplinks ∧ (s.setCh k st).evr = s.evr ∧
    (s.setCh k st).kvt = s.kvt ∧ (s.setCh k st).upd = s.upd ∧ (s.setCh k st).trc = s.trc ∧ (s.setCh k st).twn = s.twn ∧
    (s.setCh k st).ksp = s.ksp ∧ (s.setCh k st).sent = s.sent ∧ (s.setCh k st).free = s.free ∧
    (s.setCh k st).pending = s.pending := by
  unfold State.setCh
  (repeat' split) <;> simp

@[simp] theorem State.setCh_winWord (s : State) (k : ℕ) (st : ℕ) (k_ : Nat) :
    (s.setCh k st).winWord k_ = s.winWord k_ := by unfold State.setCh; (repeat' split) <;> first | rfl | simp

@[simp] theorem State.setCh_byte (s : State) (k : ℕ) (st : ℕ) (k_ : Nat) :
    (s.setCh k st).byte k_ = s.byte k_ := by unfold State.setCh; (repeat' split) <;> first | rfl | simp

/-- What `setFe` leaves as it was. -/
@[simp] theorem State.setFe_frame (s : State) (st : ℕ) :
    (s.setFe st).win = s.win ∧ (s.setFe st).mem = s.mem ∧ (s.setFe st).now = s.now ∧ (s.setFe st).sys = s.sys ∧
    (s.setFe st).pwr = s.pwr ∧ (s.setFe st).rct = s.rct ∧ (s.setFe st).tim = s.tim ∧ (s.setFe st).rtc = s.rtc ∧
    (s.setFe st).sns = s.sns ∧ (s.setFe st).cen = s.cen ∧ (s.setFe st).chs = s.chs ∧ (s.setFe st).lgt = s.lgt ∧
    (s.setFe st).mtr = s.mtr ∧ (s.setFe st).stl = s.stl ∧ (s.setFe st).axe = s.axe ∧ (s.setFe st).modems = s.modems ∧
    (s.setFe st).macs = s.macs ∧ (s.setFe st).ntb = s.ntb ∧ (s.setFe st).yrd = s.yrd ∧ (s.setFe st).sch = s.sch ∧
    (s.setFe st).ths = s.ths ∧ (s.setFe st).tqu = s.tqu ∧ (s.setFe st).swx = s.swx ∧ (s.setFe st).uplinks = s.uplinks ∧
    (s.setFe st).evr = s.evr ∧ (s.setFe st).kvt = s.kvt ∧ (s.setFe st).upd = s.upd ∧ (s.setFe st).trc = s.trc ∧
    (s.setFe st).twn = s.twn ∧ (s.setFe st).ksp = s.ksp ∧ (s.setFe st).sent = s.sent ∧ (s.setFe st).free = s.free ∧
    (s.setFe st).pending = s.pending := by
  unfold State.setFe
  (repeat' split) <;> simp

@[simp] theorem State.setFe_winWord (s : State) (st : ℕ) (k_ : Nat) :
    (s.setFe st).winWord k_ = s.winWord k_ := by unfold State.setFe; (repeat' split) <;> first | rfl | simp

@[simp] theorem State.setFe_byte (s : State) (st : ℕ) (k_ : Nat) :
    (s.setFe st).byte k_ = s.byte k_ := by unfold State.setFe; (repeat' split) <;> first | rfl | simp

/-- What `modBoard` leaves as it was. -/
@[simp] theorem State.modBoard_frame (s : State) (n : ℕ) (f : StlBoard → StlBoard) :
    (s.modBoard n f).regs = s.regs ∧ (s.modBoard n f).win = s.win ∧ (s.modBoard n f).mem = s.mem ∧
    (s.modBoard n f).now = s.now ∧ (s.modBoard n f).sys = s.sys ∧ (s.modBoard n f).pwr = s.pwr ∧
    (s.modBoard n f).rct = s.rct ∧ (s.modBoard n f).tim = s.tim ∧ (s.modBoard n f).rtc = s.rtc ∧
    (s.modBoard n f).sns = s.sns ∧ (s.modBoard n f).cen = s.cen ∧ (s.modBoard n f).mfe = s.mfe ∧
    (s.modBoard n f).chs = s.chs ∧ (s.modBoard n f).lgt = s.lgt ∧ (s.modBoard n f).mtr = s.mtr ∧
    (s.modBoard n f).axe = s.axe ∧ (s.modBoard n f).modems = s.modems ∧ (s.modBoard n f).macs = s.macs ∧
    (s.modBoard n f).ntb = s.ntb ∧ (s.modBoard n f).yrd = s.yrd ∧ (s.modBoard n f).sch = s.sch ∧
    (s.modBoard n f).ths = s.ths ∧ (s.modBoard n f).tqu = s.tqu ∧ (s.modBoard n f).swx = s.swx ∧
    (s.modBoard n f).uplinks = s.uplinks ∧ (s.modBoard n f).evr = s.evr ∧ (s.modBoard n f).kvt = s.kvt ∧
    (s.modBoard n f).upd = s.upd ∧ (s.modBoard n f).trc = s.trc ∧ (s.modBoard n f).twn = s.twn ∧
    (s.modBoard n f).ksp = s.ksp ∧ (s.modBoard n f).sent = s.sent ∧ (s.modBoard n f).free = s.free ∧
    (s.modBoard n f).pending = s.pending := by
  refine ⟨?_, ?_, ?_, ?_, ?_, ?_, ?_, ?_, ?_, ?_, ?_, ?_, ?_, ?_, ?_, ?_, ?_, ?_, ?_, ?_, ?_, ?_, ?_, ?_, ?_, ?_, ?_, ?_, ?_, ?_, ?_, ?_, ?_, ?_⟩ <;> rfl

@[simp] theorem State.modBoard_reg (s : State) (n : ℕ) (f : StlBoard → StlBoard) (k_ : Nat) :
    (s.modBoard n f).reg k_ = s.reg k_ := rfl

@[simp] theorem State.modBoard_winWord (s : State) (n : ℕ) (f : StlBoard → StlBoard) (k_ : Nat) :
    (s.modBoard n f).winWord k_ = s.winWord k_ := rfl

@[simp] theorem State.modBoard_byte (s : State) (n : ℕ) (f : StlBoard → StlBoard) (k_ : Nat) :
    (s.modBoard n f).byte k_ = s.byte k_ := rfl

/-- What `modPe` leaves as it was. -/
@[simp] theorem State.modPe_frame (s : State) (e : ℕ) (f : PatternEngine → PatternEngine) :
    (s.modPe e f).regs = s.regs ∧ (s.modPe e f).win = s.win ∧ (s.modPe e f).mem = s.mem ∧ (s.modPe e f).now = s.now ∧
    (s.modPe e f).sys = s.sys ∧ (s.modPe e f).pwr = s.pwr ∧ (s.modPe e f).rct = s.rct ∧ (s.modPe e f).tim = s.tim ∧
    (s.modPe e f).rtc = s.rtc ∧ (s.modPe e f).sns = s.sns ∧ (s.modPe e f).cen = s.cen ∧ (s.modPe e f).mfe = s.mfe ∧
    (s.modPe e f).chs = s.chs ∧ (s.modPe e f).mtr = s.mtr ∧ (s.modPe e f).stl = s.stl ∧ (s.modPe e f).axe = s.axe ∧
    (s.modPe e f).modems = s.modems ∧ (s.modPe e f).macs = s.macs ∧ (s.modPe e f).ntb = s.ntb ∧
    (s.modPe e f).yrd = s.yrd ∧ (s.modPe e f).sch = s.sch ∧ (s.modPe e f).ths = s.ths ∧ (s.modPe e f).tqu = s.tqu ∧
    (s.modPe e f).swx = s.swx ∧ (s.modPe e f).uplinks = s.uplinks ∧ (s.modPe e f).evr = s.evr ∧
    (s.modPe e f).kvt = s.kvt ∧ (s.modPe e f).upd = s.upd ∧ (s.modPe e f).trc = s.trc ∧ (s.modPe e f).twn = s.twn ∧
    (s.modPe e f).ksp = s.ksp ∧ (s.modPe e f).sent = s.sent ∧ (s.modPe e f).free = s.free ∧
    (s.modPe e f).pending = s.pending := by
  refine ⟨?_, ?_, ?_, ?_, ?_, ?_, ?_, ?_, ?_, ?_, ?_, ?_, ?_, ?_, ?_, ?_, ?_, ?_, ?_, ?_, ?_, ?_, ?_, ?_, ?_, ?_, ?_, ?_, ?_, ?_, ?_, ?_, ?_, ?_⟩ <;> rfl

@[simp] theorem State.modPe_reg (s : State) (e : ℕ) (f : PatternEngine → PatternEngine) (k_ : Nat) :
    (s.modPe e f).reg k_ = s.reg k_ := rfl

@[simp] theorem State.modPe_winWord (s : State) (e : ℕ) (f : PatternEngine → PatternEngine) (k_ : Nat) :
    (s.modPe e f).winWord k_ = s.winWord k_ := rfl

@[simp] theorem State.modPe_byte (s : State) (e : ℕ) (f : PatternEngine → PatternEngine) (k_ : Nat) :
    (s.modPe e f).byte k_ = s.byte k_ := rfl

/-- What `setPe` leaves as it was. -/
@[simp] theorem State.setPe_frame (s : State) (e : ℕ) (st : ℕ) :
    (s.setPe e st).win = s.win ∧ (s.setPe e st).mem = s.mem ∧ (s.setPe e st).now = s.now ∧ (s.setPe e st).sys = s.sys ∧
    (s.setPe e st).pwr = s.pwr ∧ (s.setPe e st).rct = s.rct ∧ (s.setPe e st).tim = s.tim ∧ (s.setPe e st).rtc = s.rtc ∧
    (s.setPe e st).sns = s.sns ∧ (s.setPe e st).cen = s.cen ∧ (s.setPe e st).mfe = s.mfe ∧ (s.setPe e st).chs = s.chs ∧
    (s.setPe e st).lgt = s.lgt ∧ (s.setPe e st).mtr = s.mtr ∧ (s.setPe e st).stl = s.stl ∧ (s.setPe e st).axe = s.axe ∧
    (s.setPe e st).modems = s.modems ∧ (s.setPe e st).macs = s.macs ∧ (s.setPe e st).ntb = s.ntb ∧
    (s.setPe e st).yrd = s.yrd ∧ (s.setPe e st).sch = s.sch ∧ (s.setPe e st).ths = s.ths ∧ (s.setPe e st).tqu = s.tqu ∧
    (s.setPe e st).swx = s.swx ∧ (s.setPe e st).uplinks = s.uplinks ∧ (s.setPe e st).evr = s.evr ∧
    (s.setPe e st).kvt = s.kvt ∧ (s.setPe e st).upd = s.upd ∧ (s.setPe e st).trc = s.trc ∧ (s.setPe e st).twn = s.twn ∧
    (s.setPe e st).ksp = s.ksp ∧ (s.setPe e st).sent = s.sent ∧ (s.setPe e st).free = s.free ∧
    (s.setPe e st).pending = s.pending := by
  unfold State.setPe
  (repeat' split) <;> simp

@[simp] theorem State.setPe_winWord (s : State) (e : ℕ) (st : ℕ) (k_ : Nat) :
    (s.setPe e st).winWord k_ = s.winWord k_ := by unfold State.setPe; (repeat' split) <;> first | rfl | simp

@[simp] theorem State.setPe_byte (s : State) (e : ℕ) (st : ℕ) (k_ : Nat) :
    (s.setPe e st).byte k_ = s.byte k_ := by unfold State.setPe; (repeat' split) <;> first | rfl | simp

/-- What `modTq` leaves as it was. -/
@[simp] theorem State.modTq_frame (s : State) (q : ℕ) (f : TqQueue → TqQueue) :
    (s.modTq q f).regs = s.regs ∧ (s.modTq q f).win = s.win ∧ (s.modTq q f).mem = s.mem ∧ (s.modTq q f).now = s.now ∧
    (s.modTq q f).sys = s.sys ∧ (s.modTq q f).pwr = s.pwr ∧ (s.modTq q f).rct = s.rct ∧ (s.modTq q f).tim = s.tim ∧
    (s.modTq q f).rtc = s.rtc ∧ (s.modTq q f).sns = s.sns ∧ (s.modTq q f).cen = s.cen ∧ (s.modTq q f).mfe = s.mfe ∧
    (s.modTq q f).chs = s.chs ∧ (s.modTq q f).lgt = s.lgt ∧ (s.modTq q f).mtr = s.mtr ∧ (s.modTq q f).stl = s.stl ∧
    (s.modTq q f).axe = s.axe ∧ (s.modTq q f).modems = s.modems ∧ (s.modTq q f).macs = s.macs ∧
    (s.modTq q f).ntb = s.ntb ∧ (s.modTq q f).yrd = s.yrd ∧ (s.modTq q f).sch = s.sch ∧ (s.modTq q f).ths = s.ths ∧
    (s.modTq q f).swx = s.swx ∧ (s.modTq q f).uplinks = s.uplinks ∧ (s.modTq q f).evr = s.evr ∧
    (s.modTq q f).kvt = s.kvt ∧ (s.modTq q f).upd = s.upd ∧ (s.modTq q f).trc = s.trc ∧ (s.modTq q f).twn = s.twn ∧
    (s.modTq q f).ksp = s.ksp ∧ (s.modTq q f).sent = s.sent ∧ (s.modTq q f).free = s.free ∧
    (s.modTq q f).pending = s.pending := by
  refine ⟨?_, ?_, ?_, ?_, ?_, ?_, ?_, ?_, ?_, ?_, ?_, ?_, ?_, ?_, ?_, ?_, ?_, ?_, ?_, ?_, ?_, ?_, ?_, ?_, ?_, ?_, ?_, ?_, ?_, ?_, ?_, ?_, ?_, ?_⟩ <;> rfl

@[simp] theorem State.modTq_reg (s : State) (q : ℕ) (f : TqQueue → TqQueue) (k_ : Nat) :
    (s.modTq q f).reg k_ = s.reg k_ := rfl

@[simp] theorem State.modTq_winWord (s : State) (q : ℕ) (f : TqQueue → TqQueue) (k_ : Nat) :
    (s.modTq q f).winWord k_ = s.winWord k_ := rfl

@[simp] theorem State.modTq_byte (s : State) (q : ℕ) (f : TqQueue → TqQueue) (k_ : Nat) :
    (s.modTq q f).byte k_ = s.byte k_ := rfl

/-- What `modThread` leaves as it was. -/
@[simp] theorem State.modThread_frame (s : State) (t : ℕ) (f : Thread → Thread) :
    (s.modThread t f).regs = s.regs ∧ (s.modThread t f).win = s.win ∧ (s.modThread t f).mem = s.mem ∧
    (s.modThread t f).now = s.now ∧ (s.modThread t f).sys = s.sys ∧ (s.modThread t f).pwr = s.pwr ∧
    (s.modThread t f).rct = s.rct ∧ (s.modThread t f).tim = s.tim ∧ (s.modThread t f).rtc = s.rtc ∧
    (s.modThread t f).sns = s.sns ∧ (s.modThread t f).cen = s.cen ∧ (s.modThread t f).mfe = s.mfe ∧
    (s.modThread t f).chs = s.chs ∧ (s.modThread t f).lgt = s.lgt ∧ (s.modThread t f).mtr = s.mtr ∧
    (s.modThread t f).stl = s.stl ∧ (s.modThread t f).axe = s.axe ∧ (s.modThread t f).modems = s.modems ∧
    (s.modThread t f).macs = s.macs ∧ (s.modThread t f).ntb = s.ntb ∧ (s.modThread t f).yrd = s.yrd ∧
    (s.modThread t f).sch = s.sch ∧ (s.modThread t f).tqu = s.tqu ∧ (s.modThread t f).swx = s.swx ∧
    (s.modThread t f).uplinks = s.uplinks ∧ (s.modThread t f).evr = s.evr ∧ (s.modThread t f).kvt = s.kvt ∧
    (s.modThread t f).upd = s.upd ∧ (s.modThread t f).trc = s.trc ∧ (s.modThread t f).twn = s.twn ∧
    (s.modThread t f).ksp = s.ksp ∧ (s.modThread t f).sent = s.sent ∧ (s.modThread t f).free = s.free ∧
    (s.modThread t f).pending = s.pending := by
  refine ⟨?_, ?_, ?_, ?_, ?_, ?_, ?_, ?_, ?_, ?_, ?_, ?_, ?_, ?_, ?_, ?_, ?_, ?_, ?_, ?_, ?_, ?_, ?_, ?_, ?_, ?_, ?_, ?_, ?_, ?_, ?_, ?_, ?_, ?_⟩ <;> rfl

@[simp] theorem State.modThread_reg (s : State) (t : ℕ) (f : Thread → Thread) (k_ : Nat) :
    (s.modThread t f).reg k_ = s.reg k_ := rfl

@[simp] theorem State.modThread_winWord (s : State) (t : ℕ) (f : Thread → Thread) (k_ : Nat) :
    (s.modThread t f).winWord k_ = s.winWord k_ := rfl

@[simp] theorem State.modThread_byte (s : State) (t : ℕ) (f : Thread → Thread) (k_ : Nat) :
    (s.modThread t f).byte k_ = s.byte k_ := rfl

/-- What `setReady` leaves as it was. -/
@[simp] theorem State.setReady_frame (s : State) (p : ℕ) (l : List ℕ) :
    (s.setReady p l).regs = s.regs ∧ (s.setReady p l).win = s.win ∧ (s.setReady p l).mem = s.mem ∧
    (s.setReady p l).now = s.now ∧ (s.setReady p l).sys = s.sys ∧ (s.setReady p l).pwr = s.pwr ∧
    (s.setReady p l).rct = s.rct ∧ (s.setReady p l).tim = s.tim ∧ (s.setReady p l).rtc = s.rtc ∧
    (s.setReady p l).sns = s.sns ∧ (s.setReady p l).cen = s.cen ∧ (s.setReady p l).mfe = s.mfe ∧
    (s.setReady p l).chs = s.chs ∧ (s.setReady p l).lgt = s.lgt ∧ (s.setReady p l).mtr = s.mtr ∧
    (s.setReady p l).stl = s.stl ∧ (s.setReady p l).axe = s.axe ∧ (s.setReady p l).modems = s.modems ∧
    (s.setReady p l).macs = s.macs ∧ (s.setReady p l).ntb = s.ntb ∧ (s.setReady p l).yrd = s.yrd ∧
    (s.setReady p l).sch = s.sch ∧ (s.setReady p l).tqu = s.tqu ∧ (s.setReady p l).swx = s.swx ∧
    (s.setReady p l).uplinks = s.uplinks ∧ (s.setReady p l).evr = s.evr ∧ (s.setReady p l).kvt = s.kvt ∧
    (s.setReady p l).upd = s.upd ∧ (s.setReady p l).trc = s.trc ∧ (s.setReady p l).twn = s.twn ∧
    (s.setReady p l).ksp = s.ksp ∧ (s.setReady p l).sent = s.sent ∧ (s.setReady p l).free = s.free ∧
    (s.setReady p l).pending = s.pending := by
  refine ⟨?_, ?_, ?_, ?_, ?_, ?_, ?_, ?_, ?_, ?_, ?_, ?_, ?_, ?_, ?_, ?_, ?_, ?_, ?_, ?_, ?_, ?_, ?_, ?_, ?_, ?_, ?_, ?_, ?_, ?_, ?_, ?_, ?_, ?_⟩ <;> rfl

@[simp] theorem State.setReady_reg (s : State) (p : ℕ) (l : List ℕ) (k_ : Nat) :
    (s.setReady p l).reg k_ = s.reg k_ := rfl

@[simp] theorem State.setReady_winWord (s : State) (p : ℕ) (l : List ℕ) (k_ : Nat) :
    (s.setReady p l).winWord k_ = s.winWord k_ := rfl

@[simp] theorem State.setReady_byte (s : State) (p : ℕ) (l : List ℕ) (k_ : Nat) :
    (s.setReady p l).byte k_ = s.byte k_ := rfl

/-- What `modModem` leaves as it was. -/
@[simp] theorem State.modModem_frame (s : State) (f : ℕ) (g : Modem → Modem) :
    (s.modModem f g).regs = s.regs ∧ (s.modModem f g).win = s.win ∧ (s.modModem f g).mem = s.mem ∧
    (s.modModem f g).now = s.now ∧ (s.modModem f g).sys = s.sys ∧ (s.modModem f g).pwr = s.pwr ∧
    (s.modModem f g).rct = s.rct ∧ (s.modModem f g).tim = s.tim ∧ (s.modModem f g).rtc = s.rtc ∧
    (s.modModem f g).sns = s.sns ∧ (s.modModem f g).cen = s.cen ∧ (s.modModem f g).mfe = s.mfe ∧
    (s.modModem f g).chs = s.chs ∧ (s.modModem f g).lgt = s.lgt ∧ (s.modModem f g).mtr = s.mtr ∧
    (s.modModem f g).stl = s.stl ∧ (s.modModem f g).axe = s.axe ∧ (s.modModem f g).macs = s.macs ∧
    (s.modModem f g).ntb = s.ntb ∧ (s.modModem f g).yrd = s.yrd ∧ (s.modModem f g).sch = s.sch ∧
    (s.modModem f g).ths = s.ths ∧ (s.modModem f g).tqu = s.tqu ∧ (s.modModem f g).swx = s.swx ∧
    (s.modModem f g).uplinks = s.uplinks ∧ (s.modModem f g).evr = s.evr ∧ (s.modModem f g).kvt = s.kvt ∧
    (s.modModem f g).upd = s.upd ∧ (s.modModem f g).trc = s.trc ∧ (s.modModem f g).twn = s.twn ∧
    (s.modModem f g).ksp = s.ksp ∧ (s.modModem f g).sent = s.sent ∧ (s.modModem f g).free = s.free ∧
    (s.modModem f g).pending = s.pending := by
  refine ⟨?_, ?_, ?_, ?_, ?_, ?_, ?_, ?_, ?_, ?_, ?_, ?_, ?_, ?_, ?_, ?_, ?_, ?_, ?_, ?_, ?_, ?_, ?_, ?_, ?_, ?_, ?_, ?_, ?_, ?_, ?_, ?_, ?_, ?_⟩ <;> rfl

@[simp] theorem State.modModem_reg (s : State) (f : ℕ) (g : Modem → Modem) (k_ : Nat) :
    (s.modModem f g).reg k_ = s.reg k_ := rfl

@[simp] theorem State.modModem_winWord (s : State) (f : ℕ) (g : Modem → Modem) (k_ : Nat) :
    (s.modModem f g).winWord k_ = s.winWord k_ := rfl

@[simp] theorem State.modModem_byte (s : State) (f : ℕ) (g : Modem → Modem) (k_ : Nat) :
    (s.modModem f g).byte k_ = s.byte k_ := rfl

/-- What `modKvt` leaves as it was. -/
@[simp] theorem State.modKvt_frame (s : State) (f : Kvt → Kvt) :
    (s.modKvt f).regs = s.regs ∧ (s.modKvt f).win = s.win ∧ (s.modKvt f).mem = s.mem ∧ (s.modKvt f).now = s.now ∧
    (s.modKvt f).sys = s.sys ∧ (s.modKvt f).pwr = s.pwr ∧ (s.modKvt f).rct = s.rct ∧ (s.modKvt f).tim = s.tim ∧
    (s.modKvt f).rtc = s.rtc ∧ (s.modKvt f).sns = s.sns ∧ (s.modKvt f).cen = s.cen ∧ (s.modKvt f).mfe = s.mfe ∧
    (s.modKvt f).chs = s.chs ∧ (s.modKvt f).lgt = s.lgt ∧ (s.modKvt f).mtr = s.mtr ∧ (s.modKvt f).stl = s.stl ∧
    (s.modKvt f).axe = s.axe ∧ (s.modKvt f).modems = s.modems ∧ (s.modKvt f).macs = s.macs ∧ (s.modKvt f).ntb = s.ntb ∧
    (s.modKvt f).yrd = s.yrd ∧ (s.modKvt f).sch = s.sch ∧ (s.modKvt f).ths = s.ths ∧ (s.modKvt f).tqu = s.tqu ∧
    (s.modKvt f).swx = s.swx ∧ (s.modKvt f).uplinks = s.uplinks ∧ (s.modKvt f).evr = s.evr ∧ (s.modKvt f).upd = s.upd ∧
    (s.modKvt f).trc = s.trc ∧ (s.modKvt f).twn = s.twn ∧ (s.modKvt f).ksp = s.ksp ∧ (s.modKvt f).sent = s.sent ∧
    (s.modKvt f).free = s.free ∧ (s.modKvt f).pending = s.pending := by
  refine ⟨?_, ?_, ?_, ?_, ?_, ?_, ?_, ?_, ?_, ?_, ?_, ?_, ?_, ?_, ?_, ?_, ?_, ?_, ?_, ?_, ?_, ?_, ?_, ?_, ?_, ?_, ?_, ?_, ?_, ?_, ?_, ?_, ?_, ?_⟩ <;> rfl

@[simp] theorem State.modKvt_kvt (s : State) (f : Kvt → Kvt) : (s.modKvt f).kvt = f s.kvt := rfl

@[simp] theorem State.modKvt_reg (s : State) (f : Kvt → Kvt) (k_ : Nat) : (s.modKvt f).reg k_ = s.reg k_ := rfl

@[simp] theorem State.modKvt_winWord (s : State) (f : Kvt → Kvt) (k_ : Nat) :
    (s.modKvt f).winWord k_ = s.winWord k_ := rfl

@[simp] theorem State.modKvt_byte (s : State) (f : Kvt → Kvt) (k_ : Nat) :
    (s.modKvt f).byte k_ = s.byte k_ := rfl

/-- What `setKey` leaves as it was. -/
@[simp] theorem State.setKey_frame (s : State) (i : ℕ) (k : KeySlot) :
    (s.setKey i k).regs = s.regs ∧ (s.setKey i k).win = s.win ∧ (s.setKey i k).mem = s.mem ∧ (s.setKey i k).now = s.now ∧
    (s.setKey i k).sys = s.sys ∧ (s.setKey i k).pwr = s.pwr ∧ (s.setKey i k).rct = s.rct ∧ (s.setKey i k).tim = s.tim ∧
    (s.setKey i k).rtc = s.rtc ∧ (s.setKey i k).sns = s.sns ∧ (s.setKey i k).cen = s.cen ∧ (s.setKey i k).mfe = s.mfe ∧
    (s.setKey i k).chs = s.chs ∧ (s.setKey i k).lgt = s.lgt ∧ (s.setKey i k).mtr = s.mtr ∧ (s.setKey i k).stl = s.stl ∧
    (s.setKey i k).axe = s.axe ∧ (s.setKey i k).modems = s.modems ∧ (s.setKey i k).macs = s.macs ∧
    (s.setKey i k).ntb = s.ntb ∧ (s.setKey i k).yrd = s.yrd ∧ (s.setKey i k).sch = s.sch ∧ (s.setKey i k).ths = s.ths ∧
    (s.setKey i k).tqu = s.tqu ∧ (s.setKey i k).swx = s.swx ∧ (s.setKey i k).uplinks = s.uplinks ∧
    (s.setKey i k).evr = s.evr ∧ (s.setKey i k).upd = s.upd ∧ (s.setKey i k).trc = s.trc ∧ (s.setKey i k).twn = s.twn ∧
    (s.setKey i k).ksp = s.ksp ∧ (s.setKey i k).sent = s.sent ∧ (s.setKey i k).free = s.free ∧
    (s.setKey i k).pending = s.pending := by
  unfold State.setKey
  (repeat' split) <;> simp

@[simp] theorem State.setKey_reg (s : State) (i : ℕ) (k : KeySlot) (k_ : Nat) :
    (s.setKey i k).reg k_ = s.reg k_ := by unfold State.setKey; (repeat' split) <;> first | rfl | simp

@[simp] theorem State.setKey_winWord (s : State) (i : ℕ) (k : KeySlot) (k_ : Nat) :
    (s.setKey i k).winWord k_ = s.winWord k_ := by unfold State.setKey; (repeat' split) <;> first | rfl | simp

@[simp] theorem State.setKey_byte (s : State) (i : ℕ) (k : KeySlot) (k_ : Nat) :
    (s.setKey i k).byte k_ = s.byte k_ := by unfold State.setKey; (repeat' split) <;> first | rfl | simp

/-- What `setCopy` leaves as it was. -/
@[simp] theorem State.setCopy_frame (s : State) (i : ℕ) (c : ℕ) (k : Option KeyCopy) :
    (s.setCopy i c k).regs = s.regs ∧ (s.setCopy i c k).win = s.win ∧ (s.setCopy i c k).mem = s.mem ∧
    (s.setCopy i c k).now = s.now ∧ (s.setCopy i c k).sys = s.sys ∧ (s.setCopy i c k).pwr = s.pwr ∧
    (s.setCopy i c k).rct = s.rct ∧ (s.setCopy i c k).tim = s.tim ∧ (s.setCopy i c k).rtc = s.rtc ∧
    (s.setCopy i c k).sns = s.sns ∧ (s.setCopy i c k).cen = s.cen ∧ (s.setCopy i c k).mfe = s.mfe ∧
    (s.setCopy i c k).chs = s.chs ∧ (s.setCopy i c k).lgt = s.lgt ∧ (s.setCopy i c k).mtr = s.mtr ∧
    (s.setCopy i c k).stl = s.stl ∧ (s.setCopy i c k).axe = s.axe ∧ (s.setCopy i c k).modems = s.modems ∧
    (s.setCopy i c k).macs = s.macs ∧ (s.setCopy i c k).ntb = s.ntb ∧ (s.setCopy i c k).yrd = s.yrd ∧
    (s.setCopy i c k).sch = s.sch ∧ (s.setCopy i c k).ths = s.ths ∧ (s.setCopy i c k).tqu = s.tqu ∧
    (s.setCopy i c k).swx = s.swx ∧ (s.setCopy i c k).uplinks = s.uplinks ∧ (s.setCopy i c k).evr = s.evr ∧
    (s.setCopy i c k).upd = s.upd ∧ (s.setCopy i c k).trc = s.trc ∧ (s.setCopy i c k).twn = s.twn ∧
    (s.setCopy i c k).ksp = s.ksp ∧ (s.setCopy i c k).sent = s.sent ∧ (s.setCopy i c k).free = s.free ∧
    (s.setCopy i c k).pending = s.pending := by
  unfold State.setCopy
  (repeat' split) <;> simp

@[simp] theorem State.setCopy_reg (s : State) (i : ℕ) (c : ℕ) (k : Option KeyCopy) (k_ : Nat) :
    (s.setCopy i c k).reg k_ = s.reg k_ := by unfold State.setCopy; (repeat' split) <;> first | rfl | simp

@[simp] theorem State.setCopy_winWord (s : State) (i : ℕ) (c : ℕ) (k : Option KeyCopy) (k_ : Nat) :
    (s.setCopy i c k).winWord k_ = s.winWord k_ := by unfold State.setCopy; (repeat' split) <;> first | rfl | simp

@[simp] theorem State.setCopy_byte (s : State) (i : ℕ) (c : ℕ) (k : Option KeyCopy) (k_ : Nat) :
    (s.setCopy i c k).byte k_ = s.byte k_ := by unfold State.setCopy; (repeat' split) <;> first | rfl | simp

/-- What `setWinByte` leaves as it was. -/
@[simp] theorem State.setWinByte_frame (s : State) (a : ℕ) (v : ℕ) :
    (s.setWinByte a v).regs = s.regs ∧ (s.setWinByte a v).mem = s.mem ∧ (s.setWinByte a v).now = s.now ∧
    (s.setWinByte a v).sys = s.sys ∧ (s.setWinByte a v).pwr = s.pwr ∧ (s.setWinByte a v).rct = s.rct ∧
    (s.setWinByte a v).tim = s.tim ∧ (s.setWinByte a v).rtc = s.rtc ∧ (s.setWinByte a v).sns = s.sns ∧
    (s.setWinByte a v).cen = s.cen ∧ (s.setWinByte a v).mfe = s.mfe ∧ (s.setWinByte a v).chs = s.chs ∧
    (s.setWinByte a v).lgt = s.lgt ∧ (s.setWinByte a v).mtr = s.mtr ∧ (s.setWinByte a v).stl = s.stl ∧
    (s.setWinByte a v).axe = s.axe ∧ (s.setWinByte a v).modems = s.modems ∧ (s.setWinByte a v).macs = s.macs ∧
    (s.setWinByte a v).ntb = s.ntb ∧ (s.setWinByte a v).yrd = s.yrd ∧ (s.setWinByte a v).sch = s.sch ∧
    (s.setWinByte a v).ths = s.ths ∧ (s.setWinByte a v).tqu = s.tqu ∧ (s.setWinByte a v).swx = s.swx ∧
    (s.setWinByte a v).uplinks = s.uplinks ∧ (s.setWinByte a v).evr = s.evr ∧ (s.setWinByte a v).kvt = s.kvt ∧
    (s.setWinByte a v).upd = s.upd ∧ (s.setWinByte a v).trc = s.trc ∧ (s.setWinByte a v).twn = s.twn ∧
    (s.setWinByte a v).ksp = s.ksp ∧ (s.setWinByte a v).sent = s.sent ∧ (s.setWinByte a v).free = s.free ∧
    (s.setWinByte a v).pending = s.pending := by
  unfold State.setWinByte
  (repeat' split) <;> simp

@[simp] theorem State.setWinByte_reg (s : State) (a : ℕ) (v : ℕ) (k_ : Nat) :
    (s.setWinByte a v).reg k_ = s.reg k_ := by unfold State.setWinByte; (repeat' split) <;> first | rfl | simp

@[simp] theorem State.setWinByte_byte (s : State) (a : ℕ) (v : ℕ) (k_ : Nat) :
    (s.setWinByte a v).byte k_ = s.byte k_ := by unfold State.setWinByte; (repeat' split) <;> first | rfl | simp

/-- What `modMacNode` leaves as it was. -/
@[simp] theorem State.modMacNode_frame (s : State) (i : ℕ) (f : MacNode → MacNode) :
    (s.modMacNode i f).regs = s.regs ∧ (s.modMacNode i f).win = s.win ∧ (s.modMacNode i f).mem = s.mem ∧
    (s.modMacNode i f).now = s.now ∧ (s.modMacNode i f).sys = s.sys ∧ (s.modMacNode i f).pwr = s.pwr ∧
    (s.modMacNode i f).rct = s.rct ∧ (s.modMacNode i f).tim = s.tim ∧ (s.modMacNode i f).rtc = s.rtc ∧
    (s.modMacNode i f).sns = s.sns ∧ (s.modMacNode i f).cen = s.cen ∧ (s.modMacNode i f).mfe = s.mfe ∧
    (s.modMacNode i f).chs = s.chs ∧ (s.modMacNode i f).lgt = s.lgt ∧ (s.modMacNode i f).mtr = s.mtr ∧
    (s.modMacNode i f).stl = s.stl ∧ (s.modMacNode i f).axe = s.axe ∧ (s.modMacNode i f).modems = s.modems ∧
    (s.modMacNode i f).macs = s.macs ∧ (s.modMacNode i f).yrd = s.yrd ∧ (s.modMacNode i f).sch = s.sch ∧
    (s.modMacNode i f).ths = s.ths ∧ (s.modMacNode i f).tqu = s.tqu ∧ (s.modMacNode i f).swx = s.swx ∧
    (s.modMacNode i f).uplinks = s.uplinks ∧ (s.modMacNode i f).evr = s.evr ∧ (s.modMacNode i f).kvt = s.kvt ∧
    (s.modMacNode i f).upd = s.upd ∧ (s.modMacNode i f).trc = s.trc ∧ (s.modMacNode i f).twn = s.twn ∧
    (s.modMacNode i f).ksp = s.ksp ∧ (s.modMacNode i f).sent = s.sent ∧ (s.modMacNode i f).free = s.free ∧
    (s.modMacNode i f).pending = s.pending := by
  refine ⟨?_, ?_, ?_, ?_, ?_, ?_, ?_, ?_, ?_, ?_, ?_, ?_, ?_, ?_, ?_, ?_, ?_, ?_, ?_, ?_, ?_, ?_, ?_, ?_, ?_, ?_, ?_, ?_, ?_, ?_, ?_, ?_, ?_, ?_⟩ <;> rfl

@[simp] theorem State.modMacNode_reg (s : State) (i : ℕ) (f : MacNode → MacNode) (k_ : Nat) :
    (s.modMacNode i f).reg k_ = s.reg k_ := rfl

@[simp] theorem State.modMacNode_winWord (s : State) (i : ℕ) (f : MacNode → MacNode) (k_ : Nat) :
    (s.modMacNode i f).winWord k_ = s.winWord k_ := rfl

@[simp] theorem State.modMacNode_byte (s : State) (i : ℕ) (f : MacNode → MacNode) (k_ : Nat) :
    (s.modMacNode i f).byte k_ = s.byte k_ := rfl

/-- What `modMac` leaves as it was. -/
@[simp] theorem State.modMac_frame (s : State) (f : ℕ) (g : Mac → Mac) :
    (s.modMac f g).regs = s.regs ∧ (s.modMac f g).win = s.win ∧ (s.modMac f g).mem = s.mem ∧ (s.modMac f g).now = s.now ∧
    (s.modMac f g).sys = s.sys ∧ (s.modMac f g).pwr = s.pwr ∧ (s.modMac f g).rct = s.rct ∧ (s.modMac f g).tim = s.tim ∧
    (s.modMac f g).rtc = s.rtc ∧ (s.modMac f g).sns = s.sns ∧ (s.modMac f g).cen = s.cen ∧ (s.modMac f g).mfe = s.mfe ∧
    (s.modMac f g).chs = s.chs ∧ (s.modMac f g).lgt = s.lgt ∧ (s.modMac f g).mtr = s.mtr ∧ (s.modMac f g).stl = s.stl ∧
    (s.modMac f g).axe = s.axe ∧ (s.modMac f g).modems = s.modems ∧ (s.modMac f g).ntb = s.ntb ∧
    (s.modMac f g).yrd = s.yrd ∧ (s.modMac f g).sch = s.sch ∧ (s.modMac f g).ths = s.ths ∧ (s.modMac f g).tqu = s.tqu ∧
    (s.modMac f g).swx = s.swx ∧ (s.modMac f g).uplinks = s.uplinks ∧ (s.modMac f g).evr = s.evr ∧
    (s.modMac f g).kvt = s.kvt ∧ (s.modMac f g).upd = s.upd ∧ (s.modMac f g).trc = s.trc ∧ (s.modMac f g).twn = s.twn ∧
    (s.modMac f g).ksp = s.ksp ∧ (s.modMac f g).sent = s.sent ∧ (s.modMac f g).free = s.free ∧
    (s.modMac f g).pending = s.pending := by
  refine ⟨?_, ?_, ?_, ?_, ?_, ?_, ?_, ?_, ?_, ?_, ?_, ?_, ?_, ?_, ?_, ?_, ?_, ?_, ?_, ?_, ?_, ?_, ?_, ?_, ?_, ?_, ?_, ?_, ?_, ?_, ?_, ?_, ?_, ?_⟩ <;> rfl

@[simp] theorem State.modMac_reg (s : State) (f : ℕ) (g : Mac → Mac) (k_ : Nat) :
    (s.modMac f g).reg k_ = s.reg k_ := rfl

@[simp] theorem State.modMac_winWord (s : State) (f : ℕ) (g : Mac → Mac) (k_ : Nat) :
    (s.modMac f g).winWord k_ = s.winWord k_ := rfl

@[simp] theorem State.modMac_byte (s : State) (f : ℕ) (g : Mac → Mac) (k_ : Nat) :
    (s.modMac f g).byte k_ = s.byte k_ := rfl

/-- What `setCruise` leaves as it was. -/
@[simp] theorem State.setCruise_frame (s : State) (f : ℕ) (st : ℕ) :
    (s.setCruise f st).win = s.win ∧ (s.setCruise f st).mem = s.mem ∧ (s.setCruise f st).now = s.now ∧
    (s.setCruise f st).sys = s.sys ∧ (s.setCruise f st).pwr = s.pwr ∧ (s.setCruise f st).rct = s.rct ∧
    (s.setCruise f st).tim = s.tim ∧ (s.setCruise f st).rtc = s.rtc ∧ (s.setCruise f st).sns = s.sns ∧
    (s.setCruise f st).cen = s.cen ∧ (s.setCruise f st).mfe = s.mfe ∧ (s.setCruise f st).chs = s.chs ∧
    (s.setCruise f st).lgt = s.lgt ∧ (s.setCruise f st).mtr = s.mtr ∧ (s.setCruise f st).stl = s.stl ∧
    (s.setCruise f st).axe = s.axe ∧ (s.setCruise f st).modems = s.modems ∧ (s.setCruise f st).macs = s.macs ∧
    (s.setCruise f st).ntb = s.ntb ∧ (s.setCruise f st).yrd = s.yrd ∧ (s.setCruise f st).sch = s.sch ∧
    (s.setCruise f st).ths = s.ths ∧ (s.setCruise f st).tqu = s.tqu ∧ (s.setCruise f st).swx = s.swx ∧
    (s.setCruise f st).uplinks = s.uplinks ∧ (s.setCruise f st).evr = s.evr ∧ (s.setCruise f st).kvt = s.kvt ∧
    (s.setCruise f st).upd = s.upd ∧ (s.setCruise f st).trc = s.trc ∧ (s.setCruise f st).twn = s.twn ∧
    (s.setCruise f st).ksp = s.ksp ∧ (s.setCruise f st).sent = s.sent ∧ (s.setCruise f st).free = s.free ∧
    (s.setCruise f st).pending = s.pending := by
  unfold State.setCruise
  (repeat' split) <;> simp

@[simp] theorem State.setCruise_winWord (s : State) (f : ℕ) (st : ℕ) (k_ : Nat) :
    (s.setCruise f st).winWord k_ = s.winWord k_ := by unfold State.setCruise; (repeat' split) <;> first | rfl | simp

@[simp] theorem State.setCruise_byte (s : State) (f : ℕ) (st : ℕ) (k_ : Nat) :
    (s.setCruise f st).byte k_ = s.byte k_ := by unfold State.setCruise; (repeat' split) <;> first | rfl | simp

/-- What `modCruise` leaves as it was. -/
@[simp] theorem State.modCruise_frame (s : State) (f : ℕ) (g : Cruise → Cruise) :
    (s.modCruise f g).regs = s.regs ∧ (s.modCruise f g).win = s.win ∧ (s.modCruise f g).mem = s.mem ∧
    (s.modCruise f g).now = s.now ∧ (s.modCruise f g).sys = s.sys ∧ (s.modCruise f g).pwr = s.pwr ∧
    (s.modCruise f g).rct = s.rct ∧ (s.modCruise f g).tim = s.tim ∧ (s.modCruise f g).rtc = s.rtc ∧
    (s.modCruise f g).sns = s.sns ∧ (s.modCruise f g).cen = s.cen ∧ (s.modCruise f g).mfe = s.mfe ∧
    (s.modCruise f g).chs = s.chs ∧ (s.modCruise f g).lgt = s.lgt ∧ (s.modCruise f g).mtr = s.mtr ∧
    (s.modCruise f g).stl = s.stl ∧ (s.modCruise f g).axe = s.axe ∧ (s.modCruise f g).modems = s.modems ∧
    (s.modCruise f g).ntb = s.ntb ∧ (s.modCruise f g).yrd = s.yrd ∧ (s.modCruise f g).sch = s.sch ∧
    (s.modCruise f g).ths = s.ths ∧ (s.modCruise f g).tqu = s.tqu ∧ (s.modCruise f g).swx = s.swx ∧
    (s.modCruise f g).uplinks = s.uplinks ∧ (s.modCruise f g).evr = s.evr ∧ (s.modCruise f g).kvt = s.kvt ∧
    (s.modCruise f g).upd = s.upd ∧ (s.modCruise f g).trc = s.trc ∧ (s.modCruise f g).twn = s.twn ∧
    (s.modCruise f g).ksp = s.ksp ∧ (s.modCruise f g).sent = s.sent ∧ (s.modCruise f g).free = s.free ∧
    (s.modCruise f g).pending = s.pending := by
  unfold State.modCruise
  (repeat' split) <;> simp

@[simp] theorem State.modCruise_reg (s : State) (f : ℕ) (g : Cruise → Cruise) (k_ : Nat) :
    (s.modCruise f g).reg k_ = s.reg k_ := by unfold State.modCruise; (repeat' split) <;> first | rfl | simp

@[simp] theorem State.modCruise_winWord (s : State) (f : ℕ) (g : Cruise → Cruise) (k_ : Nat) :
    (s.modCruise f g).winWord k_ = s.winWord k_ := by unfold State.modCruise; (repeat' split) <;> first | rfl | simp

@[simp] theorem State.modCruise_byte (s : State) (f : ℕ) (g : Cruise → Cruise) (k_ : Nat) :
    (s.modCruise f g).byte k_ = s.byte k_ := by unfold State.modCruise; (repeat' split) <;> first | rfl | simp

/-- What `modYrd` leaves as it was. -/
@[simp] theorem State.modYrd_frame (s : State) (f : Yrd → Yrd) :
    (s.modYrd f).regs = s.regs ∧ (s.modYrd f).win = s.win ∧ (s.modYrd f).mem = s.mem ∧ (s.modYrd f).now = s.now ∧
    (s.modYrd f).sys = s.sys ∧ (s.modYrd f).pwr = s.pwr ∧ (s.modYrd f).rct = s.rct ∧ (s.modYrd f).tim = s.tim ∧
    (s.modYrd f).rtc = s.rtc ∧ (s.modYrd f).sns = s.sns ∧ (s.modYrd f).cen = s.cen ∧ (s.modYrd f).mfe = s.mfe ∧
    (s.modYrd f).chs = s.chs ∧ (s.modYrd f).lgt = s.lgt ∧ (s.modYrd f).mtr = s.mtr ∧ (s.modYrd f).stl = s.stl ∧
    (s.modYrd f).axe = s.axe ∧ (s.modYrd f).modems = s.modems ∧ (s.modYrd f).macs = s.macs ∧ (s.modYrd f).ntb = s.ntb ∧
    (s.modYrd f).sch = s.sch ∧ (s.modYrd f).ths = s.ths ∧ (s.modYrd f).tqu = s.tqu ∧ (s.modYrd f).swx = s.swx ∧
    (s.modYrd f).uplinks = s.uplinks ∧ (s.modYrd f).evr = s.evr ∧ (s.modYrd f).kvt = s.kvt ∧ (s.modYrd f).upd = s.upd ∧
    (s.modYrd f).trc = s.trc ∧ (s.modYrd f).twn = s.twn ∧ (s.modYrd f).ksp = s.ksp ∧ (s.modYrd f).sent = s.sent ∧
    (s.modYrd f).free = s.free ∧ (s.modYrd f).pending = s.pending := by
  refine ⟨?_, ?_, ?_, ?_, ?_, ?_, ?_, ?_, ?_, ?_, ?_, ?_, ?_, ?_, ?_, ?_, ?_, ?_, ?_, ?_, ?_, ?_, ?_, ?_, ?_, ?_, ?_, ?_, ?_, ?_, ?_, ?_, ?_, ?_⟩ <;> rfl

@[simp] theorem State.modYrd_yrd (s : State) (f : Yrd → Yrd) : (s.modYrd f).yrd = f s.yrd := rfl

@[simp] theorem State.modYrd_reg (s : State) (f : Yrd → Yrd) (k_ : Nat) : (s.modYrd f).reg k_ = s.reg k_ := rfl

@[simp] theorem State.modYrd_winWord (s : State) (f : Yrd → Yrd) (k_ : Nat) :
    (s.modYrd f).winWord k_ = s.winWord k_ := rfl

@[simp] theorem State.modYrd_byte (s : State) (f : Yrd → Yrd) (k_ : Nat) :
    (s.modYrd f).byte k_ = s.byte k_ := rfl

/-- What `modSch` leaves as it was. -/
@[simp] theorem State.modSch_frame (s : State) (f : Sch → Sch) :
    (s.modSch f).regs = s.regs ∧ (s.modSch f).win = s.win ∧ (s.modSch f).mem = s.mem ∧ (s.modSch f).now = s.now ∧
    (s.modSch f).sys = s.sys ∧ (s.modSch f).pwr = s.pwr ∧ (s.modSch f).rct = s.rct ∧ (s.modSch f).tim = s.tim ∧
    (s.modSch f).rtc = s.rtc ∧ (s.modSch f).sns = s.sns ∧ (s.modSch f).cen = s.cen ∧ (s.modSch f).mfe = s.mfe ∧
    (s.modSch f).chs = s.chs ∧ (s.modSch f).lgt = s.lgt ∧ (s.modSch f).mtr = s.mtr ∧ (s.modSch f).stl = s.stl ∧
    (s.modSch f).axe = s.axe ∧ (s.modSch f).modems = s.modems ∧ (s.modSch f).macs = s.macs ∧ (s.modSch f).ntb = s.ntb ∧
    (s.modSch f).yrd = s.yrd ∧ (s.modSch f).ths = s.ths ∧ (s.modSch f).tqu = s.tqu ∧ (s.modSch f).swx = s.swx ∧
    (s.modSch f).uplinks = s.uplinks ∧ (s.modSch f).evr = s.evr ∧ (s.modSch f).kvt = s.kvt ∧ (s.modSch f).upd = s.upd ∧
    (s.modSch f).trc = s.trc ∧ (s.modSch f).twn = s.twn ∧ (s.modSch f).ksp = s.ksp ∧ (s.modSch f).sent = s.sent ∧
    (s.modSch f).free = s.free ∧ (s.modSch f).pending = s.pending := by
  refine ⟨?_, ?_, ?_, ?_, ?_, ?_, ?_, ?_, ?_, ?_, ?_, ?_, ?_, ?_, ?_, ?_, ?_, ?_, ?_, ?_, ?_, ?_, ?_, ?_, ?_, ?_, ?_, ?_, ?_, ?_, ?_, ?_, ?_, ?_⟩ <;> rfl

@[simp] theorem State.modSch_sch (s : State) (f : Sch → Sch) : (s.modSch f).sch = f s.sch := rfl

@[simp] theorem State.modSch_reg (s : State) (f : Sch → Sch) (k_ : Nat) : (s.modSch f).reg k_ = s.reg k_ := rfl

@[simp] theorem State.modSch_winWord (s : State) (f : Sch → Sch) (k_ : Nat) :
    (s.modSch f).winWord k_ = s.winWord k_ := rfl

@[simp] theorem State.modSch_byte (s : State) (f : Sch → Sch) (k_ : Nat) :
    (s.modSch f).byte k_ = s.byte k_ := rfl

/-- What `setLamp` leaves as it was. -/
@[simp] theorem State.setLamp_frame (s : State) (e : ℕ) (l : Lamp) :
    (s.setLamp e l).regs = s.regs ∧ (s.setLamp e l).win = s.win ∧ (s.setLamp e l).mem = s.mem ∧
    (s.setLamp e l).now = s.now ∧ (s.setLamp e l).sys = s.sys ∧ (s.setLamp e l).pwr = s.pwr ∧
    (s.setLamp e l).rct = s.rct ∧ (s.setLamp e l).tim = s.tim ∧ (s.setLamp e l).rtc = s.rtc ∧
    (s.setLamp e l).sns = s.sns ∧ (s.setLamp e l).cen = s.cen ∧ (s.setLamp e l).mfe = s.mfe ∧
    (s.setLamp e l).chs = s.chs ∧ (s.setLamp e l).lgt = s.lgt ∧ (s.setLamp e l).mtr = s.mtr ∧
    (s.setLamp e l).stl = s.stl ∧ (s.setLamp e l).axe = s.axe ∧ (s.setLamp e l).modems = s.modems ∧
    (s.setLamp e l).macs = s.macs ∧ (s.setLamp e l).ntb = s.ntb ∧ (s.setLamp e l).sch = s.sch ∧
    (s.setLamp e l).ths = s.ths ∧ (s.setLamp e l).tqu = s.tqu ∧ (s.setLamp e l).swx = s.swx ∧
    (s.setLamp e l).uplinks = s.uplinks ∧ (s.setLamp e l).evr = s.evr ∧ (s.setLamp e l).kvt = s.kvt ∧
    (s.setLamp e l).upd = s.upd ∧ (s.setLamp e l).trc = s.trc ∧ (s.setLamp e l).twn = s.twn ∧
    (s.setLamp e l).ksp = s.ksp ∧ (s.setLamp e l).sent = s.sent ∧ (s.setLamp e l).free = s.free ∧
    (s.setLamp e l).pending = s.pending := by
  unfold State.setLamp
  (repeat' split) <;> simp

@[simp] theorem State.setLamp_reg (s : State) (e : ℕ) (l : Lamp) (k_ : Nat) :
    (s.setLamp e l).reg k_ = s.reg k_ := by unfold State.setLamp; (repeat' split) <;> first | rfl | simp

@[simp] theorem State.setLamp_winWord (s : State) (e : ℕ) (l : Lamp) (k_ : Nat) :
    (s.setLamp e l).winWord k_ = s.winWord k_ := by unfold State.setLamp; (repeat' split) <;> first | rfl | simp

@[simp] theorem State.setLamp_byte (s : State) (e : ℕ) (l : Lamp) (k_ : Nat) :
    (s.setLamp e l).byte k_ = s.byte k_ := by unfold State.setLamp; (repeat' split) <;> first | rfl | simp

/-- What `modSwx` leaves as it was. -/
@[simp] theorem State.modSwx_frame (s : State) (g : Swx → Swx) :
    (s.modSwx g).regs = s.regs ∧ (s.modSwx g).win = s.win ∧ (s.modSwx g).mem = s.mem ∧ (s.modSwx g).now = s.now ∧
    (s.modSwx g).sys = s.sys ∧ (s.modSwx g).pwr = s.pwr ∧ (s.modSwx g).rct = s.rct ∧ (s.modSwx g).tim = s.tim ∧
    (s.modSwx g).rtc = s.rtc ∧ (s.modSwx g).sns = s.sns ∧ (s.modSwx g).cen = s.cen ∧ (s.modSwx g).mfe = s.mfe ∧
    (s.modSwx g).chs = s.chs ∧ (s.modSwx g).lgt = s.lgt ∧ (s.modSwx g).mtr = s.mtr ∧ (s.modSwx g).stl = s.stl ∧
    (s.modSwx g).axe = s.axe ∧ (s.modSwx g).modems = s.modems ∧ (s.modSwx g).macs = s.macs ∧ (s.modSwx g).ntb = s.ntb ∧
    (s.modSwx g).yrd = s.yrd ∧ (s.modSwx g).sch = s.sch ∧ (s.modSwx g).ths = s.ths ∧ (s.modSwx g).tqu = s.tqu ∧
    (s.modSwx g).uplinks = s.uplinks ∧ (s.modSwx g).evr = s.evr ∧ (s.modSwx g).kvt = s.kvt ∧ (s.modSwx g).upd = s.upd ∧
    (s.modSwx g).trc = s.trc ∧ (s.modSwx g).twn = s.twn ∧ (s.modSwx g).ksp = s.ksp ∧ (s.modSwx g).sent = s.sent ∧
    (s.modSwx g).free = s.free ∧ (s.modSwx g).pending = s.pending := by
  refine ⟨?_, ?_, ?_, ?_, ?_, ?_, ?_, ?_, ?_, ?_, ?_, ?_, ?_, ?_, ?_, ?_, ?_, ?_, ?_, ?_, ?_, ?_, ?_, ?_, ?_, ?_, ?_, ?_, ?_, ?_, ?_, ?_, ?_, ?_⟩ <;> rfl

@[simp] theorem State.modSwx_swx (s : State) (g : Swx → Swx) : (s.modSwx f).swx = f s.swx := rfl

@[simp] theorem State.modSwx_reg (s : State) (g : Swx → Swx) (k_ : Nat) : (s.modSwx g).reg k_ = s.reg k_ := rfl

@[simp] theorem State.modSwx_winWord (s : State) (g : Swx → Swx) (k_ : Nat) :
    (s.modSwx g).winWord k_ = s.winWord k_ := rfl

@[simp] theorem State.modSwx_byte (s : State) (g : Swx → Swx) (k_ : Nat) :
    (s.modSwx g).byte k_ = s.byte k_ := rfl

/-- What `modFlow` leaves as it was. -/
@[simp] theorem State.modFlow_frame (s : State) (f : ℕ) (g : SwFlow → SwFlow) :
    (s.modFlow f g).regs = s.regs ∧ (s.modFlow f g).win = s.win ∧ (s.modFlow f g).mem = s.mem ∧
    (s.modFlow f g).now = s.now ∧ (s.modFlow f g).sys = s.sys ∧ (s.modFlow f g).pwr = s.pwr ∧
    (s.modFlow f g).rct = s.rct ∧ (s.modFlow f g).tim = s.tim ∧ (s.modFlow f g).rtc = s.rtc ∧
    (s.modFlow f g).sns = s.sns ∧ (s.modFlow f g).cen = s.cen ∧ (s.modFlow f g).mfe = s.mfe ∧
    (s.modFlow f g).chs = s.chs ∧ (s.modFlow f g).lgt = s.lgt ∧ (s.modFlow f g).mtr = s.mtr ∧
    (s.modFlow f g).stl = s.stl ∧ (s.modFlow f g).axe = s.axe ∧ (s.modFlow f g).modems = s.modems ∧
    (s.modFlow f g).macs = s.macs ∧ (s.modFlow f g).ntb = s.ntb ∧ (s.modFlow f g).yrd = s.yrd ∧
    (s.modFlow f g).sch = s.sch ∧ (s.modFlow f g).ths = s.ths ∧ (s.modFlow f g).tqu = s.tqu ∧
    (s.modFlow f g).uplinks = s.uplinks ∧ (s.modFlow f g).evr = s.evr ∧ (s.modFlow f g).kvt = s.kvt ∧
    (s.modFlow f g).upd = s.upd ∧ (s.modFlow f g).trc = s.trc ∧ (s.modFlow f g).twn = s.twn ∧
    (s.modFlow f g).ksp = s.ksp ∧ (s.modFlow f g).sent = s.sent ∧ (s.modFlow f g).free = s.free ∧
    (s.modFlow f g).pending = s.pending := by
  unfold State.modFlow
  (repeat' split) <;> simp

@[simp] theorem State.modFlow_reg (s : State) (f : ℕ) (g : SwFlow → SwFlow) (k_ : Nat) :
    (s.modFlow f g).reg k_ = s.reg k_ := by unfold State.modFlow; (repeat' split) <;> first | rfl | simp

@[simp] theorem State.modFlow_winWord (s : State) (f : ℕ) (g : SwFlow → SwFlow) (k_ : Nat) :
    (s.modFlow f g).winWord k_ = s.winWord k_ := by unfold State.modFlow; (repeat' split) <;> first | rfl | simp

@[simp] theorem State.modFlow_byte (s : State) (f : ℕ) (g : SwFlow → SwFlow) (k_ : Nat) :
    (s.modFlow f g).byte k_ = s.byte k_ := by unfold State.modFlow; (repeat' split) <;> first | rfl | simp

/-- What `modUplink` leaves as it was. -/
@[simp] theorem State.modUplink_frame (s : State) (u : ℕ) (g : Uplink → Uplink) :
    (s.modUplink u g).regs = s.regs ∧ (s.modUplink u g).win = s.win ∧ (s.modUplink u g).mem = s.mem ∧
    (s.modUplink u g).now = s.now ∧ (s.modUplink u g).sys = s.sys ∧ (s.modUplink u g).pwr = s.pwr ∧
    (s.modUplink u g).rct = s.rct ∧ (s.modUplink u g).tim = s.tim ∧ (s.modUplink u g).rtc = s.rtc ∧
    (s.modUplink u g).sns = s.sns ∧ (s.modUplink u g).cen = s.cen ∧ (s.modUplink u g).mfe = s.mfe ∧
    (s.modUplink u g).chs = s.chs ∧ (s.modUplink u g).lgt = s.lgt ∧ (s.modUplink u g).mtr = s.mtr ∧
    (s.modUplink u g).stl = s.stl ∧ (s.modUplink u g).axe = s.axe ∧ (s.modUplink u g).modems = s.modems ∧
    (s.modUplink u g).macs = s.macs ∧ (s.modUplink u g).ntb = s.ntb ∧ (s.modUplink u g).yrd = s.yrd ∧
    (s.modUplink u g).sch = s.sch ∧ (s.modUplink u g).ths = s.ths ∧ (s.modUplink u g).tqu = s.tqu ∧
    (s.modUplink u g).swx = s.swx ∧ (s.modUplink u g).evr = s.evr ∧ (s.modUplink u g).kvt = s.kvt ∧
    (s.modUplink u g).upd = s.upd ∧ (s.modUplink u g).trc = s.trc ∧ (s.modUplink u g).twn = s.twn ∧
    (s.modUplink u g).ksp = s.ksp ∧ (s.modUplink u g).sent = s.sent ∧ (s.modUplink u g).free = s.free ∧
    (s.modUplink u g).pending = s.pending := by
  refine ⟨?_, ?_, ?_, ?_, ?_, ?_, ?_, ?_, ?_, ?_, ?_, ?_, ?_, ?_, ?_, ?_, ?_, ?_, ?_, ?_, ?_, ?_, ?_, ?_, ?_, ?_, ?_, ?_, ?_, ?_, ?_, ?_, ?_, ?_⟩ <;> rfl

@[simp] theorem State.modUplink_reg (s : State) (u : ℕ) (g : Uplink → Uplink) (k_ : Nat) :
    (s.modUplink u g).reg k_ = s.reg k_ := rfl

@[simp] theorem State.modUplink_winWord (s : State) (u : ℕ) (g : Uplink → Uplink) (k_ : Nat) :
    (s.modUplink u g).winWord k_ = s.winWord k_ := rfl

@[simp] theorem State.modUplink_byte (s : State) (u : ℕ) (g : Uplink → Uplink) (k_ : Nat) :
    (s.modUplink u g).byte k_ = s.byte k_ := rfl

/-- What `modEvr` leaves as it was. -/
@[simp] theorem State.modEvr_frame (s : State) (f : Evr → Evr) :
    (s.modEvr f).regs = s.regs ∧ (s.modEvr f).win = s.win ∧ (s.modEvr f).mem = s.mem ∧ (s.modEvr f).now = s.now ∧
    (s.modEvr f).sys = s.sys ∧ (s.modEvr f).pwr = s.pwr ∧ (s.modEvr f).rct = s.rct ∧ (s.modEvr f).tim = s.tim ∧
    (s.modEvr f).rtc = s.rtc ∧ (s.modEvr f).sns = s.sns ∧ (s.modEvr f).cen = s.cen ∧ (s.modEvr f).mfe = s.mfe ∧
    (s.modEvr f).chs = s.chs ∧ (s.modEvr f).lgt = s.lgt ∧ (s.modEvr f).mtr = s.mtr ∧ (s.modEvr f).stl = s.stl ∧
    (s.modEvr f).axe = s.axe ∧ (s.modEvr f).modems = s.modems ∧ (s.modEvr f).macs = s.macs ∧ (s.modEvr f).ntb = s.ntb ∧
    (s.modEvr f).yrd = s.yrd ∧ (s.modEvr f).sch = s.sch ∧ (s.modEvr f).ths = s.ths ∧ (s.modEvr f).tqu = s.tqu ∧
    (s.modEvr f).swx = s.swx ∧ (s.modEvr f).uplinks = s.uplinks ∧ (s.modEvr f).kvt = s.kvt ∧ (s.modEvr f).upd = s.upd ∧
    (s.modEvr f).trc = s.trc ∧ (s.modEvr f).twn = s.twn ∧ (s.modEvr f).ksp = s.ksp ∧ (s.modEvr f).sent = s.sent ∧
    (s.modEvr f).free = s.free ∧ (s.modEvr f).pending = s.pending := by
  refine ⟨?_, ?_, ?_, ?_, ?_, ?_, ?_, ?_, ?_, ?_, ?_, ?_, ?_, ?_, ?_, ?_, ?_, ?_, ?_, ?_, ?_, ?_, ?_, ?_, ?_, ?_, ?_, ?_, ?_, ?_, ?_, ?_, ?_, ?_⟩ <;> rfl

@[simp] theorem State.modEvr_evr (s : State) (f : Evr → Evr) : (s.modEvr f).evr = f s.evr := rfl

@[simp] theorem State.modEvr_reg (s : State) (f : Evr → Evr) (k_ : Nat) : (s.modEvr f).reg k_ = s.reg k_ := rfl

@[simp] theorem State.modEvr_winWord (s : State) (f : Evr → Evr) (k_ : Nat) :
    (s.modEvr f).winWord k_ = s.winWord k_ := rfl

@[simp] theorem State.modEvr_byte (s : State) (f : Evr → Evr) (k_ : Nat) :
    (s.modEvr f).byte k_ = s.byte k_ := rfl

/-- What `modUpd` leaves as it was. -/
@[simp] theorem State.modUpd_frame (s : State) (f : Upd → Upd) :
    (s.modUpd f).regs = s.regs ∧ (s.modUpd f).win = s.win ∧ (s.modUpd f).mem = s.mem ∧ (s.modUpd f).now = s.now ∧
    (s.modUpd f).sys = s.sys ∧ (s.modUpd f).pwr = s.pwr ∧ (s.modUpd f).rct = s.rct ∧ (s.modUpd f).tim = s.tim ∧
    (s.modUpd f).rtc = s.rtc ∧ (s.modUpd f).sns = s.sns ∧ (s.modUpd f).cen = s.cen ∧ (s.modUpd f).mfe = s.mfe ∧
    (s.modUpd f).chs = s.chs ∧ (s.modUpd f).lgt = s.lgt ∧ (s.modUpd f).mtr = s.mtr ∧ (s.modUpd f).stl = s.stl ∧
    (s.modUpd f).axe = s.axe ∧ (s.modUpd f).modems = s.modems ∧ (s.modUpd f).macs = s.macs ∧ (s.modUpd f).ntb = s.ntb ∧
    (s.modUpd f).yrd = s.yrd ∧ (s.modUpd f).sch = s.sch ∧ (s.modUpd f).ths = s.ths ∧ (s.modUpd f).tqu = s.tqu ∧
    (s.modUpd f).swx = s.swx ∧ (s.modUpd f).uplinks = s.uplinks ∧ (s.modUpd f).evr = s.evr ∧ (s.modUpd f).kvt = s.kvt ∧
    (s.modUpd f).trc = s.trc ∧ (s.modUpd f).twn = s.twn ∧ (s.modUpd f).ksp = s.ksp ∧ (s.modUpd f).sent = s.sent ∧
    (s.modUpd f).free = s.free ∧ (s.modUpd f).pending = s.pending := by
  refine ⟨?_, ?_, ?_, ?_, ?_, ?_, ?_, ?_, ?_, ?_, ?_, ?_, ?_, ?_, ?_, ?_, ?_, ?_, ?_, ?_, ?_, ?_, ?_, ?_, ?_, ?_, ?_, ?_, ?_, ?_, ?_, ?_, ?_, ?_⟩ <;> rfl

@[simp] theorem State.modUpd_upd (s : State) (f : Upd → Upd) : (s.modUpd f).upd = f s.upd := rfl

@[simp] theorem State.modUpd_reg (s : State) (f : Upd → Upd) (k_ : Nat) : (s.modUpd f).reg k_ = s.reg k_ := rfl

@[simp] theorem State.modUpd_winWord (s : State) (f : Upd → Upd) (k_ : Nat) :
    (s.modUpd f).winWord k_ = s.winWord k_ := rfl

@[simp] theorem State.modUpd_byte (s : State) (f : Upd → Upd) (k_ : Nat) :
    (s.modUpd f).byte k_ = s.byte k_ := rfl

/-- What `modMtr` leaves as it was. -/
@[simp] theorem State.modMtr_frame (s : State) (f : Mtr → Mtr) :
    (s.modMtr f).regs = s.regs ∧ (s.modMtr f).win = s.win ∧ (s.modMtr f).mem = s.mem ∧ (s.modMtr f).now = s.now ∧
    (s.modMtr f).sys = s.sys ∧ (s.modMtr f).pwr = s.pwr ∧ (s.modMtr f).rct = s.rct ∧ (s.modMtr f).tim = s.tim ∧
    (s.modMtr f).rtc = s.rtc ∧ (s.modMtr f).sns = s.sns ∧ (s.modMtr f).cen = s.cen ∧ (s.modMtr f).mfe = s.mfe ∧
    (s.modMtr f).chs = s.chs ∧ (s.modMtr f).lgt = s.lgt ∧ (s.modMtr f).stl = s.stl ∧ (s.modMtr f).axe = s.axe ∧
    (s.modMtr f).modems = s.modems ∧ (s.modMtr f).macs = s.macs ∧ (s.modMtr f).ntb = s.ntb ∧ (s.modMtr f).yrd = s.yrd ∧
    (s.modMtr f).sch = s.sch ∧ (s.modMtr f).ths = s.ths ∧ (s.modMtr f).tqu = s.tqu ∧ (s.modMtr f).swx = s.swx ∧
    (s.modMtr f).uplinks = s.uplinks ∧ (s.modMtr f).evr = s.evr ∧ (s.modMtr f).kvt = s.kvt ∧ (s.modMtr f).upd = s.upd ∧
    (s.modMtr f).trc = s.trc ∧ (s.modMtr f).twn = s.twn ∧ (s.modMtr f).ksp = s.ksp ∧ (s.modMtr f).sent = s.sent ∧
    (s.modMtr f).free = s.free ∧ (s.modMtr f).pending = s.pending := by
  refine ⟨?_, ?_, ?_, ?_, ?_, ?_, ?_, ?_, ?_, ?_, ?_, ?_, ?_, ?_, ?_, ?_, ?_, ?_, ?_, ?_, ?_, ?_, ?_, ?_, ?_, ?_, ?_, ?_, ?_, ?_, ?_, ?_, ?_, ?_⟩ <;> rfl

@[simp] theorem State.modMtr_mtr (s : State) (f : Mtr → Mtr) : (s.modMtr f).mtr = f s.mtr := rfl

@[simp] theorem State.modMtr_reg (s : State) (f : Mtr → Mtr) (k_ : Nat) : (s.modMtr f).reg k_ = s.reg k_ := rfl

@[simp] theorem State.modMtr_winWord (s : State) (f : Mtr → Mtr) (k_ : Nat) :
    (s.modMtr f).winWord k_ = s.winWord k_ := rfl

@[simp] theorem State.modMtr_byte (s : State) (f : Mtr → Mtr) (k_ : Nat) :
    (s.modMtr f).byte k_ = s.byte k_ := rfl

/-- What `modPair` leaves as it was. -/
@[simp] theorem State.modPair_frame (s : State) (p : ℕ) (f : MtrPair → MtrPair) :
    (s.modPair p f).regs = s.regs ∧ (s.modPair p f).win = s.win ∧ (s.modPair p f).mem = s.mem ∧
    (s.modPair p f).now = s.now ∧ (s.modPair p f).sys = s.sys ∧ (s.modPair p f).pwr = s.pwr ∧
    (s.modPair p f).rct = s.rct ∧ (s.modPair p f).tim = s.tim ∧ (s.modPair p f).rtc = s.rtc ∧
    (s.modPair p f).sns = s.sns ∧ (s.modPair p f).cen = s.cen ∧ (s.modPair p f).mfe = s.mfe ∧
    (s.modPair p f).chs = s.chs ∧ (s.modPair p f).lgt = s.lgt ∧ (s.modPair p f).stl = s.stl ∧
    (s.modPair p f).axe = s.axe ∧ (s.modPair p f).modems = s.modems ∧ (s.modPair p f).macs = s.macs ∧
    (s.modPair p f).ntb = s.ntb ∧ (s.modPair p f).yrd = s.yrd ∧ (s.modPair p f).sch = s.sch ∧
    (s.modPair p f).ths = s.ths ∧ (s.modPair p f).tqu = s.tqu ∧ (s.modPair p f).swx = s.swx ∧
    (s.modPair p f).uplinks = s.uplinks ∧ (s.modPair p f).evr = s.evr ∧ (s.modPair p f).kvt = s.kvt ∧
    (s.modPair p f).upd = s.upd ∧ (s.modPair p f).trc = s.trc ∧ (s.modPair p f).twn = s.twn ∧
    (s.modPair p f).ksp = s.ksp ∧ (s.modPair p f).sent = s.sent ∧ (s.modPair p f).free = s.free ∧
    (s.modPair p f).pending = s.pending := by
  unfold State.modPair
  (repeat' split) <;> simp

@[simp] theorem State.modPair_reg (s : State) (p : ℕ) (f : MtrPair → MtrPair) (k_ : Nat) :
    (s.modPair p f).reg k_ = s.reg k_ := by unfold State.modPair; (repeat' split) <;> first | rfl | simp

@[simp] theorem State.modPair_winWord (s : State) (p : ℕ) (f : MtrPair → MtrPair) (k_ : Nat) :
    (s.modPair p f).winWord k_ = s.winWord k_ := by unfold State.modPair; (repeat' split) <;> first | rfl | simp

@[simp] theorem State.modPair_byte (s : State) (p : ℕ) (f : MtrPair → MtrPair) (k_ : Nat) :
    (s.modPair p f).byte k_ = s.byte k_ := by unfold State.modPair; (repeat' split) <;> first | rfl | simp

/-- What `modSet` leaves as it was. -/
@[simp] theorem State.modSet_frame (s : State) (f : MtrSet → MtrSet) :
    (s.modSet f).regs = s.regs ∧ (s.modSet f).win = s.win ∧ (s.modSet f).mem = s.mem ∧ (s.modSet f).now = s.now ∧
    (s.modSet f).sys = s.sys ∧ (s.modSet f).pwr = s.pwr ∧ (s.modSet f).rct = s.rct ∧ (s.modSet f).tim = s.tim ∧
    (s.modSet f).rtc = s.rtc ∧ (s.modSet f).sns = s.sns ∧ (s.modSet f).cen = s.cen ∧ (s.modSet f).mfe = s.mfe ∧
    (s.modSet f).chs = s.chs ∧ (s.modSet f).lgt = s.lgt ∧ (s.modSet f).stl = s.stl ∧ (s.modSet f).axe = s.axe ∧
    (s.modSet f).modems = s.modems ∧ (s.modSet f).macs = s.macs ∧ (s.modSet f).ntb = s.ntb ∧ (s.modSet f).yrd = s.yrd ∧
    (s.modSet f).sch = s.sch ∧ (s.modSet f).ths = s.ths ∧ (s.modSet f).tqu = s.tqu ∧ (s.modSet f).swx = s.swx ∧
    (s.modSet f).uplinks = s.uplinks ∧ (s.modSet f).evr = s.evr ∧ (s.modSet f).kvt = s.kvt ∧ (s.modSet f).upd = s.upd ∧
    (s.modSet f).trc = s.trc ∧ (s.modSet f).twn = s.twn ∧ (s.modSet f).ksp = s.ksp ∧ (s.modSet f).sent = s.sent ∧
    (s.modSet f).free = s.free ∧ (s.modSet f).pending = s.pending := by
  unfold State.modSet
  (repeat' split) <;> simp

@[simp] theorem State.modSet_reg (s : State) (f : MtrSet → MtrSet) (k_ : Nat) :
    (s.modSet f).reg k_ = s.reg k_ := by unfold State.modSet; (repeat' split) <;> first | rfl | simp

@[simp] theorem State.modSet_winWord (s : State) (f : MtrSet → MtrSet) (k_ : Nat) :
    (s.modSet f).winWord k_ = s.winWord k_ := by unfold State.modSet; (repeat' split) <;> first | rfl | simp

@[simp] theorem State.modSet_byte (s : State) (f : MtrSet → MtrSet) (k_ : Nat) :
    (s.modSet f).byte k_ = s.byte k_ := by unfold State.modSet; (repeat' split) <;> first | rfl | simp

/-- What `modPwr` leaves as it was. -/
@[simp] theorem State.modPwr_frame (s : State) (f : Pwr → Pwr) :
    (s.modPwr f).regs = s.regs ∧ (s.modPwr f).win = s.win ∧ (s.modPwr f).mem = s.mem ∧ (s.modPwr f).now = s.now ∧
    (s.modPwr f).sys = s.sys ∧ (s.modPwr f).rct = s.rct ∧ (s.modPwr f).tim = s.tim ∧ (s.modPwr f).rtc = s.rtc ∧
    (s.modPwr f).sns = s.sns ∧ (s.modPwr f).cen = s.cen ∧ (s.modPwr f).mfe = s.mfe ∧ (s.modPwr f).chs = s.chs ∧
    (s.modPwr f).lgt = s.lgt ∧ (s.modPwr f).mtr = s.mtr ∧ (s.modPwr f).stl = s.stl ∧ (s.modPwr f).axe = s.axe ∧
    (s.modPwr f).modems = s.modems ∧ (s.modPwr f).macs = s.macs ∧ (s.modPwr f).ntb = s.ntb ∧ (s.modPwr f).yrd = s.yrd ∧
    (s.modPwr f).sch = s.sch ∧ (s.modPwr f).ths = s.ths ∧ (s.modPwr f).tqu = s.tqu ∧ (s.modPwr f).swx = s.swx ∧
    (s.modPwr f).uplinks = s.uplinks ∧ (s.modPwr f).evr = s.evr ∧ (s.modPwr f).kvt = s.kvt ∧ (s.modPwr f).upd = s.upd ∧
    (s.modPwr f).trc = s.trc ∧ (s.modPwr f).twn = s.twn ∧ (s.modPwr f).ksp = s.ksp ∧ (s.modPwr f).sent = s.sent ∧
    (s.modPwr f).free = s.free ∧ (s.modPwr f).pending = s.pending := by
  refine ⟨?_, ?_, ?_, ?_, ?_, ?_, ?_, ?_, ?_, ?_, ?_, ?_, ?_, ?_, ?_, ?_, ?_, ?_, ?_, ?_, ?_, ?_, ?_, ?_, ?_, ?_, ?_, ?_, ?_, ?_, ?_, ?_, ?_, ?_⟩ <;> rfl

@[simp] theorem State.modPwr_pwr (s : State) (f : Pwr → Pwr) : (s.modPwr f).pwr = f s.pwr := rfl

@[simp] theorem State.modPwr_reg (s : State) (f : Pwr → Pwr) (k_ : Nat) : (s.modPwr f).reg k_ = s.reg k_ := rfl

@[simp] theorem State.modPwr_winWord (s : State) (f : Pwr → Pwr) (k_ : Nat) :
    (s.modPwr f).winWord k_ = s.winWord k_ := rfl

@[simp] theorem State.modPwr_byte (s : State) (f : Pwr → Pwr) (k_ : Nat) :
    (s.modPwr f).byte k_ = s.byte k_ := rfl

/-- What `modTwn` leaves as it was. -/
@[simp] theorem State.modTwn_frame (s : State) (f : Twn → Twn) :
    (s.modTwn f).regs = s.regs ∧ (s.modTwn f).win = s.win ∧ (s.modTwn f).mem = s.mem ∧ (s.modTwn f).now = s.now ∧
    (s.modTwn f).sys = s.sys ∧ (s.modTwn f).pwr = s.pwr ∧ (s.modTwn f).rct = s.rct ∧ (s.modTwn f).tim = s.tim ∧
    (s.modTwn f).rtc = s.rtc ∧ (s.modTwn f).sns = s.sns ∧ (s.modTwn f).cen = s.cen ∧ (s.modTwn f).mfe = s.mfe ∧
    (s.modTwn f).chs = s.chs ∧ (s.modTwn f).lgt = s.lgt ∧ (s.modTwn f).mtr = s.mtr ∧ (s.modTwn f).stl = s.stl ∧
    (s.modTwn f).axe = s.axe ∧ (s.modTwn f).modems = s.modems ∧ (s.modTwn f).macs = s.macs ∧ (s.modTwn f).ntb = s.ntb ∧
    (s.modTwn f).yrd = s.yrd ∧ (s.modTwn f).sch = s.sch ∧ (s.modTwn f).ths = s.ths ∧ (s.modTwn f).tqu = s.tqu ∧
    (s.modTwn f).swx = s.swx ∧ (s.modTwn f).uplinks = s.uplinks ∧ (s.modTwn f).evr = s.evr ∧ (s.modTwn f).kvt = s.kvt ∧
    (s.modTwn f).upd = s.upd ∧ (s.modTwn f).trc = s.trc ∧ (s.modTwn f).ksp = s.ksp ∧ (s.modTwn f).sent = s.sent ∧
    (s.modTwn f).free = s.free ∧ (s.modTwn f).pending = s.pending := by
  refine ⟨?_, ?_, ?_, ?_, ?_, ?_, ?_, ?_, ?_, ?_, ?_, ?_, ?_, ?_, ?_, ?_, ?_, ?_, ?_, ?_, ?_, ?_, ?_, ?_, ?_, ?_, ?_, ?_, ?_, ?_, ?_, ?_, ?_, ?_⟩ <;> rfl

@[simp] theorem State.modTwn_twn (s : State) (f : Twn → Twn) : (s.modTwn f).twn = f s.twn := rfl

@[simp] theorem State.modTwn_reg (s : State) (f : Twn → Twn) (k_ : Nat) : (s.modTwn f).reg k_ = s.reg k_ := rfl

@[simp] theorem State.modTwn_winWord (s : State) (f : Twn → Twn) (k_ : Nat) :
    (s.modTwn f).winWord k_ = s.winWord k_ := rfl

@[simp] theorem State.modTwn_byte (s : State) (f : Twn → Twn) (k_ : Nat) :
    (s.modTwn f).byte k_ = s.byte k_ := rfl

end Sys2Proof.Machine
end

