-- ==== Sys2Proof/Laws/Ops.lean ====
section
/-!
SUPPORT. What the shared operations do: registers, windows and bytes after a write, interrupts, the log, and the end of a
write on the fabric.
-/

namespace Sys2Proof.Machine

/-! ### Registers -/

@[simp] theorem State.reg_setReg (s : State) (a : Nat) (w : Word) (b : Nat) :
    (s.setReg a w).reg b = if b = a then w else s.reg b := Tab.get_put _ _ _ _ _

@[simp] theorem State.reg_modReg (s : State) (a : Nat) (f : Word → Word) (b : Nat) :
    (s.modReg a f).reg b = if b = a then f (s.reg a) else s.reg b := by simp [State.modReg]

@[simp] theorem State.reg_setFld (s : State) (a hi lo v b : Nat) :
    (s.setFld a hi lo v).reg b = if b = a then putBits (s.reg a) hi lo v else s.reg b := by simp [State.setFld]

@[simp] theorem State.reg_setRbit (s : State) (a i : Nat) (v : Bool) (b : Nat) :
    (s.setRbit a i v).reg b = if b = a then putBit (s.reg a) i v else s.reg b := by simp [State.setRbit]

@[simp] theorem State.reg_incLo (s : State) (a b : Nat) :
    (s.incLo a).reg b = if b = a then incLow (s.reg a) else s.reg b := by simp [State.incLo]

@[simp] theorem State.reg_incHi (s : State) (a b : Nat) :
    (s.incHi a).reg b = if b = a then incHigh (s.reg a) else s.reg b := by simp [State.incHi]

@[simp] theorem State.reg_incReg (s : State) (a b : Nat) :
    (s.incReg a).reg b = if b = a then s.reg a + 1 else s.reg b := by simp [State.incReg]

@[simp] theorem State.reg_setReg64 (s : State) (lo hi : Nat) (v : Stamp) (b : Nat) :
    (s.setReg64 lo hi v).reg b = if b = hi then hi32 v else if b = lo then lo32 v else s.reg b := by
  simp [State.setReg64]

/-- Fields and bits of a register are those of its word. -/
theorem State.fld_def (s : State) (a hi lo : Nat) : s.fld a hi lo = bits (s.reg a) hi lo := rfl

theorem State.rbit_def (s : State) (a i : Nat) : s.rbit a i = bit (s.reg a) i := rfl

/-! ### Windows and bytes -/

@[simp] theorem State.winWord_setWin (s : State) (a : Nat) (w : Word) (b : Nat) :
    (s.setWin a w).winWord b = if b = a then w else s.winWord b := Tab.get_put _ _ _ _ _

@[simp] theorem State.byte_setByte (s : State) (a : Nat) (v : Byte) (b : Nat) :
    (s.setByte a v).byte b = if b = a then v else s.byte b := Tab.get_put _ _ _ _ _

/-- A byte outside the bytes written reads as before. -/
theorem State.byte_setBytes_other (s : State) (a : Nat) (l : List Byte) (b : Nat) (h : b < a ∨ a + l.length ≤ b) :
    (s.setBytes a l).byte b = s.byte b := Tab.get_putAll_other _ _ _ _ _ h

/-- A byte inside the bytes written reads as the byte of its place. -/
theorem State.byte_setBytes_in (s : State) (a : Nat) (l : List Byte) (i : Nat) (h : i < l.length) :
    (s.setBytes a l).byte (a + i) = l[i] := Tab.get_putAll_in _ _ _ _ _ h

/-! ### Interrupts, the log, the trace unit -/

@[simp] theorem State.reg_raise (s : State) (p i b : Nat) :
    (s.raise p i).reg b = if b = regINT_FLAG p then putBit (s.reg b) i true else s.reg b := by
  simp only [State.raise, State.noteEdge_reg, State.reg_setRbit]
  split <;> simp_all

theorem State.reg_suppressLog (s : State) (c : Nat) (at_ : Stamp) (b : Nat) (h : b ≠ EVR.CNT) :
    (s.suppressLog c at_).reg b = s.reg b := by simp [State.suppressLog, h]

/-- Entering an event touches no register but the log's two counts. -/
theorem State.reg_logAt (s : State) (c : Nat) (at_ : Stamp) (l : List Byte) (b : Nat) (h : b ≠ EVR.CNT)
    (h' : b ≠ EVR.LOST_CNT) : (s.logAt c at_ l).reg b = s.reg b := by
  unfold State.logAt
  dsimp only
  split_ifs <;> simp [State.reg_suppressLog, h, h']

theorem State.reg_log (s : State) (c : Nat) (l : List Byte) (b : Nat) (h : b ≠ EVR.CNT) (h' : b ≠ EVR.LOST_CNT) :
    (s.log c l).reg b = s.reg b := State.reg_logAt _ _ _ _ _ h h'

theorem State.reg_traceLost (s : State) (b : Nat) (h : b ∉ traceRegs) : s.traceLost.reg b = s.reg b := by
  simp only [traceRegs, List.mem_cons, not_or] at h
  unfold State.traceLost
  dsimp only
  split_ifs <;> simp [h]

theorem State.reg_tracePut (s : State) (off : Nat) (r : List Byte) (b : Nat) (h : b ∉ traceRegs) :
    (s.tracePut off r).reg b = s.reg b := by
  simp only [traceRegs, List.mem_cons, not_or] at h
  obtain ⟨h1, h2, h3, h4, h5, -⟩ := h
  simp only [State.tracePut, State.reg_setReg, h3, h4, if_false]
  rfl

/-- A trace record touches no register but the trace unit's. -/
theorem State.reg_trace (s : State) (src : Nat) (l : List Byte) (b : Nat) (h : b ∉ traceRegs) :
    (s.trace src l).reg b = s.reg b := by
  have h' := h
  simp only [traceRegs, List.mem_cons, not_or] at h'
  unfold State.trace
  dsimp only
  split_ifs
  · rfl
  · exact State.reg_traceLost _ _ h
  · exact State.reg_tracePut _ _ _ _ h
  · rw [State.reg_traceLost _ _ h]; simp only [State.reg_raise, h'.1, if_false]; rfl
  · rw [State.reg_tracePut _ _ _ _ h]; simp [h']

/-! ### The end of a write -/

theorem State.reg_traceWrite (s : State) (req a : Nat) (v : Word) (fl b : Nat) (h : b ∉ traceRegs) :
    (s.traceWrite req a v fl).reg b = s.reg b := by
  unfold State.traceWrite
  split_ifs
  · exact State.reg_trace _ _ _ _ h
  · rfl

theorem State.reg_journalWrite (s : State) (req a : Nat) (v : Word) (b : Nat) (h : b ≠ TWN.JSEQ) :
    (s.journalWrite req a v).reg b = s.reg b := by
  unfold State.journalWrite State.sendJournal
  split_ifs
  · simp only [State.sendTwin_reg, State.reg_setReg, h, if_false]; rfl
  · rfl

theorem State.reg_countClamp (s : State) (req a b : Nat) (h : b ∉ finishRegs a) : (s.countClamp req a).reg b = s.reg b := by
  simp only [finishRegs, List.mem_append, List.mem_cons, not_or] at h
  simp [State.countClamp, h]

/-- The end of a write changes no register but those of `finishRegs`. -/
theorem State.reg_finishWrite (s : State) (req a : Nat) (v w : Word) (r : WriteResult) (b : Nat) (h : b ∉ finishRegs a) :
    (s.finishWrite req a v w r).reg b = s.reg b := by
  have ht : b ∉ traceRegs := fun e => h (by simp [finishRegs, e])
  have hj : b ≠ TWN.JSEQ := fun e => h (by simp [finishRegs, e])
  cases r <;> simp only [State.finishWrite]
  · rw [State.reg_journalWrite _ _ _ _ _ hj, State.reg_traceWrite _ _ _ _ _ _ ht]
  · rw [State.reg_journalWrite _ _ _ _ _ hj, State.reg_traceWrite _ _ _ _ _ _ ht, State.reg_countClamp _ _ _ _ h]
  · rw [State.reg_traceWrite _ _ _ _ _ _ ht, State.reg_countClamp _ _ _ _ h]
  · rw [State.reg_traceWrite _ _ _ _ _ _ ht]

/-- A write that the twin role and LOCK let through reads, at every other register, as its effect left it. -/
theorem State.reg_busWrite (s : State) (req a : Nat) (v : Word) (eff : State → State × WriteResult) (b : Nat)
    (h : b ∉ finishRegs a) (hr : s.roleRefuses a = false) (hl : s.lockedOut a = false) :
    (s.busWrite req a v eff).reg b = (eff s).1.reg b := by
  simp [State.busWrite, State.busWriteR, hr, hl, State.reg_finishWrite _ _ _ _ _ _ _ h]

/-- A write that the twin role or a LOCK turns away changes no other register. -/
theorem State.reg_busWrite_refused (s : State) (req a : Nat) (v : Word) (eff : State → State × WriteResult) (b : Nat)
    (h : b ∉ finishRegs a) (hr : s.roleRefuses a = true ∨ s.lockedOut a = true) :
    (s.busWrite req a v eff).reg b = s.reg b := by
  have e : (s.roleRefuses a || s.lockedOut a) = true := by simpa using hr
  simp [State.busWrite, State.busWriteR, e, State.reg_finishWrite _ _ _ _ _ _ _ h]

end Sys2Proof.Machine
end

