-- ==== Sys2Proof/WellFormed.lean ====
section
/-!
DEFINITION. Which commands are well formed: the lists a command carries have the sizes of what they spell.
-/

namespace Sys2Proof

open Sys2Proof.Machine

/-- What the lanes deliver in a tick (R85): no lane twice, at most 68 groups each. -/
def lanesOk (live : List LaneBits) : Bool := (live.map (·.lane)).Nodup && live.all (fun l => l.groups.length ≤ 68)

/-- A frame at the switch has at least the 64 bytes of an Ethernet frame (R315). -/
def frameOk : SwitchIn → Bool
  | .uplink _ f _ => 64 ≤ f.length
  | .feeder _ => true
  | .turn => true

/-- A member's lists: at least one write, eight words of an override slot (R294, R479). -/
def memberOk : KspMember → Bool
  | .regWrite l => 0 < l.length
  | .winWrite _ d => 0 < d.length
  | .bankCommit _ => true
  | .override _ c => c.length = 8
  | .sceneSwitch _ _ => true
  | .setpoint _ _ => true
  | .level _ _ => true
  | .patternStart _ => true
  | .endpointBudget _ _ _ _ _ => true

/-- A command is well formed. -/
def Instr.wf : Instr → Bool
  | .powerOn _ => true
  | .domainPowerGood _ _ => true
  | .pd3Release _ => true
  | .inputLoss _ => true
  | .loadShed => true
  | .finalCommitDone => true
  | .holdEnd => true
  | .warmStart => true
  | .domainFault _ => true
  | .coreDomainFault _ => true
  | .essentialDomainFault => true
  | .domEnWrite _ _ => true
  | .pwrClearCounts _ => true
  | .bankTestGo _ _ => true
  | .bankTestStart => true
  | .bankTestDone _ => true
  | .holdEstUpdate _ _ => true
  | .vinOv _ _ => true
  | .tempHigh _ _ => true
  | .cellLow _ => true
  | .boardPresent _ => true
  | .boardAbsent _ => true
  | .twinPresentChange _ => true
  | .hkInputChange _ _ => true
  | .relayCtrlWrite _ _ => true
  | .accessFault _ _ _ _ => true
  | .registerWrite _ _ _ => true
  | .latchedRead _ _ => true
  | .intFlagClear _ _ _ => true
  | .intForce _ _ _ => true
  | .lockWrite _ _ _ => true
  | .parityError _ _ => true
  | .sramEccError _ => true
  | .parityClear _ => true
  | .systemReset _ _ _ => true
  | .coreReset _ _ => true
  | .pageSoftReset _ _ => true
  | .wdogEnable _ _ => true
  | .wdogKick _ _ => true
  | .wdogWarn => true
  | .wdogTimeout => true
  | .rctEnable _ => true
  | .rctDisable _ => true
  | .rctSoftReset _ => true
  | .ringSet _ _ => true
  | .sampleRelease live perr => lanesOk live && perr.Nodup
  | .firstLockStep => true
  | .loopUpdate => true
  | .freqTakesEffect => true
  | .phaseLoss _ => true
  | .forceFly _ => true
  | .forceRelease _ => true
  | .pullTimeout => true
  | .mapCapture => true
  | .convert _ _ => true
  | .convertDone => true
  | .laneEnable _ _ _ => true
  | .trainSuccess _ => true
  | .laneUp _ => true
  | .trainFail _ => true
  | .laneLost _ => true
  | .fastOutput _ _ _ _ => true
  | .integratorSettled _ => true
  | .playbackArm _ _ => true
  | .captureArm _ => true
  | .sourceStart => true
  | .playbackFetch => true
  | .captureRecord live bad => lanesOk live && bad.Nodup
  | .playbackCountDone => true
  | .playbackStop _ => true
  | .cenTickExec => true
  | .tableCheck _ _ => true
  | .tableCheckDone => true
  | .cenCommitReq _ _ => true
  | .cenCommitCancel _ => true
  | .cenCopy _ => true
  | .cenCopyDone => true
  | .cenCommitSwap => true
  | .fallbackEnter _ => true
  | .fallbackExit _ => true
  | .rearm _ _ _ => true
  | .rearmApply _ => true
  | .cenEnable _ => true
  | .cenDisable _ => true
  | .mfeEnable _ => true
  | .mfeDisable _ => true
  | .mainsOutEnter => true
  | .prechargeEnter => true
  | .busSettled => true
  | .prechargeTimeout => true
  | .feHalted => true
  | .feGateOff => true
  | .sagDetect => true
  | .classShed => true
  | .busUndervoltage => true
  | .restoreBegin => true
  | .classRestore => true
  | .channelRestoreStart _ => true
  | .channelEnable _ _ _ => true
  | .channelDisable _ _ _ => true
  | .channelStart _ => true
  | .startDone _ => true
  | .channelHalt _ => true
  | .channelSafeOff _ => true
  | .setpointStage _ _ _ => true
  | .setpointArm _ _ _ => true
  | .setpointApply _ => true
  | .busSetpointArm _ _ => true
  | .busSetpointApply => true
  | .pinTrip _ _ _ => true
  | .pinArmed _ => true
  | .forceTrip _ _ => true
  | .autoClear _ => true
  | .latchClear _ => true
  | .lockoutClear _ _ _ => true
  | .maskClassWrite _ _ _ => true
  | .channelTripped _ => true
  | .runEnWrite _ _ => true
  | .boardRelease _ => true
  | .tripRestart _ => true
  | .commandFrameLaunch => true
  | .statusFrameReceive _ _ _ => true
  | .answerMissing _ => true
  | .stlLinkLost _ => true
  | .stlEnable _ => true
  | .stlDisable _ => true
  | .verLimitWrite _ _ => true
  | .meteringTick => true
  | .cyclePublish => true
  | .pulseOn _ => true
  | .pulseOff _ => true
  | .corReq _ => true
  | .corSwap => true
  | .corCopy _ => true
  | .corCopyDone => true
  | .periodicCommit => true
  | .commitWriteDone _ => true
  | .meterSeal _ => true
  | .accClearBilling _ _ => true
  | .accClearTest _ _ => true
  | .mtrEnable _ _ => true
  | .dimPeriod => true
  | .patternErrorIdle _ => true
  | .levelArm _ _ _ => true
  | .levelApply _ => true
  | .patternArm _ _ _ => true
  | .patternBegin _ => true
  | .patternStop _ _ => true
  | .stringCheck _ => true
  | .feederCheck _ => true
  | .diagClear _ _ => true
  | .txStart _ => true
  | .txTruncate _ => true
  | .phyFrameReceive _ _ => true
  | .maskCommitReq _ _ _ => true
  | .maskCommitApply _ => true
  | .fphEnable _ _ => true
  | .macCycleStart _ => true
  | .beaconTransmit _ => true
  | .macFrameReceive _ => true
  | .ackReceive _ => true
  | .retransmit _ => true
  | .deliveryTimeout _ => true
  | .joinRequest _ => true
  | .joinAuth _ => true
  | .joinConfirm _ => true
  | .joinTimeout _ => true
  | .nodeLost _ => true
  | .maskDistGo _ _ _ => true
  | .maskDistCommit _ => true
  | .maskSwitch _ => true
  | .cruiseGo _ _ => true
  | .probeReceive _ => true
  | .cruiseDone _ => true
  | .cruiseApply _ _ => true
  | .routeEffective _ => true
  | .routeAbandon _ => true
  | .bucketRefill => true
  | .nodeBlock _ _ => true
  | .nodeFree _ _ => true
  | .nodeLeave _ _ => true
  | .euiLookup _ _ => true
  | .euiLookupDone => true
  | .yarderPass => true
  | .releaseHandoff => true
  | .yrdEnable _ => true
  | .sceneArm _ _ => true
  | .overrideArm _ _ => true
  | .yrdCommitReq _ => true
  | .yrdCopy _ => true
  | .schCommitReq _ => true
  | .schCopy _ => true
  | .solarMinute => true
  | .solarRecompute _ _ _ => true
  | .frameIngress i => frameOk i
  | .engineDispatch => true
  | .engineDone _ _ => true
  | .egressDone _ => true
  | .payloadHandoff _ => true
  | .hostRxWrite => true
  | .hostTxFrame => true
  | .uplinkUp _ => true
  | .uplinkDown _ _ => true
  | .classRevert _ => true
  | .speedTry _ => true
  | .sfpAccess _ _ _ => true
  | .sfpDone _ _ _ => true
  | .sfpModuleChange _ _ => true
  | .txFaultChange _ _ => true
  | .timestampPop _ _ => true
  | .ptpMeasurement _ _ => true
  | .domainHoldover _ => true
  | .domainEnable _ _ _ => true
  | .domainDisable _ _ _ => true
  | .civilUpdate => true
  | .civilStepSnap _ _ => true
  | .civilStepValue _ _ => true
  | .rtcLoadFromTb3 => true
  | .timeAlarm _ => true
  | .timeSnap _ => true
  | .rtcSecond => true
  | .rtcSet _ _ => true
  | .trimWindowDone _ => true
  | .rtcAlarm _ => true
  | .rtcSnap _ => true
  | .pd0Loss => true
  | .threadInit _ _ => true
  | .threadReady _ _ => true
  | .threadBlock _ _ => true
  | .threadCancel _ _ => true
  | .threadSetprio _ _ => true
  | .threadSetaff _ _ => true
  | .threadYield _ _ => true
  | .threadWait _ _ => true
  | .waitDeadline _ => true
  | .bindWake _ => true
  | .dispatchDecision => true
  | .threadTake _ _ _ => true
  | .memoryError _ _ => true
  | .queuePush _ _ _ => true
  | .itemOffer => true
  | .itemCommit _ => true
  | .queueMark _ _ => true
  | .queueRewind _ _ => true
  | .queueFlush _ _ => true
  | .queueAbort _ _ => true
  | .queueRdWrite _ _ _ => true
  | .queueRelease _ _ _ => true
  | .queueCopy _ _ _ => true
  | .queueCopyDone => true
  | .queueEnable _ _ _ => true
  | .queueDisable _ _ => true
  | .logEvent _ payload => payload.length ≤ 58
  | .logRecordWrite _ => true
  | .logTokenRefill => true
  | .opsecSecond => true
  | .logSeek _ _ => true
  | .bankClr _ _ _ _ => true
  | .firmwareRecord _ _ => true
  | .generate => true
  | .importPlain => true
  | .unwrap => true
  | .wrap => true
  | .derive => true
  | .agree => true
  | .seal => true
  | .kvtOpen => true
  | .sign => true
  | .verifyEcdsa => true
  | .verifyMldsa => true
  | .attest => true
  | .store => true
  | .exportPublic => true
  | .random => true
  | .readCert => true
  | .keyCommandDone _ => true
  | .revoke _ _ => true
  | .delete _ _ => true
  | .zeroizeVolatile _ => true
  | .zeroizePersistent _ => true
  | .zeroizeFactory _ => true
  | .reseal _ => true
  | .resealDone => true
  | .maskingPass => true
  | .entropyFail _ => true
  | .entropyRecovered => true
  | .sessionOpen _ _ => true
  | .sessionClose _ => true
  | .sessionAbort _ => true
  | .xfer _ _ => true
  | .xferDone => true
  | .verify _ => true
  | .verifyDone => true
  | .activate _ => true
  | .activateDone _ => true
  | .confirm _ _ => true
  | .fallback _ _ => true
  | .migDone _ => true
  | .sessionTimeout => true
  | .windowWarn => true
  | .windowExpiry => true
  | .twinEnable _ => true
  | .huntTimeout => true
  | .twinLinkUp => true
  | .twinLinkDown => true
  | .heartbeatSend => true
  | .heartbeatReceive _ _ _ => true
  | .heartbeatDue => true
  | .pairReceive _ _ => true
  | .controlReceive _ _ => true
  | .alignmentStep _ => true
  | .aclkTrim _ _ => true
  | .referenceLoss => true
  | .loopEpochSend => true
  | .loopEpochReceive _ _ _ => true
  | .meterEpochReceive _ slot => slot.length = 2048
  | .journalReceive _ e => 0 < e.words.length && e.kind ≤ 3 && e.req ≤ 4
  | .yarderEpochSend => true
  | .yarderEpochReceive _ _ _ _ _ => true
  | .yarderResync _ _ _ => true
  | .switchFrameReceive _ b => b.length ≤ 8192
  | .imageReceive _ _ bytes => 0 < bytes.length && bytes.length ≤ 8192
  | .takeoverDecision _ => true
  | .takeover => true
  | .pulseResume => true
  | .demote => true
  | .handover _ _ => true
  | .drillArm _ _ => true
  | .drillCancel _ _ => true
  | .handoverExecute => true
  | .drillReturn => true
  | .twinRearm _ => true
  | .kspConnect _ => true
  | .hello _ _ _ => true
  | .helloTimeout _ => true
  | .sessionIdleTimeout _ => true
  | .ping _ => true
  | .bundle _ ms _ => ms.all (fun m => memberOk m.msg)
  | .bundleCancel _ _ => true
  | .txQuery _ txids => txids.length ≤ 131072
  | .bundleConvert => true
  | .bundleArm => true
  | .bundleComplete => true
  | .regRead _ _ _ => true
  | .regWrite _ l _ => memberOk (.regWrite l)
  | .winRead _ _ _ => true
  | .winWrite _ a d _ => memberOk (.winWrite a d)
  | .configGet _ _ => true
  | .configPut _ rs => rs.all (fun r => r.body.length ≤ 65527)
  | .scheduleLoad _ l => l.all (fun e => e.2.length = 8)
  | .rulesLoad _ rules scenes => rules.all (fun e => e.2.length = 16) && scenes.all (fun e => e.2.length = 16)
  | .bankCommit _ _ _ => true
  | .override _ slot content _ => memberOk (.override slot content)
  | .sceneSwitch _ _ _ _ => true
  | .setpoint _ _ _ _ => true
  | .level _ _ _ _ => true
  | .patternStart _ _ _ => true
  | .endpointBudget _ _ _ _ _ _ _ => true
  | .meterRead _ => true
  | .meterCycle _ => true
  | .meterSlot _ => true
  | .alarmAck _ _ => true
  | .alarmList _ => true
  | .logSubscribe _ _ _ => true
  | .logStop _ => true
  | .timeRead _ => true
  | .timeStep _ _ => true
  | .tzLoad _ z => z.rules.length = 2 && z.table.length ≤ 32 && z.table.all (fun e => e.length = 2)
  | .updOpen _ => true
  | .updData _ _ _ bytes => bytes.length % 4 = 0 && bytes.length ≤ 1048576
  | .updVerify _ => true
  | .updActivate _ => true
  | .updConfirm _ _ => true
  | .updStatus _ => true
  | .twinCmd _ _ => true
  | .txjPut _ => true
  | .txjFind _ => true
  | .txjUpdate _ => true
  | .seekDone => true
  | .txjDone => true
  | .txDisableRelease _ => true
  | .blockLockChange _ _ _ => true
  | .vinReturn _ => true

end Sys2Proof
end

