-- ==== Sys2Proof/Tests/Slice0.lean ====
section
/-!
SUPPORT. The model's own tests: worked examples of spec/, ill-formed commands that WellFormed refuses, and for each statement
of Certificates/Slice0/Obligations.lean the states and operands that meet the hypotheses of each of its clauses.
-/

namespace Sys2Proof.Tests

set_option Elab.async false

open Sys2Proof Sys2Proof.Machine

/-! ### States and operands -/

/-- The module with every domain up. -/
def up : State := { State.reset with pwr := { State.reset.pwr with up := 4095 } }
/-- The module with the angle clock locked, after its first lock, at stamp `n`. -/
def live (n : Stamp) : State := { (up.setFld rctSTAT 2 0 RCT.LOCKED).setRbit rctSTAT 17 true with now := n }
/-- A valid sample of every input. -/
def sampled (s : State) : State :=
  (List.range 104).foldl (fun t i => t.setIn i { released := { valid := true, value := 0 } }) s
def ks : KspSession := { opened := true, ver := 3, roles := 31, ident := 7, since := 0 }
def kh : KspHead := { sess := 0, txid := 5, digest := 9, critical := false }
def th : TwinHead := { seq := 0, good := true }
theorem may_of {s : State} {h : KspHead} {x : KspSession} {ver : Nat} {role : Option Nat}
    (k : s.kspSession h.sess = some x ∧ x.opened = true ∧ ver ≤ x.ver ∧ h.critical = false ∧ role.all x.roles.testBit = true) :
    s.kspMay h x ver role :=
  ⟨k.1, k.2.1, k.2.2.1, k.2.2.2.1, fun r e => by subst e; exact k.2.2.2.2⟩
theorem hears_of {s : State} {l : Nat} {h : TwinHead}
    (k : s.domainUp 9 = true ∧ s.twn.broken.testBit l = false ∧ h.good = true
      ∧ (s.twn.rxSeq.find? (fun p => p.1 = l)).all (fun p => h.seq = (p.2 + 1) % 2 ^ 32) = true) : s.hears l h :=
  ⟨k.1, k.2.1, k.2.2.1, fun p e => by simpa [e] using k.2.2.2⟩
/-- A function of a number that is evaluated first. -/
def forced (f : Nat → Nat) : Nat → Nat
  | 0 => f 0
  | k + 1 => f (k + 1)
theorem forced_eq (f : Nat → Nat) (x : Nat) : forced f x = f x := by cases x <;> rfl
/-- The CRC-32 register after n zero bytes, each register evaluated before the next. -/
def crcZeros : Nat → Nat → Nat
  | 0, c => c
  | n + 1, c => forced (crcZeros n) (crcByte c 0)
theorem crcZeros_eq (n c : Nat) : (List.replicate n (0 : Byte)).foldl crcByte c = crcZeros n c := by
  induction n generalizing c with
  | zero => rfl
  | succ n h => rw [List.replicate_succ, List.foldl_cons, h, crcZeros, forced_eq]
theorem crc32_zeros : crc32 (List.replicate 1020 0) = 1740353414 := by
  rw [crc32, crcZeros_eq]; decide +kernel
/-- One record of zeros but for its CRC, the fetch of which is due. -/
def record : State :=
  { ((((up.setPb 2).setReg PB.PB_WR 1).setReg PB.PB_BASE_LO 0x80000000).setReg PB.PB_SIZE 16).modSns
      (fun x => { x with play := true, stopAt := none, nextFetch := 16 }) with
    mem := [(0x800003FC, 103), (0x800003FD, 187), (0x800003FE, 175), (0x800003FF, 134)] }
theorem bytes_add (s : State) (a m n : Nat) : s.bytes a (m + n) = s.bytes a m ++ s.bytes (a + m) n := by
  simp [State.bytes, List.range_add, Nat.add_assoc]
theorem bytes_zeros (s : State) (a n : Nat) (h : ∀ i < n, s.byte (a + i) = 0) : s.bytes a n = List.replicate n 0 := by
  simp only [List.eq_replicate_iff, State.bytes, List.mem_map, List.mem_range]
  exact ⟨by simp, fun b ⟨i, hi, e⟩ => e ▸ h i hi⟩
theorem record_bytes : record.bytes 0x80000000 1024 = List.replicate 1020 0 ++ [103, 187, 175, 134] := by
  rw [show (1024 : Nat) = 1020 + 4 from rfl, bytes_add, bytes_zeros]
  · exact congrArg _ (by decide +kernel)
  · intro i hi
    simp only [State.byte, record, Tab.get, memReset]
    rw [if_neg (by omega), if_neg (by omega), if_neg (by omega), if_neg (by omega), if_neg (by omega)]
theorem record_crc : natBE (List.drop 1020 (record.bytes 0x80000000 1024)) = crc32 (List.take 1020 (record.bytes 0x80000000 1024)) := by
  rw [record_bytes, List.drop_left' List.length_replicate, List.take_left' List.length_replicate, crc32_zeros]
  decide +kernel
/-- A word of the active bank of records written. -/
def coefAt (s : State) (r off : Nat) (v : Word) : State := s.setWin (W0.bankActive + r * 0x100 + off) v
/-- The records of the front end, as R135 wants them. -/
def feBank (s : State) : State :=
  [(0, 99, 96), (1, 100, 97), (2, 101, 98)].foldl (fun t (k, y, p) =>
    coefAt (coefAt (coefAt t (48 + k) 0 0x80081) (48 + k) 4 (word y)) (48 + k) 8 (word (51 * 0x10000 + p * 0x100 + 102)))
    (coefAt (coefAt s 51 0 4) 51 4 0x6600)
/-- The record of channel 47, as R144 wants it of the buck mode. -/
def chanBank (s : State) : State := coefAt (coefAt (coefAt s 47 0 0x40085) 47 4 0x5F5E) 47 8 102
/-- Every axe line released. -/
def released (s : State) : State := { s with axe := { s.axe with out := 8191 } }
theorem first_of {s : State} {h : KspHead} {x : KspSession}
    (k : h.txid ≠ 0 ∧ (s.twn.role = .solo ∨ s.twn.role = .active) ∧ s.txjFind x.ident h.txid.toNat = none) : s.kspFirst h x :=
  ⟨k.1, k.2.1, fun i e => by rw [k.2.2] at e; cases e⟩
/-- A modem enabled, and the MAC of its feeder. -/
def modemUp (f : Nat) (s : State) : State := (s.setRbit (FPH.F_CTRL f) 0 true).setRbit (regCTRL (fphPage f)) 0 true
def macUp (f : Nat) (s : State) : State :=
  ((modemUp f s).setRbit (FMA.M_CTRL f) 0 true).setRbit (regCTRL (FMA.page (f / 12))) 0 true
/-- Fields of a node entry. -/
def nodeSet (i : Nat) (l : List (Nat × Nat × Nat)) (s : State) : State :=
  l.foldl (fun t e => t.setWinField (nodeAddr i + e.1) e.2.1 e.2.2) s
/-- Node 9 joined on feeder 47 with address 5. -/
def node9 (s : State) : State := nodeSet 9 [(N.STATE, 1, ND.JOINED), (N.FEEDER, 1, 47), (N.ADDR, 1, 5)] s
/-- A good received frame with bytes 8 to 19 of frame control and a payload. -/
def rx (mac body : List Byte) : RxFrame :=
  { ref := 0, at_ := 0, fc := List.replicate 8 0 ++ mac ++ List.replicate 4 0, body, cws := [true], snr := 0 }
def received (r : RxFrame) (s : State) : State := s.modModem 47 (fun m => { m with rx := [r] })
def tx0 : TxReq := { tick := 0, slot := 0, mac := [], body := [], tag := 0, sealed := true }
/-- A REQ of the EUI-64 0 with versions 1 to 1, no endpoint and no relay. -/
def reqBody : List Byte := [1] ++ List.replicate 8 0 ++ [1, 1, 0] ++ List.replicate 130 0
def js (step : Nat) : JoinSession :=
  { eui := 0, node := 0, created := true, req := [], chal := [], peer := [], priv := [], salt := [], at_ := 0, step, tag := 0 }
def sw (egress : Nat) : SwFrame :=
  { flow := 0, cls := 0, ingress := 0, egress, vid := 0, ticket := 0, len := 64, data := [] }
/-- A frame of 64 bytes to the host of the module on VID 5. -/
def toHost : List Byte := List.replicate 12 0 ++ [0x81, 0, 0, 5] ++ List.replicate 44 0
/-- The switch enabled, both uplinks up. -/
def swUp (s : State) : State :=
  ((s.setRbit (regCTRL SWX.page) 0 true).setFld (UPL.P_STAT 0) 1 0 1).setFld (UPL.P_STAT 1) 1 0 1
def setSwx (f : Swx → Swx) (s : State) : State := { s with swx := f s.swx }

/-! Memory that holds a stored record, written out from the layouts of spec/. -/
/-- A boot control record with TRIAL 1 (R428), and beside it a committed configuration area (R433). -/
def trialMem : Tab Byte := [(0x60000000, 66), (0x60000001, 67), (0x60000002, 82), (0x60000003, 1), (0x60000007, 1), (0x60000009, 1), (0x6000000D, 1), (0x6000003C, 53), (0x6000003D, 141), (0x6000003F, 38)]
def areaMem : Tab Byte := [(0x60210000, 67), (0x60210001, 70), (0x60210002, 71), (0x60210003, 1), (0x60210004, 255), (0x60210005, 255), (0x60210006, 2), (0x6021001C, 20), (0x6021001D, 237), (0x6021001E, 123), (0x6021001F, 138)]
/-- A log segment that holds one record of code 5, SEQ 1 (R389, R387). -/
def logMem : Tab Byte := [(0x52000000, 84), (0x52000001, 76), (0x52000002, 71), (0x52000003, 1), (0x5200000B, 1), (0x5200000C, 132), (0x5200000D, 224), (0x5200000E, 20), (0x5200000F, 56), (0x52000011, 24), (0x52000013, 5), (0x52000017, 1), (0x52000028, 252), (0x52000029, 206), (0x5200002A, 15), (0x5200002B, 117)]
/-- An entry of the transaction journal in its last place: client 7, TXID 5, digest 9, DONE (R472). -/
def entryMem : Tab Byte := [(0x6000FFE7, 7), (0x6000FFEF, 5), (0x6000FFF7, 9), (0x6000FFF8, 1), (0x6000FFFC, 65), (0x6000FFFD, 20), (0x6000FFFE, 71), (0x6000FFFF, 182)]
/-- A commit slot with SEQ 0 and nothing counted (R197). -/
def slotMem : Tab Byte := [(0x54000000, 77), (0x54000001, 84), (0x54000002, 67), (0x54000003, 1), (0x540007F8, 192), (0x540007F9, 168), (0x540007FA, 121), (0x540007FB, 223), (0x540007FC, 165), (0x540007FD, 90), (0x540007FE, 195), (0x540007FF, 60)]
def onTrial : State := { up with mem := trialMem }
def logged : State := { up with mem := logMem, evr := { up.evr with oldestSeq := 1, headSeq := 1, nextSeq := 2 } }
def slotted : State := { up with mem := slotMem }
theorem slot_bytes : slotted.bytes (mtrSlot 0) 2040 = [77, 84, 67, 1] ++ List.replicate 2036 0 := by
  rw [show (2040 : Nat) = 4 + 2036 from rfl, bytes_add, bytes_zeros (n := 2036)]
  · exact congrArg (· ++ _) (by decide +kernel)
  · intro i hi
    simp only [State.byte, slotted, slotMem, Tab.get, memReset, mtrSlot]
    repeat rw [if_neg (by omega)]
theorem slot_valid : slotted.commitValid [] 0 = true := by
  have h : crc32 (slotted.bytes (mtrSlot 0) 2040) = 3232266719 := by
    rw [slot_bytes, crc32, List.foldl_append, crcZeros_eq]; decide +kernel
  rw [State.commitValid, h]; decide +kernel
theorem slot_newest : slotted.newestSlot = some 0 := by
  rw [State.newestSlot, show List.range 16 = 0 :: (List.range 15).map (· + 1) from rfl,
    List.filter_cons_of_pos slot_valid, show ((List.range 15).map (· + 1)).filter (slotted.commitValid []) = [] from by decide +kernel]
  rfl
/-- A command block of R406: operation, key, DEST, lengths of input, output and AUX, NEW_ATTR. -/
def blk (op key dest inl outl auxl attr : Nat) : KvtCmd :=
  { req := 0, addr := 0x80000000, block := [0, 0, BitVec.ofNat 8 op, 0] ++ bytesLE 2 key ++ bytesLE 2 dest ++ bytesLE 8 0x90000000
      ++ bytesLE 4 inl ++ bytesLE 4 outl ++ bytesLE 8 0xA0000000 ++ bytesLE 8 0xB0000000 ++ bytesLE 4 auxl ++ bytesLE 4 attr
      ++ List.replicate 16 0 }
def flight (fill : Option (Nat × KeySlot)) : KvtFlight := { engine := 4, cmd := blk 15 0 0 0 4 0 0, fill }
def inFlight (x : KvtFlight) : State := up.modKvt (fun k => { k with flight := [x] })
def queued (st : Nat) : State := up.modKvt (fun k => { k with queue := [blk 15 0 0 0 4 0 0], state := st })
theorem next_of {s : State} {op : Nat} {c : KvtCmd} {q l : List KvtCmd}
    (k : s.kvt.queue = q ++ c :: l ∧ c.op = op ∧ s.kvt.state ≠ 0 ∧ (∀ x ∈ q, x.op ≠ op ∧ x.engines ≠ c.engines)
      ∧ ¬(s.kvt.reseal = true ∧ op = KO.STORE)) : s.vaultNext op c q l := k
/-- Thread 255 in a state. -/
def thr (st : Nat) : State := up.modThread 255 (fun t => { t with state := st })
/-- Queue 63 enabled, and the staging word of requester 3 holding an item header of one word. -/
def queueOn : State := (up.setRbit (TQU.CFG 63) 0 true).setRbit (regCTRL TQU.page) 0 true
def pushing (s : State) : State := s.setPort 3 { s.port 3 with stageTag := TQU.PUSH_LO 63, stage := 0x8001 }
def tqi (left : Nat) : TqOpen := { req := 3, left, admitted := true, next := 0, marker := false, seq := 0 }
def ent : LogEntry := { code := 5, stamp := 0, payload := [] }
def roled (r : Role) (s : State) : State := s.modTwn (fun t => { t with role := r })
def linked (s : State) : State := s.modTwn (fun t => { t with link := true, peerRole := 4, peerFlags := 2 })
def pair (ver : Nat) (sig : Option (List Byte)) : PairFrame := { ver, serial := 0, chain := [], pub := [], nonce := [], sig }
def je (n : Nat) : JournalEntry := { jseq := n, stamp := 0, kind := 0, req := 0, addr := 0, words := [] }
def sess (x : KspSession) (s : State) : State := s.setSession 0 (some x)
def ses : State := sess ks up
def client : KspClient := { port := 5, ipv6 := true, tls := true, roles := some 31, ident := 7 }
def listening (s : State) : State := (((s.setRbit (regCTRL KSP.page) 0 true).setFld KSP.LISTEN 15 0 5).setRbit KSP.LISTEN 17 true)
def bun (ms : List KspMember) (at_ done : Option Stamp) : KspBundle :=
  { sess := 0, ident := 7, txid := 6, msg := 16, members := ms, point := .none, at_, entry := 0, done }
def bundled (b : KspBundle) (s : State) : State := s.modKsp (fun k => { k with bundles := [b] })

/-! ### Worked examples -/

/-- The state a command answers. -/
def after : Res State → Option State
  | .next t => some t
  | _ => none

/-- The example of spec/03: core 2 writes 300 mHz to RCT.SLEW. -/
theorem test_clamped_slew : (after (exec (.registerWrite 2 0x40002044 0x12C) up)).map (fun t =>
    (t.reg 0x40002044, t.reg 0x40002020, t.reg SYS.CLAMP_LAST, t.reg SYS.CLAMP_SRC)) = some (200, 1, 0x40002044, 2) := by
  decide +kernel

/-- The STAMP of the example of spec/08: the short stamp of 7300000:1026. -/
theorem test_short_stamp : shortOf (stamp 7300000 1026) = 0xF63A0402 := by decide

/-- The check value of the CRC-32 of IEEE 802.3 over the digits 1 to 9. -/
theorem test_crc32 : crc32 [0x31, 0x32, 0x33, 0x34, 0x35, 0x36, 0x37, 0x38, 0x39] = 0xCBF43926 := by decide +kernel

/-- The calendar of R351: 2000-02-29 exists, 2100-02-29 does not. -/
theorem test_leap_years : monthDays 2000 2 = 29 ∧ monthDays 2100 2 = 28 := by decide

/-- A command at the front of the queue runs, and the rest of the queue waits. -/
theorem test_step_takes_front :
    (after (step { up with pending := [.loadShed, .holdEnd] })).map (·.pending) = some [.holdEnd] := by decide +kernel

/-! ### Ill-formed commands -/

theorem test_ill_formed_lanes : (Instr.sampleRelease [{ lane := 0, groups := [], offset := 0 }, { lane := 0, groups := [], offset := 0 }] []).wf = false := by
  decide
theorem test_ill_formed_groups : (Instr.captureRecord [{ lane := 0, groups := List.replicate 69 0, offset := 0 }] []).wf = false := by
  decide
theorem test_ill_formed_errors : (Instr.sampleRelease [] [3, 3]).wf = false := by decide
theorem test_ill_formed_frame : (Instr.frameIngress (.uplink 0 [] 0)).wf = false := by decide
theorem test_ill_formed_log : (Instr.logEvent 0 (List.replicate 59 0)).wf = false := by decide
theorem test_ill_formed_slot : (Instr.meterEpochReceive th []).wf = false := by decide
theorem test_ill_formed_journal : (Instr.journalReceive th { jseq := 1, stamp := 0, kind := 4, req := 0, addr := 0, words := [0] }).wf = false := by
  decide
theorem test_ill_formed_twin_frame : (Instr.switchFrameReceive th (List.replicate 8193 0)).wf = false := by decide +kernel
theorem test_ill_formed_image : (Instr.imageReceive th 0 []).wf = false := by decide
theorem test_ill_formed_members : (Instr.bundle kh [{ msg := .regWrite [], stamped := false }] .none).wf = false := by decide
theorem test_ill_formed_reg_write : (Instr.regWrite kh [] .none).wf = false := by decide
theorem test_ill_formed_win_write : (Instr.winWrite kh 0 [] .none).wf = false := by decide
theorem test_ill_formed_config : (Instr.configPut kh [{ typ := 0, schema := 0, body := List.replicate 65528 0 }]).wf = false := by
  rw [Instr.wf, List.all_cons, List.length_replicate]
  decide
theorem test_ill_formed_schedule : (Instr.scheduleLoad kh [(0, [])]).wf = false := by decide
theorem test_ill_formed_rules : (Instr.rulesLoad kh [(0, [])] []).wf = false := by decide
theorem test_ill_formed_override : (Instr.override kh 0 [] .none).wf = false := by decide
theorem test_ill_formed_zone : (Instr.tzLoad kh { cfg := 0, rules := [], table := [] }).wf = false := by decide
theorem test_ill_formed_data : (Instr.updData kh 0 0 [0]).wf = false := by decide

/-! ### Hypotheses that meet: one part for each clause of a statement -/

/-- The hypotheses of each clause of Obligations.StepRunsFront. -/
theorem test_StepRunsFront_hypotheses :
    (∃ (s : State), ∃ (c : Instr), ∃ (q : List Instr), s.pending = c :: q) :=
  ⟨{ up with pending := [.loadShed] }, .loadShed, [], by decide +kernel⟩

/-- The hypotheses of each clause of Obligations.IdleStep. -/
theorem test_IdleStep_hypotheses :
    (∃ (s : State), s.pending = [] ∧ s.domainUp 1 = true)
    ∧ (∃ (s : State), s.pending = [] ∧ s.domainUp 1 = false) :=
  ⟨⟨up, by decide +kernel, by decide +kernel⟩,
   ⟨State.reset, by decide +kernel, by decide +kernel⟩⟩

/-- The hypotheses of each clause of Obligations.StepKeepsSound. -/
theorem test_StepKeepsSound_hypotheses :
    (∃ (s : State), ∃ (t : State), s.Sound ∧ step s = Host.Outcome.next t) :=
  ⟨State.reset, State.reset, ⟨rfl, rfl, rfl⟩, rfl⟩

/-- The hypotheses of each clause of Obligations.CommandFrames. -/
theorem test_CommandFrames_hypotheses :
    (∃ (c : Instr), ∃ (s : State), ∃ (t : State), ∃ (p : Part), exec c s = Host.Outcome.next t ∧ p ∉ touches c) :=
  ⟨.loadShed, State.reset, State.reset, .tim, rfl, by decide⟩

/-- The hypotheses of each clause of Obligations.RingSet. -/
theorem test_RingSet_hypotheses :
    (∃ (s : State), s.accepts RCT.RING_SET_HI = true ∧ s.rctState = RCT.IDLE)
    ∧ (∃ (s : State), s.accepts RCT.RING_SET_HI = true ∧ s.rctState ≠ RCT.IDLE) :=
  ⟨⟨up, by decide +kernel, by decide +kernel⟩,
   ⟨live 0, by decide +kernel, by decide +kernel⟩⟩

/-- The hypotheses of each clause of Obligations.RctControl. -/
theorem test_RctControl_hypotheses :
    (∃ (s : State), s.accepts (regCTRL RCT.page) = true ∧ s.rctState = RCT.IDLE)
    ∧ (∃ (s : State), s.accepts (regCTRL RCT.page) = true ∧ s.rbit (regCTRL RCT.page) 0 = true ∧ s.rctHeld = false)
    ∧ (∃ (s : State), s.rctHeld = true ∧ s.rbit (regCTRL RCT.page) 0 = true)
    ∧ (∃ (s : State), s.accepts RCT.FORCE = true ∧ (s.rctState = RCT.LOCKED ∨ s.rctState = RCT.PULLIN)) :=
  ⟨⟨up, by decide +kernel, by decide +kernel⟩,
   ⟨up.setRbit (regCTRL RCT.page) 0 true, by decide +kernel, by decide +kernel, by decide +kernel⟩,
   ⟨(up.setRbit (regCTRL RCT.page) 0 true).setRbit (regCTRL CEN.page) 0 true, by decide +kernel, by decide +kernel⟩,
   ⟨live 0, by decide +kernel, by decide +kernel⟩⟩

/-- The hypotheses of each clause of Obligations.RctLoop. -/
theorem test_RctLoop_hypotheses :
    (∃ (p : ℤ), ∃ (m : ℕ), ∃ (s : State), s.rct.qual = some (p, m) ∧ s.rctState = RCT.ACQUIRE ∧ s.rct.ticks = m + 1 ∧ s.twn.role ≠ Role.pairing)
    ∧ (∃ (s : State), s.domainUp 5 = true ∧ s.rctState = RCT.FLYWHEEL ∧ s.rct.qual = none ∧ angleOf s.now = 0)
    ∧ (∃ (s : State), s.domainUp 5 = true ∧ s.rctState = RCT.LOCKED ∧ angleOf s.now = 0 ∧ (∀ k < 3, (s.phase k).err = none))
    ∧ (∃ (s : State), fMin ≤ s.freq ∧ s.freq ≤ fMax)
    ∧ (∃ (s : State), s.domainUp 5 = true ∧ s.rctState ≠ RCT.IDLE ∧ angleOf s.now = 1)
    ∧ (∃ (k : Fin 3), ∃ (s : State), s.domainUp 5 = true ∧ s.phaseTimedOut k.val = true ∧ s.rbit (regSTAT RCT.page) (8 + k.val) = false)
    ∧ (∃ (s : State), s.rctState = RCT.PULLIN ∧ 256 ≤ s.rct.pullCycles) :=
  ⟨⟨5, 99, (up.setFld rctSTAT 2 0 RCT.ACQUIRE).modRct (fun r => { r with qual := some (5, 99), ticks := 100 }), by decide +kernel, by decide +kernel, by decide +kernel, by decide +kernel⟩,
   ⟨up.setFld rctSTAT 2 0 RCT.FLYWHEEL, by decide +kernel, by decide +kernel, by decide +kernel, by decide +kernel⟩,
   ⟨live 0, by decide +kernel, by decide +kernel, by decide +kernel, by decide +kernel⟩,
   ⟨up, by decide +kernel, by decide +kernel⟩,
   ⟨live 1, by decide +kernel, by decide +kernel, by decide +kernel⟩,
   ⟨2, (up.modPhase 2 (fun p => { p with cross := some 0 }) |>.modRct (fun r => { r with ticks := 10000000 })).setRbit rctSTAT 10 false, by decide +kernel, by decide +kernel, by decide +kernel⟩,
   ⟨(up.setFld rctSTAT 2 0 RCT.PULLIN).modRct (fun r => { r with pullCycles := 256 }), by decide +kernel, by decide +kernel⟩⟩

/-- The hypotheses of each clause of Obligations.Correspondence. -/
theorem test_Correspondence_hypotheses :
    (∃ (s : State), s.domainUp 5 = true ∧ s.rctState ≠ RCT.IDLE ∧ angleOf s.now = 0 ∧ cycleOf s.now % 256 = 0 ∧ s.rct.map.length ≤ 16)
    ∧ (∃ (s : State), s.accepts RCT.CONV_CTRL = true)
    ∧ (∃ (s : State), s.rbit RCT.CONV_STAT 8 = true ∧ s.rct.map.length < 2)
    ∧ (∃ (a : MapEntry), ∃ (b : MapEntry), ∃ (s : State), s.rbit RCT.CONV_STAT 8 = true ∧ s.rbit RCT.CONV_CTRL 1 = true ∧ s.rct.map = [a, b] ∧ (∃ (u : ℕ), u = BitVec.toNat (s.reg RCT.CONV_IN0) + BitVec.toNat (s.reg RCT.CONV_IN1) * 2 ^ 32 ∧ u < a.cycle * 4096))
    ∧ (∃ (a : MapEntry), ∃ (b : MapEntry), ∃ (s : State), s.rbit RCT.CONV_STAT 8 = true ∧ s.rbit RCT.CONV_CTRL 1 = true ∧ s.rct.map = [a, b] ∧ a.cycle * 4096 ≤ BitVec.toNat (s.reg RCT.CONV_IN0) + BitVec.toNat (s.reg RCT.CONV_IN1) * 2 ^ 32) :=
  ⟨⟨live 0x100000, by decide +kernel, by decide +kernel, by decide +kernel, by decide +kernel, by decide +kernel⟩,
   ⟨up, by decide +kernel⟩,
   ⟨up.setRbit RCT.CONV_STAT 8 true, by decide +kernel, by decide +kernel⟩,
   ⟨{ cycle := 256, tb3 := 0, tb0 := 0 }, { cycle := 512, tb3 := 100, tb0 := 100 }, ((up.setRbit RCT.CONV_STAT 8 true).setRbit RCT.CONV_CTRL 1 true).modRct (fun r => { r with map := [{ cycle := 256, tb3 := 0, tb0 := 0 }, { cycle := 512, tb3 := 100, tb0 := 100 }] }), ⟨by decide +kernel, by decide +kernel, rfl, ⟨_, rfl, by decide +kernel⟩⟩⟩,
   ⟨{ cycle := 0, tb3 := 0, tb0 := 0 }, { cycle := 256, tb3 := 100, tb0 := 100 }, ((up.setRbit RCT.CONV_STAT 8 true).setRbit RCT.CONV_CTRL 1 true).modRct (fun r => { r with map := [{ cycle := 0, tb3 := 0, tb0 := 0 }, { cycle := 256, tb3 := 100, tb0 := 100 }] }), by decide +kernel, by decide +kernel, by decide +kernel, by decide +kernel⟩⟩

/-- The hypotheses of each clause of Obligations.PowerUp. -/
theorem test_PowerUp_hypotheses :
    (∃ (s : State), s.domainUp 1 = false)
    ∧ (∃ (d : Fin 12), ∃ (b : ℕ), ∃ (s : State), autoAfter d.val = some b ∧ s.domainUp d.val = false ∧ s.domainUp b = true ∧ s.pwr.pf = false ∧ s.rbit PWR.DOM_FAULT d.val = false ∧ s.rbit PWR.DOM_EN d.val = true)
    ∧ (∃ (s : State), s.domainUp 3 = true ∧ s.pwr.pd3Released = false ∧ s.kvt.state ≠ 0)
    ∧ (∃ (s : State), s.domainUp 1 = true ∧ s.pwr.vinOk = false)
    ∧ (∃ (s : State), s.domainUp 1 = true ∧ s.pwr.pf = true ∧ s.pwr.vinOk = true ∧ s.pwr.shed = true) :=
  ⟨⟨State.reset, by decide +kernel⟩,
   ⟨2, 1, State.reset.modPwr (fun p => { p with up := 3 }), by decide +kernel, by decide +kernel, by decide +kernel, by decide +kernel, by decide +kernel, by decide +kernel⟩,
   ⟨up.modKvt (fun k => { k with state := 1 }), by decide +kernel, by decide +kernel, by decide +kernel⟩,
   ⟨up.modPwr (fun p => { p with vinOk := false }), by decide +kernel, by decide +kernel⟩,
   ⟨up.modPwr (fun p => { p with pf := true, vinOk := true, shed := true }), by decide +kernel, by decide +kernel, by decide +kernel, by decide +kernel⟩⟩

/-- The hypotheses of each clause of Obligations.PowerLoss. -/
theorem test_PowerLoss_hypotheses :
    (∃ (s : State), s.domainUp 1 = true ∧ s.pwr.pf = false ∧ s.pwr.vinOk = true)
    ∧ (∃ (s : State), s.pwr.pf = true ∧ s.pwr.shed = false)
    ∧ (∃ (d : Fin 12), ∃ (s : State), s.domainUp d.val = true ∧ (d.val = 4 ∨ 6 ≤ d.val))
    ∧ (∃ (pd5 : Bool), ∃ (s : State), s.domainUp (if pd5 = true then 5 else 3) = true ∧ s.pwr.pf = false) :=
  ⟨⟨up.modPwr (fun p => { p with vinOk := true }), by decide +kernel, by decide +kernel, by decide +kernel⟩,
   ⟨up.modPwr (fun p => { p with pf := true }), by decide +kernel, by decide +kernel⟩,
   ⟨11, up, by decide +kernel, by decide +kernel⟩,
   ⟨true, up, by decide +kernel, by decide +kernel⟩⟩

/-- The hypotheses of each clause of Obligations.PowerMonitor. -/
theorem test_PowerMonitor_hypotheses :
    (∃ (v : Word), ∃ (s : State), s.accepts PWR.DOM_EN = true ∧ s.domEnRefused (bits v 11 0) = false)
    ∧ (∃ (s : State), s.accepts (regCTRL PWR.page) = true)
    ∧ (∃ (s : State), s.accepts PWR.BANK_TEST = true)
    ∧ (∃ (s : State), s.domainUp 1 = true ∧ s.pwr.pf = false ∧ s.pwr.testRunning = false ∧ 24500 ≤ s.fld PWR.BANK_MV 15 0)
    ∧ (∃ (s : State), s.pwr.testRunning = true) :=
  ⟨⟨0x42F, up, by decide +kernel, by decide +kernel⟩,
   ⟨up, by decide +kernel⟩,
   ⟨up, by decide +kernel⟩,
   ⟨up.setFld PWR.BANK_MV 15 0 24500, by decide +kernel, by decide +kernel, by decide +kernel, by decide +kernel⟩,
   ⟨up.modPwr (fun p => { p with testRunning := true }), by decide +kernel⟩⟩

/-- The hypotheses of each clause of Obligations.CabinetIO. -/
theorem test_CabinetIO_hypotheses :
    (∃ (n : Fin 8), ∃ (on : Bool), ∃ (s : State), s.domainUp 11 = true ∧ s.rbit HKP.IN_STATE n.val ≠ on)
    ∧ (∃ (s : State), s.accepts HKP.RLY_CTRL = true) :=
  ⟨⟨7, true, up, by decide +kernel, by decide +kernel⟩,
   ⟨up, by decide +kernel⟩⟩

/-- The hypotheses of each clause of Obligations.FabricAccess. -/
theorem test_FabricAccess_hypotheses :
    (∃ (a : BitVec 64), ∃ (size : Fin 4), ∃ (k : ℕ), 0x4002E000 ≤ a.toNat ∧ a.toNat < 0x50000000 ∧ k = 2 ∨ isPageAddr a.toNat = true ∧ size ≠ 2 ∧ k = 0 ∨ isPageAddr a.toNat = true ∧ size = 2 ∧ a.toNat % 4 ≠ 0 ∧ k = 1)
    ∧ (∃ (s : State), s.accepts RCT.SLEW = true)
    ∧ (∃ (s : State), s.domainUp 5 = true) :=
  ⟨⟨0x40000002, 2, 1, by decide +kernel⟩,
   ⟨up, by decide +kernel⟩,
   ⟨up, by decide +kernel⟩⟩

/-- The hypotheses of each clause of Obligations.FabricCommon. -/
theorem test_FabricCommon_hypotheses :
    (∃ (s : State), s.accepts (regINT_FLAG LGT.page) = true)
    ∧ (∃ (p : Fin 46), ∃ (s : State), s.accepts (regLOCK p.val) = true)
    ∧ (∃ (p : Fin 46), ∃ (s : State), s.rbit (regLOCK p.val) 1 = true)
    ∧ (∃ (w : BadWord), ∀ (req : Req) (a v : Word), w ≠ BadWord.write req a v)
    ∧ (∃ (a : Word), isWindow (BitVec.toNat a) = true)
    ∧ (∃ (s : State), s.accepts (regCTRL SYS.page) = true) :=
  ⟨⟨up, by decide +kernel⟩,
   ⟨0, up, by decide +kernel⟩,
   ⟨45, up.setRbit (regLOCK 45) 1 true, by decide +kernel⟩,
   ⟨.other, fun _ _ _ h => by cases h⟩,
   ⟨0x50000400, by decide +kernel⟩,
   ⟨up, by decide +kernel⟩⟩

/-- The hypotheses of each clause of Obligations.FabricResets. -/
theorem test_FabricResets_hypotheses :
    (∃ (key : BitVec 16), key ≠ 42435)
    ∧ (∃ (s : State), s.accepts (regCTRL TRC.page) = true)
    ∧ (∃ (p : Fin 46), ∃ (s : State), s.rbit (regLOCK p.val) 1 = true) :=
  ⟨⟨0, by decide +kernel⟩,
   ⟨up, by decide +kernel⟩,
   ⟨45, up.setRbit (regLOCK 45) 1 true, by decide +kernel⟩⟩

/-- The hypotheses of each clause of Obligations.Watchdog. -/
theorem test_Watchdog_hypotheses :
    (∃ (s : State), s.accepts SYS.WDOG_CFG = true)
    ∧ (∃ (v : Word), v ≠ 49374)
    ∧ (∃ (s : State), s.rbit SYS.WDOG_CFG 16 = true ∧ s.sys.wdogWarned = false)
    ∧ (∃ (s : State), s.rbit SYS.WDOG_CFG 16 = true ∧ s.rbit SYS.WDOG_CFG 17 = false)
    ∧ (∃ (s : State), s.rbit SYS.WDOG_CFG 16 = true ∧ s.rbit SYS.WDOG_CFG 17 = true) :=
  ⟨⟨up, by decide +kernel⟩,
   ⟨0, by decide +kernel⟩,
   ⟨up.setRbit SYS.WDOG_CFG 16 true, by decide +kernel, by decide +kernel⟩,
   ⟨up.setRbit SYS.WDOG_CFG 16 true, by decide +kernel, by decide +kernel⟩,
   ⟨(up.setRbit SYS.WDOG_CFG 16 true).setRbit SYS.WDOG_CFG 17 true, by decide +kernel, by decide +kernel⟩⟩

/-- The hypotheses of each clause of Obligations.SenseLanes. -/
theorem test_SenseLanes_hypotheses :
    (∃ (b : Fin 13), ∃ (v : Word), ∃ (s : State), s.accepts (SNS.LANE_CFG b.val) = true ∧ bit v 0 = true ∧ s.rbit (regCTRL (snsPage b.val)) 0 = true ∧ s.pwr.boards.testBit b.val = true ∧ s.domainUp 5 = true ∧ s.laneState b.val = LANE.OFF)
    ∧ (∃ (b : Fin 13), ∃ (v : Word), ∃ (s : State), s.accepts (SNS.LANE_CFG b.val) = true ∧ bit v 0 = false)
    ∧ (∃ (b : Fin 13), ∃ (s : State), s.laneState b.val = LANE.TRAIN)
    ∧ (∃ (b : Fin 13), ∃ (s : State), s.laneState b.val = LANE.SETTLE)
    ∧ (∃ (b : Fin 13), ∃ (s : State), s.laneState b.val = LANE.DATA) :=
  ⟨⟨12, 1, (up.setRbit (regCTRL (snsPage 12)) 0 true).modPwr (fun p => { p with boards := 8191 }), by decide +kernel, by decide +kernel, by decide +kernel, by decide +kernel, by decide +kernel, by decide +kernel⟩,
   ⟨0, 0, up, by decide +kernel, by decide +kernel⟩,
   ⟨12, up.setFld (SNS.LANE_STAT 12) 2 0 LANE.TRAIN, by decide +kernel⟩,
   ⟨12, up.setFld (SNS.LANE_STAT 12) 2 0 LANE.SETTLE, by decide +kernel⟩,
   ⟨12, up.setFld (SNS.LANE_STAT 12) 2 0 LANE.DATA, by decide +kernel⟩⟩

/-- The hypotheses of each clause of Obligations.SenseSamples. -/
theorem test_SenseSamples_hypotheses :
    (∃ (i : Fin 104), ∃ (s : State), s.inputOn i.val = true ∧ bit (s.snsIn i.val).cfg 3 = true ∧ bits (s.snsIn i.val).cfg 2 1 ≠ 3 ∧ s.domainUp 5 = true)
    ∧ (∃ (i : Fin 104), ∃ (s : State), s.domainUp 5 = true ∧ (s.inputOn i.val = false ∨ bit (s.snsIn i.val).cfg 3 = false ∨ bits (s.snsIn i.val).cfg 2 1 = 3))
    ∧ (∃ (i : Fin 104), ∃ (s : State), s.rbit (SNS.ISTAT i.val) 1 = true ∧ (s.snsIn i.val).settleLeft = 0) :=
  ⟨⟨103, (up.setRbit (regCTRL (snsPage 12)) 0 true).setIn 103 { cfg := 9 }, by decide +kernel, by decide +kernel, by decide +kernel, by decide +kernel⟩,
   ⟨0, up, by decide +kernel, by decide +kernel⟩,
   ⟨103, (up.setRbit (SNS.ISTAT 103) 1 true).setIn 103 { settleLeft := 0 }, by decide +kernel, by decide +kernel⟩⟩

/-- The hypotheses of each clause of Obligations.Playback. -/
theorem test_Playback_hypotheses :
    (∃ (s : State), s.accepts PB.PB_CTRL = true ∧ (s.pbState = 0 ∨ s.pbState = 3) ∧ BitVec.toNat s.now + 32 ≤ BitVec.toNat (s.reg64 PB.PB_START_LO PB.PB_START_HI) ∧ s.twn.role ≠ Role.active)
    ∧ (∃ (s : State), s.pbState = 1 ∧ BitVec.toNat (s.reg64 PB.PB_START_LO PB.PB_START_HI) ≤ BitVec.toNat s.now)
    ∧ (∃ (s : State), s.sns.play = true ∧ (s.pbState = 1 ∨ s.pbState = 2) ∧ s.sns.stopAt = none ∧ BitVec.toNat s.sns.nextFetch ≤ BitVec.toNat s.now + 16 ∧ s.reg PB.PB_COUNT = 0 ∧ s.pbHeld = 0)
    ∧ (∃ (s : State), s.sns.play = true ∧ (s.pbState = 1 ∨ s.pbState = 2) ∧ s.sns.stopAt = none ∧ BitVec.toNat s.sns.nextFetch ≤ BitVec.toNat s.now + 16 ∧ s.reg PB.PB_COUNT = 0 ∧ s.pbHeld ≠ 0 ∧ inDram (s.pbAddr (BitVec.toNat (s.reg PB.PB_RD))) 1024 = true ∧ natBE (List.drop 1020 (s.bytes (s.pbAddr (BitVec.toNat (s.reg PB.PB_RD))) 1024)) = crc32 (List.take 1020 (s.bytes (s.pbAddr (BitVec.toNat (s.reg PB.PB_RD))) 1024)) ∧ (s.rbit PB.PB_CTRL 2 = true → natBE (List.take 8 (s.bytes (s.pbAddr (BitVec.toNat (s.reg PB.PB_RD))) 1024)) = BitVec.toNat s.sns.nextFetch))
    ∧ (∃ (live : List LaneBits), ∃ (s : State), (∀ l ∈ live, 64 + s.fld (SNS.LANE_CFG l.lane.val) 6 4 ≤ l.groups.length) ∧ s.sns.play = false ∧ s.pbState = 2 ∧ s.pbHeld < s.fld PB.PB_SIZE 20 0 ∧ inDram (s.pbAddr (BitVec.toNat (s.reg PB.PB_WR))) 1024 = true)
    ∧ (∃ (s : State), s.sns.play = false ∧ s.pbState = 2 ∧ s.fld PB.PB_SIZE 20 0 ≤ s.pbHeld)
    ∧ (∃ (s : State), s.pbState = 2 ∧ s.reg PB.PB_COUNT ≠ 0 ∧ s.reg PB.PB_DONE = s.reg PB.PB_COUNT)
    ∧ (∃ (s : State), s.accepts PB.PB_CTRL = true ∧ (s.pbState = 1 ∨ s.pbState = 2)) :=
  ⟨⟨up.setReg PB.PB_START_LO 32, by decide +kernel, by decide +kernel, by decide +kernel, by decide +kernel⟩,
   ⟨(up.setPb 1).setReg PB.PB_START_LO 0, by decide +kernel, by decide +kernel⟩,
   ⟨((up.setPb 2).setReg PB.PB_COUNT 0).modSns (fun x => { x with play := true, stopAt := none, nextFetch := 16 }), by decide +kernel, by decide +kernel, by decide +kernel, by decide +kernel, by decide +kernel, by decide +kernel⟩,
   ⟨record, by decide +kernel, by decide +kernel, by decide +kernel, by decide +kernel, by decide +kernel, by decide +kernel, by decide +kernel, record_crc, fun h => absurd h (by decide +kernel)⟩,
   ⟨[{ lane := 12, groups := List.replicate 68 0, offset := 0 }], (((up.setPb 2).setReg PB.PB_BASE_LO 0x80000000).setReg PB.PB_SIZE 16).modSns (fun x => { x with play := false }), by decide +kernel, by decide +kernel, by decide +kernel, by decide +kernel, by decide +kernel⟩,
   ⟨(((up.setPb 2).setReg PB.PB_WR 16).setReg PB.PB_SIZE 16).modSns (fun x => { x with play := false }), by decide +kernel, by decide +kernel, by decide +kernel⟩,
   ⟨((up.setPb 2).setReg PB.PB_COUNT 5).setReg PB.PB_DONE 5, by decide +kernel, by decide +kernel, by decide +kernel⟩,
   ⟨up.setPb 1, by decide +kernel, by decide +kernel⟩⟩

/-- The hypotheses of each clause of Obligations.EngineRecords. -/
theorem test_EngineRecords_hypotheses :
    (∃ (s : State), s.domainUp 4 = true ∧ s.rctState ≠ RCT.IDLE ∧ s.cen.run = false ∧ BitVec.toNat s.now % 8 ≠ 0)
    ∧ (∃ (s : State), ∃ (i : ℕ), ∃ (w : Word), s.domainUp 4 = true ∧ s.rctState ≠ RCT.IDLE ∧ s.cen.run = true ∧ BitVec.toNat s.now % 8 ≠ 0 ∧ List.filter (fun (e : ℕ × Word) => decide (entTICK e.2 = angleOf s.now % 8)) (s.slotTable W0.tableActive).1 = [(i, w)] ∧ entKIND w = KIND.INNER ∧ 48 ≤ entRECORD w ∧ entRECORD w ≤ 50 ∧ s.mfe.legsOff = false ∧ (s.loop (entRECORD w)).halt = true)
    ∧ (∃ (s : State), ∃ (i : ℕ), ∃ (w : Word), s.domainUp 4 = true ∧ s.rctState ≠ RCT.IDLE ∧ s.cen.run = true ∧ BitVec.toNat s.now % 8 ≠ 0 ∧ List.filter (fun (e : ℕ × Word) => decide (entTICK e.2 = angleOf s.now % 8)) (s.slotTable W0.tableActive).1 = [(i, w)] ∧ entKIND w = KIND.OUTER ∧ entRECORD w = 51 ∧ s.outerDue (entRECORD w) = true ∧ (s.loop (entRECORD w)).halt = false ∧ (s.loop (entRECORD w)).fb = false ∧ s.sense (s.outerIn W0.bankActive (entRECORD w)) = none ∧ s.fld (CEN.MISS (entRECORD w)) 19 18 < 2)
    ∧ (∃ (r : Fin 64), ∃ (s : State), s.frameStart = true ∧ s.wantsFallback r.val = true ∧ (s.loop r.val).fb = false)
    ∧ (∃ (r : Fin 64), ∃ (y : ℤ), ∃ (s : State), s.frameStart = true ∧ s.wantsFallback r.val = false ∧ (s.loop r.val).fb = true ∧ s.sense (s.innerIn W0.bankActive r.val) = some y)
    ∧ (∃ (s : State), s.accepts CEN.REARM_LO = true ∧ s.accepts CEN.REARM_HI = true ∧ s.domainUp 4 = true)
    ∧ (∃ (r : Fin 64), ∃ (y : ℤ), ∃ (s : State), s.frameStart = true ∧ (s.loop r.val).rearm = true ∧ (s.loop r.val).halt = true ∧ s.measurement r.val = some y)
    ∧ (∃ (r : Fin 64), ∃ (s : State), s.frameStart = true ∧ (s.loop r.val).rearm = true ∧ (s.loop r.val).halt = false)
    ∧ (∃ (s : State), s.accepts (regCTRL CEN.page) = true ∧ s.firstLock = true ∧ entKIND (s.winWord W0.tableActive) ≠ KIND.STOP)
    ∧ (∃ (s : State), s.firstLock = false ∧ s.rbit (regCTRL CEN.page) 0 = false)
    ∧ (∃ (s : State), s.accepts (regCTRL CEN.page) = true ∧ s.rbit (regCTRL CEN.page) 0 = true ∧ s.sinksOn = false) :=
  ⟨⟨live 1, by decide +kernel, by decide +kernel, by decide +kernel, by decide +kernel⟩,
   ⟨((((live 1).setWin W0.tableActive 0x3001).modCen (fun c => { c with run := true })).modLoop 48 (fun l => { l with halt := true })).modMfe (fun m => { m with legsOff := false }), 0, 0x3001, by decide +kernel, by decide +kernel, by decide +kernel, by decide +kernel, by decide +kernel, by decide +kernel, by decide +kernel, by decide +kernel, by decide +kernel, by decide +kernel⟩,
   ⟨((((live 1).setWin W0.tableActive 0x3311).modCen (fun c => { c with run := true })).modLoop 51 (fun l => { l with halt := false })).modMfe (fun m => { m with legsOff := false }), 0, 0x3311, by decide +kernel, by decide +kernel, by decide +kernel, by decide +kernel, by decide +kernel, by decide +kernel, by decide +kernel, by decide +kernel, by decide +kernel, by decide +kernel, by decide +kernel, by decide +kernel⟩,
   ⟨63, (live 8).modLoop 63 (fun l => { l with auto := true }), by decide +kernel, by decide +kernel, by decide +kernel⟩,
   ⟨63, 0, (sampled (live 8)).modLoop 63 (fun l => { l with fb := true }), by decide +kernel, by decide +kernel, by decide +kernel, by decide +kernel⟩,
   ⟨up, by decide +kernel, by decide +kernel, by decide +kernel⟩,
   ⟨63, 0, (sampled (live 8)).modLoop 63 (fun l => { l with rearm := true, halt := true }), by decide +kernel, by decide +kernel, by decide +kernel, by decide +kernel⟩,
   ⟨63, (live 8).modLoop 63 (fun l => { l with rearm := true }), by decide +kernel, by decide +kernel, by decide +kernel⟩,
   ⟨(live 8).setWin W0.tableActive 0x10, by decide +kernel, by decide +kernel, by decide +kernel⟩,
   ⟨up, by decide +kernel, by decide +kernel⟩,
   ⟨up.setRbit (regCTRL CEN.page) 0 true, by decide +kernel, by decide +kernel, by decide +kernel⟩⟩

/-- The hypotheses of each clause of Obligations.EngineBanks. -/
theorem test_EngineBanks_hypotheses :
    (∃ (s : State), s.accepts CEN.TBL_CHECK = true ∧ s.domainUp 4 = true ∧ s.rbit CEN.TBL_STAT 1 = false)
    ∧ (∃ (s : State), s.rbit CEN.TBL_STAT 1 = true)
    ∧ (∃ (table : Bool), ∃ (s : State), s.accepts CEN.COMMIT_CTRL = true ∧ s.commitRefused table = false ∧ s.rbit (regCTRL CEN.page) 0 = true ∧ s.domainUp 4 = true)
    ∧ (∃ (table : Bool), ∃ (s : State), s.commitRefused table = true)
    ∧ (∃ (s : State), s.accepts CEN.COMMIT_CTRL = true ∧ s.cancelOk = true)
    ∧ (∃ (s : State), s.accepts CEN.COMMIT_CTRL = true ∧ s.cen.commit = none)
    ∧ (∃ (s : State), Windows.wf s.win = true ∧ s.cen.copying = true)
    ∧ (∃ (c : Commit), ∃ (s : State), Windows.wf s.win = true ∧ s.cen.commit = some c ∧ s.domainUp 4 = true ∧ BitVec.toNat c.at_ ≤ BitVec.toNat s.now) :=
  ⟨⟨up, by decide +kernel, by decide +kernel, by decide +kernel⟩,
   ⟨up.setRbit CEN.TBL_STAT 1 true, by decide +kernel⟩,
   ⟨false, ((live 8).setRbit (regCTRL CEN.page) 0 true).setRbit CEN.TBL_STAT 0 true, by decide +kernel, by decide +kernel, by decide +kernel, by decide +kernel⟩,
   ⟨true, up, by decide +kernel⟩,
   ⟨(live 8).modCen (fun c => { c with commit := some { at_ := 64, asked := 64, late := false, table := true } }), by decide +kernel, by decide +kernel⟩,
   ⟨up, by decide +kernel, by decide +kernel⟩,
   ⟨up.modCen (fun c => { c with copying := true }), by decide +kernel, by decide +kernel⟩,
   ⟨{ at_ := 64, asked := 64, late := false, table := true }, (live 64).modCen (fun c => { c with commit := some { at_ := 64, asked := 64, late := false, table := true } }), by decide +kernel, by decide +kernel, by decide +kernel, by decide +kernel⟩⟩

/-- The hypotheses of each clause of Obligations.FrontEnd. -/
theorem test_FrontEnd_hypotheses :
    (∃ (s : State), s.accepts (regCTRL MFE.page) = true ∧ s.firstLock = true ∧ s.rbit (regCTRL CEN.page) 0 = true ∧ s.fld (regSTAT RCT.page) 13 12 ≠ 2 ∧ s.feMatches = true)
    ∧ (∃ (s : State), s.rbit (regCTRL MFE.page) 0 = false ∧ (s.firstLock = false ∨ s.rbit (regCTRL CEN.page) 0 = false ∨ s.fld (regSTAT RCT.page) 13 12 = 2))
    ∧ (∃ (s : State), s.frameStart = true ∧ s.mainsOutDue = true)
    ∧ (∃ (y : ℤ), ∃ (s : State), s.frameStart = true ∧ s.rbit (regCTRL MFE.page) 0 = true ∧ s.feState = FE.MAINS_OUT ∧ s.rctState = RCT.LOCKED ∧ s.fld (regSTAT RCT.page) 13 12 = 1 ∧ s.boardKilled 12 = false ∧ s.feHalted = false ∧ s.sense 102 = some y)
    ∧ (∃ (s : State), s.frameStart = true ∧ s.feState = FE.PRECHARGE ∧ s.mfe.settled = true)
    ∧ (∃ (s : State), s.frameStart = true ∧ s.feState = FE.PRECHARGE ∧ s.mfe.settled = false ∧ BitVec.toNat s.mfe.since + s.preTimeout * 4096 ≤ BitVec.toNat s.now)
    ∧ (∃ (s : State), s.frameStart = true ∧ s.rbit (regCTRL MFE.page) 0 = true ∧ s.feHalted = true ∧ s.feState ≠ FE.HALTED ∧ s.boardKilled 12 = false)
    ∧ (∃ (s : State), s.frameStart = true ∧ s.feState = FE.HALTED ∧ (∀ r ∈ [48, 49, 50], (s.loop r).u = s.coef r 84))
    ∧ (∃ (s : State), s.domainUp 4 = true ∧ s.mfe.sag = true ∧ s.mfe.shedAt = none ∧ s.sagShed = false)
    ∧ (∃ (c : ℕ), ∃ (b : Stamp), ∃ (s : State), s.frameStart = true ∧ s.mfe.shedAt = some (b, true) ∧ BitVec.toNat b ≤ BitVec.toNat s.now ∧ s.lowestRunning = some c)
    ∧ (∃ (s : State), s.domainUp 4 = true ∧ 8 ≤ s.mfe.uvRun ∧ (s.rbit (regSTAT MFE.page) 16 = false ∨ s.anyRunning = true))
    ∧ (∃ (f : Stamp), ∃ (c : ℕ), ∃ (s : State), s.frameStart = true ∧ angleOf s.now = 0 ∧ s.mfe.clearFrom = some f ∧ s.restoring = false ∧ s.highestShed = some c ∧ firstWholeCycle f + s.restoreHold ≤ cycleOf s.now)
    ∧ (∃ (c : ℕ), ∃ (s : State), s.frameStart = true ∧ angleOf s.now = 0 ∧ s.restoring = true ∧ s.highestShed = some c ∧ s.mfe.restored + s.restoreGap ≤ cycleOf s.now) :=
  ⟨⟨(feBank (live 0)).setRbit (regCTRL CEN.page) 0 true, by decide +kernel, by decide +kernel, by decide +kernel, by decide +kernel, by decide +kernel⟩,
   ⟨up, by decide +kernel, by decide +kernel⟩,
   ⟨(live 8).setRbit (regCTRL MFE.page) 0 true, by decide +kernel, by decide +kernel⟩,
   ⟨0, released ((((sampled (live 8)).setRbit (regCTRL MFE.page) 0 true).setFld mfeSTAT 2 0 FE.MAINS_OUT).setFld rctSTAT 13 12 1), by decide +kernel, by decide +kernel, by decide +kernel, by decide +kernel, by decide +kernel, by decide +kernel, by decide +kernel, by decide +kernel⟩,
   ⟨((live 8).setFld mfeSTAT 2 0 FE.PRECHARGE).modMfe (fun m => { m with settled := true }), by decide +kernel, by decide +kernel, by decide +kernel⟩,
   ⟨((live 0x200000).setFld mfeSTAT 2 0 FE.PRECHARGE), by decide +kernel, by decide +kernel, by decide +kernel, by decide +kernel⟩,
   ⟨released ((((live 8).setRbit (regCTRL MFE.page) 0 true).setFld mfeSTAT 2 0 FE.RUN).modLoop 51 (fun l => { l with halt := true })), by decide +kernel, by decide +kernel, by decide +kernel, by decide +kernel, by decide +kernel⟩,
   ⟨((live 8).setFld mfeSTAT 2 0 FE.HALTED), by decide +kernel, by decide +kernel, by decide +kernel⟩,
   ⟨(live 8).modMfe (fun m => { m with sag := true }), by decide +kernel, by decide +kernel, by decide +kernel, by decide +kernel⟩,
   ⟨3, 8, ((live 8).setFld (CHN.STAT_K 47) 2 0 CH.RUN).modMfe (fun m => { m with shedAt := some (8, true) }), by decide +kernel, by decide +kernel, by decide +kernel, by decide +kernel⟩,
   ⟨(live 8).modMfe (fun m => { m with uvRun := 8 }), by decide +kernel, by decide +kernel, by decide +kernel⟩,
   ⟨1, 3, ((live 0x100000).setFld (CHN.STAT_K 47) 2 0 CH.SHED).modMfe (fun m => { m with clearFrom := some 1 }), by decide +kernel, by decide +kernel, by decide +kernel, by decide +kernel, by decide +kernel, by decide +kernel⟩,
   ⟨3, (((live 0x100000).setFld (CHN.STAT_K 47) 2 0 CH.SHED).setRbit mfeSTAT 17 true), by decide +kernel, by decide +kernel, by decide +kernel, by decide +kernel, by decide +kernel⟩⟩

/-- The hypotheses of each clause of Obligations.Channels. -/
theorem test_Channels_hypotheses :
    (∃ (k : Fin 48), ∃ (b : Stamp), ∃ (y : ℤ), ∃ (s : State), s.frameStart = true ∧ (s.chan k.val).restoreAt = some b ∧ BitVec.toNat b ≤ BitVec.toNat s.now ∧ s.chState k.val = CH.SHED ∧ s.rbit (CHN.CTRL_K k.val) 0 = true ∧ s.startMeasure k.val = some y)
    ∧ (∃ (k : Fin 48), ∃ (v : Word), ∃ (s : State), s.accepts (CHN.CTRL_K k.val) = true ∧ s.rbit (CHN.CTRL_K k.val) 0 = false ∧ s.firstLock = true ∧ s.rbit (regCTRL CEN.page) 0 = true ∧ s.channelMatches k.val (bit v 1) = true)
    ∧ (∃ (k : Fin 48), ∃ (v : Word), ∃ (s : State), s.accepts (CHN.CTRL_K k.val) = true ∧ s.rbit (CHN.CTRL_K k.val) 0 = false ∧ (s.firstLock = false ∨ s.rbit (regCTRL CEN.page) 0 = false ∨ s.channelMatches k.val (bit v 1) = false))
    ∧ (∃ (k : Fin 48), ∃ (s : State), s.frameStart = true ∧ s.rbit (CHN.CTRL_K k.val) 0 = true ∧ s.boardKilled (k.val / 4) = false ∧ s.chState k.val = CH.OFF ∧ s.enableSheds = true)
    ∧ (∃ (k : Fin 48), ∃ (y : ℤ), ∃ (s : State), s.frameStart = true ∧ s.rbit (CHN.CTRL_K k.val) 0 = true ∧ s.boardKilled (k.val / 4) = false ∧ s.chState k.val = CH.HALTED ∧ (s.loop k.val).halt = false ∧ s.startMeasure k.val = some y)
    ∧ (∃ (k : Fin 48), ∃ (s : State), s.frameStart = true ∧ s.chState k.val = CH.START ∧ (s.chan k.val).since ≠ s.now ∧ (s.loop k.val).rs = s.rCmd k.val ∧ (s.loop k.val).halt = false)
    ∧ (∃ (k : Fin 48), ∃ (s : State), s.frameStart = true ∧ s.chRunning k.val = true ∧ (s.loop k.val).halt = true)
    ∧ (∃ (k : Fin 48), ∃ (s : State), s.frameStart = true ∧ s.chState k.val = CH.HALTED ∧ (s.loop k.val).u = 0)
    ∧ (∃ (k : Fin 48), ∃ (s : State), s.accepts (CHN.SP_NEXT k.val) = true)
    ∧ (∃ (s : State), s.accepts MFE.BUS_SP_NEXT = true ∧ s.largestFeeder ≤ 380000)
    ∧ (∃ (k : Fin 48), ∃ (s : State), s.accepts (CHN.SP_AT_HI k.val) = true ∧ s.domainUp 4 = true)
    ∧ (∃ (k : Fin 48), ∃ (v : ℕ), ∃ (b : Stamp), ∃ (s : State), s.frameStart = true ∧ (s.chan k.val).pend = some (v, b) ∧ BitVec.toNat b ≤ BitVec.toNat s.now)
    ∧ (∃ (s : State), s.accepts MFE.BUS_SP_AT_HI = true ∧ s.domainUp 4 = true)
    ∧ (∃ (v : ℕ), ∃ (b : Stamp), ∃ (s : State), s.frameStart = true ∧ s.mfe.pend = some (v, b) ∧ BitVec.toNat b ≤ BitVec.toNat s.now) :=
  ⟨⟨47, 8, 0, (((sampled (live 8)).setFld (CHN.STAT_K 47) 2 0 CH.SHED).setRbit (CHN.CTRL_K 47) 0 true).modChan 47 (fun c => { c with restoreAt := some 8 }), by decide +kernel, by decide +kernel, by decide +kernel, by decide +kernel, by decide +kernel, by decide +kernel⟩,
   ⟨47, 0, (chanBank (live 0)).setRbit (regCTRL CEN.page) 0 true, by decide +kernel, by decide +kernel, by decide +kernel, by decide +kernel, by decide +kernel⟩,
   ⟨47, 0, up, by decide +kernel, by decide +kernel, by decide +kernel⟩,
   ⟨47, (live 8).setRbit (CHN.CTRL_K 47) 0 true |> fun t => { t with axe := { t.axe with out := 8191 } }, by decide +kernel, by decide +kernel, by decide +kernel, by decide +kernel, by decide +kernel⟩,
   ⟨47, 0, ((sampled (live 8)).setRbit (CHN.CTRL_K 47) 0 true).setFld (CHN.STAT_K 47) 2 0 CH.HALTED |> fun t => { t with axe := { t.axe with out := 8191 } }, by decide +kernel, by decide +kernel, by decide +kernel, by decide +kernel, by decide +kernel, by decide +kernel⟩,
   ⟨47, ((live 8).setFld (CHN.STAT_K 47) 2 0 CH.START).modLoop 47 (fun l => { l with rs := (live 8).rCmd 47 }), by decide +kernel, by decide +kernel, by decide +kernel, by decide +kernel, by decide +kernel⟩,
   ⟨47, ((live 8).setFld (CHN.STAT_K 47) 2 0 CH.RUN).modLoop 47 (fun l => { l with halt := true }), by decide +kernel, by decide +kernel, by decide +kernel⟩,
   ⟨47, ((live 8).setFld (CHN.STAT_K 47) 2 0 CH.HALTED), by decide +kernel, by decide +kernel, by decide +kernel⟩,
   ⟨0, up, by decide +kernel⟩,
   ⟨up, by decide +kernel, by decide +kernel⟩,
   ⟨0, up, by decide +kernel, by decide +kernel⟩,
   ⟨47, 5, 8, (live 8).modChan 47 (fun c => { c with pend := some (5, 8) }), by decide +kernel, by decide +kernel, by decide +kernel⟩,
   ⟨up, by decide +kernel, by decide +kernel⟩,
   ⟨5, 8, (live 8).modMfe (fun c => { c with pend := some (5, 8) }), by decide +kernel, by decide +kernel, by decide +kernel⟩⟩

/-- The hypotheses of each clause of Obligations.AxeLatches. -/
theorem test_AxeLatches_hypotheses :
    (∃ (n : Fin 13), ∃ (s : State), s.rbit AXE.PIN_ARMED n.val = true ∧ s.domainUp 4 = true ∧ (s.axeClass n.val = 1 ∨ s.axeClass n.val = 2) ∧ (s.axeSrc n.val).latch = none)
    ∧ (∃ (n : Fin 13), ∃ (s : State), s.rbit AXE.PIN_ARMED n.val = false)
    ∧ (∃ (n : Fin 13), ∃ (s : State), s.pwr.boards.testBit n.val = true ∧ s.rbit (AXE.PIN_CFG n.val) 20 = true ∧ s.domainUp 4 = true)
    ∧ (∃ (v : Word), ∃ (s : State), s.accepts AXE.FORCE = true ∧ bits v 12 0 ≠ 0 ∧ (s.axeSrc 32).latch = none)
    ∧ (∃ (v : Word), ∃ (s : State), s.accepts AXE.FORCE = true ∧ bits v 12 0 = 0)
    ∧ (∃ (src : AxeSource), ∃ (s : State), s.autoClearable src.index = true ∧ BitVec.toNat s.now % 8 = 0)
    ∧ (∃ (k : ℕ), ∃ (s : State), s.accepts AXE.CLEAR = true ∧ k ∈ s.latched ∧ s.writeClearable k = true ∧ ((s.axeSrc k).latch = some 0 ∨ (s.axeSrc k).latch = some 1))
    ∧ (∃ (k : ℕ), ∃ (s : State), s.accepts AXE.CLEAR = true ∧ k ∈ s.latched ∧ s.writeClearable k = true ∧ (s.axeSrc k).latch = some 2)
    ∧ (∃ (key : BitVec 16), key ≠ 53733) :=
  ⟨⟨12, (up.setRbit AXE.PIN_ARMED 12 true).setFld (AXE.PIN_CFG 12) 17 16 2, by decide +kernel, by decide +kernel, by decide +kernel, by decide +kernel⟩,
   ⟨0, up, by decide +kernel⟩,
   ⟨12, (up.setRbit (AXE.PIN_CFG 12) 20 true).modPwr (fun p => { p with boards := 8191 }), by decide +kernel, by decide +kernel, by decide +kernel⟩,
   ⟨0x1000, up, by decide +kernel, by decide +kernel, by decide +kernel⟩,
   ⟨0, up, by decide +kernel, by decide +kernel⟩,
   ⟨.lane 12, ({ live 0x1000000 with axe := { up.axe with srcs := [(0x1C, { latch := some 0 })] } }).setFld (SNS.LANE_STAT 12) 2 0 LANE.DATA, by decide +kernel, by decide +kernel⟩,
   ⟨0x20, { live 0x100000 with axe := { up.axe with srcs := [(0x20, { latch := some 1 })] } }, by decide +kernel, by decide +kernel, by decide +kernel, by decide +kernel⟩,
   ⟨0x0C, ({ live 0x1000000 with axe := { up.axe with srcs := [(0x0C, { latch := some 2 })] } }).setFld AXE.PIN_STATE 12 0 0, by decide +kernel, by decide +kernel, by decide +kernel, by decide +kernel⟩,
   ⟨0, by decide +kernel⟩⟩

/-- The hypotheses of each clause of Obligations.AxeOutputs. -/
theorem test_AxeOutputs_hypotheses :
    (∃ (n : Fin 13), ∃ (s : State), s.accepts (AXE.PIN_CFG n.val) = true)
    ∧ (∃ (s : State), s.accepts AXE.RUN_EN = true)
    ∧ (∃ (n : Fin 13), ∃ (s : State), s.releasable n.val = true)
    ∧ (∃ (k : Fin 48), ∃ (s : State), s.frameStart = true ∧ s.boardKilled (k.val / 4) = true ∧ s.rbit (CHN.CTRL_K k.val) 0 = true ∧ s.chState k.val ≠ CH.TRIPPED)
    ∧ (∃ (k : Fin 48), ∃ (y : ℤ), ∃ (s : State), s.frameStart = true ∧ s.chState k.val = CH.TRIPPED ∧ s.rbit (CHN.CTRL_K k.val) 0 = true ∧ s.boardKilled (k.val / 4) = false ∧ BitVec.toNat (Tab.get (fun (x : ℕ) => 0) s.axe.releasedAt (k.val / 4)) + 8 * (k.val % 4 + 1) ≤ BitVec.toNat s.now ∧ s.enableSheds = false ∧ s.startMeasure k.val = some y)
    ∧ (∃ (k : Fin 48), ∃ (s : State), s.frameStart = true ∧ s.chState k.val = CH.TRIPPED ∧ s.rbit (CHN.CTRL_K k.val) 0 = true ∧ s.boardKilled (k.val / 4) = false ∧ BitVec.toNat (Tab.get (fun (x : ℕ) => 0) s.axe.releasedAt (k.val / 4)) + 8 * (k.val % 4 + 1) ≤ BitVec.toNat s.now ∧ s.enableSheds = true) :=
  ⟨⟨0, up, by decide +kernel⟩,
   ⟨up, by decide +kernel⟩,
   ⟨12, (((live 8).setFld AXE.RUN_EN 12 0 8191).setRbit (AXE.PIN_CFG 12) 20 false) |> fun t => { t with axe := { t.axe with out := 0 } }, by decide +kernel⟩,
   ⟨47, (live 8).setRbit (CHN.CTRL_K 47) 0 true |> fun t => { t with axe := { t.axe with out := 0 } }, by decide +kernel, by decide +kernel, by decide +kernel, by decide +kernel⟩,
   ⟨47, 0, ((((sampled (live 64)).setRbit (CHN.CTRL_K 47) 0 true).setFld (CHN.STAT_K 47) 2 0 CH.TRIPPED).setFld mfeSTAT 2 0 FE.RUN) |> fun t => { t with axe := { t.axe with out := 8191 } }, by decide +kernel, by decide +kernel, by decide +kernel, by decide +kernel, by decide +kernel, by decide +kernel, by decide +kernel⟩,
   ⟨47, (((live 64).setRbit (CHN.CTRL_K 47) 0 true).setFld (CHN.STAT_K 47) 2 0 CH.TRIPPED) |> fun t => { t with axe := { t.axe with out := 8191 } }, by decide +kernel, by decide +kernel, by decide +kernel, by decide +kernel, by decide +kernel, by decide +kernel⟩⟩

/-- The hypotheses of each clause of Obligations.StageLinks. -/
theorem test_StageLinks_hypotheses :
    (∃ (s : State), s.domainUp 4 = true ∧ (s.twn.role = Role.solo ∨ s.twn.role = Role.active) ∧ (∀ n < 13, s.linkState n = LINK.ABSENT))
    ∧ (∃ (n : Fin 13), ∃ (s : State), s.domainUp 4 = true ∧ (s.twn.role = Role.solo ∨ s.twn.role = Role.active) ∧ s.linkState n.val ≠ LINK.ABSENT ∧ (∀ (m : Fin 13), m ≠ n → s.linkState m.val = LINK.ABSENT) ∧ angleOf s.now % 8 = 0)
    ∧ (∃ (n : Fin 13), ∃ (clean : Bool), ∃ (f : List Byte), ∃ (s : State), s.linkState n.val ≠ LINK.ABSENT ∧ statusGood clean f = false)
    ∧ (∃ (n : Fin 13), ∃ (f : List Byte), ∃ (at_ : Stamp), ∃ (s : State), s.linkState n.val = LINK.LINKED ∧ statusGood true f = true ∧ (field f 2 2, at_, false) ∈ (s.stlBoard n.val).launches ∧ BitVec.toNat s.now ≤ BitVec.toNat at_ + 32 ∧ field f 1 1 = (s.stlBoard n.val).ver)
    ∧ (∃ (n : Fin 13), ∃ (q : ℕ), ∃ (at_ : Stamp), ∃ (s : State), (s.stlBoard n.val).launches = [(q, at_, false)] ∧ BitVec.toNat at_ + 2 ≤ BitVec.toNat s.now)
    ∧ (∃ (n : Fin 13), ∃ (s : State), s.linkState n.val = LINK.LINKED ∧ BitVec.toNat (s.stlBoard n.val).heard + 32 ≤ BitVec.toNat s.now)
    ∧ (∃ (s : State), s.accepts (regCTRL STL.page) = true ∧ s.domainUp 4 = true ∧ s.twn.role = Role.solo ∧ (∀ n < 13, s.linkState n = LINK.ABSENT))
    ∧ (∃ (s : State), s.accepts (regCTRL STL.page) = true ∧ s.fld AXE.RUN_EN 12 0 = 0 ∧ s.twn.role = Role.solo)
    ∧ (∃ (s : State), s.fld AXE.RUN_EN 12 0 ≠ 0 ∧ s.rbit (regCTRL STL.page) 0 = true)
    ∧ (∃ (s : State), s.accepts STL.VER_LIMIT = true) :=
  ⟨⟨up, by decide +kernel, by decide +kernel, by decide +kernel⟩,
   ⟨12, (live 8).setFld (STL.BRD_STAT 12) 2 0 LINK.LINKED, by decide +kernel, by decide +kernel, by decide +kernel, by decide +kernel, by decide +kernel⟩,
   ⟨12, false, [], (live 8).setFld (STL.BRD_STAT 12) 2 0 LINK.LINKED, by decide +kernel, by decide +kernel⟩,
   ⟨12, ([2, 1] ++ List.replicate 18 0 ++ bytesBE 4 (crc32 ([2, 1] ++ List.replicate 18 0))), 8, ((live 40).setFld (STL.BRD_STAT 12) 2 0 LINK.LINKED).modBoard 12 (fun b => { b with ver := 1, launches := [(0, 8, false)] }), by decide +kernel, by decide +kernel, by decide +kernel, by decide +kernel, by decide +kernel⟩,
   ⟨12, 0, 8, (live 40).modBoard 12 (fun b => { b with launches := [(0, 8, false)] }), by decide +kernel, by decide +kernel⟩,
   ⟨12, ((live 40).setFld (STL.BRD_STAT 12) 2 0 LINK.LINKED).modBoard 12 (fun b => { b with heard := 8 }), by decide +kernel, by decide +kernel⟩,
   ⟨up, by decide +kernel, by decide +kernel, by decide +kernel, by decide +kernel⟩,
   ⟨up, by decide +kernel, by decide +kernel, by decide +kernel⟩,
   ⟨(up.setFld AXE.RUN_EN 12 0 1).setRbit (regCTRL STL.page) 0 true, by decide +kernel, by decide +kernel⟩,
   ⟨up, by decide +kernel⟩⟩

/-- The hypotheses of each clause of Obligations.MeteringCycle. -/
theorem test_MeteringCycle_hypotheses :
    (∃ (s : State), s.domainUp 1 = true ∧ s.domainUp 5 = true ∧ s.rbit (regCTRL MTR.page) 0 = true ∧ s.pwr.pf = false)
    ∧ (∃ (c0 : Stamp), ∃ (s : State), s.mtr.pubDue = some c0 ∧ s.rbit (regCTRL MTR.page) 0 = true ∧ s.pwr.pf = false)
    ∧ (∃ (s : State), s.accepts (regCTRL MTR.page) = true ∧ s.rbit (regCTRL MTR.page) 0 = false) :=
  ⟨⟨up.setRbit (regCTRL MTR.page) 0 true, by decide +kernel, by decide +kernel, by decide +kernel, by decide +kernel⟩,
   ⟨0, (up.setRbit (regCTRL MTR.page) 0 true).modMtr (fun m => { m with pubDue := some 0 }), by decide +kernel, by decide +kernel, by decide +kernel⟩,
   ⟨up, by decide +kernel, by decide +kernel⟩⟩

/-- The hypotheses of each clause of Obligations.MeteringRecords. -/
theorem test_MeteringRecords_hypotheses :
    (∃ (x : Fin 2), ∃ (n : ℕ), ∃ (s : State), s.pulsesDriven = true ∧ (s.pulse x.val).on = false ∧ (s.pulse x.val).edge + s.pulseWidth x.val ≤ s.rct.ticks ∧ cntOf s.mtrSet.pend x.val = n + 1)
    ∧ (∃ (x : Fin 2), ∃ (s : State), (s.pulse x.val).on = true ∧ (s.pulse x.val).edge + s.pulseWidth x.val ≤ s.rct.ticks ∧ (s.pulse x.val).billing = true)
    ∧ (∃ (c : MtrCommit), ∃ (s : State), s.mtr.due = some c ∧ s.mtr.writing = none ∧ s.pwr.pf = false)
    ∧ (∃ (w : MtrWrite), ∃ (s : State), s.mtr.writing = some w ∧ s.mtr.due = none)
    ∧ (∃ (s : State), s.accepts MTR.SEAL = true)
    ∧ (∃ (s : State), s.accepts MTR.ACC_CLEAR = true ∧ s.sealed = false)
    ∧ (∃ (s : State), s.sealed = true) :=
  ⟨⟨1, 0, ((up.setRbit (regCTRL MTR.page) 0 true).modRct (fun r => { r with ticks := 100000000 })).modMtr (fun m => { m with test := { m.test with pend := [(1, 1)] } }), by decide +kernel, by decide +kernel, by decide +kernel, by decide +kernel⟩,
   ⟨1, (up.modRct (fun r => { r with ticks := 100000000 })).modMtr (fun m => { m with pulses := [(1, { on := true })] }), by decide +kernel, by decide +kernel, by decide +kernel⟩,
   ⟨{ set := {}, last := 5 }, up.modMtr (fun m => { m with due := some { set := {}, last := 5 } }), by decide +kernel, by decide +kernel, by decide +kernel⟩,
   ⟨{ slot := 0, seq := 0, body := [] }, up.modMtr (fun m => { m with writing := some { slot := 0, seq := 0, body := [] } }), by decide +kernel, by decide +kernel⟩,
   ⟨up, by decide +kernel⟩,
   ⟨up, by decide +kernel, by decide +kernel⟩,
   ⟨up.setRbit mtrSTAT 1 true, by decide +kernel⟩⟩

/-- The hypotheses of each clause of Obligations.CorrectionBanks. -/
theorem test_CorrectionBanks_hypotheses :
    (∃ (s : State), s.accepts MTR.COR_CTRL = true ∧ s.sealed = false ∧ s.corFault = none)
    ∧ (∃ (p : ℕ), ∃ (s : State), s.accepts MTR.COR_CTRL = true ∧ s.sealed = false ∧ s.corFault = some p)
    ∧ (∃ (s : State), s.sealed = true)
    ∧ (∃ (s : State), Windows.wf s.win = true ∧ s.mtr.corPending = true ∧ s.rbit (regCTRL MTR.page) 0 = true ∧ angleOf s.meterNext = 0)
    ∧ (∃ (s : State), s.accepts MTR.COR_CTRL = true ∧ s.sealed = false ∧ s.mtr.corPending = false)
    ∧ (∃ (s : State), Windows.wf s.win = true ∧ s.mtr.copying = true) :=
  ⟨⟨up, by decide +kernel, by decide +kernel, by decide +kernel⟩,
   ⟨0, up.setWin 0x50100010 0xFFFFFFFF, by decide +kernel, by decide +kernel, by decide +kernel⟩,
   ⟨up.setRbit mtrSTAT 1 true, by decide +kernel⟩,
   ⟨((live 32).setRbit (regCTRL MTR.page) 0 true).modMtr (fun m => { m with corPending := true }), by decide +kernel, by decide +kernel, by decide +kernel, by decide +kernel⟩,
   ⟨up, by decide +kernel, by decide +kernel, by decide +kernel⟩,
   ⟨up.modMtr (fun m => { m with copying := true }), by decide +kernel, by decide +kernel⟩⟩

/-- The hypotheses of each clause of Obligations.DimmingPatterns. -/
theorem test_DimmingPatterns_hypotheses :
    (∃ (k : Fin 48), ∃ (s : State), s.dimStart = true ∧ s.dimmed k.val = false)
    ∧ (∃ (k : Fin 48), ∃ (s : State), s.accepts (LGT.LVL_AT_HI k.val) = true ∧ s.domainUp 4 = true)
    ∧ (∃ (k : Fin 48), ∃ (v : ℕ), ∃ (b : Stamp), ∃ (s : State), s.frameStart = true ∧ (s.lgtCh k.val).pend = some (v, b) ∧ BitVec.toNat b ≤ BitVec.toNat s.now)
    ∧ (∃ (e : Fin 8), ∃ (s : State), s.accepts (LGT.PE_START_HI e.val) = true ∧ s.firstLock = true ∧ s.domainUp 4 = true)
    ∧ (∃ (s : State), s.firstLock = false)
    ∧ (∃ (e : Fin 8), ∃ (d : Stamp), ∃ (s : State), s.dimStart = true ∧ (s.pe e.val).pend = some d ∧ BitVec.toNat d ≤ BitVec.toNat s.now ∧ ((s.pe e.val).stop = true → (s.pe e.val).afterStop = true))
    ∧ (∃ (e : Fin 8), ∃ (s : State), s.accepts (LGT.PE_CTRL e.val) = true)
    ∧ (∃ (e : Fin 8), ∃ (st : Stamp), ∃ (s : State), s.dimStart = true ∧ (s.pe e.val).errorAt = some st ∧ BitVec.toNat st < BitVec.toNat s.now) :=
  ⟨⟨47, live 64, by decide +kernel, by decide +kernel⟩,
   ⟨47, up, by decide +kernel, by decide +kernel⟩,
   ⟨47, 5, 8, (live 8).modLgtCh 47 (fun c => { c with pend := some (5, 8) }), by decide +kernel, by decide +kernel, by decide +kernel⟩,
   ⟨7, live 8, by decide +kernel, by decide +kernel, by decide +kernel⟩,
   ⟨up, by decide +kernel⟩,
   ⟨7, 64, (live 64).modPe 7 (fun p => { p with pend := some 64 }), by decide +kernel, by decide +kernel, by decide +kernel, by decide +kernel⟩,
   ⟨7, up, by decide +kernel⟩,
   ⟨7, 0, (live 64).modPe 7 (fun p => { p with errorAt := some 0 }), by decide +kernel, by decide +kernel, by decide +kernel⟩⟩

/-- The hypotheses of each clause of Obligations.LampDiagnostics. -/
theorem test_LampDiagnostics_hypotheses :
    (∃ (k : Fin 48), ∃ (q : StringCheck), ∃ (rest : List StringCheck), ∃ (s : State), (s.lgtCh k.val).checks = q :: rest ∧ s.rbit (regCTRL DIA.page) 0 = true ∧ max (BitVec.toNat q.last + 12) (BitVec.toNat q.start + 64) ≤ BitVec.toNat s.now ∧ (∃ d < 4, (s.sampleAt (chCurrent k.val) (q.last + 8 + BitVec.ofNat 64 d)).valid = false))
    ∧ (∃ (k : Fin 48), ∃ (q : StringCheck), ∃ (rest : List StringCheck), ∃ (i : ℤ), ∃ (v : ℤ), ∃ (s : State), (s.lgtCh k.val).checks = q :: rest ∧ s.rbit (regCTRL DIA.page) 0 = true ∧ max (BitVec.toNat q.last + 12) (BitVec.toNat q.start + 64) ≤ BitVec.toNat s.now ∧ BitVec.toNat s.now ≤ BitVec.toNat q.last + 24 ∧ (∀ d < 4, (s.sampleAt (chCurrent k.val) (q.last + 8 + BitVec.ofNat 64 d)).valid = true ∧ (s.sampleAt (chVoltage k.val) (q.last + 8 + BitVec.ofNat 64 d)).valid = true ∧ (s.sampleAt (chCurrent k.val) (q.last + 8 + BitVec.ofNat 64 d)).value = i ∧ (s.sampleAt (chVoltage k.val) (q.last + 8 + BitVec.ofNat 64 d)).value = v))
    ∧ (∃ (k : Fin 48), ∃ (a : ℤ), ∃ (b : ℤ), ∃ (s : State), (s.lgtCh k.val).ready = some (a, b) ∧ s.rbit (regCTRL DIA.page) 0 = true)
    ∧ (∃ (k : Fin 48), ∃ (s : State), s.accepts (DIA.D_CLR k.val) = true) :=
  ⟨⟨47, { start := 0, last := 50, rEff := 0 }, [], ((live 64).setRbit (regCTRL DIA.page) 0 true).modLgtCh 47 (fun c => { c with checks := [{ start := 0, last := 50, rEff := 0 }] }), by decide +kernel, by decide +kernel, by decide +kernel, by decide +kernel⟩,
   ⟨47, { start := 0, last := 50, rEff := 0 }, [], 0, 0, [94, 95].foldl (fun t i => t.setIn i { store := [(10, { valid := true }), (11, { valid := true }), (12, { valid := true }), (13, { valid := true })] }) (((live 64).setRbit (regCTRL DIA.page) 0 true).modLgtCh 47 (fun c => { c with checks := [{ start := 0, last := 50, rEff := 0 }] })), by decide +kernel, by decide +kernel, by decide +kernel, by decide +kernel, by decide +kernel⟩,
   ⟨47, 0, 0, ((live 64).setRbit (regCTRL DIA.page) 0 true).modLgtCh 47 (fun c => { c with ready := some (0, 0) }), by decide +kernel, by decide +kernel⟩,
   ⟨0, up, by decide +kernel⟩⟩

/-- The hypotheses of each clause of Obligations.FeederModem. -/
theorem test_FeederModem_hypotheses :
    (∃ (f : Fin 48), ∃ (r : TxReq), ∃ (rest : List TxReq), ∃ (s : State), (s.modem f.val).queue = r :: rest ∧ BitVec.toNat r.tick ≤ BitVec.toNat s.now ∧ r.sealed = true ∧ s.mayTransmit f.val = true)
    ∧ (∃ (f : Fin 48), ∃ (r : TxReq), ∃ (rest : List TxReq), ∃ (s : State), (s.modem f.val).queue = r :: rest ∧ BitVec.toNat r.tick ≤ BitVec.toNat s.now ∧ r.sealed = true ∧ s.mayTransmit f.val = false)
    ∧ (∃ (f : Fin 48), ∃ (s : State), s.transmitting f.val = true ∧ s.mayTransmit f.val = false ∧ (s.modem f.val).boundary s.samples < (s.modem f.val).txEnd)
    ∧ (∃ (f : Fin 48), ∃ (fc : List Byte), ∃ (s : State), s.modemOn f.val = true ∧ s.transmitting f.val = false ∧ (s.modem f.val).receiving = true ∧ controlGood fc = false)
    ∧ (∃ (f : Fin 48), ∃ (fc : List Byte), ∃ (s : State), s.modemOn f.val = true ∧ s.transmitting f.val = false ∧ (s.modem f.val).receiving = true ∧ controlGood fc = true)
    ∧ (∃ (p : Fin 4), ∃ (s : State), s.accepts (FPH.MASK_REQ p.val) = true)
    ∧ (∃ (f : Fin 48), ∃ (s : State), Windows.wf s.win = true ∧ s.rbit (FPH.MASK_STAT (f.val / 12)) (16 + f.val % 12) = true ∧ s.transmitting f.val = false ∧ (s.modem f.val).receiving = false)
    ∧ (∃ (p : Fin 4), ∃ (s : State), s.accepts (regCTRL (FPH.page p.val)) = true ∧ s.firstLock = true)
    ∧ (∃ (f : Fin 48), ∃ (s : State), s.accepts (FPH.F_CTRL f.val) = true ∧ s.firstLock = true) :=
  ⟨⟨47, tx0, [], (modemUp 47 (live 8)).modModem 47 (fun m => { m with queue := [tx0] }), by decide +kernel, by decide +kernel, by decide +kernel, by decide +kernel⟩,
   ⟨47, tx0, [], (live 8).modModem 47 (fun m => { m with queue := [tx0] }), by decide +kernel, by decide +kernel, by decide +kernel, by decide +kernel⟩,
   ⟨47, (live 8).modModem 47 (fun m => { m with txEnd := 20000 }), by decide +kernel, by decide +kernel, by decide +kernel⟩,
   ⟨47, [], (modemUp 47 (live 8)).modModem 47 (fun m => { m with receiving := true }), by decide +kernel, by decide +kernel, by decide +kernel, by decide +kernel⟩,
   ⟨47, (List.replicate 20 0 ++ bytesBE 4 (crc32 (List.replicate 20 0))), (modemUp 47 (live 8)).modModem 47 (fun m => { m with receiving := true }), by decide +kernel, by decide +kernel, by decide +kernel, by decide +kernel⟩,
   ⟨3, up, by decide +kernel⟩,
   ⟨47, up.setRbit (FPH.MASK_STAT 3) 27 true, by decide +kernel, by decide +kernel, by decide +kernel, by decide +kernel⟩,
   ⟨3, live 0, by decide +kernel, by decide +kernel⟩,
   ⟨47, live 0, by decide +kernel, by decide +kernel⟩⟩

/-- The hypotheses of each clause of Obligations.MacFrames. -/
theorem test_MacFrames_hypotheses :
    (∃ (f : Fin 48), ∃ (s : State), s.macActive f.val = true ∧ angleOf s.now = 0)
    ∧ (∃ (f : Fin 48), ∃ (s : State), s.macActive f.val = true ∧ angleOf s.now = 2)
    ∧ (∃ (f : Fin 48), ∃ (r : RxFrame), ∃ (rest : List RxFrame), ∃ (i : ℕ), ∃ (s : State), (s.modem f.val).rx = r :: rest ∧ s.macOn f.val = true ∧ s.mayTransmit f.val = true ∧ r.ftype = 1 ∧ s.isConfirm f.val r = false ∧ r.flag 5 = false ∧ r.forModule = true ∧ r.good = true ∧ s.nodeAt f.val (r.mb 12) = some i)
    ∧ (∃ (f : Fin 48), ∃ (r : RxFrame), ∃ (rest : List RxFrame), ∃ (i : ℕ), ∃ (s : State), (s.modem f.val).rx = r :: rest ∧ r.ftype = 2 ∧ s.nodeAt f.val (r.mb 10) = some i)
    ∧ (∃ (f : Fin 48), ∃ (x : MacFrame), ∃ (l : List MacFrame), ∃ (d : Stamp), ∃ (s : State), (s.mac f.val).out = x :: l ∧ x.acked = true ∧ x.due = some d ∧ BitVec.toNat d ≤ BitVec.toNat s.now)
    ∧ (∃ (f : Fin 48), ∃ (x : MacFrame), ∃ (l : List MacFrame), ∃ (c : ℕ), ∃ (s : State), (s.mac f.val).await = x :: l ∧ x.e2e = true ∧ x.sent = some c ∧ c + 4 ≤ cycleOf s.now ∧ s.twn.role ≠ Role.standby) :=
  ⟨⟨47, macUp 47 (live 0), by decide +kernel, by decide +kernel⟩,
   ⟨47, macUp 47 (live 2), by decide +kernel, by decide +kernel⟩,
   ⟨47, rx [0x11, 10, 0, 0, 5, 0, 0, 0, 0, 0, 0, 0] [], [], 9, received (rx [0x11, 10, 0, 0, 5, 0, 0, 0, 0, 0, 0, 0] []) (node9 (macUp 47 (live 2))), by decide +kernel, by decide +kernel, by decide +kernel, by decide +kernel, by decide +kernel, by decide +kernel, by decide +kernel, by decide +kernel, by decide +kernel⟩,
   ⟨47, rx [0x12, 10, 5, 0, 5, 0, 0, 0, 0, 0, 0, 0] [], [], 9, received (rx [0x12, 10, 5, 0, 5, 0, 0, 0, 0, 0, 0, 0] []) (node9 (macUp 47 (live 2))), by decide +kernel, by decide +kernel, by decide +kernel⟩,
   ⟨47, { node := 9, body := [], due := some 0 }, [], 0, (live 2).modMac 47 (fun m => { m with out := [{ node := 9, body := [], due := some 0 }] }), by decide +kernel, by decide +kernel, by decide +kernel, by decide +kernel⟩,
   ⟨47, { node := 9, body := [], e2e := true, sent := some 0 }, [], 0, (live 0x4000).modMac 47 (fun m => { m with await := [{ node := 9, body := [], e2e := true, sent := some 0 }] }), by decide +kernel, by decide +kernel, by decide +kernel, by decide +kernel, by decide +kernel⟩⟩

/-- The hypotheses of each clause of Obligations.NodeJoining. -/
theorem test_NodeJoining_hypotheses :
    (∃ (f : Fin 48), ∃ (r : RxFrame), ∃ (rest : List RxFrame), ∃ (ver : ℕ), ∃ (s : State), (s.modem f.val).rx = r :: rest ∧ r.ftype = 3 ∧ fcField r.body 0 1 = 1 ∧ s.macActive f.val = true ∧ r.good = true ∧ (s.mac f.val).sessions = [] ∧ s.rbit (FMA.M_CTRL f.val) 1 = true ∧ s.nodes = [] ∧ s.eps = [] ∧ (parseReq (List.drop 1 r.body)).relays = [] ∧ s.reqKnown f.val (List.drop 1 r.body) = false ∧ (parseReq (List.drop 1 r.body)).types.length ≤ 16 ∧ s.joinVersion f.val (parseReq (List.drop 1 r.body)) = some ver)
    ∧ (∃ (f : Fin 48), ∃ (r : RxFrame), ∃ (rest : List RxFrame), ∃ (s : State), (s.modem f.val).rx = r :: rest ∧ r.ftype = 3 ∧ fcField r.body 0 1 = 1 ∧ s.macActive f.val = true ∧ r.good = true ∧ (s.mac f.val).sessions = [] ∧ s.reqKnown f.val (List.drop 1 r.body) = false ∧ (parseReq (List.drop 1 r.body)).types.length ≤ 16 ∧ s.rbit (FMA.M_CTRL f.val) 1 = false)
    ∧ (∃ (f : Fin 48), ∃ (r : RxFrame), ∃ (rest : List RxFrame), ∃ (x : JoinSession), ∃ (s : State), (s.modem f.val).rx = r :: rest ∧ r.ftype = 3 ∧ fcField r.body 0 1 = 3 ∧ s.macActive f.val = true ∧ r.good = true ∧ r.flag 5 = false ∧ (s.mac f.val).sessions = [x] ∧ x.step = 3 ∧ x.eui = fcField (List.drop 1 r.body) 0 8)
    ∧ (∃ (f : Fin 48), ∃ (r : RxFrame), ∃ (rest : List RxFrame), ∃ (x : JoinSession), ∃ (s : State), (s.modem f.val).rx = r :: rest ∧ s.confirmOf f.val r = some x ∧ r.ftype = 1 ∧ r.key = 2 ∧ r.flag 5 = false)
    ∧ (∃ (f : Fin 48), ∃ (x : JoinSession), ∃ (l : List JoinSession), ∃ (s : State), (s.mac f.val).sessions = x :: l ∧ x.at_ + s.fld (FMA.JOIN_CFG f.val) 7 0 < cycleOf s.now)
    ∧ (∃ (i : Fin 4096), ∃ (s : State), s.node i.val N.STATE 1 = ND.JOINED ∧ s.macActive (s.node i.val N.FEEDER 1) = true ∧ s.node i.val N.FEEDER 1 < 48 ∧ s.fld (FMA.JOIN_CFG (s.node i.val N.FEEDER 1)) 23 16 * 16 ≤ BitVec.toNat (word (cycleOf s.now) - word (s.node i.val N.HEARD 4))) :=
  ⟨⟨47, rx [0x13, 0, 0, 0, 0, 0, 0, 0, 0, 0, 0, 0] reqBody, [], 1, (received (rx [0x13, 0, 0, 0, 0, 0, 0, 0, 0, 0, 0, 0] reqBody) (macUp 47 (live 2))).setRbit (FMA.M_CTRL 47) 1 true, by decide +kernel, by decide +kernel, by decide +kernel, by decide +kernel, by decide +kernel, by decide +kernel, by decide +kernel, by decide +kernel, by decide +kernel, by decide +kernel, by decide +kernel, by decide +kernel, by decide +kernel⟩,
   ⟨47, rx [0x13, 0, 0, 0, 0, 0, 0, 0, 0, 0, 0, 0] reqBody, [], (received (rx [0x13, 0, 0, 0, 0, 0, 0, 0, 0, 0, 0, 0] reqBody) (macUp 47 (live 2))).setRbit (FMA.M_CTRL 47) 1 false, by decide +kernel, by decide +kernel, by decide +kernel, by decide +kernel, by decide +kernel, by decide +kernel, by decide +kernel, by decide +kernel, by decide +kernel⟩,
   ⟨47, rx [0x13, 0, 0, 0, 0, 0, 0, 0, 0, 0, 0, 0] [3, 0, 0, 0, 0, 0, 0, 0, 0], [], js 3, (received (rx [0x13, 0, 0, 0, 0, 0, 0, 0, 0, 0, 0, 0] [3, 0, 0, 0, 0, 0, 0, 0, 0]) (macUp 47 (live 2))).modMac 47 (fun m => { m with sessions := [js 3] }), by decide +kernel, by decide +kernel, by decide +kernel, by decide +kernel, by decide +kernel, by decide +kernel, by decide +kernel, by decide +kernel, by decide +kernel⟩,
   ⟨47, rx [0x11, 0, 0, 0, 0, 0, 0x20, 0, 0, 0, 0, 0] [], [], js 5, (received (rx [0x11, 0, 0, 0, 0, 0, 0x20, 0, 0, 0, 0, 0] []) (macUp 47 (live 2))).modMac 47 (fun m => { m with sessions := [js 5] }), by decide +kernel, by decide +kernel, by decide +kernel, by decide +kernel, by decide +kernel⟩,
   ⟨47, js 3, [], (live 0x1000000).modMac 47 (fun m => { m with sessions := [js 3] }), by decide +kernel, by decide +kernel⟩,
   ⟨4095, nodeSet 4095 [(N.STATE, 1, ND.JOINED), (N.FEEDER, 1, 47)] (macUp 47 (live 0x2000000)), by decide +kernel, by decide +kernel, by decide +kernel, by decide +kernel⟩⟩

/-- The hypotheses of each clause of Obligations.MasksAndRoutes. -/
theorem test_MasksAndRoutes_hypotheses :
    (∃ (f : Fin 48), ∃ (s : State), s.accepts (FMA.MASK_DIST f.val) = true ∧ s.shadowOk f.val = true ∧ (s.mac f.val).mask = none)
    ∧ (∃ (f : Fin 48), ∃ (s : State), s.shadowOk f.val = false)
    ∧ (∃ (f : Fin 48), ∃ (x : MaskChange), ∃ (c : ℕ), ∃ (s : State), (s.mac f.val).mask = some x ∧ x.at_ = some c ∧ x.committed = false ∧ (c - 1) * 4096 + 4064 ≤ BitVec.toNat s.now)
    ∧ (∃ (f : Fin 48), ∃ (x : MaskChange), ∃ (c : ℕ), ∃ (s : State), (s.mac f.val).mask = some x ∧ x.at_ = some c ∧ x.committed = true ∧ c * 4096 ≤ BitVec.toNat s.now)
    ∧ (∃ (f : Fin 48), ∃ (s : State), s.accepts (FMA.CRUISE_CTRL f.val) = true ∧ s.cruiseRunning f.val = false ∧ (s.mac f.val).mask = none)
    ∧ (∃ (f : Fin 48), ∃ (r : RxFrame), ∃ (rest : List RxFrame), ∃ (i : ℕ), ∃ (s : State), (s.modem f.val).rx = r :: rest ∧ r.ftype = 4 ∧ r.good = true ∧ s.nodeAt f.val (r.mb 12) = some i ∧ (s.cruiseState f.val = CR.PROBING ∨ s.cruiseState f.val = CR.REPORTING))
    ∧ (∃ (f : Fin 48), ∃ (s : State), s.cruiseState f.val = CR.REPORTING ∧ ((s.mac f.val).cruise.reporting = [] ∨ (s.mac f.val).cruise.lastProbe + 16 ≤ cycleOf s.now))
    ∧ (∃ (f : Fin 48), ∃ (s : State), s.accepts (FMA.CRUISE_CTRL f.val) = true ∧ s.cruiseState f.val = CR.DONE)
    ∧ (∃ (f : Fin 48), ∃ (r : ℕ), ∃ (s : State), (s.mac f.val).cruise.effective = some r ∧ s.cruiseState f.val = CR.APPLYING ∧ r * 4096 ≤ BitVec.toNat s.now)
    ∧ (∃ (f : Fin 48), ∃ (s : State), s.cruiseState f.val = CR.APPLYING ∧ (s.mac f.val).cruise.routing ≠ [] ∧ (s.mac f.val).cruise.applyAt + 64 ≤ cycleOf s.now) :=
  ⟨⟨47, up, by decide +kernel, by decide +kernel, by decide +kernel⟩,
   ⟨47, up.setWin (w7Base 47 + 0xA400) 0xFFFF0000, by decide +kernel⟩,
   ⟨47, { go := 0, force := false, waiting := [], at_ := some 1 }, 1, (live 4064).modMac 47 (fun m => { m with mask := some { go := 0, force := false, waiting := [], at_ := some 1 } }), by decide +kernel, by decide +kernel, by decide +kernel, by decide +kernel⟩,
   ⟨47, { go := 0, force := false, waiting := [], at_ := some 1, committed := true }, 1, (live 4096).modMac 47 (fun m => { m with mask := some { go := 0, force := false, waiting := [], at_ := some 1, committed := true } }), by decide +kernel, by decide +kernel, by decide +kernel, by decide +kernel⟩,
   ⟨47, up, by decide +kernel, by decide +kernel, by decide +kernel⟩,
   ⟨47, rx [0x14, 10, 0, 0, 5, 0, 0, 0, 0, 0, 0, 0] [], [], 9, (received (rx [0x14, 10, 0, 0, 5, 0, 0, 0, 0, 0, 0, 0] []) (node9 (macUp 47 (live 2)))).setFld (FMA.CRUISE_STAT 47) 2 0 CR.PROBING, by decide +kernel, by decide +kernel, by decide +kernel, by decide +kernel, by decide +kernel⟩,
   ⟨47, up.setFld (FMA.CRUISE_STAT 47) 2 0 CR.REPORTING, by decide +kernel, by decide +kernel⟩,
   ⟨47, up.setFld (FMA.CRUISE_STAT 47) 2 0 CR.DONE, by decide +kernel, by decide +kernel⟩,
   ⟨47, 1, ((live 4096).setFld (FMA.CRUISE_STAT 47) 2 0 CR.APPLYING).modMac 47 (fun m => { m with cruise := { m.cruise with effective := some 1 } }), by decide +kernel, by decide +kernel, by decide +kernel⟩,
   ⟨47, ((live 0x40000).setFld (FMA.CRUISE_STAT 47) 2 0 CR.APPLYING).modMac 47 (fun m => { m with cruise := { m.cruise with routing := [9], applyAt := 0 } }), by decide +kernel, by decide +kernel, by decide +kernel⟩⟩

/-- The hypotheses of each clause of Obligations.NodeTable. -/
theorem test_NodeTable_hypotheses :
    (∃ (e : ℕ), ∃ (s : State), s.domainUp 3 = true ∧ s.rctState ≠ RCT.IDLE ∧ angleOf s.now = 0 ∧ (s.twn.role = Role.solo ∨ s.twn.role = Role.active) ∧ s.eps = [e] ∧ e < 16384)
    ∧ (∃ (i : Fin 4096), ∃ (s : State), s.accepts (nodeAddr i.val + 16) = true ∧ s.node i.val N.STATE 1 ≠ ND.FREE)
    ∧ (∃ (s : State), s.accepts NTB.CMD = true ∧ s.rbit NTB.CMD_STAT 0 = false)
    ∧ (∃ (s : State), s.accepts NTB.EUI_HI = true)
    ∧ (∃ (s : State), s.ntb.lookup = true) :=
  ⟨⟨16383, (live 0).setWinField (epAddr 16383 + P.TYPE) 1 1, by decide +kernel, by decide +kernel, by decide +kernel, by decide +kernel, by decide +kernel, by decide +kernel⟩,
   ⟨4095, nodeSet 4095 [(N.STATE, 1, ND.JOINED)] up, by decide +kernel, by decide +kernel⟩,
   ⟨up, by decide +kernel, by decide +kernel⟩,
   ⟨up, by decide +kernel⟩,
   ⟨{ up with ntb := { up.ntb with lookup := true } }, by decide +kernel⟩⟩

/-- The hypotheses of each clause of Obligations.YarderCommands. -/
theorem test_YarderCommands_hypotheses :
    (∃ (s : State), angleOf s.now = 0 ∧ s.twn.role ≠ Role.standby ∧ s.twn.role ≠ Role.pairing ∧ s.rbit (regCTRL YRD.page) 0 = true ∧ s.domainUp 3 = true ∧ s.yrd.running = true)
    ∧ (∃ (s : State), s.yrd.ready ≠ [] ∧ at0 (BitVec.toNat (join64 (s.reg YRD.PASS_HI) (s.reg YRD.PASS_LO))) < BitVec.toNat s.now)
    ∧ (∃ (s : State), s.accepts (regCTRL YRD.page) = true ∧ s.rbit (regCTRL YRD.page) 0 = false ∧ s.firstLock = true)
    ∧ (∃ (s : State), s.rbit (regCTRL YRD.page) 0 = false ∧ s.firstLock = false)
    ∧ (∃ (s : State), s.accepts YRD.SCENE_AT_HI = true ∧ s.yrd.armedScenes.length < 16)
    ∧ (∃ (s : State), 16 ≤ s.yrd.armedScenes.length)
    ∧ (∃ (s : State), s.accepts YRD.OVR_ARM = true)
    ∧ (∃ (s : State), s.accepts YRD.COMMIT_CTRL = true ∧ s.yrd.commit = none ∧ Windows.wf s.win = true)
    ∧ (∃ (s : State), s.accepts SCH.COMMIT_CTRL = true ∧ s.sch.commit = none ∧ Windows.wf s.win = true)
    ∧ (∃ (lon : Bool), ∃ (s : State), s.accepts (if lon = true then SCH.LON else SCH.LAT) = true) :=
  ⟨⟨{ (live 0).setRbit (regCTRL YRD.page) 0 true with yrd := { up.yrd with running := true } }, by decide +kernel, by decide +kernel, by decide +kernel, by decide +kernel, by decide +kernel, by decide +kernel⟩,
   ⟨{ live 5 with yrd := { up.yrd with ready := [{ ep := 0, retract := false, seq := 0, exec := 0, body := [] }] } }, by decide +kernel, by decide +kernel⟩,
   ⟨live 0, by decide +kernel, by decide +kernel, by decide +kernel⟩,
   ⟨up, by decide +kernel, by decide +kernel⟩,
   ⟨up, by decide +kernel, by decide +kernel⟩,
   ⟨{ up with yrd := { up.yrd with armedScenes := List.replicate 16 { seen := 0, input := { scene := 0, on := true, at_ := 0 } } } }, by decide +kernel⟩,
   ⟨up, by decide +kernel⟩,
   ⟨up, by decide +kernel, by decide +kernel, by decide +kernel⟩,
   ⟨up, by decide +kernel, by decide +kernel, by decide +kernel⟩,
   ⟨true, up, by decide +kernel⟩⟩

/-- The hypotheses of each clause of Obligations.SwitchFrames. -/
theorem test_SwitchFrames_hypotheses :
    (∃ (u : Fin 2), ∃ (f : List Byte), ∃ (s : State), s.swxOn = true ∧ s.upLink u.val = true ∧ natLE (List.drop (f.length - 4) f) = crc32 (List.take (f.length - 4) f) ∧ 64 ≤ f.length ∧ f.length ≤ 1522 ∧ frameField (List.take (f.length - 4) f) 12 2 = 33024 ∧ s.fld SWX.VID_MGMT 11 0 ≠ 0 ∧ frameField (List.take (f.length - 4) f) 14 2 % 4096 = s.fld SWX.VID_MGMT 11 0 ∧ frameField (List.take (f.length - 4) f) 0 6 = s.macAddr ∧ s.storedBytes u.val + (f.length - 8) ≤ 65536)
    ∧ (∃ (p : ℕ), ∃ (x : SwFrame), ∃ (l : List SwFrame), ∃ (s : State), s.swxOn = true ∧ s.nextPort = some p ∧ s.stored p = x :: l ∧ s.heldBy x.flow + (x.len + 255) / 256 ≤ s.quota x.flow ∧ (s.usedBy x.cls + (x.len + 255) / 256 ≤ s.reserve x.cls ∨ (x.len + 255) / 256 ≤ s.sharedFree))
    ∧ (∃ (s : State), ∃ (x : SwFrame), x.ingress ≠ PORT.HOST ∧ 65536 < s.storedBytes x.ingress + x.len)
    ∧ (∃ (s : State), ∃ (x : SwFrame), x.ingress ≠ PORT.HOST ∧ s.storedBytes x.ingress + x.len ≤ 65536)
    ∧ (∃ (u : Fin 2), ∃ (f : List Byte), ∃ (s : State), s.swxOn = true ∧ s.upLink u.val = true ∧ natLE (List.drop (f.length - 4) f) ≠ crc32 (List.take (f.length - 4) f))
    ∧ (∃ (f : Fin 48), ∃ (h : HeldElem), ∃ (s : State), s.swxOn = true ∧ s.driving = true ∧ List.find? (fun (h : HeldElem) => decide (s.node (s.ep h.ep P.NODE 2) N.FEEDER 1 = f.val)) s.ntb.upward = some h ∧ frameField h.body 12 2 ≠ 33024 ∧ s.storedBytes (4 + f.val) + (h.body.length + 4) ≤ 65536)
    ∧ (∃ (e : ℕ), ∃ (x : SwFrame), ∃ (s : State), s.freeEngine = some e ∧ List.find? (fun (x : SwFrame) => decide (x.stage = FrameStage.queued)) s.swx.frames = some x)
    ∧ (∃ (e : Fin 8), ∃ (x : SwFrame), ∃ (s : State), s.swx.frames = [x] ∧ x.stage = FrameStage.engine e.val ∧ x.ticket = (s.flow x.flow).release)
    ∧ (∃ (p : Fin 2), ∃ (x : SwFrame), ∃ (s : State), s.nextOut p.val = some x ∧ s.upLink p.val = true)
    ∧ (∃ (x : SwFrame), ∃ (s : State), List.find? (fun (x : SwFrame) => decide (x.egress = PORT.TWIN)) s.swx.out = some x ∧ s.twn.link = true)
    ∧ (∃ (e : Fin 16384), ∃ (x : SwFrame), ∃ (s : State), List.find? (fun (x : SwFrame) => decide (x.flow = 2 * e.val) && decide (4 ≤ x.egress)) s.swx.out = some x ∧ s.ep e.val P.TYPE 1 ≠ 0 ∧ (List.map (fun (h : HeldElem) => h.body.length) (List.filter (fun (h : HeldElem) => decide (h.ep = e.val)) s.ntb.held)).sum + x.data.length ≤ s.ep e.val P.BURST_DN 4)
    ∧ (∃ (x : SwFrame), ∃ (s : State), List.find? (fun (x : SwFrame) => decide (x.egress = PORT.HOST)) s.swx.out = some x)
    ∧ (∃ (s : State), s.swxOn = true ∧ s.reg SWX.HTX_RD ≠ s.reg SWX.HTX_WR) :=
  ⟨⟨1, toHost ++ bytesLE 4 (crc32 toHost), ((swUp up).setFld SWX.VID_MGMT 11 0 5), by decide +kernel, by decide +kernel, by decide +kernel, by decide +kernel, by decide +kernel, by decide +kernel, by decide +kernel, by decide +kernel, by decide +kernel, by decide +kernel⟩,
   ⟨0, sw 2, [], setSwx (fun x => { x with store := [(0, [sw 2])] }) (swUp up), by decide +kernel, by decide +kernel, by decide +kernel, by decide +kernel, by decide +kernel⟩,
   ⟨up, { sw 2 with len := 65537 }, by decide +kernel, by decide +kernel⟩,
   ⟨up, sw 2, by decide +kernel, by decide +kernel⟩,
   ⟨1, List.replicate 64 0, swUp up, by decide +kernel, by decide +kernel, by decide +kernel⟩,
   ⟨47, { ep := 0, cls := 0, body := [] }, nodeSet 0 [(N.FEEDER, 1, 47)] { swUp up with ntb := { up.ntb with upward := [{ ep := 0, cls := 0, body := [] }] } }, by decide +kernel, by decide +kernel, by decide +kernel, by decide +kernel, by decide +kernel⟩,
   ⟨0, sw 2, setSwx (fun x => { x with frames := [sw 2] }) up, by decide +kernel, by decide +kernel⟩,
   ⟨7, { sw 2 with stage := .engine 7 }, setSwx (fun x => { x with frames := [{ sw 2 with stage := .engine 7 }] }) up, by decide +kernel, by decide +kernel, by decide +kernel⟩,
   ⟨1, sw 1, setSwx (fun x => { x with out := [sw 1] }) (swUp up), by decide +kernel, by decide +kernel⟩,
   ⟨sw 3, (setSwx (fun x => { x with out := [sw 3] }) up).modTwn (fun t => { t with link := true }), by decide +kernel, by decide +kernel⟩,
   ⟨16383, { sw 51 with flow := 32766 }, setSwx (fun x => { x with out := [{ sw 51 with flow := 32766 }] }) (up.setWinField (epAddr 16383 + P.TYPE) 1 1), by decide +kernel, by decide +kernel, by decide +kernel⟩,
   ⟨sw 2, setSwx (fun x => { x with out := [sw 2] }) up, by decide +kernel⟩,
   ⟨(swUp up).setReg SWX.HTX_WR 1, by decide +kernel, by decide +kernel⟩⟩

/-- The hypotheses of each clause of Obligations.Uplinks. -/
theorem test_Uplinks_hypotheses :
    (∃ (u : Fin 2), ∃ (s : State), s.rbit (UPL.P_STAT u.val) 7 = true ∧ s.rbit (UPL.P_STAT u.val) 4 = true ∧ s.rbit (UPL.P_STAT u.val) 5 = false ∧ s.rbit (UPL.P_STAT u.val) 6 = false ∧ s.upLink u.val = false ∧ s.rbit (UPL.P_CTRL u.val) 0 = true ∧ s.rbit (regCTRL UPL.page) 0 = true ∧ s.domainUp (domainOf UPL.page) = true)
    ∧ (∃ (u : Fin 2), ∃ (los : Bool), ∃ (s : State), s.upLink u.val = true ∧ (los = true ∨ s.rbit (UPL.P_STAT u.val) 7 = false))
    ∧ (∃ (k : Fin 2), ∃ (s : State), s.upLink (s.primary k.val) = true ∧ (∀ x ∈ s.swx.out, ¬(x.egress = 1 - s.primary k.val ∧ x.cls = k.val)))
    ∧ (∃ (u : Fin 2), ∃ (s : State), s.rbit (UPL.P_CTRL u.val) 0 = true ∧ s.fld (UPL.P_CTRL u.val) 2 1 = 0 ∧ s.rbit (UPL.P_STAT u.val) 7 = false ∧ s.domainUp (domainOf UPL.page) = true)
    ∧ (∃ (u : Fin 2), ∃ (s : State), s.accepts (UPL.SFP_CMD u.val) = true ∧ s.rbit (UPL.SFP_STAT u.val) 0 = false ∧ (s.uplink u.val).absent = false)
    ∧ (∃ (u : Fin 2), ∃ (w : Word), ∃ (s : State), (s.uplink u.val).cmd = some w)
    ∧ (∃ (u : Fin 2), ∃ (x : TxStamp), ∃ (l : List TxStamp), ∃ (s : State), (s.uplink u.val).fifo = x :: l ∧ s.domainUp 8 = true) :=
  ⟨⟨1, (((up.setReg (UPL.P_STAT 1) 0x90).setRbit (UPL.P_CTRL 1) 0 true).setRbit (regCTRL UPL.page) 0 true), by decide +kernel, by decide +kernel, by decide +kernel, by decide +kernel, by decide +kernel, by decide +kernel, by decide +kernel, by decide +kernel⟩,
   ⟨1, true, swUp up, by decide +kernel, by decide +kernel⟩,
   ⟨1, swUp up, by decide +kernel, by decide +kernel⟩,
   ⟨1, (up.setReg (UPL.P_STAT 1) 0).setReg (UPL.P_CTRL 1) 1, by decide +kernel, by decide +kernel, by decide +kernel, by decide +kernel⟩,
   ⟨1, (up.setReg (UPL.SFP_STAT 1) 0).modUplink 1 (fun u => { u with absent := false }), by decide +kernel, by decide +kernel, by decide +kernel⟩,
   ⟨1, 0, up.modUplink 1 (fun u => { u with cmd := some 0 }), by decide +kernel⟩,
   ⟨1, { tag := 0, base := 0, time := 0 }, [], up.modUplink 1 (fun u => { u with fifo := [{ tag := 0, base := 0, time := 0 }] }), by decide +kernel, by decide +kernel⟩⟩

/-- The hypotheses of each clause of Obligations.TimeDomains. -/
theorem test_TimeDomains_hypotheses :
    (∃ (k : Fin 2), ∃ (s : State), s.accepts (TIM.MEAS k.val) = true ∧ s.domState k.val = DOM.UNLOCKED)
    ∧ (∃ (k : Fin 2), ∃ (s : State), s.accepts (TIM.MEAS k.val) = true ∧ s.domState k.val = DOM.LOCKED ∧ s.fld (TIM.DOM_STAT k.val) 13 12 < 2 ∧ s.fld (TIM.THR k.val) 31 16 * 1000 * 65536 < (BitVec.toInt (s.reg64 (TIM.OFFS_LO k.val) (TIM.OFFS_HI k.val))).natAbs)
    ∧ (∃ (k : Fin 2), ∃ (s : State), s.accepts (TIM.MEAS k.val) = true ∧ (s.domState k.val = DOM.LOCKING ∨ s.domState k.val = DOM.LOCKED ∨ s.domState k.val = DOM.HOLDOVER) ∧ (BitVec.toInt (s.reg64 (TIM.OFFS_LO k.val) (TIM.OFFS_HI k.val))).natAbs ≤ s.fld (TIM.THR k.val) 31 16 * 1000 * 65536)
    ∧ (∃ (k : Fin 2), ∃ (s : State), (s.domState k.val = DOM.LOCKING ∨ s.domState k.val = DOM.LOCKED) ∧ (s.dom k.val).measAt + s.fld (TIM.DOM_CFG k.val) 31 24 * tbSecond ≤ s.tb 0)
    ∧ (∃ (k : Fin 2), ∃ (s : State), s.accepts (TIM.DOM_CFG k.val) = true ∧ s.domState k.val = DOM.DISABLED)
    ∧ (∃ (k : Fin 2), ∃ (s : State), s.domainUp 1 = true ∧ s.zoneWritten = s.tim.zone ∧ s.tim.snap = none ∧ s.civSource = k.val + 2 ∧ s.rbit TIM.CIV_STAT 5 = false)
    ∧ (∃ (k : Fin 2), ∃ (s : State), s.domainUp 1 = true ∧ s.zoneWritten = s.tim.zone ∧ s.tim.snap = none ∧ s.civSource = k.val + 2 ∧ s.rbit TIM.CIV_STAT 5 = true)
    ∧ (∃ (s : State), s.domainUp 1 = true ∧ s.zoneWritten = s.tim.zone ∧ s.tim.snap = none ∧ s.civSource = 0 ∧ (s.fld TIM.CIV_STAT 1 0 = CIV.TRACKING ∨ s.fld TIM.CIV_STAT 1 0 = CIV.HOLDOVER))
    ∧ (∃ (s : State), s.accepts TIM.CIV_STEP = true)
    ∧ (∃ (key : BitVec 16), key ≠ 22505) :=
  ⟨⟨1, up.setDom 1 DOM.UNLOCKED 0 0, by decide +kernel, by decide +kernel⟩,
   ⟨1, (((up.setDom 1 DOM.LOCKED 0 0).setFld (TIM.THR 1) 31 16 0).setReg (TIM.OFFS_LO 1) 1), by decide +kernel, by decide +kernel, by decide +kernel, by decide +kernel⟩,
   ⟨1, up.setDom 1 DOM.LOCKED 0 0, by decide +kernel, by decide +kernel, by decide +kernel⟩,
   ⟨1, (up.setDom 1 DOM.LOCKED 0 0).setTbase 0 { s := 1000 }, by decide +kernel, by decide +kernel⟩,
   ⟨1, up, by decide +kernel, by decide +kernel⟩,
   ⟨1, (((up.setDom 1 DOM.LOCKED 0 0).setTbase 0 { s := 1000 }).setFld TIM.CIV_STAT 3 2 3), by decide +kernel, by decide +kernel, by decide +kernel, by decide +kernel, by decide +kernel⟩,
   ⟨1, (((up.setDom 1 DOM.LOCKED 0 0).setTbase 0 { s := 1000 }).setFld TIM.CIV_STAT 3 2 3).setRbit TIM.CIV_STAT 5 true, by decide +kernel, by decide +kernel, by decide +kernel, by decide +kernel, by decide +kernel⟩,
   ⟨up.setFld TIM.CIV_STAT 1 0 CIV.TRACKING, by decide +kernel, by decide +kernel, by decide +kernel, by decide +kernel, by decide +kernel⟩,
   ⟨up, by decide +kernel⟩,
   ⟨0, by decide +kernel⟩⟩

/-- The hypotheses of each clause of Obligations.Calendar. -/
theorem test_Calendar_hypotheses :
    (∃ (s : State), s.domainUp 1 = true ∧ (s.tim.rtcLoad = true ∨ 2 ≤ s.fld TIM.CIV_STAT 3 2 ∧ s.rbit rtcSTAT 0 = false) ∧ epoch2000 ≤ (s.tbase 3).s ∧ (s.tbase 3).s - epoch2000 ≤ calendarEnd)
    ∧ (∃ (a : Fin 4), ∃ (s : State), s.rbit (TIM.ALM_CFG a.val) 0 = true ∧ s.almDeadline a.val ≤ s.tb (s.almBase a.val))
    ∧ (∃ (s : State), s.accepts (regCTRL TIM.page) = true)
    ∧ (∃ (s : State), s.rbit rtcSTAT 1 = false ∧ s.rtc.secs < calendarEnd)
    ∧ (∃ (s : State), s.rbit rtcSTAT 1 = false ∧ calendarEnd ≤ s.rtc.secs)
    ∧ (∃ (v : Word), ∃ (s : State), s.accepts RTC.SET_TIME = true ∧ s.fld RTC.SET_DATE 8 0 ≤ 399 ∧ 1 ≤ s.fld RTC.SET_DATE 19 16 ∧ s.fld RTC.SET_DATE 19 16 ≤ 12 ∧ 1 ≤ s.fld RTC.SET_DATE 28 24 ∧ (s.fld RTC.SET_DATE 28 24).cast ≤ monthDays ((s.fld RTC.SET_DATE 8 0).cast + 2000) (s.fld RTC.SET_DATE 19 16).cast ∧ bits v 20 16 ≤ 23 ∧ bits v 13 8 ≤ 59 ∧ bits v 5 0 ≤ 59)
    ∧ (∃ (s : State), s.trimDone = true)
    ∧ (∃ (n : Fin 2), ∃ (s : State), s.rbit RTC.ALM_CTRL n.val = true ∧ s.rtcAlarm n.val ≤ s.rtc.secs)
    ∧ (∃ (s : State), s.accepts (regCTRL RTC.page) = true ∧ 0 < s.rtc.len ∧ s.rtc.len < 2 ^ 32)
    ∧ (∃ (s : State), s.pwr.vinOk = false ∧ s.pwr.up = 1) :=
  ⟨⟨(up.modTim (fun t => { t with rtcLoad := true })).setTbase 3 { s := 946684801 }, by decide +kernel, by decide +kernel, by decide +kernel, by decide +kernel⟩,
   ⟨3, up.setRbit (TIM.ALM_CFG 3) 0 true, by decide +kernel, by decide +kernel⟩,
   ⟨up, by decide +kernel⟩,
   ⟨up.setRbit rtcSTAT 1 false, by decide +kernel, by decide +kernel⟩,
   ⟨(up.setRbit rtcSTAT 1 false).modRtc (fun r => { r with secs := calendarEnd }), by decide +kernel, by decide +kernel⟩,
   ⟨0, (up.setFld RTC.SET_DATE 19 16 12).setFld RTC.SET_DATE 28 24 31, by decide +kernel, by decide +kernel, by decide +kernel, by decide +kernel, by decide +kernel, by decide +kernel, by decide +kernel, by decide +kernel, by decide +kernel⟩,
   ⟨((up.setRbit rtcSTAT 2 true).setFld RTC.TRIM_CFG 1 0 0).setTbase 3 { s := 100000 }, by decide +kernel⟩,
   ⟨1, up.setRbit RTC.ALM_CTRL 1 true, by decide +kernel, by decide +kernel⟩,
   ⟨up, by decide +kernel, by decide +kernel, by decide +kernel⟩,
   ⟨State.reset, by decide +kernel, by decide +kernel⟩⟩

/-- The hypotheses of each clause of Obligations.Threads. -/
theorem test_Threads_hypotheses :
    (∃ (req : Req), ∃ (n : Fin 256), ∃ (s : State), s.accepts (THS.CMD req.val) = true ∧ (s.thread n.val).ended = false ∧ s.superseded n.val [TH.BLOCKED, TH.READY, TH.RUNNING, TH.WAITING] = false ∧ ((s.thread n.val).state = TH.BLOCKED ∨ (s.thread n.val).state = TH.WAITING))
    ∧ (∃ (req : Req), ∃ (n : Fin 256), ∃ (s : State), s.accepts (THS.CMD req.val) = true ∧ (s.thread n.val).ended = false ∧ s.superseded n.val [TH.BLOCKED, TH.READY, TH.RUNNING, TH.WAITING] = false ∧ (s.thread n.val).state = TH.RUNNING)
    ∧ (∃ (req : Req), ∃ (n : Fin 256), ∃ (s : State), s.accepts (THS.CMD req.val) = true ∧ ((s.thread n.val).state = TH.FREE ∨ (s.thread n.val).state = TH.CANCELLED) ∧ s.superseded n.val [TH.BLOCKED, TH.READY, TH.RUNNING, TH.WAITING] = false)
    ∧ (∃ (req : Req), ∃ (n : Fin 256), ∃ (s : State), s.accepts (THS.CMD req.val) = true ∧ s.superseded n.val [TH.BLOCKED, TH.READY, TH.RUNNING, TH.WAITING] = true)
    ∧ (∃ (req : Req), ∃ (n : Fin 256), ∃ (s : State), s.accepts (THS.CMD req.val) = true ∧ (s.thread n.val).ended = false ∧ ((s.thread n.val).state = TH.RUNNING ∨ (s.thread n.val).state = TH.READY) ∧ (s.thread n.val).pend = true)
    ∧ (∃ (req : Req), ∃ (n : Fin 256), ∃ (s : State), s.accepts (THS.CMD req.val) = true ∧ (s.thread n.val).ended = false ∧ (s.thread n.val).state ≠ TH.FREE)
    ∧ (∃ (req : Req), ∃ (n : Fin 256), ∃ (s : State), s.accepts (THS.CMD req.val) = true ∧ (s.thread n.val).ended = false ∧ (s.thread n.val).pend = false ∧ (s.thread n.val).state = TH.RUNNING ∧ s.reached (s.fld (THS.ARG_HI req.val) 30 28) (s.waitDeadline req.val (s.fld (THS.ARG_HI req.val) 30 28)) = false)
    ∧ (∃ (req : Req), ∃ (n : Fin 256), ∃ (s : State), s.accepts (THS.CMD req.val) = true ∧ (s.thread n.val).ended = false ∧ (s.thread n.val).pend = false ∧ (s.thread n.val).state = TH.READY ∧ s.reached (s.fld (THS.ARG_HI req.val) 30 28) (s.waitDeadline req.val (s.fld (THS.ARG_HI req.val) 30 28)) = false)
    ∧ (∃ (req : Req), ∃ (n : Fin 256), ∃ (s : State), s.accepts (THS.CMD req.val) = true ∧ (s.thread n.val).ended = false ∧ (s.thread n.val).pend = false ∧ (s.thread n.val).state = TH.RUNNING ∧ s.reached (s.fld (THS.ARG_HI req.val) 30 28) (s.waitDeadline req.val (s.fld (THS.ARG_HI req.val) 30 28)) = true)
    ∧ (∃ (req : Req), ∃ (n : Fin 256), ∃ (c : Instr), ∃ (s : State), s.accepts (THS.CMD req.val) = true ∧ (s.thread n.val).state = TH.BLOCKED ∧ (c = Instr.threadBlock req n ∨ c = Instr.threadYield req n ∨ c = Instr.threadWait req n ∨ c = Instr.threadInit req n))
    ∧ (∃ (n : Fin 256), ∃ (s : State), s.domainUp 3 = true ∧ s.reached (s.thread n.val).base (s.thread n.val).deadline = true ∧ (s.thread n.val).state = TH.WAITING)
    ∧ (∃ (p : Fin 46), ∃ (s : State), s.ths.edges.testBit p.val = true ∧ s.rbit (THS.EVT_BIND p.val) 8 = true ∧ ((s.thread (s.fld (THS.EVT_BIND p.val) 7 0)).state = TH.BLOCKED ∨ (s.thread (s.fld (THS.EVT_BIND p.val) 7 0)).state = TH.WAITING))
    ∧ (∃ (s : State), s.ths.changed = true ∧ s.rbit (regCTRL THS.page) 0 = true)
    ∧ (∃ (c : Fin 4), ∃ (n : BitVec 9), ∃ (s : State), s.accepts (THS.TAKE c.val) = true ∧ n.toNat = s.nextRead c.val ∧ n.toNat ≠ TH.IDLE ∧ s.cur c.val = TH.IDLE)
    ∧ (∃ (c : Fin 4), ∃ (n : BitVec 9), ∃ (s : State), s.accepts (THS.TAKE c.val) = true ∧ n.toNat = s.nextRead c.val ∧ n.toNat ≠ TH.IDLE ∧ s.cur c.val ≠ TH.IDLE ∧ s.cur c.val ≠ n.toNat ∧ (s.thread (s.cur c.val)).leaving = false)
    ∧ (∃ (c : Fin 4), ∃ (n : BitVec 9), ∃ (s : State), n.toNat ≠ s.nextRead c.val) :=
  ⟨⟨3, 255, thr TH.BLOCKED, by decide +kernel, by decide +kernel, by decide +kernel, by decide +kernel⟩,
   ⟨3, 255, thr TH.RUNNING, by decide +kernel, by decide +kernel, by decide +kernel, by decide +kernel⟩,
   ⟨3, 255, up, by decide +kernel, by decide +kernel, by decide +kernel⟩,
   ⟨3, 255, up.modThread 255 (fun t => { t with cancelAt := some (0, TH.BLOCKED) }), by decide +kernel, by decide +kernel⟩,
   ⟨3, 255, (thr TH.RUNNING).modThread 255 (fun t => { t with pend := true }), by decide +kernel, by decide +kernel, by decide +kernel, by decide +kernel⟩,
   ⟨3, 255, thr TH.RUNNING, by decide +kernel, by decide +kernel, by decide +kernel⟩,
   ⟨3, 255, (thr TH.RUNNING).setReg (THS.DL_0 3) 5, by decide +kernel, by decide +kernel, by decide +kernel, by decide +kernel, by decide +kernel⟩,
   ⟨3, 255, (thr TH.READY).setReg (THS.DL_0 3) 5, by decide +kernel, by decide +kernel, by decide +kernel, by decide +kernel, by decide +kernel⟩,
   ⟨3, 255, thr TH.RUNNING, by decide +kernel, by decide +kernel, by decide +kernel, by decide +kernel, by decide +kernel⟩,
   ⟨3, 255, .threadBlock 3 255, thr TH.BLOCKED, by decide +kernel, by decide +kernel, by decide +kernel⟩,
   ⟨255, thr TH.WAITING, by decide +kernel, by decide +kernel, by decide +kernel⟩,
   ⟨45, (({ up with ths := { up.ths with edges := 2 ^ 45 } }).setReg (THS.EVT_BIND 45) 0x1FF).modThread 255 (fun t => { t with state := TH.BLOCKED }), by decide +kernel, by decide +kernel, by decide +kernel⟩,
   ⟨(thr TH.READY).setRbit (regCTRL THS.page) 0 true, by decide +kernel, by decide +kernel⟩,
   ⟨3, 5, (up.setRbit (regCTRL THS.page) 0 true).setFld (THS.NEXT 3) 8 0 5, by decide +kernel, by decide +kernel, by decide +kernel, by decide +kernel⟩,
   ⟨3, 5, ((up.setRbit (regCTRL THS.page) 0 true).setFld (THS.NEXT 3) 8 0 5).setFld (THS.CUR 3) 8 0 255, by decide +kernel, by decide +kernel, by decide +kernel, by decide +kernel, by decide +kernel, by decide +kernel⟩,
   ⟨3, 5, up, by decide +kernel⟩⟩

/-- The hypotheses of each clause of Obligations.Queues. -/
theorem test_Queues_hypotheses :
    (∃ (req : Req), ∃ (q : Fin 64), ∃ (s : State), s.accepts (TQU.PUSH_HI q.val) = true ∧ s.tqEn q.val = true ∧ s.tqSrc q.val = 0 ∧ s.rbit (regCTRL TQU.page) 0 = true ∧ (s.tq q.val).item = none ∧ 1 ≤ bits (s.stagedLow req.val (TQU.PUSH_LO q.val)) 4 0 ∧ 128 ≤ bits (s.stagedLow req.val (TQU.PUSH_LO q.val)) 15 8 ∧ s.reg (TQU.GAP q.val) = 0 ∧ span (s.tq q.val).pw (s.reg (TQU.REL q.val)) + bits (s.stagedLow req.val (TQU.PUSH_LO q.val)) 4 0 ≤ s.tqSize q.val - 2)
    ∧ (∃ (req : Req), ∃ (q : Fin 64), ∃ (s : State), s.accepts (TQU.PUSH_HI q.val) = true ∧ s.tqEn q.val = true ∧ s.tqSrc q.val = 0 ∧ s.rbit (regCTRL TQU.page) 0 = true ∧ (s.tq q.val).item = none ∧ 1 ≤ bits (s.stagedLow req.val (TQU.PUSH_LO q.val)) 4 0 ∧ 128 ≤ bits (s.stagedLow req.val (TQU.PUSH_LO q.val)) 15 8 ∧ s.tqSize q.val - 2 < span (s.tq q.val).pw (s.reg (TQU.REL q.val)) + bits (s.stagedLow req.val (TQU.PUSH_LO q.val)) 4 0)
    ∧ (∃ (req : Req), ∃ (q : Fin 64), ∃ (x : TqOpen), ∃ (s : State), s.accepts (TQU.PUSH_HI q.val) = true ∧ s.tqEn q.val = true ∧ s.tqSrc q.val = 0 ∧ s.rbit (regCTRL TQU.page) 0 = true ∧ (s.tq q.val).item = some x ∧ x.left ≠ 0 ∧ x.req = req.val ∧ x.admitted = true)
    ∧ (∃ (q : Fin 64), ∃ (s : State), s.accepts (TQU.PUSH_HI q.val) = true ∧ (s.tqEn q.val = false ∨ s.tqSrc q.val ≠ 0))
    ∧ (∃ (i : TqItem), ∃ (l : List TqItem), ∃ (s : State), s.tqu.waiting = i :: l ∧ s.tqOf i.src = none)
    ∧ (∃ (i : TqItem), ∃ (l : List TqItem), ∃ (s : State), ∃ (q : ℕ), s.tqu.waiting = i :: l ∧ s.tqOf i.src = some q ∧ (s.tq q).item = none)
    ∧ (∃ (q : Fin 64), ∃ (x : TqOpen), ∃ (s : State), (s.tq q.val).item = some x ∧ x.left = 0)
    ∧ (∃ (q : Fin 64), ∃ (s : State), s.accepts (TQU.CMD q.val) = true ∧ s.tqu.copy = none)
    ∧ (∃ (q : Fin 64), ∃ (s : State), ∃ (x : TqOpen), s.accepts (TQU.CMD q.val) = true ∧ (s.tq q.val).item = some x)
    ∧ (∃ (q : Fin 64), ∃ (s : State), s.accepts (TQU.RD q.val) = true)
    ∧ (∃ (q : Fin 64), ∃ (s : State), s.accepts (TQU.REL q.val) = true ∧ s.tqu.copy = none)
    ∧ (∃ (q : Fin 64), ∃ (v : Word), ∃ (c : TqCopy), ∃ (s : State), s.accepts (TQU.REL q.val) = true ∧ s.tqu.copy = some c ∧ c.queue = q.val ∧ span c.first (s.reg (TQU.REL q.val)) < span (clampSpan (s.reg (TQU.REL q.val)) (s.reg (TQU.RD q.val)) v) (s.reg (TQU.REL q.val)))
    ∧ (∃ (q : Fin 64), ∃ (n : BitVec 13), ∃ (s : State), s.accepts TQU.COPY_CTRL = true ∧ s.tqu.copy = none ∧ 1 ≤ n.toNat ∧ n.toNat ≤ 4096 ∧ n.toNat ≤ span (s.reg (TQU.WR q.val)) (s.reg (TQU.RD q.val)) ∧ inDram (BitVec.toNat (s.reg64 TQU.COPY_ADDR_LO TQU.COPY_ADDR_HI)) (8 * n.toNat) = true)
    ∧ (∃ (c : TqCopy), ∃ (s : State), s.tqu.copy = some c ∧ c.rel = none)
    ∧ (∃ (q : Fin 64), ∃ (v : Word), ∃ (s : State), s.accepts (TQU.CFG q.val) = true ∧ s.tqEn q.val = false ∧ s.tqSrcTaken q.val (s.fitted (TQU.CFG q.val) (putBit v 0 true)).1 = false ∧ s.tqBadRegion q.val (s.fitted (TQU.CFG q.val) (putBit v 0 true)).1 = false)
    ∧ (∃ (q : Fin 64), ∃ (v : Word), ∃ (s : State), s.accepts (TQU.CFG q.val) = true ∧ s.tqEn q.val = false ∧ (s.tqSrcTaken q.val (s.fitted (TQU.CFG q.val) (putBit v 0 true)).1 = true ∨ s.tqBadRegion q.val (s.fitted (TQU.CFG q.val) (putBit v 0 true)).1 = true))
    ∧ (∃ (q : Fin 64), ∃ (s : State), s.accepts (TQU.CFG q.val) = true ∧ s.tqEn q.val = true) :=
  ⟨⟨3, 63, pushing queueOn, by decide +kernel, by decide +kernel, by decide +kernel, by decide +kernel, by decide +kernel, by decide +kernel, by decide +kernel, by decide +kernel, by decide +kernel⟩,
   ⟨3, 63, (pushing queueOn).modTq 63 (fun c => { c with pw := 0x100000 }), by decide +kernel, by decide +kernel, by decide +kernel, by decide +kernel, by decide +kernel, by decide +kernel, by decide +kernel, by decide +kernel⟩,
   ⟨3, 63, tqi 1, queueOn.modTq 63 (fun c => { c with item := some (tqi 1) }), by decide +kernel, by decide +kernel, by decide +kernel, by decide +kernel, by decide +kernel, by decide +kernel, by decide +kernel, by decide +kernel⟩,
   ⟨63, up, by decide +kernel, by decide +kernel⟩,
   ⟨{ src := 1, typ := 0, words := [] }, [], { up with tqu := { up.tqu with waiting := [{ src := 1, typ := 0, words := [] }] } }, by decide +kernel, by decide +kernel⟩,
   ⟨{ src := 1, typ := 0, words := [] }, [], ({ queueOn with tqu := { up.tqu with waiting := [{ src := 1, typ := 0, words := [] }] } }).setFld (TQU.CFG 63) 10 8 1, 63, by decide +kernel, by decide +kernel, by decide +kernel⟩,
   ⟨63, tqi 0, queueOn.modTq 63 (fun c => { c with item := some (tqi 0) }), by decide +kernel, by decide +kernel⟩,
   ⟨63, up, by decide +kernel, by decide +kernel⟩,
   ⟨63, queueOn.modTq 63 (fun c => { c with item := some (tqi 1) }), tqi 1, by decide +kernel, by decide +kernel⟩,
   ⟨63, up, by decide +kernel⟩,
   ⟨63, up, by decide +kernel, by decide +kernel⟩,
   ⟨63, 5, { queue := 63, first := 0, count := 1, dest := 0 }, ({ up with tqu := { up.tqu with copy := some { queue := 63, first := 0, count := 1, dest := 0 } } }).setReg (TQU.RD 63) 5, by decide +kernel, by decide +kernel, by decide +kernel, by decide +kernel⟩,
   ⟨63, 1, ((up.setReg (TQU.WR 63) 1).setReg TQU.COPY_ADDR_LO 0x80000000), by decide +kernel, by decide +kernel, by decide +kernel, by decide +kernel, by decide +kernel, by decide +kernel⟩,
   ⟨{ queue := 63, first := 0, count := 1, dest := 0 }, { up with tqu := { up.tqu with copy := some { queue := 63, first := 0, count := 1, dest := 0 } } }, by decide +kernel, by decide +kernel⟩,
   ⟨63, 0, up, by decide +kernel, by decide +kernel, by decide +kernel, by decide +kernel⟩,
   ⟨63, 0, up.setRbit (TQU.CFG 0) 0 true, by decide +kernel, by decide +kernel, by decide +kernel⟩,
   ⟨63, queueOn, by decide +kernel, by decide +kernel⟩⟩

/-- The hypotheses of each clause of Obligations.TallyLog. -/
theorem test_TallyLog_hypotheses :
    (∃ (code : BitVec 10), ∃ (payload : List Word), ∃ (s : State), payload.length ≤ 58 ∧ bit (s.bucket code.toNat).force 25 = true)
    ∧ (∃ (code : BitVec 10), ∃ (payload : List Word), ∃ (s : State), payload.length ≤ 58 ∧ bit (s.bucket code.toNat).force 25 = false ∧ (bits (s.bucket code.toNat).force 7 0 = 0 ∨ 65536 ≤ (s.bucket code.toNat).tok) ∧ s.evr.queue.length < 64)
    ∧ (∃ (code : BitVec 10), ∃ (payload : List Word), ∃ (s : State), payload.length ≤ 58 ∧ bit (s.bucket code.toNat).force 25 = false ∧ (bits (s.bucket code.toNat).force 7 0 ≠ 0 ∧ (s.bucket code.toNat).tok < 65536 ∨ 64 ≤ s.evr.queue.length))
    ∧ (∃ (e : LogEntry), ∃ (l : List LogEntry), ∃ (s : State), s.evr.queue = e :: l ∧ s.domainUp 1 = true ∧ s.pwr.mramProtect = true)
    ∧ (∃ (e : LogEntry), ∃ (l : List LogEntry), ∃ (s : State), ∃ (fails : Fin 3), s.evr.queue = e :: l ∧ s.domainUp 1 = true ∧ s.pwr.mramProtect = false ∧ (s.evr.stumpFailed && s.evr.stump) = false ∧ s.needSeg (recordBytes s.evr.nextSeq s.evr.opsec s.pwr.pcycle e).length = false ∧ fails.val < 2)
    ∧ (∃ (e : LogEntry), ∃ (l : List LogEntry), ∃ (s : State), s.evr.queue = e :: l ∧ s.domainUp 1 = true ∧ s.pwr.mramProtect = false ∧ (s.evr.stumpFailed && s.evr.stump) = false ∧ s.evr.seg < 128)
    ∧ (∃ (s : State), s.domainUp 1 = true ∧ angleOf s.now = 0)
    ∧ (∃ (s : State), s.accepts EVR.SEEK = true)
    ∧ (∃ (q : Word), ∃ (s : State), ∃ (a : ℕ), s.evr.seeking = some q ∧ s.findRecord q = some a)
    ∧ (∃ (q : Word), ∃ (s : State), s.evr.seeking = some q ∧ s.findRecord q = none)
    ∧ (∃ (key : BitVec 16), ∃ (s : State), s.accepts EVR.BANK_CLR = true ∧ key ≠ 47692)
    ∧ (∃ (a : Bool), ∃ (b : Bool), ∃ (s : State), s.accepts EVR.BANK_CLR = true ∧ ((a && s.evr.failA) = true ∨ (b && s.evr.failB) = true))
    ∧ (∃ (req : Req), ∃ (s : State), s.accepts (wrCtrl req.val) = true) :=
  ⟨⟨5, [], up.setBucket 5 { cfg := 0, force := 0x2000000, tok := 0 }, by decide +kernel, by decide +kernel⟩,
   ⟨5, [], up.setBucket 5 { cfg := 0, force := 0, tok := 0 }, by decide +kernel, by decide +kernel, by decide +kernel, by decide +kernel⟩,
   ⟨5, [], up.setBucket 5 { cfg := 0, force := 1, tok := 0 }, by decide +kernel, by decide +kernel, by decide +kernel⟩,
   ⟨ent, [], (up.queueLog ent).modPwr (fun p => { p with mramProtect := true }), by decide +kernel, by decide +kernel, by decide +kernel⟩,
   ⟨ent, [], up.queueLog ent, 1, by decide +kernel, by decide +kernel, by decide +kernel, by decide +kernel, by decide +kernel, by decide +kernel⟩,
   ⟨ent, [], up.queueLog ent, by decide +kernel, by decide +kernel, by decide +kernel, by decide +kernel, by decide +kernel⟩,
   ⟨live 0, by decide +kernel, by decide +kernel⟩,
   ⟨up, by decide +kernel⟩,
   ⟨1, logged.modEvr (fun e => { e with seeking := some 1 }), 16, by decide +kernel, by decide +kernel⟩,
   ⟨1, up.modEvr (fun e => { e with seeking := some 1 }), by decide +kernel, by decide +kernel⟩,
   ⟨0, up, by decide +kernel, by decide +kernel⟩,
   ⟨true, false, up.modEvr (fun e => { e with failA := true }), by decide +kernel, by decide +kernel⟩,
   ⟨3, up, by decide +kernel⟩⟩

/-- The hypotheses of each clause of Obligations.VaultCommands. -/
theorem test_VaultCommands_hypotheses :
    (∃ (p : Instr × ℕ), ∃ (c : KvtCmd), ∃ (q : List KvtCmd), ∃ (l : List KvtCmd), ∃ (s : State), ∃ (e : ℕ), ∃ (code : ℕ), p ∈ [(Instr.generate, KO.GENERATE), (Instr.importPlain, KO.IMPORT_PLAIN), (Instr.unwrap, KO.UNWRAP), (Instr.wrap, KO.WRAP), (Instr.derive, KO.DERIVE), (Instr.agree, KO.AGREE), (Instr.seal, KO.SEAL), (Instr.kvtOpen, KO.OPEN), (Instr.sign, KO.SIGN), (Instr.verifyEcdsa, KO.VERIFY_ECDSA), (Instr.verifyMldsa, KO.VERIFY_MLDSA), (Instr.attest, KO.ATTEST), (Instr.store, KO.STORE), (Instr.exportPublic, KO.EXPORT_PUBLIC), (Instr.random, KO.RANDOM), (Instr.readCert, KO.READ_CERT)] ∧ s.vaultNext p.2 c q l ∧ s.kvtCheck c = some code ∧ s.idleEngine c = some e)
    ∧ (∃ (p : Instr × ℕ), ∃ (c : KvtCmd), ∃ (q : List KvtCmd), ∃ (l : List KvtCmd), ∃ (s : State), ∃ (e : ℕ), p ∈ [(Instr.generate, KO.GENERATE), (Instr.importPlain, KO.IMPORT_PLAIN), (Instr.unwrap, KO.UNWRAP), (Instr.wrap, KO.WRAP), (Instr.derive, KO.DERIVE), (Instr.agree, KO.AGREE), (Instr.seal, KO.SEAL), (Instr.kvtOpen, KO.OPEN), (Instr.sign, KO.SIGN), (Instr.verifyEcdsa, KO.VERIFY_ECDSA), (Instr.verifyMldsa, KO.VERIFY_MLDSA), (Instr.attest, KO.ATTEST), (Instr.store, KO.STORE), (Instr.exportPublic, KO.EXPORT_PUBLIC), (Instr.random, KO.RANDOM), (Instr.readCert, KO.READ_CERT)] ∧ s.vaultNext p.2 c q l ∧ s.kvtCheck c = none ∧ s.idleEngine c = some e)
    ∧ (∃ (engine : Fin 5), ∃ (x : KvtFlight), ∃ (s : State), List.find? (fun (y : KvtFlight) => decide (y.engine = engine.val)) s.kvt.flight = some x ∧ x.store = none ∧ (x.cmd.addr + 64 ≤ x.cmd.f 24 8 ∨ x.cmd.f 24 8 + x.out.length ≤ x.cmd.addr) ∧ x.fill = none)
    ∧ (∃ (engine : Fin 5), ∃ (x : KvtFlight), ∃ (s : State), ∃ (d : ℕ), ∃ (k : KeySlot), List.find? (fun (y : KvtFlight) => decide (y.engine = engine.val)) s.kvt.flight = some x ∧ x.store = none ∧ (x.cmd.addr + 64 ≤ x.cmd.f 24 8 ∨ x.cmd.f 24 8 + x.out.length ≤ x.cmd.addr) ∧ x.fill = some (d, k) ∧ (s.key d).st = KS.EMPTY)
    ∧ (∃ (engine : Fin 5), ∃ (x : KvtFlight), ∃ (s : State), ∃ (d : ℕ), ∃ (k : KeySlot), List.find? (fun (y : KvtFlight) => decide (y.engine = engine.val)) s.kvt.flight = some x ∧ x.store = none ∧ (x.cmd.addr + 64 ≤ x.cmd.f 24 8 ∨ x.cmd.f 24 8 + x.out.length ≤ x.cmd.addr) ∧ x.fill = some (d, k) ∧ (s.key d).st ≠ KS.EMPTY) :=
  ⟨⟨(.random, KO.RANDOM), blk 15 0 0 0 4 0 0, [], [], queued 2, 4, 13, by decide +kernel, next_of (by decide +kernel), by decide +kernel, by decide +kernel⟩,
   ⟨(.random, KO.RANDOM), blk 15 0 0 0 4 0 0, [], [], queued 1, 4, by decide +kernel, next_of (by decide +kernel), by decide +kernel, by decide +kernel⟩,
   ⟨4, flight none, inFlight (flight none), by decide +kernel, by decide +kernel, by decide +kernel, by decide +kernel⟩,
   ⟨4, flight (some (5, {})), inFlight (flight (some (5, {}))), 5, {}, by decide +kernel, by decide +kernel, by decide +kernel, by decide +kernel, by decide +kernel⟩,
   ⟨4, flight (some (5, {})), (inFlight (flight (some (5, {})))).setKey 5 { st := 1 }, 5, {}, by decide +kernel, by decide +kernel, by decide +kernel, by decide +kernel, by decide +kernel⟩⟩

/-- The hypotheses of each clause of Obligations.VaultResults. -/
theorem test_VaultResults_hypotheses :
    (∃ (c : KvtCmd), c.op = KO.GENERATE ∧ (bits c.attr 7 4 = KT.AES ∨ bits c.attr 7 4 = KT.ecPrivate ∨ bits c.attr 7 4 = KT.SECRET))
    ∧ (∃ (c : KvtCmd), c.op = KO.GENERATE ∧ bits c.attr 7 4 ≠ KT.AES ∧ bits c.attr 7 4 ≠ KT.ecPrivate ∧ bits c.attr 7 4 ≠ KT.SECRET)
    ∧ (∃ (c : KvtCmd), ∃ (s : State), c.op = KO.IMPORT_PLAIN ∧ (bits c.attr 7 4 = KT.ecPublic ∨ bits c.attr 7 4 = KT.mldsaDigest) ∧ (s.bytes (c.f 8 8) (c.f 16 4)).length = keyLength (bits c.attr 7 4))
    ∧ (∃ (c : KvtCmd), ∃ (s : State), c.op = KO.IMPORT_PLAIN ∧ (bits c.attr 7 4 = KT.ecPublic ∨ bits c.attr 7 4 = KT.mldsaDigest) ∧ (s.bytes (c.f 8 8) (c.f 16 4)).length ≠ keyLength (bits c.attr 7 4))
    ∧ (∃ (c : KvtCmd), ∃ (s : State), c.op = KO.UNWRAP ∧ (s.bytes (c.f 8 8) (c.f 16 4)).length % 8 = 0 ∧ 24 ≤ (s.bytes (c.f 8 8) (c.f 16 4)).length ∧ (s.bytes (c.f 8 8) (c.f 16 4)).length ≤ 520 ∧ 1 ≤ bits c.attr 7 4 ∧ bits c.attr 7 4 ≤ 5)
    ∧ (∃ (c : KvtCmd), ∃ (s : State), c.op = KO.WRAP ∧ (s.keyValue c.dest).length % 8 = 0)
    ∧ (∃ (c : KvtCmd), ∃ (s : State), c.op = KO.DERIVE ∧ (bits c.attr 7 4 = KT.AES ∨ bits c.attr 7 4 = KT.SECRET) ∧ (saltInfo (s.bytes (c.f 32 8) (c.f 40 4))).1.length ≤ 128 ∧ (saltInfo (s.bytes (c.f 32 8) (c.f 40 4))).2.length ≤ 256)
    ∧ (∃ (c : KvtCmd), ∃ (s : State), c.op = KO.AGREE ∧ (bits c.attr 7 4 = KT.AES ∨ bits c.attr 7 4 = KT.SECRET) ∧ (saltInfo (s.bytes (c.f 8 8) (c.f 16 4))).1.length ≤ 128 ∧ (saltInfo (s.bytes (c.f 8 8) (c.f 16 4))).2.length ≤ 256 ∧ (s.bytes (c.f 32 8) (c.f 40 4)).length = 97)
    ∧ (∃ (c : KvtCmd), ∃ (s : State), c.op = KO.SEAL ∧ (s.bytes (c.f 8 8) (c.f 16 4)).length ≤ 2 ^ 24 ∧ (s.key c.key).nonceExt = false ∧ (s.bytes (c.f 32 8) (c.f 40 4)).length ≤ 65536 ∧ (s.key c.key).seals < 2 ^ 32 ∧ (s.key c.key).fixed.length = 4)
    ∧ (∃ (c : KvtCmd), ∃ (s : State), c.op = KO.SEAL ∧ (s.bytes (c.f 8 8) (c.f 16 4)).length ≤ 2 ^ 24 ∧ (s.key c.key).nonceExt = false ∧ 2 ^ 32 ≤ (s.key c.key).seals)
    ∧ (∃ (c : KvtCmd), ∃ (s : State), c.op = KO.OPEN ∧ 16 ≤ (s.bytes (c.f 8 8) (c.f 16 4)).length ∧ (s.bytes (c.f 8 8) (c.f 16 4)).length ≤ 2 ^ 24 ∧ 12 ≤ (s.bytes (c.f 32 8) (c.f 40 4)).length ∧ (s.bytes (c.f 32 8) (c.f 40 4)).length ≤ 65536)
    ∧ (∃ (c : KvtCmd), ∃ (s : State), c.op = KO.SIGN ∧ (s.bytes (c.f 8 8) (c.f 16 4)).length ≤ 2 ^ 24)
    ∧ (∃ (c : KvtCmd), ∃ (s : State), c.op = KO.VERIFY_ECDSA ∧ (s.bytes (c.f 8 8) (c.f 16 4)).length ≤ 2 ^ 24 ∧ (s.bytes (c.f 32 8) (c.f 40 4)).length = 96 ∧ c.f 3 1 % 2 = 0)
    ∧ (∃ (c : KvtCmd), ∃ (s : State), c.op = KO.VERIFY_MLDSA ∧ (s.bytes (c.f 8 8) (c.f 16 4)).length ≤ 2 ^ 24 ∧ 1952 ≤ (s.bytes (c.f 32 8) (c.f 40 4)).length)
    ∧ (∃ (c : KvtCmd), ∃ (s : State), c.op = KO.ATTEST ∧ (s.bytes (c.f 32 8) (c.f 40 4)).length = 48)
    ∧ (∃ (c : KvtCmd), c.op = KO.STORE)
    ∧ (∃ (c : KvtCmd), ∃ (s : State), c.op = KO.EXPORT_PUBLIC ∧ (s.key c.dest).typ = KT.ecPrivate)
    ∧ (∃ (c : KvtCmd), ∃ (s : State), c.op = KO.EXPORT_PUBLIC ∧ (s.key c.dest).typ = KT.ecPublic)
    ∧ (∃ (c : KvtCmd), c.op = KO.RANDOM ∧ c.f 20 4 ≤ 65536)
    ∧ (∃ (c : KvtCmd), ∃ (s : State), c.op = KO.READ_CERT ∧ s.kvt.factory = true)
    ∧ (∃ (c : KvtCmd), ∃ (s : State), c.op = KO.READ_CERT ∧ s.kvt.factory = false) :=
  ⟨⟨blk 1 0 5 0 0 0 0x10, by decide +kernel, by decide +kernel⟩,
   ⟨blk 1 0 5 0 0 0 0, by decide +kernel, by decide +kernel, by decide +kernel, by decide +kernel⟩,
   ⟨blk 2 0 5 97 0 0 0x30, up, by decide +kernel, by decide +kernel, by decide +kernel⟩,
   ⟨blk 2 0 5 96 0 0 0x30, up, by decide +kernel, by decide +kernel, by decide +kernel⟩,
   ⟨blk 3 5 6 24 0 0 0x10, up, by decide +kernel, by decide +kernel, by decide +kernel, by decide +kernel, by decide +kernel, by decide +kernel⟩,
   ⟨blk 4 5 6 0 0 0 0, up, by decide +kernel, by decide +kernel⟩,
   ⟨blk 5 5 6 0 0 0 0x10, up, by decide +kernel, by decide +kernel, by decide +kernel, by decide +kernel⟩,
   ⟨blk 6 5 6 0 0 97 0x10, up, by decide +kernel, by decide +kernel, by decide +kernel, by decide +kernel, by decide +kernel⟩,
   ⟨blk 7 5 6 0 0 0 0, up.setKey 5 { fixed := [0, 0, 0, 0] }, by decide +kernel, by decide +kernel, by decide +kernel, by decide +kernel, by decide +kernel, by decide +kernel⟩,
   ⟨blk 7 5 6 0 0 0 0, up.setKey 5 { fixed := [0, 0, 0, 0], seals := 2 ^ 32 }, by decide +kernel, by decide +kernel, by decide +kernel, by decide +kernel⟩,
   ⟨blk 8 5 6 16 0 12 0, up, by decide +kernel, by decide +kernel, by decide +kernel, by decide +kernel, by decide +kernel⟩,
   ⟨blk 9 5 6 0 0 0 0, up, by decide +kernel, by decide +kernel⟩,
   ⟨blk 10 5 6 0 0 96 0, up, by decide +kernel, by decide +kernel, by decide +kernel, by decide +kernel⟩,
   ⟨blk 11 5 6 0 0 1952 0, up, by decide +kernel, by decide +kernel, by decide +kernel⟩,
   ⟨blk 12 5 6 0 0 48 0, up, by decide +kernel, by decide +kernel⟩,
   ⟨blk 13 5 6 0 0 0 0, by decide +kernel⟩,
   ⟨blk 14 5 6 0 0 0 0, up.setKey 6 { typ := 2 }, by decide +kernel, by decide +kernel⟩,
   ⟨blk 14 5 6 0 0 0 0, up.setKey 6 { typ := 3 }, by decide +kernel, by decide +kernel⟩,
   ⟨blk 15 0 0 0 65536 0 0, by decide +kernel, by decide +kernel⟩,
   ⟨blk 16 0 0 0 0 0 0, up, by decide +kernel, by decide +kernel⟩,
   ⟨blk 16 0 0 0 0 0 0, up.modKvt (fun k => { k with factory := false }), by decide +kernel, by decide +kernel⟩⟩

/-- The hypotheses of each clause of Obligations.VaultLifecycle. -/
theorem test_VaultLifecycle_hypotheses :
    (∃ (slot : Fin 512), ∃ (s : State), slot.val ≠ 0 ∧ s.accepts KVT.REVOKE = true)
    ∧ (∃ (slot : Fin 512), ∃ (s : State), slot.val ≠ 0 ∧ s.accepts KVT.DELETE = true ∧ (s.key slot.val).st = KS.EMPTY)
    ∧ (∃ (slot : Fin 512), ∃ (s : State), slot.val ≠ 0 ∧ s.accepts KVT.DELETE = true ∧ (s.key slot.val).st ≠ KS.EMPTY)
    ∧ (∃ (s : State), s.accepts KVT.ZEROIZE = true)
    ∧ (∃ (s : State), s.accepts KVT.RESEAL = true ∧ s.kvt.reseal = false ∧ s.kvt.state = 1)
    ∧ (∃ (s : State), s.accepts KVT.RESEAL = true ∧ (s.kvt.reseal = true ∨ s.kvt.state ≠ 1))
    ∧ (∃ (s : State), s.kvt.reseal = true)
    ∧ (∃ (s : State), s.domainUp 2 = true) :=
  ⟨⟨511, up, by decide +kernel, by decide +kernel⟩,
   ⟨511, up, by decide +kernel, by decide +kernel, by decide +kernel⟩,
   ⟨511, up.setKey 511 { st := 1 }, by decide +kernel, by decide +kernel, by decide +kernel⟩,
   ⟨up, by decide +kernel⟩,
   ⟨up.modKvt (fun k => { k with state := 1 }), by decide +kernel, by decide +kernel, by decide +kernel⟩,
   ⟨up, by decide +kernel, by decide +kernel⟩,
   ⟨up.modKvt (fun k => { k with reseal := true }), by decide +kernel⟩,
   ⟨up, by decide +kernel⟩⟩

/-- The hypotheses of each clause of Obligations.UpdateSessions. -/
theorem test_UpdateSessions_hypotheses :
    (∃ (s : State), s.accepts UPD.SESSION = true ∧ s.upd.sess ≠ US.IDLE)
    ∧ (∃ (s : State), s.accepts UPD.SESSION = true ∧ s.upd.sess = US.IDLE ∧ s.bootRec.trial ≠ 0)
    ∧ (∃ (src : Fin 4), ∃ (s : State), s.accepts UPD.SESSION = true ∧ s.upd.sess = US.IDLE ∧ s.bootRec.trial = 0 ∧ src.val < 3)
    ∧ (∃ (req : Req), ∃ (s : State), ∃ (c : Instr), s.accepts UPD.SESSION = true ∧ c ∈ [Instr.sessionClose req, Instr.sessionAbort req] ∧ (s.upd.sess = US.VERIFYING ∨ s.upd.sess = US.ACTIVATING))
    ∧ (∃ (req : Req), ∃ (s : State), ∃ (c : Instr), s.accepts UPD.SESSION = true ∧ c ∈ [Instr.sessionClose req, Instr.sessionAbort req] ∧ s.upd.sess = US.IDLE)
    ∧ (∃ (req : Req), ∃ (s : State), ∃ (c : Instr), s.accepts UPD.SESSION = true ∧ c ∈ [Instr.sessionClose req, Instr.sessionAbort req] ∧ (s.upd.sess = US.OPEN ∨ s.upd.sess = US.STAGED ∨ s.upd.sess = US.ACTIVATED))
    ∧ (∃ (s : State), s.accepts UPD.XFER_CTRL = true ∧ s.upd.op ≠ none)
    ∧ (∃ (req : Req), ∃ (s : State), s.accepts UPD.XFER_CTRL = true ∧ s.upd.op = none ∧ req.val ≠ s.upd.owner)
    ∧ (∃ (req : Req), ∃ (s : State), s.accepts UPD.XFER_CTRL = true ∧ s.upd.op = none ∧ req.val = s.upd.owner ∧ s.upd.sess ≠ US.OPEN)
    ∧ (∃ (req : Req), ∃ (s : State), s.accepts UPD.XFER_CTRL = true ∧ s.upd.op = none ∧ req.val = s.upd.owner ∧ s.upd.sess = US.OPEN ∧ s.fld UPD.XFER_OFF 26 0 ≠ s.upd.land)
    ∧ (∃ (req : Req), ∃ (v : Word), ∃ (s : State), s.accepts UPD.XFER_CTRL = true ∧ s.upd.op = none ∧ req.val = s.upd.owner ∧ s.upd.sess = US.OPEN ∧ s.fld UPD.XFER_OFF 26 0 = s.upd.land ∧ (s.updLimit (s.xferBytes (min (clampN 4 (if bit v 30 = true then 2048 else 4194304) (bits v 22 0) / 4 * 4) 8) (bit v 30) (BitVec.toNat (s.reg64 UPD.XFER_SRC_LO UPD.XFER_SRC_HI))) < s.upd.land + clampN 4 (if bit v 30 = true then 2048 else 4194304) (bits v 22 0) / 4 * 4 ∨ bit v 30 = false ∧ inDram (BitVec.toNat (s.reg64 UPD.XFER_SRC_LO UPD.XFER_SRC_HI)) (clampN 4 (if bit v 30 = true then 2048 else 4194304) (bits v 22 0) / 4 * 4) = false))
    ∧ (∃ (req : Req), ∃ (v : Word), ∃ (s : State), s.accepts UPD.XFER_CTRL = true ∧ s.upd.op = none ∧ req.val = s.upd.owner ∧ s.upd.sess = US.OPEN ∧ s.fld UPD.XFER_OFF 26 0 = s.upd.land ∧ s.upd.land + clampN 4 (if bit v 30 = true then 2048 else 4194304) (bits v 22 0) / 4 * 4 ≤ s.updLimit (s.xferBytes (min (clampN 4 (if bit v 30 = true then 2048 else 4194304) (bits v 22 0) / 4 * 4) 8) (bit v 30) (BitVec.toNat (s.reg64 UPD.XFER_SRC_LO UPD.XFER_SRC_HI))) ∧ (bit v 30 = true ∨ inDram (BitVec.toNat (s.reg64 UPD.XFER_SRC_LO UPD.XFER_SRC_HI)) (clampN 4 (if bit v 30 = true then 2048 else 4194304) (bits v 22 0) / 4 * 4) = true))
    ∧ (∃ (off : ℕ), ∃ (n : ℕ), ∃ (src : ℕ), ∃ (buf : Bool), ∃ (s : State), s.upd.op = some (UpdOp.xfer off n buf src) ∧ (¬(off < 16384 ∧ 16384 ≤ off + (s.xferBytes n buf src).length) ∨ (s.setBytes (stagingBase + off) (List.take (16384 - off) (s.xferBytes n buf src))).headerCheck stagingBase = UR.OK))
    ∧ (∃ (off : ℕ), ∃ (n : ℕ), ∃ (src : ℕ), ∃ (buf : Bool), ∃ (s : State), s.upd.op = some (UpdOp.xfer off n buf src) ∧ off < 16384 ∧ 16384 ≤ off + (s.xferBytes n buf src).length ∧ (s.setBytes (stagingBase + off) (List.take (16384 - off) (s.xferBytes n buf src))).headerCheck stagingBase ≠ UR.OK)
    ∧ (∃ (req : Req), ∃ (s : State), s.accepts UPD.CMD = true ∧ req.val ≠ s.upd.owner)
    ∧ (∃ (req : Req), ∃ (s : State), s.accepts UPD.CMD = true ∧ req.val = s.upd.owner ∧ (s.upd.sess ≠ US.OPEN ∨ s.upd.land ≠ 16384 + s.imgLen stagingBase))
    ∧ (∃ (req : Req), ∃ (s : State), s.accepts UPD.CMD = true ∧ req.val = s.upd.owner ∧ s.upd.sess = US.OPEN ∧ s.upd.land = 16384 + s.imgLen stagingBase ∧ s.upd.op ≠ none)
    ∧ (∃ (req : Req), ∃ (s : State), s.accepts UPD.CMD = true ∧ s.upd.op = none ∧ req.val = s.upd.owner ∧ s.upd.sess = US.OPEN ∧ s.upd.land = 16384 + s.imgLen stagingBase)
    ∧ (∃ (s : State), s.upd.op = some UpdOp.verify)
    ∧ (∃ (s : State), (s.upd.sess = US.OPEN ∨ s.upd.sess = US.STAGED) ∧ s.upd.lastAct + s.fld UPD.SESS_TO 11 0 ≤ s.tb0s)
    ∧ (∃ (s : State), s.upd.sess ≠ US.OPEN ∧ s.upd.sess ≠ US.STAGED)
    ∧ (∃ (s : State), s.tb0s < s.upd.lastAct + s.fld UPD.SESS_TO 11 0) :=
  ⟨⟨up.modUpd (fun u => { u with sess := US.OPEN }), by decide +kernel, by decide +kernel⟩,
   ⟨onTrial, by decide +kernel, by decide +kernel, by decide +kernel⟩,
   ⟨2, up, by decide +kernel, by decide +kernel, by decide +kernel, by decide +kernel⟩,
   ⟨0, up.modUpd (fun u => { u with sess := US.VERIFYING }), .sessionClose 0, by decide +kernel, by decide +kernel, by decide +kernel⟩,
   ⟨0, up, .sessionAbort 0, by decide +kernel, by decide +kernel, by decide +kernel⟩,
   ⟨0, up.modUpd (fun u => { u with sess := US.STAGED }), .sessionClose 0, by decide +kernel, by decide +kernel, by decide +kernel⟩,
   ⟨up.modUpd (fun u => { u with op := some .verify }), by decide +kernel, by decide +kernel⟩,
   ⟨1, up, by decide +kernel, by decide +kernel, by decide +kernel⟩,
   ⟨0, up, by decide +kernel, by decide +kernel, by decide +kernel, by decide +kernel⟩,
   ⟨0, up.modUpd (fun u => { u with sess := US.OPEN, land := 5 }), by decide +kernel, by decide +kernel, by decide +kernel, by decide +kernel, by decide +kernel⟩,
   ⟨0, 0, up.modUpd (fun u => { u with sess := US.OPEN }), by decide +kernel, by decide +kernel, by decide +kernel, by decide +kernel, by decide +kernel, by decide +kernel⟩,
   ⟨0, 0x40000004, up.modUpd (fun u => { u with sess := US.OPEN }), by decide +kernel, by decide +kernel, by decide +kernel, by decide +kernel, by decide +kernel, by decide +kernel, by decide +kernel⟩,
   ⟨16384, 4, 0, true, up.modUpd (fun u => { u with op := some (.xfer 16384 4 true 0) }), by decide +kernel, by decide +kernel⟩,
   ⟨16383, 4, 0, true, up.modUpd (fun u => { u with op := some (.xfer 16383 4 true 0) }), by decide +kernel, by decide +kernel, by decide +kernel, by decide +kernel⟩,
   ⟨1, up, by decide +kernel, by decide +kernel⟩,
   ⟨0, up, by decide +kernel, by decide +kernel, by decide +kernel⟩,
   ⟨0, up.modUpd (fun u => { u with sess := US.OPEN, land := 4294983679, op := some .verify }), by decide +kernel, by decide +kernel, by decide +kernel, by decide +kernel, by decide +kernel⟩,
   ⟨0, up.modUpd (fun u => { u with sess := US.OPEN, land := 4294983679 }), by decide +kernel, by decide +kernel, by decide +kernel, by decide +kernel, by decide +kernel⟩,
   ⟨up.modUpd (fun u => { u with op := some .verify }), by decide +kernel⟩,
   ⟨(up.modUpd (fun u => { u with sess := US.OPEN })).setTbase 0 { s := 100000 }, by decide +kernel, by decide +kernel⟩,
   ⟨up, by decide +kernel, by decide +kernel⟩,
   ⟨up, by decide +kernel⟩⟩

/-- The hypotheses of each clause of Obligations.UpdateActivation. -/
theorem test_UpdateActivation_hypotheses :
    (∃ (req : Req), ∃ (s : State), s.accepts UPD.CMD = true ∧ s.upd.sess = US.STAGED ∧ req.val ≠ s.upd.owner)
    ∧ (∃ (s : State), s.accepts UPD.CMD = true ∧ s.upd.sess ≠ US.STAGED ∧ (s.upd.sess ≠ US.IDLE ∨ s.bootRec.landing = 0))
    ∧ (∃ (req : Req), ∃ (s : State), s.accepts UPD.CMD = true ∧ (s.upd.sess = US.STAGED ∧ req.val = s.upd.owner ∨ s.upd.sess = US.IDLE ∧ s.bootRec.landing ≠ 0) ∧ s.bootRec.trial ≠ 0)
    ∧ (∃ (req : Req), ∃ (s : State), s.accepts UPD.CMD = true ∧ (s.upd.sess = US.STAGED ∧ req.val = s.upd.owner ∨ s.upd.sess = US.IDLE ∧ s.bootRec.landing ≠ 0) ∧ s.bootRec.trial = 0 ∧ (s.twn.role = Role.active ∧ s.paired = true))
    ∧ (∃ (req : Req), ∃ (s : State), s.accepts UPD.CMD = true ∧ (s.upd.sess = US.STAGED ∧ req.val = s.upd.owner ∨ s.upd.sess = US.IDLE ∧ s.bootRec.landing ≠ 0) ∧ s.bootRec.trial = 0 ∧ (s.twn.role ≠ Role.active ∨ s.paired = false) ∧ s.imgKind stagingBase = 1 ∧ s.imgSchema stagingBase < s.imgSchema (bankBase s.bootRec.active))
    ∧ (∃ (req : Req), ∃ (s : State), s.accepts UPD.CMD = true ∧ (s.upd.sess = US.STAGED ∧ req.val = s.upd.owner ∨ s.upd.sess = US.IDLE ∧ s.bootRec.landing ≠ 0) ∧ s.bootRec.trial = 0 ∧ (s.twn.role ≠ Role.active ∨ s.paired = false) ∧ (s.imgKind stagingBase ≠ 1 ∨ s.imgSchema (bankBase s.bootRec.active) ≤ s.imgSchema stagingBase))
    ∧ (∃ (idle : Bool), ∃ (s : State), s.upd.op = some (UpdOp.activate idle))
    ∧ (∃ (key : BitVec 16), ∃ (s : State), s.accepts UPD.CMD = true ∧ key ≠ 49393)
    ∧ (∃ (s : State), s.accepts UPD.CMD = true ∧ (decide (s.bootRec.trial = 1) && s.upd.migDone || decide (s.bootRec.trial = 2) && s.rbit (regSTAT MTR.page) 1) = false)
    ∧ (∃ (s : State), s.accepts UPD.CMD = true ∧ (decide (s.bootRec.trial = 1) && s.upd.migDone || decide (s.bootRec.trial = 2) && s.rbit (regSTAT MTR.page) 1) = true)
    ∧ (∃ (s : State), s.accepts UPD.CMD = true ∧ s.bootRec.trial ≠ 0 ∧ s.kvt.queue = [] ∧ s.kvt.flight = [])
    ∧ (∃ (s : State), s.accepts UPD.CMD = true ∧ (decide (s.bootRec.trial = 1) && decide (s.memBE (areaBase (s.bootRec.cfgOf (1 - s.bootRec.active))) 4 = 1128679169) && decide (s.memBE (areaBase (s.bootRec.cfgOf (1 - s.bootRec.active)) + 6) 1 = 2) && decide (s.memBE (areaBase (s.bootRec.cfgOf (1 - s.bootRec.active)) + 4) 2 = s.imgSchema (bankBase (1 - s.bootRec.active))) && decide (s.memBE (areaBase (s.bootRec.cfgOf (1 - s.bootRec.active)) + 28) 4 = crc32 (s.bytes (areaBase (s.bootRec.cfgOf (1 - s.bootRec.active))) 28))) = true)
    ∧ (∃ (s : State), s.accepts UPD.CMD = true ∧ (decide (s.bootRec.trial = 1) && decide (s.memBE (areaBase (s.bootRec.cfgOf (1 - s.bootRec.active))) 4 = 1128679169) && decide (s.memBE (areaBase (s.bootRec.cfgOf (1 - s.bootRec.active)) + 6) 1 = 2) && decide (s.memBE (areaBase (s.bootRec.cfgOf (1 - s.bootRec.active)) + 4) 2 = s.imgSchema (bankBase (1 - s.bootRec.active))) && decide (s.memBE (areaBase (s.bootRec.cfgOf (1 - s.bootRec.active)) + 28) 4 = crc32 (s.bytes (areaBase (s.bootRec.cfgOf (1 - s.bootRec.active))) 28))) = false)
    ∧ (∃ (w : ℕ), ∃ (s : State), s.upd.window = some w ∧ 840 ≤ s.tb0s - w ∧ s.upd.warned = false)
    ∧ (∃ (w : ℕ), ∃ (s : State), s.upd.window = some w ∧ (s.tb0s - w < 840 ∨ s.upd.warned = true))
    ∧ (∃ (w : ℕ), ∃ (s : State), s.upd.window = some w ∧ 900 ≤ s.tb0s - w ∧ s.kvt.queue = [] ∧ s.kvt.flight = [])
    ∧ (∃ (w : ℕ), ∃ (s : State), s.upd.window = some w ∧ s.tb0s - w < 900) :=
  ⟨⟨1, up.modUpd (fun u => { u with sess := US.STAGED }), by decide +kernel, by decide +kernel, by decide +kernel⟩,
   ⟨up, by decide +kernel, by decide +kernel, by decide +kernel⟩,
   ⟨0, onTrial.modUpd (fun u => { u with sess := US.STAGED }), by decide +kernel, by decide +kernel, by decide +kernel⟩,
   ⟨0, linked (roled .active (up.modUpd (fun u => { u with sess := US.STAGED }))), by decide +kernel, by decide +kernel, by decide +kernel, by decide +kernel⟩,
   ⟨0, ((up.modUpd (fun u => { u with sess := US.STAGED })).setBytes 0x30000006 [1]).setBytes 0x30000012 [0, 0], by decide +kernel, by decide +kernel, by decide +kernel, by decide +kernel, by decide +kernel, by decide +kernel⟩,
   ⟨0, up.modUpd (fun u => { u with sess := US.STAGED }), by decide +kernel, by decide +kernel, by decide +kernel, by decide +kernel, by decide +kernel⟩,
   ⟨true, up.modUpd (fun u => { u with op := some (.activate true) }), by decide +kernel⟩,
   ⟨0, up, by decide +kernel, by decide +kernel⟩,
   ⟨up, by decide +kernel, by decide +kernel⟩,
   ⟨onTrial.modUpd (fun u => { u with migDone := true }), by decide +kernel, by decide +kernel⟩,
   ⟨onTrial, by decide +kernel, by decide +kernel, by decide +kernel, by decide +kernel⟩,
   ⟨{ up with mem := trialMem ++ areaMem }, by decide +kernel, by decide +kernel⟩,
   ⟨up, by decide +kernel, by decide +kernel⟩,
   ⟨100, (up.modUpd (fun u => { u with window := some 100 })).setTbase 0 { s := 940 }, by decide +kernel, by decide +kernel, by decide +kernel⟩,
   ⟨100, (up.modUpd (fun u => { u with window := some 100 })).setTbase 0 { s := 939 }, by decide +kernel, by decide +kernel⟩,
   ⟨100, (up.modUpd (fun u => { u with window := some 100 })).setTbase 0 { s := 1000 }, by decide +kernel, by decide +kernel, by decide +kernel, by decide +kernel⟩,
   ⟨100, (up.modUpd (fun u => { u with window := some 100 })).setTbase 0 { s := 999 }, by decide +kernel, by decide +kernel⟩⟩

/-- The hypotheses of each clause of Obligations.TwinRoles. -/
theorem test_TwinRoles_hypotheses :
    (∃ (s : State), s.accepts (regCTRL TWN.page) = true ∧ s.twn.role = Role.solo ∧ s.domainUp 9 = true)
    ∧ (∃ (s : State), s.twn.role = Role.hunt ∧ s.nextCnt < 2 ^ 31)
    ∧ (∃ (s : State), s.twn.role = Role.hunt ∧ 2 ^ 31 ≤ s.nextCnt)
    ∧ (∃ (s : State), s.domainUp 9 = true ∧ s.rbit (regCTRL TWN.page) 0 = true ∧ s.pwr.twinPresent = true ∧ s.twn.link = false)
    ∧ (∃ (s : State), s.twn.role ≠ Role.standby ∧ s.twn.role ≠ Role.pairing ∨ s.twn.role = Role.standby ∧ s.rbit TWN.CFG 16 = true)
    ∧ (∃ (s : State), s.twn.role = Role.pairing ∨ s.twn.role = Role.standby ∧ s.rbit TWN.CFG 16 = false)
    ∧ (∃ (s : State), s.twn.role ≠ Role.standby ∨ s.rbit TWN.CFG 16 = true)
    ∧ (∃ (s : State), s.twn.role = Role.standby ∧ s.rbit TWN.CFG 16 = false)
    ∧ (∃ (n : Fin 13), ∃ (s : State), s.twn.role = Role.active ∧ s.twn.link = false ∧ s.pwr.twinPresent = true ∧ (s.rbit (STL.BRD_STAT n.val) 14 = true ∨ s.twoLost = true))
    ∧ (∃ (s : State), s.accepts TWN.REARM = true ∧ s.twn.role = Role.suspect)
    ∧ (∃ (s : State), s.accepts TWN.REARM = true ∧ s.twn.role ≠ Role.suspect)
    ∧ (∃ (s : State), s.twn.role = Role.pairing ∨ s.twn.role = Role.standby) :=
  ⟨⟨up, by decide +kernel, by decide +kernel, by decide +kernel⟩,
   ⟨roled .hunt up, by decide +kernel, by decide +kernel⟩,
   ⟨(roled .hunt up).setReg TWN.PEER_CLAIM 0xFFFFFFFF, by decide +kernel, by decide +kernel⟩,
   ⟨(up.setRbit (regCTRL TWN.page) 0 true).modPwr (fun p => { p with twinPresent := true }), by decide +kernel, by decide +kernel, by decide +kernel, by decide +kernel⟩,
   ⟨up, by decide +kernel⟩,
   ⟨roled .pairing up, by decide +kernel⟩,
   ⟨up, by decide +kernel⟩,
   ⟨(roled .standby up).setRbit TWN.CFG 16 false, by decide +kernel, by decide +kernel⟩,
   ⟨12, ((roled .active up).modPwr (fun p => { p with twinPresent := true })).setRbit (STL.BRD_STAT 12) 14 true, by decide +kernel, by decide +kernel, by decide +kernel, by decide +kernel⟩,
   ⟨roled .suspect up, by decide +kernel, by decide +kernel⟩,
   ⟨up, by decide +kernel, by decide +kernel⟩,
   ⟨roled .standby up, by decide +kernel⟩⟩

/-- The hypotheses of each clause of Obligations.TwinFrames. -/
theorem test_TwinFrames_hypotheses :
    (∃ (h : TwinHead), ∃ (p : PairFrame), ∃ (s : State), s.hears 1 h ∧ p.ver ≠ 1)
    ∧ (∃ (h : TwinHead), ∃ (p : PairFrame), ∃ (s : State), s.hears 1 h ∧ p.ver = 1 ∧ (s.twn.role = Role.pairing ∨ s.twn.role = Role.active) ∧ p.sig = none)
    ∧ (∃ (h : TwinHead), ∃ (p : PairFrame), ∃ (own : PairFrame), ∃ (peer : PairFrame), ∃ (g : List Byte), ∃ (s : State), s.hears 1 h ∧ p.ver = 1 ∧ (s.twn.role = Role.pairing ∨ s.twn.role = Role.active) ∧ p.sig = some g ∧ s.twn.ownPair = some own ∧ s.twn.peerPair = some peer)
    ∧ (∃ (h : TwinHead), ∃ (b : List Byte), ∃ (s : State), s.hears 1 h ∧ frameField b 12 2 = 33024 ∧ frameField b 14 2 % 4096 = s.fld SWX.VID_TWIN 11 0 ∧ s.storedBytes PORT.TWIN + (List.take 12 b ++ List.drop 16 b).length ≤ 65536)
    ∧ (∃ (h : TwinHead), ∃ (b : List Byte), ∃ (s : State), s.hears 1 h ∧ (frameField b 12 2 ≠ 33024 ∨ frameField b 14 2 % 4096 ≠ s.fld SWX.VID_TWIN 11 0))
    ∧ (∃ (h : TwinHead), ∃ (off : BitVec 27), ∃ (bytes : List Byte), ∃ (s : State), s.hears 1 h ∧ s.upd.sess = US.OPEN ∧ s.upd.src = 2 ∧ s.upd.op = none ∧ off.toNat = s.upd.land ∧ bytes ≠ [] ∧ off.toNat + bytes.length ≤ s.updLimit bytes ∧ (¬(off.toNat < 16384 ∧ 16384 ≤ off.toNat + bytes.length)))
    ∧ (∃ (h : TwinHead), ∃ (e : JournalEntry), ∃ (s : State), s.hears 1 h ∧ (s.twn.role = Role.standby ∨ s.twn.role = Role.suspect ∨ s.twn.role = Role.pairing ∧ s.twn.aligned.isSome = true) ∧ (s.twn.jseqRx = 0 ∨ e.jseq = s.twn.jseqRx + 1))
    ∧ (∃ (h : TwinHead), ∃ (e : JournalEntry), ∃ (s : State), s.hears 1 h ∧ (s.twn.role = Role.standby ∨ s.twn.role = Role.suspect ∨ s.twn.role = Role.pairing ∧ s.twn.aligned.isSome = true) ∧ s.twn.jseqRx ≠ 0 ∧ e.jseq ≠ s.twn.jseqRx + 1)
    ∧ (∃ (s : State), s.twn.role ≠ Role.solo ∧ s.domainUp 9 = true ∧ s.twn.link = true ∧ s.twn.load = [] ∧ s.twn.held = [] ∧ s.twn.handover = none)
    ∧ (∃ (h : TwinHead), ∃ (s : State), s.hears 0 h)
    ∧ (∃ (s : State), s.twn.alive = true ∧ BitVec.toNat s.twn.heard + 2 < BitVec.toNat s.now ∧ s.twn.role ≠ Role.solo) :=
  ⟨⟨th, pair 2 none, up, hears_of (by decide +kernel), by decide +kernel⟩,
   ⟨th, pair 1 none, roled .pairing up, hears_of (by decide +kernel), by decide +kernel, by decide +kernel, by decide +kernel⟩,
   ⟨th, pair 1 (some []), pair 1 none, pair 1 none, [], (roled .pairing up).modTwn (fun t => { t with ownPair := some (pair 1 none), peerPair := some (pair 1 none) }), hears_of (by decide +kernel), by decide +kernel, by decide +kernel, by decide +kernel, by decide +kernel, by decide +kernel⟩,
   ⟨th, List.replicate 12 0 ++ [0x81, 0, 0, 5], up.setFld SWX.VID_TWIN 11 0 5, hears_of (by decide +kernel), by decide +kernel, by decide +kernel, by decide +kernel⟩,
   ⟨th, [], up, hears_of (by decide +kernel), by decide +kernel⟩,
   ⟨th, 0, [0], up.modUpd (fun u => { u with sess := US.OPEN, src := 2 }), hears_of (by decide +kernel), by decide +kernel, by decide +kernel, by decide +kernel, by decide +kernel, by decide +kernel, by decide +kernel, by decide +kernel⟩,
   ⟨th, je 1, roled .standby up, hears_of (by decide +kernel), by decide +kernel, by decide +kernel⟩,
   ⟨th, je 1, (roled .standby up).modTwn (fun t => { t with jseqRx := 5 }), hears_of (by decide +kernel), by decide +kernel, by decide +kernel, by decide +kernel⟩,
   ⟨linked (roled .active up), by decide +kernel, by decide +kernel, by decide +kernel, by decide +kernel, by decide +kernel, by decide +kernel⟩,
   ⟨th, up, hears_of (by decide +kernel)⟩,
   ⟨{ (roled .active up).modTwn (fun t => { t with alive := true }) with now := 5 }, by decide +kernel, by decide +kernel, by decide +kernel⟩⟩

/-- The hypotheses of each clause of Obligations.TwinEpochs. -/
theorem test_TwinEpochs_hypotheses :
    (∃ (h : TwinHead), ∃ (s : State), s.domainUp 9 = true ∧ h.good = true ∧ (s.twn.role = Role.standby ∨ s.twn.role = Role.suspect))
    ∧ (∃ (h : TwinHead), ∃ (complete : Bool), ∃ (s : State), s.domainUp 9 = true ∧ (complete = false ∨ h.good = false) ∧ (s.twn.role = Role.pairing ∨ s.twn.role = Role.suspect ∨ s.twn.role = Role.standby ∧ s.twn.torn + 1 < 64))
    ∧ (∃ (h : TwinHead), ∃ (complete : Bool), ∃ (s : State), s.domainUp 9 = true ∧ (complete = false ∨ h.good = false) ∧ s.twn.role = Role.standby ∧ 64 ≤ s.twn.torn + 1)
    ∧ (∃ (h : TwinHead), ∃ (slot : List Byte), ∃ (s : State), s.hears 1 h ∧ s.twn.role = Role.standby ∧ slot.length = 2048)
    ∧ (∃ (s : State), s.twn.role = Role.active ∧ s.twn.link = true ∧ s.domainUp 9 = true ∧ angleOf s.now = 0)
    ∧ (∃ (h : TwinHead), ∃ (s : State), s.hears 1 h ∧ (s.twn.role = Role.pairing ∨ s.twn.role = Role.standby))
    ∧ (∃ (e : LoopEpoch), ∃ (s : State), s.twn.role = Role.pairing ∧ s.twn.alignAt = some e.at_ ∧ s.twn.epoch = some e ∧ s.twn.aligned = none) :=
  ⟨⟨th, roled .standby up, by decide +kernel, by decide +kernel, by decide +kernel⟩,
   ⟨th, false, roled .pairing up, by decide +kernel, by decide +kernel, by decide +kernel⟩,
   ⟨th, false, (roled .standby up).modTwn (fun t => { t with torn := 63 }), by decide +kernel, by decide +kernel, by decide +kernel, by decide +kernel⟩,
   ⟨th, List.replicate 2048 0, roled .standby up, hears_of (by decide +kernel), by decide +kernel, List.length_replicate⟩,
   ⟨linked (roled .active (live 0)), by decide +kernel, by decide +kernel, by decide +kernel, by decide +kernel⟩,
   ⟨th, roled .standby up, hears_of (by decide +kernel), by decide +kernel⟩,
   ⟨{ at_ := 0 }, (roled .pairing up).modTwn (fun t => { t with alignAt := some 0, epoch := some { at_ := 0 } }), by decide +kernel, by decide +kernel, by decide +kernel, by decide +kernel⟩⟩

/-- The hypotheses of each clause of Obligations.TwinTakeover. -/
theorem test_TwinTakeover_hypotheses :
    (∃ (c : Fin 5), ∃ (s : State), s.twn.role ≠ Role.solo ∧ s.twn.role ≠ Role.active ∧ s.causeHolds c.val = true ∧ s.twn.decided = none ∧ s.nextCnt < 2 ^ 31)
    ∧ (∃ (c : Fin 5), ∃ (s : State), s.twn.role ≠ Role.solo ∧ s.twn.role ≠ Role.active ∧ s.causeHolds c.val = true ∧ s.twn.decided = none ∧ 2 ^ 31 ≤ s.nextCnt)
    ∧ (∃ (c : ℕ), ∃ (b : Stamp), ∃ (s : State), s.twn.decided = some (c, b) ∧ BitVec.toNat b ≤ BitVec.toNat s.now)
    ∧ (∃ (b : Stamp), ∃ (s : State), s.twn.pulseAt = some b ∧ BitVec.toNat b ≤ BitVec.toNat s.now)
    ∧ (∃ (b : Stamp), ∃ (s : State), s.twn.pulseAt = some b ∧ BitVec.toNat s.now < BitVec.toNat b)
    ∧ (∃ (key : BitVec 16), ∃ (s : State), s.accepts TWN.HANDOVER = true ∧ key.toNat = 31310 ∧ s.twn.role = Role.active ∧ s.peerEligible = true ∧ s.twn.handover = none)
    ∧ (∃ (key : BitVec 16), ∃ (s : State), s.accepts TWN.HANDOVER = true ∧ (key.toNat ≠ 31310 ∨ s.twn.role ≠ Role.active ∨ s.peerEligible = false ∨ s.twn.handover.isSome = true))
    ∧ (∃ (s : State), s.accepts TWN.DRILL_AT_HI = true ∧ s.twn.role = Role.active ∧ s.peerEligible = true ∧ s.twn.handover = none)
    ∧ (∃ (b : Stamp), ∃ (s : State), s.accepts TWN.DRILL_CTRL = true ∧ s.twn.drill = true ∧ s.twn.handover = some b ∧ s.twn.named = false)
    ∧ (∃ (b : Stamp), ∃ (s : State), s.accepts TWN.DRILL_CTRL = true ∧ s.twn.drill = true ∧ s.twn.handover = some b ∧ s.twn.named = true)
    ∧ (∃ (b : Stamp), ∃ (s : State), s.twn.role = Role.active ∧ s.twn.named = true ∧ s.twn.handover = some b ∧ BitVec.toNat b ≤ BitVec.toNat s.now)
    ∧ (∃ (b : Stamp), ∃ (s : State), s.twn.role = Role.standby ∧ s.twn.returnAt = some b ∧ BitVec.toNat b ≤ BitVec.toNat s.now ∧ s.nextCnt < 2 ^ 31) :=
  ⟨⟨4, roled .standby up, by decide +kernel, by decide +kernel, by decide +kernel, by decide +kernel, by decide +kernel⟩,
   ⟨4, (roled .standby up).setReg TWN.PEER_CLAIM 0xFFFFFFFF, by decide +kernel, by decide +kernel, by decide +kernel, by decide +kernel, by decide +kernel⟩,
   ⟨1, 0, up.modTwn (fun t => { t with decided := some (1, 0) }), by decide +kernel, by decide +kernel⟩,
   ⟨5, { up.modTwn (fun t => { t with pulseAt := some 5 }) with now := 5 }, by decide +kernel, by decide +kernel⟩,
   ⟨5, up.modTwn (fun t => { t with pulseAt := some 5 }), by decide +kernel, by decide +kernel⟩,
   ⟨31310, linked (roled .active up), by decide +kernel, by decide +kernel, by decide +kernel, by decide +kernel, by decide +kernel⟩,
   ⟨0, up, by decide +kernel, by decide +kernel⟩,
   ⟨linked (roled .active up), by decide +kernel, by decide +kernel, by decide +kernel, by decide +kernel⟩,
   ⟨5, up.modTwn (fun t => { t with drill := true, handover := some 5 }), by decide +kernel, by decide +kernel, by decide +kernel, by decide +kernel⟩,
   ⟨5, up.modTwn (fun t => { t with drill := true, handover := some 5, named := true }), by decide +kernel, by decide +kernel, by decide +kernel, by decide +kernel⟩,
   ⟨0, (roled .active up).modTwn (fun t => { t with handover := some 0, named := true }), by decide +kernel, by decide +kernel, by decide +kernel, by decide +kernel⟩,
   ⟨0, (roled .standby up).modTwn (fun t => { t with returnAt := some 0 }), by decide +kernel, by decide +kernel, by decide +kernel, by decide +kernel⟩⟩

/-- The hypotheses of each clause of Obligations.SegmentSessions. -/
theorem test_SegmentSessions_hypotheses :
    (∃ (c : KspClient), ∃ (s : State), s.rbit (regCTRL KSP.page) 0 = true ∧ c.port.toNat = s.fld KSP.LISTEN 15 0 ∧ s.rbit KSP.LISTEN (if c.ipv6 = true then 17 else 16) = true ∧ (∀ i < 8, s.kspSession i ≠ none))
    ∧ (∃ (c : KspClient), ∃ (s : State), ∃ (i : ℕ), s.rbit (regCTRL KSP.page) 0 = true ∧ c.port.toNat = s.fld KSP.LISTEN 15 0 ∧ s.rbit KSP.LISTEN (if c.ipv6 = true then 17 else 16) = true ∧ List.find? (fun (i : ℕ) => decide (s.kspSession i = none)) (List.range 8) = some i ∧ (c.tls = false ∨ c.roles = none))
    ∧ (∃ (c : KspClient), ∃ (s : State), ∃ (i : ℕ), ∃ (r : BitVec 5), s.rbit (regCTRL KSP.page) 0 = true ∧ c.port.toNat = s.fld KSP.LISTEN 15 0 ∧ s.rbit KSP.LISTEN (if c.ipv6 = true then 17 else 16) = true ∧ List.find? (fun (i : ℕ) => decide (s.kspSession i = none)) (List.range 8) = some i ∧ c.tls = true ∧ c.roles = some r)
    ∧ (∃ (i : Fin 8), ∃ (vmin : BitVec 8), ∃ (vmax : BitVec 8), ∃ (x : KspSession), ∃ (s : State), s.kspSession i.val = some x ∧ x.opened = false ∧ min vmax.toNat (s.fld KSP.LISTEN 21 20) < max vmin.toNat 1)
    ∧ (∃ (i : Fin 8), ∃ (vmin : BitVec 8), ∃ (vmax : BitVec 8), ∃ (x : KspSession), ∃ (s : State), s.kspSession i.val = some x ∧ x.opened = false ∧ max vmin.toNat 1 ≤ min vmax.toNat (s.fld KSP.LISTEN 21 20))
    ∧ (∃ (i : Fin 8), ∃ (x : KspSession), ∃ (s : State), s.kspSession i.val = some x ∧ x.opened = false ∧ x.since + 10 ≤ s.tb0s)
    ∧ (∃ (i : Fin 8), ∃ (x : KspSession), ∃ (s : State), s.kspSession i.val = some x ∧ x.opened = true ∧ x.since + 90 ≤ s.tb0s)
    ∧ (∃ (s : State), BitVec.toNat s.now % (256 * 4096) = 0)
    ∧ (∃ (b : KspBundle), ∃ (n : Stamp), b.at_ = none ∧ b.point = CommitPoint.ring n)
    ∧ (∃ (b : KspBundle), ∃ (s : State), ∃ (p : BitVec 96), ∃ (n : ℕ), b.at_ = none ∧ b.point = CommitPoint.civil p ∧ civilToRing s.rct.map (tbParse p.toNat) = Converted.value n)
    ∧ (∃ (b : KspBundle), ∃ (s : State), s.ksp.bundles = [b] ∧ b.done = none ∧ s.atArmPoint b = true)
    ∧ (∃ (b : KspBundle), ∃ (n : Stamp), ∃ (s : State), s.ksp.bundles = [b] ∧ b.done = some n ∧ BitVec.toNat n ≤ BitVec.toNat s.now)
    ∧ (∃ (s : State), s.accepts KSP.TXJ_CTRL = true ∧ s.ksp.op = none)
    ∧ (∃ (req : Req), ∃ (s : State), ∃ (c : Instr), s.accepts KSP.TXJ_CTRL = true ∧ s.ksp.op ≠ none ∧ c ∈ [Instr.txjPut req, Instr.txjFind req, Instr.txjUpdate req])
    ∧ (∃ (s : State), s.ksp.op = some TxjOp.put)
    ∧ (∃ (s : State), s.ksp.op = some TxjOp.find)
    ∧ (∃ (s : State), s.ksp.op = some TxjOp.update) :=
  ⟨⟨client, (listening up).modKsp (fun k => { k with sessions := (List.range 8).map (fun i => (i, some ks)) }), by decide +kernel, by decide +kernel, by decide +kernel, by decide +kernel⟩,
   ⟨{ client with tls := false }, listening up, 0, by decide +kernel, by decide +kernel, by decide +kernel, by decide +kernel, by decide +kernel⟩,
   ⟨client, listening ses, 1, 31, by decide +kernel, by decide +kernel, by decide +kernel, by decide +kernel, by decide +kernel, by decide +kernel⟩,
   ⟨0, 4, 4, { ks with opened := false }, sess { ks with opened := false } up, by decide +kernel, by decide +kernel, by decide +kernel⟩,
   ⟨0, 0, 1, { ks with opened := false }, sess { ks with opened := false } up, by decide +kernel, by decide +kernel, by decide +kernel⟩,
   ⟨0, { ks with opened := false }, (sess { ks with opened := false } up).setTbase 0 { s := 10 }, by decide +kernel, by decide +kernel, by decide +kernel⟩,
   ⟨0, ks, ses.setTbase 0 { s := 90 }, by decide +kernel, by decide +kernel, by decide +kernel⟩,
   ⟨up, by decide +kernel⟩,
   ⟨{ bun [] none none with point := .ring 5 }, 5, by decide +kernel, by decide +kernel⟩,
   ⟨{ bun [] none none with point := .civil 0 }, up.modRct (fun r => { r with map := [{ cycle := 0, tb3 := 0, tb0 := 0 }, { cycle := 256, tb3 := 100, tb0 := 100 }] }), 0, 0, by decide +kernel, by decide +kernel, by decide +kernel⟩,
   ⟨bun [] (some 0) none, bundled (bun [] (some 0) none) up, by decide +kernel, by decide +kernel, by decide +kernel⟩,
   ⟨bun [] (some 0) (some 0), 0, bundled (bun [] (some 0) (some 0)) up, by decide +kernel, by decide +kernel, by decide +kernel⟩,
   ⟨up, by decide +kernel, by decide +kernel⟩,
   ⟨0, up.modKsp (fun k => { k with op := some .find }), .txjPut 0, by decide +kernel, by decide +kernel, by decide +kernel⟩,
   ⟨up.modKsp (fun k => { k with op := some .put }), by decide +kernel⟩,
   ⟨up.modKsp (fun k => { k with op := some .find }), by decide +kernel⟩,
   ⟨up.modKsp (fun k => { k with op := some .update }), by decide +kernel⟩⟩

/-- The hypotheses of each clause of Obligations.SegmentReads. -/
theorem test_SegmentReads_hypotheses :
    (∃ (h : KspHead), ∃ (x : KspSession), ∃ (s : State), s.kspMay h x 1 none)
    ∧ (∃ (h : KspHead), ∃ (x : KspSession), ∃ (s : State), s.kspMay h x 2 (some ROLE.VIEW))
    ∧ (∃ (h : KspHead), ∃ (a : Word), ∃ (n : BitVec 10), ∃ (x : KspSession), ∃ (s : State), s.kspMay h x 1 (some ROLE.VIEW) ∧ isPageAddr (BitVec.toNat a) = true ∧ BitVec.toNat a % 4 = 0 ∧ isPageAddr (BitVec.toNat a + 4 * (n.toNat - 1)) = true)
    ∧ (∃ (h : KspHead), ∃ (a : Word), ∃ (n : BitVec 10), ∃ (x : KspSession), ∃ (s : State), s.kspMay h x 1 (some ROLE.VIEW) ∧ (isPageAddr (BitVec.toNat a) = false ∨ BitVec.toNat a % 4 ≠ 0 ∨ isPageAddr (BitVec.toNat a + 4 * (n.toNat - 1)) = false))
    ∧ (∃ (h : KspHead), ∃ (a : Word), ∃ (n : BitVec 14), ∃ (x : KspSession), ∃ (s : State), s.kspMay h x 1 (some ROLE.VIEW) ∧ (∀ i < n.toNat, isWindow (BitVec.toNat a + 4 * i) = true) ∧ BitVec.toNat a % 4 = 0)
    ∧ (∃ (h : KspHead), ∃ (a : Word), ∃ (n : BitVec 14), ∃ (x : KspSession), ∃ (s : State), s.kspMay h x 1 (some ROLE.VIEW) ∧ ((∃ i < n.toNat, isWindow (BitVec.toNat a + 4 * i) = false) ∨ BitVec.toNat a % 4 ≠ 0))
    ∧ (∃ (h : KspHead), ∃ (x : KspSession), ∃ (s : State), ∃ (n : ℕ), s.kspMay h x 1 (some ROLE.VIEW) ∧ s.newestSlot = some n)
    ∧ (∃ (h : KspHead), ∃ (x : KspSession), ∃ (s : State), s.kspMay h x 1 (some ROLE.VIEW) ∧ s.newestSlot = none)
    ∧ (∃ (h : KspHead), ∃ (f : Word), ∃ (x : KspSession), ∃ (s : State), s.kspMay h x 1 (some ROLE.VIEW) ∧ 2 ^ 31 ≤ BitVec.toNat (f - s.evr.oldestSeq) ∧ s.evr.nextSeq = s.evr.oldestSeq)
    ∧ (∃ (h : KspHead), ∃ (f : Word), ∃ (x : KspSession), ∃ (s : State), s.kspMay h x 1 (some ROLE.VIEW) ∧ BitVec.toNat (f - s.evr.oldestSeq) < 2 ^ 31 ∧ (2 ^ 31 ≤ BitVec.toNat (s.evr.nextSeq - f) ∨ s.evr.nextSeq = f))
    ∧ (∃ (h : KspHead), ∃ (mask : BitVec 1024), ∃ (x : KspSession), ∃ (s : State), ∃ (b : ℕ × List Byte), s.kspMay h x 1 (some ROLE.VIEW) ∧ s.evr.nextSeq = s.evr.oldestSeq + 1 ∧ s.recordBytes s.evr.oldestSeq = some b ∧ mask.toNat.testBit b.1 = true)
    ∧ (∃ (h : KspHead), ∃ (x : KspSession), ∃ (s : State), s.kspMay h x 1 (some ROLE.UPDATE)) :=
  ⟨⟨kh, ks, ses, may_of (by decide +kernel)⟩,
   ⟨kh, ks, ses, may_of (by decide +kernel)⟩,
   ⟨kh, 0x40000000, 4, ks, ses, may_of (by decide +kernel), by decide +kernel, by decide +kernel, by decide +kernel⟩,
   ⟨kh, 1, 4, ks, ses, may_of (by decide +kernel), by decide +kernel⟩,
   ⟨kh, 0x50000000, 2, ks, ses, may_of (by decide +kernel), by decide +kernel, by decide +kernel⟩,
   ⟨kh, 1, 2, ks, ses, may_of (by decide +kernel), by decide +kernel⟩,
   ⟨kh, ks, sess ks slotted, 0, may_of (by decide +kernel), slot_newest⟩,
   ⟨kh, ks, ses, may_of (by decide +kernel), by decide +kernel⟩,
   ⟨kh, 0x80000000, ks, ses.modEvr (fun e => { e with nextSeq := 0 }), may_of (by decide +kernel), by decide +kernel, by decide +kernel⟩,
   ⟨kh, 1, ks, ses, may_of (by decide +kernel), by decide +kernel, by decide +kernel⟩,
   ⟨kh, 0x20, ks, sess ks logged, (5, [0, 24, 0, 5, 0, 0, 0, 1, 0, 0, 0, 0, 0, 0, 0, 0, 0, 0, 0, 0, 0, 0, 0, 0, 252, 206, 15, 117]), may_of (by decide +kernel), by decide +kernel, by decide +kernel, by decide +kernel⟩,
   ⟨kh, ks, ses, may_of (by decide +kernel)⟩⟩

/-- The hypotheses of each clause of Obligations.SegmentWrites. -/
theorem test_SegmentWrites_hypotheses :
    (∃ (c : Instr), ∃ (h : KspHead), ∃ (msg : ℕ), ∃ (ver : ℕ), ∃ (role : Option ℕ), ∃ (x : KspSession), ∃ (s : State), kspWriteOf c = some (h, msg, ver, role) ∧ s.kspSession h.sess.val = some x ∧ x.opened = true ∧ x.ver < ver)
    ∧ (∃ (c : Instr), ∃ (h : KspHead), ∃ (msg : ℕ), ∃ (ver : ℕ), ∃ (role : Option ℕ), ∃ (x : KspSession), ∃ (s : State), kspWriteOf c = some (h, msg, ver, role) ∧ s.kspSession h.sess.val = some x ∧ x.opened = true ∧ ver ≤ x.ver ∧ h.critical = true)
    ∧ (∃ (c : Instr), ∃ (h : KspHead), ∃ (msg : ℕ), ∃ (ver : ℕ), ∃ (x : KspSession), ∃ (s : State), ∃ (r : ℕ), kspWriteOf c = some (h, msg, ver, some r) ∧ s.kspSession h.sess.val = some x ∧ x.opened = true ∧ ver ≤ x.ver ∧ h.critical = false ∧ x.roles.testBit r = false)
    ∧ (∃ (c : Instr), ∃ (h : KspHead), ∃ (msg : ℕ), ∃ (ver : ℕ), ∃ (role : Option ℕ), ∃ (x : KspSession), ∃ (s : State), kspWriteOf c = some (h, msg, ver, role) ∧ s.kspSession h.sess.val = some x ∧ x.opened = true ∧ s.kspMay h x ver role ∧ h.txid = 0)
    ∧ (∃ (c : Instr), ∃ (h : KspHead), ∃ (msg : ℕ), ∃ (ver : ℕ), ∃ (role : Option ℕ), ∃ (x : KspSession), ∃ (s : State), kspWriteOf c = some (h, msg, ver, role) ∧ s.kspSession h.sess.val = some x ∧ x.opened = true ∧ s.kspMay h x ver role ∧ h.txid ≠ 0 ∧ s.twn.role ≠ Role.solo ∧ s.twn.role ≠ Role.active)
    ∧ (∃ (c : Instr), ∃ (h : KspHead), ∃ (msg : ℕ), ∃ (ver : ℕ), ∃ (role : Option ℕ), ∃ (x : KspSession), ∃ (s : State), ∃ (i : ℕ), kspWriteOf c = some (h, msg, ver, role) ∧ s.kspSession h.sess.val = some x ∧ x.opened = true ∧ s.kspMay h x ver role ∧ h.txid ≠ 0 ∧ (s.twn.role = Role.solo ∨ s.twn.role = Role.active) ∧ s.txjFind x.ident h.txid.toNat = some i ∧ s.txjState i ≠ TX.LOST ∧ s.txjDigest i = h.digest.toNat)
    ∧ (∃ (c : Instr), ∃ (h : KspHead), ∃ (msg : ℕ), ∃ (ver : ℕ), ∃ (role : Option ℕ), ∃ (x : KspSession), ∃ (s : State), ∃ (i : ℕ), kspWriteOf c = some (h, msg, ver, role) ∧ s.kspSession h.sess.val = some x ∧ x.opened = true ∧ s.kspMay h x ver role ∧ h.txid ≠ 0 ∧ (s.twn.role = Role.solo ∨ s.twn.role = Role.active) ∧ s.txjFind x.ident h.txid.toNat = some i ∧ s.txjState i ≠ TX.LOST ∧ s.txjDigest i ≠ h.digest.toNat)
    ∧ (∃ (c : Instr), ∃ (h : KspHead), ∃ (msg : ℕ), ∃ (ver : ℕ), ∃ (role : Option ℕ), ∃ (s : State), kspWriteOf c = some (h, msg, ver, role) ∧ (∀ (x : KspSession), s.kspSession h.sess.val = some x → x.opened = false))
    ∧ (∃ (u : State), ∃ (h : KspHead), ∃ (y : KspSession), u.ksp.op = none ∧ u.kspSession h.sess.val = some y ∧ u.twn.link = false) :=
  ⟨⟨.bundleCancel kh 6, kh, 0x11, 2, none, { ks with ver := 1 }, sess { ks with ver := 1 } up, by decide +kernel, by decide +kernel, by decide +kernel, by decide +kernel⟩,
   ⟨.bundleCancel { kh with critical := true } 6, { kh with critical := true }, 0x11, 2, none, ks, ses, by decide +kernel, by decide +kernel, by decide +kernel, by decide +kernel, by decide +kernel⟩,
   ⟨.regWrite kh [(0x40000000, 0)] .none, kh, 0x101, 1, { ks with roles := 1 }, sess { ks with roles := 1 } up, 2, by decide +kernel, by decide +kernel, by decide +kernel, by decide +kernel, by decide +kernel, by decide +kernel⟩,
   ⟨.regWrite { kh with txid := 0 } [(0x40000000, 0)] .none, { kh with txid := 0 }, 0x101, 1, some 2, ks, ses, by decide +kernel, by decide +kernel, by decide +kernel, may_of (by decide +kernel), by decide +kernel⟩,
   ⟨.regWrite kh [(0x40000000, 0)] .none, kh, 0x101, 1, some 2, ks, roled .standby ses, by decide +kernel, by decide +kernel, by decide +kernel, may_of (by decide +kernel), by decide +kernel, by decide +kernel, by decide +kernel⟩,
   ⟨.regWrite kh [(0x40000000, 0)] .none, kh, 0x101, 1, some 2, ks, { ses with mem := entryMem }, 1023, by decide +kernel, by decide +kernel, by decide +kernel, may_of (by decide +kernel), by decide +kernel, by decide +kernel, by decide +kernel, by decide +kernel, by decide +kernel⟩,
   ⟨.regWrite { kh with digest := 8 } [(0x40000000, 0)] .none, { kh with digest := 8 }, 0x101, 1, some 2, ks, { ses with mem := entryMem }, 1023, by decide +kernel, by decide +kernel, by decide +kernel, may_of (by decide +kernel), by decide +kernel, by decide +kernel, by decide +kernel, by decide +kernel, by decide +kernel⟩,
   ⟨.regWrite kh [(0x40000000, 0)] .none, kh, 0x101, 1, some 2, up, rfl, fun _ e => nomatch (show none = some _ from e)⟩,
   ⟨ses, kh, ks, by decide +kernel, by decide +kernel, by decide +kernel⟩⟩

/-- The hypotheses of each clause of Obligations.SegmentOrders. -/
theorem test_SegmentOrders_hypotheses :
    (∃ (c : Instr), ∃ (h : KspHead), ∃ (m : KspMember), ∃ (x : KspSession), ∃ (s : State), ((∃ (l : List (Word × Word)), m = KspMember.regWrite l ∧ c = Instr.regWrite h l CommitPoint.none) ∨ (∃ (a : Word) (d : List Word), m = KspMember.winWrite a d ∧ c = Instr.winWrite h a d CommitPoint.none) ∨ (∃ (b : Fin 4), m = KspMember.bankCommit b ∧ c = Instr.bankCommit h b CommitPoint.none) ∨ (∃ (n : Fin 256) (w : List Word), m = KspMember.override n w ∧ c = Instr.override h n w CommitPoint.none) ∨ (∃ (n : Fin 64) (o : Bool), m = KspMember.sceneSwitch n o ∧ c = Instr.sceneSwitch h n o CommitPoint.none) ∨ (∃ (k : Option (Fin 48)) (v : Word), m = KspMember.setpoint k v ∧ c = Instr.setpoint h k v CommitPoint.none) ∨ (∃ (k : Fin 48) (v : Word), m = KspMember.level k v ∧ c = Instr.level h k v CommitPoint.none) ∨ (∃ (e : Fin 8), m = KspMember.patternStart e ∧ c = Instr.patternStart h e CommitPoint.none) ∨ ∃ (e : Fin 16384) (r : Word) (b : Word) (r' : Word) (b' : Word), m = KspMember.endpointBudget e r b r' b' ∧ c = Instr.endpointBudget h e r b r' b' CommitPoint.none) ∧ s.kspMay h x (memberVer m) (some (memberRole m)) ∧ s.kspFirst h x)
    ∧ (∃ (c : Instr), ∃ (h : KspHead), ∃ (m : KspMember), ∃ (p : CommitPoint), ∃ (x : KspSession), ∃ (s : State), p ≠ CommitPoint.none ∧ ((∃ (l : List (Word × Word)), m = KspMember.regWrite l ∧ c = Instr.regWrite h l p) ∨ (∃ (a : Word) (d : List Word), m = KspMember.winWrite a d ∧ c = Instr.winWrite h a d p) ∨ (∃ (b : Fin 4), m = KspMember.bankCommit b ∧ c = Instr.bankCommit h b p) ∨ (∃ (n : Fin 256) (w : List Word), m = KspMember.override n w ∧ c = Instr.override h n w p) ∨ (∃ (n : Fin 64) (o : Bool), m = KspMember.sceneSwitch n o ∧ c = Instr.sceneSwitch h n o p) ∨ (∃ (k : Option (Fin 48)) (v : Word), m = KspMember.setpoint k v ∧ c = Instr.setpoint h k v p) ∨ (∃ (k : Fin 48) (v : Word), m = KspMember.level k v ∧ c = Instr.level h k v p) ∨ (∃ (e : Fin 8), m = KspMember.patternStart e ∧ c = Instr.patternStart h e p) ∨ ∃ (e : Fin 16384) (r : Word) (b : Word) (r' : Word) (b' : Word), m = KspMember.endpointBudget e r b r' b' ∧ c = Instr.endpointBudget h e r b r' b' p) ∧ s.kspMay h x (memberVer m) (some (memberRole m)) ∧ s.kspFirst h x)
    ∧ (∃ (h : KspHead), ∃ (ms : List BundleMember), ∃ (x : KspSession), ∃ (s : State), s.kspMay h x 1 none ∧ s.kspFirst h x ∧ (∃ b ∈ ms, b.stamped = true))
    ∧ (∃ (h : KspHead), ∃ (ms : List BundleMember), ∃ (x : KspSession), ∃ (s : State), s.kspMay h x 1 none ∧ s.kspFirst h x ∧ (∀ b ∈ ms, b.stamped = false))
    ∧ (∃ (x : KspSession), ∃ (ms : List KspMember), ∃ (p : CommitPoint), ms = [] ∨ 64 < ms.length ∨ ∃ (n : BitVec 96), p = CommitPoint.civil n ∧ x.ver < 2)
    ∧ (∃ (h : KspHead), ∃ (x : KspSession), ∃ (msg : ℕ), ∃ (ms : List KspMember), ∃ (p : CommitPoint), ∃ (s : State), ∃ (k : ℕ), ∃ (i : ℕ), ms ≠ [] ∧ ms.length ≤ 64 ∧ (∀ (n : BitVec 96), p = CommitPoint.civil n → 2 ≤ x.ver) ∧ s.membersFault x ((s.freezeBundle { sess := h.sess.val, ident := x.ident, txid := h.txid.toNat, msg := msg, members := ms, point := p, entry := s.ksp.head }).at_.getD 0) ms 0 = some (k, i) ∧ k ≠ KP.DENIED)
    ∧ (∃ (h : KspHead), ∃ (x : KspSession), ∃ (msg : ℕ), ∃ (ms : List KspMember), ∃ (p : CommitPoint), ∃ (s : State), ms ≠ [] ∧ ms.length ≤ 64 ∧ (∀ (n : BitVec 96), p = CommitPoint.civil n → 2 ≤ x.ver) ∧ s.membersFault x ((s.freezeBundle { sess := h.sess.val, ident := x.ident, txid := h.txid.toNat, msg := msg, members := ms, point := p, entry := s.ksp.head }).at_.getD 0) ms 0 = none ∧ s.conflicts ms p = true)
    ∧ (∃ (h : KspHead), ∃ (x : KspSession), ∃ (msg : ℕ), ∃ (ms : List KspMember), ∃ (p : CommitPoint), ∃ (s : State), ms ≠ [] ∧ ms.length ≤ 64 ∧ (∀ (n : BitVec 96), p = CommitPoint.civil n → 2 ≤ x.ver) ∧ s.membersFault x ((s.freezeBundle { sess := h.sess.val, ident := x.ident, txid := h.txid.toNat, msg := msg, members := ms, point := p, entry := s.ksp.head }).at_.getD 0) ms 0 = none ∧ s.conflicts ms p = false ∧ 256 ≤ s.ksp.bundles.length)
    ∧ (∃ (h : KspHead), ∃ (x : KspSession), ∃ (msg : ℕ), ∃ (ms : List KspMember), ∃ (p : CommitPoint), ∃ (s : State), ms ≠ [] ∧ ms.length ≤ 64 ∧ (∀ (n : BitVec 96), p = CommitPoint.civil n → 2 ≤ x.ver) ∧ s.membersFault x ((s.freezeBundle { sess := h.sess.val, ident := x.ident, txid := h.txid.toNat, msg := msg, members := ms, point := p, entry := s.ksp.head }).at_.getD 0) ms 0 = none ∧ s.conflicts ms p = false ∧ s.ksp.bundles.length < 256 ∧ s.atArmPoint (s.freezeBundle { sess := h.sess.val, ident := x.ident, txid := h.txid.toNat, msg := msg, members := ms, point := p, entry := s.ksp.head }) = false)
    ∧ (∃ (h : KspHead), ∃ (x : KspSession), ∃ (msg : ℕ), ∃ (ms : List KspMember), ∃ (p : CommitPoint), ∃ (s : State), ms ≠ [] ∧ ms.length ≤ 64 ∧ (∀ (n : BitVec 96), p = CommitPoint.civil n → 2 ≤ x.ver) ∧ s.membersFault x ((s.freezeBundle { sess := h.sess.val, ident := x.ident, txid := h.txid.toNat, msg := msg, members := ms, point := p, entry := s.ksp.head }).at_.getD 0) ms 0 = none ∧ s.conflicts ms p = false ∧ s.ksp.bundles.length < 256 ∧ s.atArmPoint (s.freezeBundle { sess := h.sess.val, ident := x.ident, txid := h.txid.toNat, msg := msg, members := ms, point := p, entry := s.ksp.head }) = true)
    ∧ (∃ (h : KspHead), ∃ (txid : BitVec 64), ∃ (x : KspSession), ∃ (s : State), s.kspMay h x 2 none ∧ s.kspFirst h x ∧ List.find? (fun (b : KspBundle) => decide (b.ident = x.ident) && decide (b.txid = txid.toNat)) s.ksp.bundles = none)
    ∧ (∃ (h : KspHead), ∃ (txid : BitVec 64), ∃ (x : KspSession), ∃ (s : State), ∃ (b : KspBundle), s.kspMay h x 2 none ∧ s.kspFirst h x ∧ List.find? (fun (b : KspBundle) => decide (b.ident = x.ident) && decide (b.txid = txid.toNat)) s.ksp.bundles = some b ∧ (∃ m ∈ b.members, x.roles.testBit (memberRole m) = false))
    ∧ (∃ (h : KspHead), ∃ (txid : BitVec 64), ∃ (x : KspSession), ∃ (s : State), ∃ (b : KspBundle), s.kspMay h x 2 none ∧ s.kspFirst h x ∧ List.find? (fun (b : KspBundle) => decide (b.ident = x.ident) && decide (b.txid = txid.toNat)) s.ksp.bundles = some b ∧ (∀ m ∈ b.members, x.roles.testBit (memberRole m) = true) ∧ (b.done ≠ none ∨ s.atArmPoint b = true))
    ∧ (∃ (h : KspHead), ∃ (txid : BitVec 64), ∃ (x : KspSession), ∃ (s : State), ∃ (b : KspBundle), s.kspMay h x 2 none ∧ s.kspFirst h x ∧ List.find? (fun (b : KspBundle) => decide (b.ident = x.ident) && decide (b.txid = txid.toNat)) s.ksp.bundles = some b ∧ (∀ m ∈ b.members, x.roles.testBit (memberRole m) = true) ∧ b.done = none ∧ s.atArmPoint b = false)
    ∧ (∃ (h : KspHead), ∃ (rs : List ConfigRecord), ∃ (x : KspSession), ∃ (s : State), s.kspMay h x 1 (some ROLE.ENGINEER) ∧ s.kspFirst h x ∧ s.pwr.mramProtect = false ∧ (¬(s.bootRec.trial = 1 ∧ s.oldArea = s.runningArea)) ∧ (∀ r ∈ rs, r.body.length ≤ 65527) ∧ 34 + (List.flatMap recordOf (List.foldl putRecord (List.map (fun (x : ℕ × ConfigRecord) => x.2) (s.cfgRecords s.runningArea 4096 32)) rs)).length ≤ cfgSize)
    ∧ (∃ (h : KspHead), ∃ (rs : List ConfigRecord), ∃ (x : KspSession), ∃ (s : State), s.kspMay h x 1 (some ROLE.ENGINEER) ∧ s.kspFirst h x ∧ (s.pwr.mramProtect = true ∨ s.bootRec.trial = 1 ∧ s.oldArea = s.runningArea ∨ (∃ r ∈ rs, 65527 < r.body.length) ∨ cfgSize < 34 + (List.flatMap recordOf (List.foldl putRecord (List.map (fun (x : ℕ × ConfigRecord) => x.2) (s.cfgRecords s.runningArea 4096 32)) rs)).length))
    ∧ (∃ (h : KspHead), ∃ (x : KspSession), ∃ (s : State), s.kspMay h x 1 (some ROLE.OPERATE) ∧ s.kspFirst h x)
    ∧ (∃ (c : Instr), ∃ (h : KspHead), ∃ (msg : ℕ), ∃ (ver : ℕ), ∃ (role : ℕ), ∃ (l : List (ℕ × Word)), ∃ (x : KspSession), ∃ (s : State), kspWriteOf c = some (h, msg, ver, some role) ∧ s.kspMay h x ver (some role) ∧ s.kspFirst h x ∧ ((∃ (es : List (Fin 1024 × List Word)), c = Instr.scheduleLoad h es ∧ l = List.flatMap (fun (e : Fin 1024 × List Word) => List.map (fun (w : Word × ℕ) => (1350565888 + 32 * e.1.val + 4 * w.2, w.1)) (List.take 8 e.2).zipIdx) es) ∨ (∃ (rs : List (Fin 256 × List Word)) (sc : List (Fin 64 × List Word)), c = Instr.rulesLoad h rs sc ∧ l = List.flatMap (fun (r : Fin 256 × List Word) => List.map (fun (w : Word × ℕ) => (1350828032 + 64 * r.1.val + 4 * w.2, w.1)) (List.take 16 r.2).zipIdx) rs ++ List.flatMap (fun (r : Fin 64 × List Word) => List.map (fun (w : Word × ℕ) => (1350844416 + 64 * r.1.val + 4 * w.2, w.1)) (List.take 16 r.2).zipIdx) sc) ∨ (∃ (z : ZoneLoad), c = Instr.tzLoad h z ∧ l = List.flatMap (fun (e : List Word × ℕ) => [(TIM.TZ_ENT_LO e.2, e.1.getD 0 0), (TIM.TZ_ENT_HI e.2, e.1.getD 1 0)]) (List.take 32 z.table).zipIdx ++ [(TIM.DST_START, z.rules.getD 0 0), (TIM.DST_END, z.rules.getD 1 0), (TIM.TZ_CFG, z.cfg)]) ∨ c = Instr.updOpen h ∧ l = [(UPD.SESSION, 16)] ∨ c = Instr.updVerify h ∧ l = [(UPD.CMD, updCmdWord 1 0)] ∨ c = Instr.updActivate h ∧ l = [(UPD.CMD, updCmdWord 2 0)] ∨ c = Instr.updConfirm h false ∧ l = [(UPD.CMD, updCmdWord 3 49393)] ∨ c = Instr.updConfirm h true ∧ l = [(UPD.CMD, updCmdWord 4 49393)] ∨ c = Instr.twinCmd h TwinCmd.handover ∧ l = [(TWN.HANDOVER, 2051932160)] ∨ ∃ (a : Stamp) (r : BitVec 16), c = Instr.twinCmd h (TwinCmd.drill a r) ∧ l = [(TWN.DRILL_CTRL, word r.toNat), (TWN.DRILL_AT_LO, lo32 a), (TWN.DRILL_AT_HI, hi32 a)]))
    ∧ (∃ (h : KspHead), ∃ (x : KspSession), ∃ (s : State), s.kspMay h x 1 (some ROLE.TIME) ∧ s.kspFirst h x)
    ∧ (∃ (h : KspHead), ∃ (x : KspSession), ∃ (s : State), s.kspMay h x 1 (some ROLE.UPDATE) ∧ s.kspFirst h x) :=
  ⟨⟨.regWrite kh [(0x40000000, 0)] .none, kh, .regWrite [(0x40000000, 0)], ks, ses, .inl ⟨_, rfl, rfl⟩, may_of (by decide +kernel), first_of (by decide +kernel)⟩,
   ⟨.regWrite kh [(0x40000000, 0)] (.ring 5), kh, .regWrite [(0x40000000, 0)], .ring 5, ks, ses, (fun e => nomatch e), .inl ⟨_, rfl, rfl⟩, may_of (by decide +kernel), first_of (by decide +kernel)⟩,
   ⟨kh, [{ msg := .level 0 0, stamped := true }], ks, ses, may_of (by decide +kernel), first_of (by decide +kernel), by decide +kernel⟩,
   ⟨kh, [{ msg := .level 0 0, stamped := false }], ks, ses, may_of (by decide +kernel), first_of (by decide +kernel), by decide +kernel⟩,
   ⟨ks, [], .none, .inl rfl⟩,
   ⟨kh, { ks with ver := 0 }, 16, [.level 0 0], .none, up, KP.UNKNOWN_MSG, 0, by decide, by decide, (fun _ e => nomatch e), by decide +kernel, by decide⟩,
   ⟨kh, ks, 16, [.level 0 0], .none, bundled (bun [.level 0 0] (some 0) none) up, by decide, by decide, (fun _ e => nomatch e), by decide +kernel, by decide +kernel⟩,
   ⟨kh, ks, 16, [.level 0 0], .none, up.modKsp (fun k => { k with bundles := List.replicate 256 (bun [] (some 0) none) }), by decide, by decide, (fun _ e => nomatch e), by decide +kernel, by decide +kernel, by decide +kernel⟩,
   ⟨kh, ks, 16, [.level 0 0], .ring 0x100000, up, by decide, by decide, (fun _ e => nomatch e), by decide +kernel, by decide +kernel, by decide +kernel, by decide +kernel⟩,
   ⟨kh, ks, 16, [.level 0 0], .none, up, by decide, by decide, (fun _ e => nomatch e), by decide +kernel, by decide +kernel, by decide +kernel, by decide +kernel⟩,
   ⟨kh, 6, ks, ses, may_of (by decide +kernel), first_of (by decide +kernel), by decide +kernel⟩,
   ⟨kh, 6, { ks with roles := 0 }, bundled (bun [.level 0 0] none none) (sess { ks with roles := 0 } up), bun [.level 0 0] none none, may_of (by decide +kernel), first_of (by decide +kernel), by decide +kernel, by decide +kernel⟩,
   ⟨kh, 6, ks, bundled (bun [.level 0 0] (some 0) (some 0)) ses, bun [.level 0 0] (some 0) (some 0), may_of (by decide +kernel), first_of (by decide +kernel), by decide +kernel, by decide +kernel, by decide +kernel⟩,
   ⟨kh, 6, ks, bundled (bun [.level 0 0] (some 0x100000) none) ses, bun [.level 0 0] (some 0x100000) none, may_of (by decide +kernel), first_of (by decide +kernel), by decide +kernel, by decide +kernel, by decide +kernel, by decide +kernel⟩,
   ⟨kh, [], ks, ses, may_of (by decide +kernel), first_of (by decide +kernel), by decide +kernel, by decide +kernel, by decide +kernel, by decide +kernel⟩,
   ⟨kh, [], ks, ses.modPwr (fun p => { p with mramProtect := true }), may_of (by decide +kernel), first_of (by decide +kernel), by decide +kernel⟩,
   ⟨kh, ks, ses, may_of (by decide +kernel), first_of (by decide +kernel)⟩,
   ⟨.updOpen kh, kh, 0x700, 1, 4, [(UPD.SESSION, 16)], ks, ses, rfl, may_of (by decide +kernel), first_of (by decide +kernel), .inr (.inr (.inr (.inl ⟨rfl, rfl⟩)))⟩,
   ⟨kh, ks, ses, may_of (by decide +kernel), first_of (by decide +kernel)⟩,
   ⟨kh, ks, ses, may_of (by decide +kernel), first_of (by decide +kernel)⟩⟩

end Sys2Proof.Tests
end

/-!
PROOFS. The setting of the starting ring stamp (R26), with what an accepted write and a whole-word register do.
-/

namespace Sys2Proof.Machine

/-! ### Registers of one whole-word field -/

/-- A field of all 32 bits leaves nothing of the word it is written into. -/
theorem putBits_wholeWord (w v : Word) : putBits w 31 0 v.toNat = v := by
  apply BitVec.eq_of_toNat_eq
  rw [putBits_toNat w 31 0 v.toNat (by omega) (by omega)]
  have hw := w.isLt
  have hv := v.isLt
  omega

/-- A row of one unrestricted field over all 32 bits stores what is written, and no clamp acts (R73). -/
theorem fitWord_wholeWord (old v : Word) : fitWord [⟨31, 0, .any⟩] old v = (v, false) := by
  have hv : bits v 31 0 = v.toNat := by
    have := v.isLt
    simp only [bits]
    omega
  simp [fitWord, fieldValue, Fit.apply, hv, putBits_wholeWord]

/-- A register of one unrestricted field over all 32 bits takes the word written. -/
theorem State.fitted_wholeWord (s : State) {a i : Nat} {r : RegDesc} (v : Word) (hr : lookupReg a = some (r, i))
    (hf : r.flds = [⟨31, 0, .any⟩]) : s.fitted a v = (v, false) := by
  simp [State.fitted, hr, hf, fitWord_wholeWord]

/-! ### Writes that reach their block -/

/-- What a high-word write leaves in every register (R71). -/
theorem State.reg_loadPair (s : State) (req a : Nat) (v : Word) (b : Nat) :
    (s.loadPair req a v).1.reg b =
      if b = a then (s.fitted a v).1
      else if b = a - 4 then (s.fitted (a - 4) (s.stagedLow req (a - 4))).1 else s.reg b := by
  simp [State.loadPair]

theorem State.accepts_iff (s : State) (a : Nat) :
    s.accepts a = true ↔ s.roleRefuses a = false ∧ s.lockedOut a = false := by
  simp [State.accepts]

/-- An accepted write is its block's effect and then the end of the write. -/
theorem State.busWrite_of_accepts (s : State) (req a : Nat) (v : Word) (eff : State → State × WriteResult)
    (h : s.accepts a = true) :
    s.busWrite req a v eff = (eff s).1.finishWrite req a v (clampedValue a v) (eff s).2 := by
  obtain ⟨hr, hl⟩ := (s.accepts_iff a).1 h
  simp [State.busWrite, State.busWriteR, hr, hl]

/-! ### The starting ring stamp (R26) -/

theorem angleOf_le (n : Stamp) : angleOf n ≤ 4095 := by
  unfold angleOf
  omega

theorem State.fitted_RING_SET_LO (s : State) (v : Word) : s.fitted RCT.RING_SET_LO v = (v, false) :=
  s.fitted_wholeWord v (i := 0) rfl rfl

theorem State.fitted_RING_SET_HI (s : State) (v : Word) : s.fitted RCT.RING_SET_HI v = (v, false) :=
  s.fitted_wholeWord v (i := 0) rfl rfl

/-- The registers after the loading of RING_SET: its two halves hold the stamp. -/
theorem State.reg_loadPair_RING_SET (s : State) (req : Nat) (hi : Word) (b : Nat) :
    (s.loadPair req RCT.RING_SET_HI hi).1.reg b =
      if b = RCT.RING_SET_HI then hi
      else if b = RCT.RING_SET_LO then s.stagedLow req RCT.RING_SET_LO else s.reg b := by
  have e : RCT.RING_SET_HI - 4 = RCT.RING_SET_LO := rfl
  rw [State.reg_loadPair, e, State.fitted_RING_SET_HI, State.fitted_RING_SET_LO]

/-- In IDLE the write loads both halves, and the stamp is the pair of them. -/
theorem ringSetEff_of_idle (req : Nat) (hi : Word) (s : State) (h : s.rctState = RCT.IDLE) :
    (ringSetEff req hi s).1 =
      { (s.loadPair req RCT.RING_SET_HI hi).1 with now := join64 hi (s.stagedLow req RCT.RING_SET_LO) } := by
  have hne : RCT.RING_SET_LO ≠ RCT.RING_SET_HI := by decide
  simp [ringSetEff, h, State.reg64, State.reg_loadPair_RING_SET, hne]

/-- The registers after a write of RING_SET_HI in IDLE: the two halves hold the stamp, every other one is kept. -/
theorem reg_ringSetEff_of_idle (req : Nat) (hi : Word) (s : State) (h : s.rctState = RCT.IDLE) (b : Nat) :
    (ringSetEff req hi s).1.reg b =
      if b = RCT.RING_SET_HI then hi
      else if b = RCT.RING_SET_LO then s.stagedLow req RCT.RING_SET_LO else s.reg b := by
  rw [ringSetEff_of_idle req hi s h, State.reg]
  exact s.reg_loadPair_RING_SET req hi b

/-- Outside IDLE the write only sets SET_REJ and raises its interrupt. -/
theorem ringSetEff_of_not_idle (req : Nat) (hi : Word) (s : State) (h : s.rctState ≠ RCT.IDLE) :
    ringSetEff req hi s = ((s.setRbit (regSTAT RCT.page) 18 true).raise RCT.page 6, .ignored) := by
  rw [ringSetEff, if_neg h]
  rfl

/-- The registers after a write of RING_SET_HI outside IDLE: STAT and INT_FLAG of RCT have their bit set. -/
theorem reg_ringSetEff_of_not_idle (req : Nat) (hi : Word) (s : State) (h : s.rctState ≠ RCT.IDLE) (b : Nat) :
    (ringSetEff req hi s).1.reg b =
      if b = regINT_FLAG RCT.page then putBit (s.reg b) 6 true
      else if b = regSTAT RCT.page then putBit (s.reg b) 18 true else s.reg b := by
  have hne : regINT_FLAG RCT.page ≠ regSTAT RCT.page := by decide
  rw [ringSetEff_of_not_idle req hi s h, State.reg_raise, State.reg_setRbit]
  split_ifs <;> simp_all

/-- An accepted RING_SET answers, at the registers that the end of a write leaves alone, what its effect left. -/
theorem reg_ringSet (req : Nat) (hi : Word) (s : State) (h : s.accepts RCT.RING_SET_HI = true) (b : Nat)
    (hb : b ∉ finishRegs RCT.RING_SET_HI) :
    (s.busWrite req RCT.RING_SET_HI hi (ringSetEff req hi)).reg b = (ringSetEff req hi s).1.reg b := by
  obtain ⟨hr, hl⟩ := (s.accepts_iff _).1 h
  exact s.reg_busWrite _ _ _ _ _ hb hr hl

/-- Settles O8: the end of the write touches neither the stamp nor the registers named, so each clause says what the
effect of the write does, in IDLE and in any other state. -/
theorem ringSet : Obligations.RingSet := by
  unfold Obligations.RingSet
  refine ⟨fun req hi s hacc hidle => ⟨_, exec_ringSet req hi s, ?now, ?high, ?low, angleOf_le _, ?state⟩,
    fun req hi s hacc hne => ⟨_, exec_ringSet req hi s, ?kept, ?rct, ?rejected, ?flag, ?others⟩⟩
  case now => rw [State.busWrite_of_accepts _ _ _ _ _ hacc]; simp [ringSetEff_of_idle _ _ _ hidle]
  case high =>
    rw [reg_ringSet _ _ _ hacc _ (by decide), reg_ringSetEff_of_idle _ _ _ hidle, if_pos rfl]
  case low =>
    rw [reg_ringSet _ _ _ hacc _ (by decide), reg_ringSetEff_of_idle _ _ _ hidle, if_neg (by decide), if_pos rfl]
  case state =>
    rw [State.rctState, State.fld_def, reg_ringSet _ _ _ hacc _ (by decide), reg_ringSetEff_of_idle _ _ _ hidle,
      if_neg (by decide), if_neg (by decide)]
    exact hidle
  case kept => rw [State.busWrite_of_accepts _ _ _ _ _ hacc, ringSetEff_of_not_idle _ _ _ hne]; simp
  case rct => rw [State.busWrite_of_accepts _ _ _ _ _ hacc, ringSetEff_of_not_idle _ _ _ hne]; simp
  case rejected =>
    rw [State.rbit_def, reg_ringSet _ _ _ hacc _ (by decide), reg_ringSetEff_of_not_idle _ _ _ hne,
      if_neg (by decide), if_pos rfl]
    exact bit_putBit_same _ _ _ (by decide)
  case flag =>
    rw [State.rbit_def, reg_ringSet _ _ _ hacc _ (by decide), reg_ringSetEff_of_not_idle _ _ _ hne, if_pos rfl]
    exact bit_putBit_same _ _ _ (by decide)
  case others =>
    intro b hb hfin
    simp only [List.mem_cons, List.not_mem_nil, or_false, not_or] at hb
    obtain ⟨hstat, hflag⟩ := hb
    rw [reg_ringSet _ _ _ hacc _ hfin, reg_ringSetEff_of_not_idle _ _ _ hne, if_neg hflag, if_neg hstat]

end Sys2Proof.Machine

/-!
PROOFS. The watchdog (R80): what the two resets leave of the SYS page, the restart of the count, and the writes that
reach the watchdog.
-/

namespace Sys2Proof.Machine

/-! ### What a reset leaves of the SYS page -/

/-- The SYS page's registers and the power state of `t` are those of `s`. -/
structure KeepsSysPage (s t : State) : Prop where
  reg : ∀ b, pageOf b = SYS.page → t.reg b = s.reg b
  pwr : t.pwr = s.pwr

theorem KeepsSysPage.trans {s t u : State} (h : KeepsSysPage s t) (h' : KeepsSysPage t u) : KeepsSysPage s u :=
  ⟨fun b hb => (h'.reg b hb).trans (h.reg b hb), h'.pwr.trans h.pwr⟩

/-- A change of neither the register file nor the power state. -/
theorem keepsSysPage_of_eq {s t : State} (hr : t.regs = s.regs) (hp : t.pwr = s.pwr) : KeepsSysPage s t :=
  ⟨fun _ _ => by rw [State.reg, hr]; rfl, hp⟩

theorem keepsSysPage_foldl {α : Type} {f : State → α → State} (l : List α) (hf : ∀ s x, KeepsSysPage s (f s x))
    (s : State) : KeepsSysPage s (l.foldl f s) := by
  induction l generalizing s with
  | nil => exact keepsSysPage_of_eq rfl rfl
  | cons x l ih => exact (hf s x).trans (ih (f s x))

theorem State.setReg_keepsSysPage (s : State) (a : Nat) (w : Word) (ha : pageOf a ≠ SYS.page) :
    KeepsSysPage s (s.setReg a w) :=
  ⟨fun b hb => by rw [State.reg_setReg, if_neg (by rintro rfl; exact ha hb)], rfl⟩

/-- A dropped register reads as at reset, another as before. -/
theorem State.reg_dropRegs (s : State) (p : Nat → Bool) (b : Nat) :
    { s with regs := Tab.dropIf p s.regs }.reg b = if p b then regReset b else s.reg b := Tab.get_dropIf _ _ _ _

theorem State.reg_keepRegs (s : State) (keep : Nat → Bool) (b : Nat) :
    (s.keepRegs keep).reg b = if keep b then s.reg b else regReset b := by
  rw [State.keepRegs, State.reg_dropRegs]
  cases keep b <;> rfl

theorem State.log_keepsSysPage (s : State) (c : Nat) (l : List Byte) : KeepsSysPage s (s.log c l) where
  reg b hb := s.reg_log c l b (fun e => by subst e; revert hb; decide) (fun e => by subst e; revert hb; decide)
  pwr := by simp

/-- The cause of a reset is set alike in states whose SYS pages agree. -/
theorem KeepsSysPage.resetCause {s t : State} (h : KeepsSysPage s t) (c : Nat) :
    KeepsSysPage (s.resetCause c) (t.resetCause c) where
  reg b hb := by
    simp only [State.resetCause, State.reg_setRbit]
    split
    · rw [h.reg _ (by decide)]
    · exact h.reg b hb
  pwr := h.pwr

/-! ### The ROM and the core reset -/

theorem State.logFallback_keepsSysPage (s : State) (c : Nat) (r : BootRec) : KeepsSysPage s (s.logFallback c r) :=
  s.log_keepsSysPage _ _

theorem State.writeRec_keepsSysPage (s : State) (r : BootRec) : KeepsSysPage s (s.writeRec r) :=
  keepsSysPage_of_eq rfl rfl

theorem State.modUpd_keepsSysPage (s : State) (f : Upd → Upd) : KeepsSysPage s (s.modUpd f) :=
  keepsSysPage_of_eq rfl rfl

theorem State.blow_keepsSysPage (s : State) (kind svn : Nat) : KeepsSysPage s (s.blow kind svn) :=
  s.modUpd_keepsSysPage _

theorem State.enterLoader_keepsSysPage (s : State) (b : Nat) : KeepsSysPage s (s.enterLoader b) := by
  unfold State.enterLoader
  extract_lets r t window u
  have hu : KeepsSysPage s u := keepsSysPage_of_eq rfl rfl
  split
  · exact hu.trans (u.log_keepsSysPage _ _)
  · exact hu

theorem State.romBoot_keepsSysPage (s : State) : KeepsSysPage s s.romBoot := by
  unfold State.romBoot
  extract_lets t r u r' b v
  have ht : KeepsSysPage s t := s.modUpd_keepsSysPage _
  have hu : KeepsSysPage s u := by
    refine ht.trans ?_
    unfold u
    split
    · exact (t.blow_keepsSysPage _ _).trans (State.blow_keepsSysPage _ _ _)
    · split
      · exact (t.logFallback_keepsSysPage _ r).trans (State.writeRec_keepsSysPage _ _)
      · exact t.writeRec_keepsSysPage _
  split_ifs
  · exact hu.trans (u.enterLoader_keepsSysPage b)
  · exact ((hu.trans (u.writeRec_keepsSysPage _)).trans (v.log_keepsSysPage _ _)).trans (State.enterLoader_keepsSysPage _ _)
  · exact hu.trans (u.modUpd_keepsSysPage _)

theorem State.resetPageRegs_keepsSysPage (s : State) (p : Nat) (hp : SYS.page < p) :
    KeepsSysPage s (s.resetPageRegs p) where
  reg b hb := by
    have hout : ¬(pageBase p ≤ b) := by
      simp only [pageOf, SYS.page, pageBase] at *
      omega
    rw [State.resetPageRegs, State.reg_dropRegs, if_neg]
    simp only [Bool.or_eq_true, Bool.and_eq_true, decide_eq_true_eq]
    omega
  pwr := rfl

theorem State.thsReset_keepsSysPage (s : State) : KeepsSysPage s s.thsReset :=
  (s.resetPageRegs_keepsSysPage THS.page (by decide)).trans (keepsSysPage_of_eq rfl rfl)

theorem State.setPort_keepsSysPage (s : State) (r : Nat) (p : ReqPort) : KeepsSysPage s (s.setPort r p) :=
  keepsSysPage_of_eq rfl rfl

theorem State.emptyPorts_keepsSysPage (s : State) (l : List Nat) :
    KeepsSysPage s (l.foldl (fun t c => t.setPort c {}) s) :=
  keepsSysPage_foldl l (fun t c => t.setPort_keepsSysPage c {}) s

/-- The core reset sets its cause, leaves the rest of the SYS page and the power state, and ends with a restart of the
watchdog (R78, R80). -/
theorem State.coreReset_eq_wdogRestart (s : State) (c : Nat) :
    ∃ u, KeepsSysPage (s.resetCause c) u ∧ s.coreReset c = u.wdogRestart := by
  unfold State.coreReset
  extract_lets t u ths v w
  have hu : KeepsSysPage t u := t.emptyPorts_keepsSysPage _
  clear_value u
  have hw : KeepsSysPage u w := keepsSysPage_of_eq rfl rfl
  have hs : KeepsSysPage s w := (s.thsReset_keepsSysPage.trans hu).trans hw
  exact ⟨(w.resetCause c).romBoot, (hs.resetCause c).trans (State.romBoot_keepsSysPage _), rfl⟩

/-! ### The system reset -/

theorem State.modKvt_keepsSysPage (s : State) (f : Kvt → Kvt) : KeepsSysPage s (s.modKvt f) :=
  keepsSysPage_of_eq rfl rfl

theorem State.setKey_keepsSysPage (s : State) (i : Nat) (k : KeySlot) : KeepsSysPage s (s.setKey i k) :=
  keepsSysPage_of_eq rfl rfl

theorem State.clearVolatile_keepsSysPage (s : State) : KeepsSysPage s s.clearVolatile := by
  unfold State.clearVolatile
  refine (keepsSysPage_foldl _ (fun t i => ?_) s).trans (State.modKvt_keepsSysPage _ _)
  split
  · exact keepsSysPage_of_eq rfl rfl
  · exact t.setKey_keepsSysPage i _

theorem State.draw_keepsSysPage (s : State) : KeepsSysPage s s.draw := keepsSysPage_of_eq rfl rfl

/-- The load of the persistent slots, when no self-test fails, touches no register but KVT's and the log's. -/
theorem State.kvtPowerUp_none_keepsSysPage (s : State) : KeepsSysPage s (s.kvtPowerUp none) := by
  unfold State.kvtPowerUp
  dsimp only
  refine (s.modKvt_keepsSysPage _).trans ((State.draw_keepsSysPage _).trans (keepsSysPage_foldl _ (fun t i => ?_) _))
  split
  · split
    · exact t.setKey_keepsSysPage i _
    · exact keepsSysPage_of_eq rfl rfl
  · split
    · exact (t.setReg_keepsSysPage _ _ (by decide)).trans (State.log_keepsSysPage _ _ _)
    · exact keepsSysPage_of_eq rfl rfl

theorem State.vaultReload_keepsSysPage (s : State) : KeepsSysPage s s.vaultReload := by
  unfold State.vaultReload
  extract_lets t
  have ht : KeepsSysPage s t := s.clearVolatile_keepsSysPage.trans (State.modKvt_keepsSysPage _ _)
  split
  · exact ht
  · exact ht.trans t.kvtPowerUp_none_keepsSysPage

theorem State.setBucket_keepsSysPage (s : State) (c : Nat) (b : Bucket) : KeepsSysPage s (s.setBucket c b) :=
  keepsSysPage_of_eq rfl rfl

theorem State.resetCodes_keepsSysPage (s : State) : KeepsSysPage s s.resetCodes := by
  unfold State.resetCodes
  exact keepsSysPage_foldl _ (fun t c => t.setBucket_keepsSysPage c _) s

theorem State.unsealMeter_keepsSysPage (s : State) : KeepsSysPage s s.unsealMeter :=
  ((s.setReg_keepsSysPage _ _ (by decide)).trans (State.setReg_keepsSysPage _ _ _ (by decide))).trans
    (keepsSysPage_of_eq rfl rfl)

/-- Of the SYS page only RST_CAUSE holds its value through a system reset (R78). -/
theorem heldBySystem_sysPage {a : Nat} (ha : pageOf a = SYS.page) (hc : a ≠ SYS.RST_CAUSE) : heldBySystem a = false := by
  simp [heldBySystem, heldByPd0, heldByPd1, essentialPage, ha, hc, SYS.page]

/-- A system reset leaves every register of the SYS page but RST_CAUSE at its reset value. -/
theorem State.reg_systemReset (s : State) (c : Nat) {a : Nat} (ha : pageOf a = SYS.page) (hc : a ≠ SYS.RST_CAUSE) :
    (s.systemReset c).reg a = regReset a := by
  unfold State.systemReset
  extract_lets t u v w x
  have hu : u.reg a = regReset a := by
    rw [State.reg_keepRegs, heldBySystem_sysPage ha hc, if_neg (by decide)]
  clear_value u
  have hv : KeepsSysPage u v := keepsSysPage_of_eq rfl rfl
  have hw : KeepsSysPage u w := (hv.trans v.unsealMeter_keepsSysPage).trans (State.resetCodes_keepsSysPage _)
  have hx : x.reg a = regReset a := ((w.vaultReload_keepsSysPage.reg a ha).trans (hw.reg a ha)).trans hu
  rw [State.resetCause, State.reg_setRbit, if_neg hc, hx]

theorem State.pd3Released_systemReset (s : State) (c : Nat) : (s.systemReset c).pwr.pd3Released = false := rfl

theorem State.rbit_resetCause (s : State) (c : Nat) (hc : c < 32) : (s.resetCause c).rbit SYS.RST_CAUSE c = true := by
  rw [State.rbit_def, State.resetCause, State.reg_setRbit, if_pos rfl, bit_putBit_same _ _ _ hc]

theorem State.rbit_systemReset (s : State) (c : Nat) (hc : c < 32) : (s.systemReset c).rbit SYS.RST_CAUSE c = true :=
  State.rbit_resetCause _ c hc

/-! ### The watchdog's registers (R80) -/

theorem State.fitted_WDOG_CFG (s : State) (v : Word) :
    (s.fitted SYS.WDOG_CFG v).1 =
      putBits (putBits (putBits (s.reg SYS.WDOG_CFG) 15 0 (clampN 10 60000 (bits v 15 0))) 16 16 (bits v 16 16)) 17 17
        (bits v 17 17) := rfl

theorem State.reg_store (s : State) (a : Nat) (v : Word) (b : Nat) :
    (s.store a v).1.reg b = if b = a then (s.fitted a v).1 else s.reg b := State.reg_setReg _ _ _ _

theorem State.fld_store_WDOG_CFG_TIMEOUT (s : State) (v : Word) :
    (s.store SYS.WDOG_CFG v).1.fld SYS.WDOG_CFG 15 0 = clampN 10 60000 (bits v 15 0) := by
  have hle : clampN 10 60000 (bits v 15 0) < 2 ^ (15 + 1 - 0) := by
    unfold clampN
    split_ifs <;> omega
  rw [State.fld_def, State.reg_store, if_pos rfl, State.fitted_WDOG_CFG,
    bits_putBits_below _ _ _ _ _ _ (by omega) (by omega) (by omega),
    bits_putBits_below _ _ _ _ _ _ (by omega) (by omega) (by omega),
    bits_putBits _ _ _ _ (by omega) (by omega), Nat.mod_eq_of_lt hle]

/-- A bit put from the same bit of another word reads as there. -/
theorem bit_putBits_bits (w v : Word) (i : Nat) (hi : i < 32) : bit (putBits w i i (bits v i i)) i = bit v i := by
  have hlt := bits_lt v i i
  rw [bit_eq_bits, bits_putBits _ _ _ _ (by omega) hi, Nat.mod_eq_of_lt hlt, ← bit_eq_bits]

theorem State.rbit_store_WDOG_CFG_EN (s : State) (v : Word) :
    (s.store SYS.WDOG_CFG v).1.rbit SYS.WDOG_CFG 16 = bit v 16 := by
  rw [State.rbit_def, State.reg_store, if_pos rfl, State.fitted_WDOG_CFG,
    bit_putBits_below _ _ _ _ _ (by omega) (by omega) (by omega), bit_putBits_bits _ _ _ (by omega)]

theorem State.rbit_store_WDOG_CFG_ACTION (s : State) (v : Word) :
    (s.store SYS.WDOG_CFG v).1.rbit SYS.WDOG_CFG 17 = bit v 17 := by
  rw [State.rbit_def, State.reg_store, if_pos rfl, State.fitted_WDOG_CFG, bit_putBits_bits _ _ _ (by omega)]

/-! ### The restart of the count -/

@[simp] theorem State.reg_wdogRestart (s : State) (b : Nat) : s.wdogRestart.reg b = s.reg b := by
  unfold State.wdogRestart
  split <;> rfl

@[simp] theorem State.pwr_wdogRestart (s : State) : s.wdogRestart.pwr = s.pwr := by
  unfold State.wdogRestart
  split <;> rfl

theorem State.wdogTaken_wdogRestart (s : State) (h : s.rbit SYS.WDOG_CFG 16 = true) :
    s.wdogRestart.sys.wdogTaken = s.fld SYS.WDOG_CFG 15 0 := by rw [State.wdogRestart, if_pos h]

theorem State.wdogWarned_wdogRestart (s : State) (h : s.rbit SYS.WDOG_CFG 16 = true) :
    s.wdogRestart.sys.wdogWarned = false := by rw [State.wdogRestart, if_pos h]

theorem State.reg_coreReset (s : State) (c : Nat) {a : Nat} (ha : pageOf a = SYS.page) :
    (s.coreReset c).reg a = (s.resetCause c).reg a := by
  obtain ⟨u, hu, e⟩ := s.coreReset_eq_wdogRestart c
  rw [e, State.reg_wdogRestart, hu.reg a ha]

theorem State.pwr_coreReset (s : State) (c : Nat) : (s.coreReset c).pwr = s.pwr := by
  obtain ⟨u, hu, e⟩ := s.coreReset_eq_wdogRestart c
  rw [e, State.pwr_wdogRestart, hu.pwr]
  rfl

theorem State.reg_resetCause_WDOG_CFG (s : State) (c : Nat) : (s.resetCause c).reg SYS.WDOG_CFG = s.reg SYS.WDOG_CFG := by
  rw [State.resetCause, State.reg_setRbit, if_neg (by decide)]

/-- A core reset restarts an enabled watchdog. -/
theorem State.coreReset_restarts (s : State) (c : Nat) (h : s.rbit SYS.WDOG_CFG 16 = true) :
    (s.coreReset c).sys.wdogTaken = s.fld SYS.WDOG_CFG 15 0 ∧ (s.coreReset c).sys.wdogWarned = false := by
  obtain ⟨u, hu, e⟩ := s.coreReset_eq_wdogRestart c
  have hcfg : u.reg SYS.WDOG_CFG = s.reg SYS.WDOG_CFG :=
    (hu.reg _ (by decide)).trans (s.reg_resetCause_WDOG_CFG c)
  have hen : u.rbit SYS.WDOG_CFG 16 = true := by rwa [State.rbit_def, hcfg]
  rw [e, u.wdogTaken_wdogRestart hen, u.wdogWarned_wdogRestart hen, State.fld_def, hcfg]
  exact ⟨rfl, rfl⟩

/-! ### Writes of the SYS page that reach it in every state -/

/-- The twin role and LOCK let every write of a write-only register outside the journalled pages through. -/
theorem State.accepts_of_writeOnly (s : State) {a i : Nat} {r : RegDesc} (hj : journalled a = false)
    (hr : lookupReg a = some (r, i)) (hacc : r.acc = .wo) (ho : a % 0x1000 ∉ [0x008, 0x010, 0x01C]) :
    s.accepts a = true := by
  simp only [List.mem_cons, List.not_mem_nil, or_false, not_or] at ho
  refine (s.accepts_iff a).2 ⟨?_, ?_⟩
  · simp [State.roleRefuses, hj]
  · simp [State.lockedOut, hr, hacc, ho]

theorem State.accepts_WDOG_KICK (s : State) : s.accepts SYS.WDOG_KICK = true :=
  s.accepts_of_writeOnly (i := 0) rfl rfl rfl (by decide)

theorem State.accepts_RST_CTRL (s : State) : s.accepts SYS.RST_CTRL = true :=
  s.accepts_of_writeOnly (i := 0) rfl rfl rfl (by decide)

/-! ### The writes of WDOG_CFG, WDOG_KICK and RST_CTRL (R78, R80) -/

theorem State.sys_store (s : State) (a : Nat) (v : Word) : (s.store a v).1.sys = s.sys := rfl

/-- A write of WDOG_CFG while EN is set stores EN as 1 and restarts nothing (log entry 17). -/
theorem wdogCfgEff_of_on (v : Word) (s : State) (h : s.rbit SYS.WDOG_CFG 16 = true) :
    wdogCfgEff v s = s.store SYS.WDOG_CFG (putBit v 16 true) := by
  simp [wdogCfgEff, h]

/-- A write of WDOG_CFG while EN is clear stores the word, and restarts the count if it sets EN. -/
theorem wdogCfgEff_of_off (v : Word) (s : State) (h : s.rbit SYS.WDOG_CFG 16 = false) :
    (wdogCfgEff v s).1 =
      if bit v 16 then (s.store SYS.WDOG_CFG v).1.wdogRestart else (s.store SYS.WDOG_CFG v).1 := by
  simp [wdogCfgEff, h]

/-- What a write of WDOG_CFG leaves in its register: EN is set-only. -/
theorem reg_wdogCfgEff (v : Word) (s : State) :
    (wdogCfgEff v s).1.reg SYS.WDOG_CFG =
      (s.store SYS.WDOG_CFG (if s.rbit SYS.WDOG_CFG 16 then putBit v 16 true else v)).1.reg SYS.WDOG_CFG := by
  cases h : s.rbit SYS.WDOG_CFG 16
  · rw [wdogCfgEff_of_off v s h]
    cases bit v 16
    · rfl
    · exact State.reg_wdogRestart _ _
  · rw [wdogCfgEff_of_on v s h]
    rfl

theorem fld_wdogCfgEff_TIMEOUT (v : Word) (s : State) :
    (wdogCfgEff v s).1.fld SYS.WDOG_CFG 15 0 = clampN 10 60000 (bits v 15 0) := by
  rw [State.fld_def, reg_wdogCfgEff, ← State.fld_def, State.fld_store_WDOG_CFG_TIMEOUT]
  split
  · rw [putBit, bits_putBits_below _ _ _ _ _ _ (by omega) (by omega) (by omega)]
  · rfl

theorem rbit_wdogCfgEff_EN (v : Word) (s : State) :
    (wdogCfgEff v s).1.rbit SYS.WDOG_CFG 16 = (s.rbit SYS.WDOG_CFG 16 || bit v 16) := by
  rw [State.rbit_def, reg_wdogCfgEff, ← State.rbit_def, State.rbit_store_WDOG_CFG_EN]
  cases s.rbit SYS.WDOG_CFG 16
  · rfl
  · exact bit_putBit_same _ _ _ (by decide)

theorem rbit_wdogCfgEff_ACTION (v : Word) (s : State) :
    (wdogCfgEff v s).1.rbit SYS.WDOG_CFG 17 = bit v 17 := by
  rw [State.rbit_def, reg_wdogCfgEff, ← State.rbit_def, State.rbit_store_WDOG_CFG_ACTION]
  split
  · exact bit_putBit_other _ _ _ _ (by decide) (by decide)
  · rfl

/-- The write that sets EN restarts the count with the timeout it stores. -/
theorem wdogCfgEff_restarts (v : Word) (s : State) (hoff : s.rbit SYS.WDOG_CFG 16 = false) (hset : bit v 16 = true) :
    (wdogCfgEff v s).1.sys.wdogTaken = (wdogCfgEff v s).1.fld SYS.WDOG_CFG 15 0 ∧
      (wdogCfgEff v s).1.sys.wdogWarned = false := by
  have hen : (s.store SYS.WDOG_CFG v).1.rbit SYS.WDOG_CFG 16 = true := by rw [State.rbit_store_WDOG_CFG_EN, hset]
  rw [wdogCfgEff_of_off v s hoff, if_pos hset, State.wdogTaken_wdogRestart _ hen, State.wdogWarned_wdogRestart _ hen,
    State.fld_def, State.fld_def, State.reg_wdogRestart]
  exact ⟨rfl, rfl⟩

theorem wdogKickEff_key (s : State) : wdogKickEff 0xC0DE s = (s.wdogRestart, .done) := rfl

theorem wdogKickEff_other (v : Word) (s : State) (h : v ≠ 0xC0DE) : wdogKickEff v s = (s, .refused) := if_neg h

/-- The key with bit 1 alone performs the core reset of firmware. -/
theorem rstCtrlEff_coreReset (req : Nat) (s : State) : rstCtrlEff req 0xA5C30002 s = (s.coreReset 5, .done) := rfl

/-- A refused write counts one more on its page. -/
theorem State.reg_finishWrite_refused (s : State) (req a : Nat) (v w : Word)
    (h : regCLAMP_CNT (countPage a) ∉ [SYS.CLAMP_LAST, SYS.CLAMP_SRC, regINT_FLAG SYS.page] ++ traceRegs) :
    (s.finishWrite req a v w .refused).reg (regCLAMP_CNT (countPage a)) = incLow (s.reg (regCLAMP_CNT (countPage a))) := by
  simp only [List.cons_append, List.nil_append, List.mem_cons, not_or] at h
  obtain ⟨hlast, hsrc, hflag, htrace⟩ := h
  simp only [State.finishWrite]
  rw [State.reg_traceWrite _ _ _ _ _ _ (by simpa [traceRegs] using htrace)]
  simp [State.countClamp, hlast, hsrc, hflag]

/-! ### The commands -/

/-- A write that reaches its block leaves SYS's record as its effect did. -/
theorem State.sys_busWrite (s : State) (req a : Nat) (v : Word) (eff : State → State × WriteResult)
    (h : s.accepts a = true) : (s.busWrite req a v eff).sys = (eff s).1.sys := by
  rw [State.busWrite_of_accepts _ _ _ _ _ h]
  simp

theorem exec_wdogEnable_eq (req : Req) (v : Word) (s : State) :
    exec (.wdogEnable req v) s = .next (s.busWrite req SYS.WDOG_CFG v (wdogCfgEff v)) := rfl

theorem exec_wdogKick_eq (req : Req) (v : Word) (s : State) :
    exec (.wdogKick req v) s = .next (s.busWrite req SYS.WDOG_KICK v (wdogKickEff v)) := rfl

theorem exec_coreReset_eq (req : Req) (s : State) :
    exec (.coreReset req 0xA5C3) s = .next (s.busWrite req SYS.RST_CTRL 0xA5C30002 (rstCtrlEff req 0xA5C30002)) := rfl

theorem exec_wdogWarn_eq (s : State) (hen : s.rbit SYS.WDOG_CFG 16 = true) (hw : s.sys.wdogWarned = false) :
    exec .wdogWarn s = .next ({ s with sys := { s.sys with wdogWarned := true } }.raise SYS.page 3) := by
  rw [exec_wdogWarn, execWdogWarn, if_pos ⟨hen, by rw [hw]; rfl⟩]

theorem exec_wdogTimeout_core (s : State) (hen : s.rbit SYS.WDOG_CFG 16 = true) (hact : s.rbit SYS.WDOG_CFG 17 = false) :
    exec .wdogTimeout s = .next (s.coreReset 6) := by
  rw [exec_wdogTimeout, execWdogTimeout, if_pos hen, hact]
  rfl

theorem exec_wdogTimeout_system (s : State) (hen : s.rbit SYS.WDOG_CFG 16 = true) (hact : s.rbit SYS.WDOG_CFG 17 = true) :
    exec .wdogTimeout s = .next (s.systemReset 3) := by
  rw [exec_wdogTimeout, execWdogTimeout, if_pos hen, if_pos hact]

/-- The registers and SYS's record after an accepted write of WDOG_CFG. -/
theorem wdogEnable_watchdog (req : Req) (v : Word) (s : State) (hacc : s.accepts SYS.WDOG_CFG = true) :
    ∃ t, exec (.wdogEnable req v) s = .next t
      ∧ t.reg SYS.WDOG_CFG = (wdogCfgEff v s).1.reg SYS.WDOG_CFG ∧ t.sys = (wdogCfgEff v s).1.sys := by
  obtain ⟨hr, hl⟩ := (s.accepts_iff _).1 hacc
  exact ⟨_, exec_wdogEnable_eq req v s, s.reg_busWrite _ _ _ _ _ (by decide) hr hl, s.sys_busWrite _ _ _ _ hacc⟩

/-- Settles O19: WDOG_CFG is set-only in EN, every restart is `State.wdogRestart` in a state whose WDOG_CFG is that of the
state before, and the system reset alone of the two resets drops the register. -/
theorem watchdog : Obligations.Watchdog := by
  unfold Obligations.Watchdog
  refine ⟨fun req v s hacc => ?enable, fun req s hen => ?kick, fun req v s hv => ?otherKick, fun req s hen => ?coreReset,
    fun s hen hw => ?warn, fun s hen hact => ?timeoutCore, fun s hen hact => ?timeoutSystem⟩
  case enable =>
    obtain ⟨t, he, hreg, hsys⟩ := wdogEnable_watchdog req v s hacc
    have hfld : t.fld SYS.WDOG_CFG 15 0 = (wdogCfgEff v s).1.fld SYS.WDOG_CFG 15 0 := congrArg (bits · 15 0) hreg
    refine ⟨t, he, ?_, ?_, ?_, fun hoff hset => ?_, fun hon => ?_⟩
    · rw [hfld, fld_wdogCfgEff_TIMEOUT]
    · rw [State.rbit_def, hreg, ← State.rbit_def, rbit_wdogCfgEff_EN]
    · rw [State.rbit_def, hreg, ← State.rbit_def, rbit_wdogCfgEff_ACTION]
    · rw [hsys, hfld]
      exact wdogCfgEff_restarts v s hoff hset
    · rw [hsys, wdogCfgEff_of_on v s hon, State.sys_store]
      exact ⟨rfl, rfl⟩
  case kick =>
    refine ⟨_, exec_wdogKick_eq req _ s, ?_⟩
    rw [s.sys_busWrite _ _ _ _ s.accepts_WDOG_KICK, wdogKickEff_key]
    exact ⟨s.wdogTaken_wdogRestart hen, s.wdogWarned_wdogRestart hen⟩
  case otherKick =>
    refine ⟨_, exec_wdogKick_eq req v s, ?_, ?_⟩
    · rw [s.sys_busWrite _ _ _ _ s.accepts_WDOG_KICK, wdogKickEff_other v s hv]
    · rw [s.busWrite_of_accepts _ _ _ _ s.accepts_WDOG_KICK, wdogKickEff_other v s hv]
      exact s.reg_finishWrite_refused req SYS.WDOG_KICK v _ (by decide)
  case coreReset =>
    refine ⟨_, exec_coreReset_eq req s, ?_⟩
    rw [s.sys_busWrite _ _ _ _ s.accepts_RST_CTRL, rstCtrlEff_coreReset]
    exact s.coreReset_restarts 5 hen
  case warn =>
    refine ⟨_, exec_wdogWarn_eq s hen hw, ?_, by simp, by simp⟩
    rw [State.rbit_def, State.reg_raise, if_pos rfl, bit_putBit_same _ _ _ (by decide)]
  case timeoutCore =>
    obtain ⟨htaken, hwarned⟩ := s.coreReset_restarts 6 hen
    refine ⟨_, exec_wdogTimeout_core s hen hact, ?_, ?_, s.pwr_coreReset 6, htaken, hwarned⟩
    · rw [State.rbit_def, s.reg_coreReset 6 (by decide)]
      exact s.rbit_resetCause 6 (by decide)
    · rw [State.rbit_def, s.reg_coreReset 6 (by decide), s.reg_resetCause_WDOG_CFG]
      exact hen
  case timeoutSystem =>
    refine ⟨_, exec_wdogTimeout_system s hen hact, s.rbit_systemReset 3 (by decide), ?_, s.pd3Released_systemReset 3⟩
    rw [State.rbit_def, s.reg_systemReset 3 (by decide) (by decide)]
    decide

end Sys2Proof.Machine
